-- ==== Sys2Proof/Word.lean ====
section
/-!
DEFINITION. The machine's word types: 32-bit registers and packet words, bytes, 64-bit events.
-/
namespace Sys2Proof

/-- A register, table or packet word: every register is 32 bits wide (R10). -/
abbrev Word := BitVec 32

/-- One byte of a packet, of the flash or of an overhead position. -/
abbrev Byte := BitVec 8

/-- One event of the event FIFO (R464). -/
abbrev Event := BitVec 64

end Sys2Proof
end

