-- ==== Sys2Proof/Syntax.lean ====
section
/-!
DEFINITION. The commands the block takes: one constructor of `Instr` per row of spec/opcode_table.json, with the
operands its rule gives the operation or event. The table gives no row any bits.

Four kinds of operand recur. A command packet's opcode carries `Req` (who sent it, under which tag) and its raw
parameter words, so that the length, range and reserved-bit checks of R440 and R611 are the machine's. A register
write with a row of its own carries `Req` and the word written. An event of a line, a pin, the twin link or a sensor carries
what the device sees there: an instruction of the TAP is none while TRST_N is low. An event of a timer carries the
number of what it times.
-/
namespace Sys2Proof

/-- The source classes of R441; an in-band source is named by its stream slot (R133). -/
inductive Src where
  | host
  | twin
  | inband (slot : Nat)
  deriving DecidableEq, Repr

/-- Who sent a command, under which tag, and whether it is ORDERED (R439); `source` is the received SOURCE byte where it
is not the code of the path. -/
structure Req where
  src : Src
  tag : Nat
  ordered : Bool := false
  source : Option Byte := none
  deriving DecidableEq, Repr

/-- The straps sampled at the rise of RST_N (R577). -/
structure Straps where
  twinId : Bool
  bootSrc : Nat
  testEn : Bool
  deriving DecidableEq, Repr

/-- A lane with its input levels in mVppd at the last OWL edges, newest first (R60). -/
structure LaneLevels where
  lane : Nat
  mv : List Nat
  deriving DecidableEq, Repr

/-- A lane with the frequency offset of what it receives, in ppm (R50). -/
structure LaneOffset where
  lane : Nat
  ppm : Int
  deriving DecidableEq, Repr

/-- A lane with symbols that it receives, oldest first: levels 0 to 3 on PAM4, 0 and 1 on NRZ (R72, R74). -/
structure LaneSymbols where
  lane : Nat
  syms : List Nat
  deriving DecidableEq, Repr

/-- The receive or the transmit elastic store of a lane with the entries of 128 bits that it has come to hold, the next
to leave first (R66, R67). -/
inductive StoreFill where
  | rx (l : List (BitVec 128))
  | tx (l : List (BitVec 128))
  deriving DecidableEq, Repr

/-- The lanes of a bond as its aligner finds them (R70, R106, R107): the owner, the skew between them in ns, and the
number that the markers give to the logical or PCS lane at each place, in place order where none is listed. -/
structure LaneAlign where
  lane : Nat
  skewNs : Nat := 0
  order : List Nat := []
  deriving DecidableEq, Repr

/-- What a fox engine finds in SEARCH: the bit or symbol offset, and the 48 bits around the boundary there (R94). -/
structure Sighting where
  engine : Nat
  offset : Nat
  word : Nat
  deriving DecidableEq, Repr

/-- What ends DEEP (R40). -/
inductive WakeCause where
  | hostCs
  | signalDetect (c : Nat)
  | owlTimer
  | leaseIn
  | twfIn
  deriving DecidableEq, Repr

/-- What one received frame or multiframe shows of one tributary of the channel (R145, R157, R158, R163, R165, R168,
R210, R246), named by its endpoint word (R173). `ptr` holds the two pointer bytes. `oh` is its overhead: of a VC-3 by
row of the path overhead, 0 to 8; of a VC-12 or VC-11, 0 to 3 for V5, J2, N2, K4; of a lower-order ODU by the index of
R112; of a VC-4 none, since the line's frame holds it. `bip` and `bipTcm` count the violations of its parity, the
latter by tandem connection level. `jc` holds JC1 to JC3 of its slots; `ctl` the three control bits of S1 and the
three of S2, and `bits` the bits of the E1 or DS1 in their order, S1 and S2 last; `ptype` is the payload type of a
lower-order ODU's own multiframe (R290). -/
structure TribRx where
  ep : Word
  ptr : Option Nat := none
  oh : List (Nat × Byte) := []
  bip : Nat := 0
  bipTcm : List (Nat × Nat) := []
  jc : List Byte := []
  ctl : List Bool := []
  bits : List Bool := []
  ptype : Option Nat := none
  deriving DecidableEq, Repr

/-- One received frame of a framed line (R85, R104, R109): the 48 bits around its alignment boundary; the whole aligned
frame as the line delivers it, scrambled, on an OTL line as its twenty logical lanes one after the other; its overhead
bytes after descrambling and correction, those of `raw` apart, by position index (R112), and on SDH lines at 704 to 895
the B2 bytes of R127; without `raw` the violations of its section, path and tandem connection parity, the symbols that
GFEC corrected and the codewords it could not; on SDH always the violations of B3; the payload type and the MSI of a
multiframe that ends with it, of the container that the channel demaps or demultiplexes, so that a frame of a client
channel carries them too (R143, R157); what it shows of the tributaries. On an Ethernet client, `oh` holds the eight
bytes of one received ordered set (R127), and `codes` the words received since the last such row, each the list of its
bits: code-groups, 66-bit blocks, or symbols of RS-FEC in whole codewords (R147, R149). Where `lanes` is given, the
symbols that each lane of the bond received, `raw` and `codes` follow from it (R49, R51, R64). -/
structure RxFrame where
  fas : Nat := 0xF6F6F6282828
  raw : List Byte := []
  oh : List (Nat × Byte) := []
  bip : Nat := 0
  bipPath : Nat := 0
  bipTcm : List (Nat × Nat) := []
  corr : Nat := 0
  uncorr : Nat := 0
  ptype : Option Nat := none
  msi : Option (List Byte) := none
  tribs : List TribRx := []
  codes : List (List Bool) := []
  lanes : List (List Nat) := []
  deriving DecidableEq, Repr

/-- The pointer of a destination whose frame or multiframe begins (R164): the endpoint word, the fill of its buffer in
eighths, the pointer value that places the buffer at half fill, and the container bytes that the H3 or V3 bytes of a
decrement carry. -/
structure PtrTx where
  dest : Nat
  fill : Nat
  start : Nat := 0
  neg : List Byte := []
  deriving DecidableEq, Repr

/-- A container whose frame or multiframe begins in a transmitted frame (R116, R130, R215): the endpoint word of its
destination, its own MFAS, and its payload bytes. -/
structure ContTx where
  dest : Nat
  mfas : Nat := 0
  data : List Byte := []
  deriving DecidableEq, Repr

/-- The mapper of a container at a multiframe of its server (R145, R158): the endpoint word of its destination, the
fill of its store in eighths, and the Cm and CnD that GMP announces. `client` tells the mapper of the client into a
lower-order ODU from that of the ODU into its server. -/
structure MapTx where
  dest : Nat
  client : Bool := false
  fill : Nat := 4
  cm : Nat := 0
  cnd : Nat := 0
  deriving DecidableEq, Repr

/-- What one transmitted frame takes from elsewhere (R110, R115, R129, R164, R199): its MFAS, the bytes of its payload
area, the pointers, containers and mappers that it begins, and the connections and the structure entries of its channel
whose words failed their parity at this use; on a client that is carried bit by bit, the words demapped for it:
superblocks or 66-bit blocks, each the list of its bits (R147, R149). -/
structure TxFrame where
  mfas : Nat := 0
  area : List Byte := []
  ptrs : List PtrTx := []
  conts : List ContTx := []
  maps : List MapTx := []
  parityFail : List Nat := []
  structFail : List Nat := []
  words : List (List Bool) := []
  deriving DecidableEq, Repr

/-- Two bytes of a frame from an offset. -/
def pairAt (l : List Byte) (o : Nat) : Nat :=
  match l.drop o with
  | a :: b :: _ => a.toNat * 256 + b.toNat
  | _ => 0

/-- A frame's first tag: the outermost, where its TPID is 0x8100 or 0x88A8 (R349). -/
def tagged (l : List Byte) : Bool := pairAt l 12 == 0x8100 || pairAt l 12 == 0x88A8

/-- Where the R-TAG of a frame stands, and where generation puts it (R287). -/
def rtagAt (l : List Byte) : Nat := if tagged l then 16 else 12

/-- An Ethernet frame as the packet units see it (R151, R152, R221, R299): its bytes from destination address to the
end of the payload, and its FCS. `badBlocks`, `corr` and `uncorr` are what the PCS and the FEC decoder counted since
the last frame. Of a GFP frame, `core` is the core header as received, `typ` its type header with its tHEC, and
`payload` the rest of its payload area with the frame's FCS and the payload FCS; `typ` and `payload` are as received,
scrambled. -/
structure EthFrame where
  payload : List Byte := []
  fcs : Word := 0
  core : Nat := 0xB6E3A92C
  typ : List Byte := [0x00, 0x01, 0x10, 0x21]
  badBlocks : Nat := 0
  corr : Nat := 0
  uncorr : Nat := 0
  deriving DecidableEq, Repr

/-- The length of a frame from destination address to FCS. -/
def EthFrame.len (f : EthFrame) : Nat := f.payload.length + 4

/-- The first tag of a frame's bytes: VID, PCP and DEI (R349). -/
def firstTag (l : List Byte) : Option (Nat × Nat × Bool) :=
  if tagged l then let v := pairAt l 14; some (v % 4096, v / 8192, v / 4096 % 2 == 1) else none

/-- One frame of a hitless member (R276, R277): the PSEQ received, whether its parity shows no violation (known after
the check delay), and its bytes. -/
structure MemberFrame where
  pseq : Nat
  parityOk : Bool
  data : List Byte := []
  deriving DecidableEq, Repr

/-- One slot of a voting carrier (R288): 64 data bytes, BSEQ and CHECK. -/
structure VoteBlock where
  data : List Byte
  bseq : Nat
  check : Word
  deriving DecidableEq, Repr

/-- The next data block of a voted signal at the transmit side (R289, R290): its bytes, and whether a frame of the
signal begins with it. -/
structure VoteData where
  data : List Byte
  first : Bool := true
  deriving DecidableEq, Repr

/-- A GFP frame as received (R150): its core header, and its payload area, scrambled. -/
structure GfpRx where
  core : Nat
  area : List Byte
  deriving DecidableEq, Repr

/-- A frame at a FRER role (R284, R285, R287): its bytes from the destination address to the end of the payload, its
FCS, and whether a payload FCS protects it. Where `gfp` is given, they follow from that GFP frame. -/
structure FrerFrame where
  bytes : List Byte := []
  fcs : Word := 0
  pfi : Bool := false
  gfp : Option GfpRx := none
  deriving DecidableEq, Repr

/-- Where an uncorrectable error of the delay memory falls (R303): the stream, the member, and the number of the frame
or block. -/
structure MemErr where
  stream : Nat
  member : Nat
  seq : Nat
  deriving DecidableEq, Repr

/-- The length of a frame with its FCS. -/
def FrerFrame.len (f : FrerFrame) : Nat := f.bytes.length + 4

/-- The VID of the first VLAN tag; 0 of an untagged frame (R284). -/
def FrerFrame.vid (f : FrerFrame) : Nat := if tagged f.bytes then pairAt f.bytes 14 % 4096 else 0

/-- The sequence number of the R-TAG, where there is one (R287). -/
def FrerFrame.rtag (f : FrerFrame) : Option Nat :=
  let o := rtagAt f.bytes
  if pairAt f.bytes o = 0xF1C1 then some (pairAt f.bytes (o + 4)) else none

/-- An operand of a received link frame, with the CRC-32C of the frame where it is not the one its END block should hold
(R317). -/
structure Checked (α : Type) where
  val : α
  crc : Option Word := none
  deriving DecidableEq, Repr

/-- HELLO (R318), with the twin's PREFER, which the election of R332 needs; `crc` is the CRC-32C of the received frame
where it is not the one its END block should hold (R317). -/
structure Hello where
  twinId : Bool
  version : Nat
  imageVer : Word
  epoch : Nat
  role : Nat
  leaseLen : Nat
  prefer : Bool := false
  crc : Option Word := none
  deriving DecidableEq, Repr

/-- One MIRROR or BULK payload (R318, R330), with the received CRC-32C as in `Hello`. -/
structure MirrorData where
  cls : Nat
  obj : Nat
  off : Nat
  words : List Word
  crc : Option Word := none
  deriving DecidableEq, Repr

/-- One SEQ_SYNC entry (R318, R331): the stream, the holder's counter value, and the device time in ns of the start of
the frame or block that carries it. -/
structure SeqSync where
  stream : Nat
  value : Nat
  at_ : Nat
  deriving DecidableEq, Repr

/-- What a read of a register by the scrub finds (R484, R485): the stored word is good, its parity fails, one of
three copies differs, or all three differ. -/
inductive ScrubFinding where
  | good
  | parity
  | oneCopy
  | allDiffer
  deriving DecidableEq, Repr

/-- A fault report (R512 to R514). -/
inductive FaultKind where
  | edge
  | levelOnset
  | levelEnd
  | wireOnset
  | wireEnd
  deriving DecidableEq, Repr

/-- The bus access of a fault record (R517): master, access (0 none, 1 read, 2 write) and address. -/
structure FaultAccess where
  master : Nat := 7
  access : Nat := 0
  addr : Nat := 0
  deriving DecidableEq, Repr

/-- The four conditions of a protection group (R246). -/
inductive PgCond where
  | sfW | sfP | sdW | sdP
  deriving DecidableEq, Repr

/-- The fields that reset when the command engine reads them (R471). -/
inductive RorField where
  | wmPeak (c : Nat)
  | depthMax (queue : Nat)
  | holMax (queue : Nat)
  | maxLat
  | pktSharedMin
  deriving DecidableEq, Repr

/-- GFP delineation states (R150). -/
inductive GfpState where
  | hunt | presync | sync
  deriving DecidableEq, Repr

/-- IEEE 802.3 link fault states (R205). -/
inductive LinkFault where
  | ok | localFault | remoteFault
  deriving DecidableEq, Repr

/-- The commands of spec/opcode_table.json, in its order. -/
inductive Instr where
  | masterOscillatorStop
  | masterOscillatorReturn
  | rstNAssert
  | rstNRelease (st : Straps)
  | terminationCalibration (resistorOk : Bool) (failed : List Nat)
  | bootDone (ms : Nat)
  | rebootReset
  | boundaryScanInstruction (code : Option Nat)
  | signalDetectAssert (l : LaneLevels)
  | signalDetectDeassert (l : LaneLevels)
  | sleepHoldExpiry (c : Nat)
  | groupClockStop (g : Nat)
  | groupClockRunning (g : Nat)
  | lanePllLock (l : LaneOffset)
  | initialAdaptationDone (c : Nat)
  | badgerReady
  | badgerSleep
  | deepEntry
  | deepWake (w : WakeCause)
  | deepExitComplete
  | receivedFrame (c : Nat) (f : RxFrame)
  | transmittedFrame (c : Nat) (f : TxFrame)
  | elasticStoreSlip (c : Nat) (f : StoreFill)
  | mapperStoreSlip (c : Nat)
  | elasticSlipClear (c : Nat)
  | laneAlignerLock (a : LaneAlign)
  | laneAlignmentLoss (c : Nat)
  | pcsLockAcquired (a : LaneAlign)
  | pcsLockLost (c : Nat) (block am : Bool)
  | foxGrant (e : Nat)
  | roamingEpoch
  | foxSearchMatch (x : Sighting)
  | foxSearchNoMatch (e : Nat)
  | foxCandidateCheck (e w : Nat)
  | foxConfirmCheck (e w : Nat)
  | foxHandbackEnd (e : Nat)
  | foxReleaseEnd (e : Nat)
  | backoffHoldExpiry (c : Nat)
  | foxParityFail (e : Nat)
  | dlofTimerExpiry (c : Nat)
  | dlomTimerExpiry (c : Nat)
  | dcsfTimerExpiry (c : Nat)
  | degWindowEnd (c : Nat) (exc : Bool)
  | pmSecondClose
  | pmFold
  | defectHoldoffExpiry (c d : Nat)
  | tributaryHoldoffExpiry (c : Nat)
  | watermarkCrossing (c fill : Nat)
  | csfTimer (c : Nat)
  | bmpClockReturn (c : Nat)
  | dccFrameReceived (slot : Nat) (data : List Byte) (fcsOk : Bool)
  | inbandCommandFrame (slot : Nat) (data : List Byte) (fcsOk : Bool)
  | frameCaptureDone (c : Nat)
  | byteTraceDone (c : Nat)
  | captArm (q : Req) (c : Nat)
  | traceArm (q : Req) (c : Nat)
  | protectionEvaluation (p : Nat)
  | protHoldoffExpiry (p : Nat) (k : PgCond)
  | wtrExpiry (p : Nat)
  | selectionBoundary (p : Nat)
  | noResponseTimer (p : Nat)
  | exerTimeout (p : Nat)
  | protEventHoldoffExpiry (p : Nat)
  | delayMemoryReady (ok : Bool)
  | delayMemorySelfRefresh
  | hitlessMemberFrame (st m : Nat) (f : MemberFrame)
  | scheduleSet (st : Nat)
  | scheduleDiscard (st : Nat)
  | realign (q : Req) (st : Nat)
  | hitlessPlayout (st : Nat)
  | dupLossTimerExpiry (c st m : Nat)
  | voteMemberBlock (st m : Nat) (b : VoteBlock)
  | voteEmit (st : Nat)
  | voteDisClearTimer (c : Nat)
  | voteTxSlot (st : Nat) (data : Option VoteData)
  | frerRxFrame (st m : Nat) (f : FrerFrame)
  | frerTxFrame (st : Nat) (f : FrerFrame)
  | frerResetTimer (e : Nat)
  | twinHelloRx (h : Hello)
  | twinLaneLoss (lane : Nat) (deskew : Bool)
  | retransmitTimeout
  | linkAckRx (seq : Checked Nat)
  | linkAckTimer
  | helloTimer
  | renewRx (epoch : Nat) (k : Checked Nat)
  | ackRx (epoch : Nat) (k : Checked Nat)
  | claimRx (epoch : Nat) (reason : Checked Nat)
  | yieldRx (epoch : Nat) (k : Checked Nat)
  | mirrorRx (seq : Nat) (d : MirrorData)
  | bulkRx (seq n : Nat) (d : MirrorData)
  | bulkResyncDone
  | seqSyncRx (es : Checked (List SeqSync))
  | seqSyncTimer
  | frerSeqRx (st vid seq : Nat) (fcs : Checked Word)
  | frerSeqWaitTimeout (st vid : Nat) (fcs : Word)
  | refInfoRx (ppt : Int) (selected : Nat) (sec : Nat) (ns : Checked Nat)
  | refInfoTimer
  | fwdCmdRx (seq : Nat) (data : Checked (List Byte))
  | fwdReplyRx (seq : Nat) (data : Checked (List Byte))
  | leaseBeat
  | leaseInChange (p n : Bool)
  | leaseInStill
  | twfInChange (p n : Bool)
  | leaseEnd
  | leaseClaimPoint
  | yieldClaimTimeout
  | leaseCmdYield (q : Req)
  | leaseCmdForceSole (q : Req)
  | twinRoleCfgWrite (q : Req) (w : Word)
  | twinCtrlWrite (q : Req) (w : Word)
  | twinEventHoldoffExpiry (code : Nat)
  | ethIngressFrame (c : Nat) (f : EthFrame)
  | gfpEgressFrame (c : Nat) (f : EthFrame)
  | schedulerDecision (c : Nat)
  | egressFrameEnd (c : Nat)
  | tafLate (c qn : Nat)
  | gateEntryChange (c : Nat)
  | gateListActivation (c : Nat)
  | queueSample
  | pktEnSet (q : Req) (c : Nat)
  | pktEnClear (q : Req) (c : Nat)
  | refActivityLoss (n : Nat)
  | refFreqMeasure (offsets : List (Nat × Int))
  | refSwitchEnd
  | refLockReached
  | refWtrExpiry
  | softTimeout
  | refEventHoldoffExpiry (n : Nat)
  | nominalPptWrite (q : Req) (w : Word)
  | stepRearmWrite (q : Req) (w : Word)
  | stepArmExpiry
  | slewDone
  | timeLatch (q : Req)
  | ppsInEdge (n : Nat) (rising : Bool)
  | trigArm (q : Req) (n : Nat)
  | triggerFire (n : Nat)
  | hostWrite (data : List Byte)
  | readReply (bytes : Nat)
  | readStatus
  | nop (q : Req) (ws : List Word)
  | echo (q : Req) (ws : List Word)
  | identify (q : Req) (ws : List Word)
  | regRd (q : Req) (ws : List Word)
  | regWr (q : Req) (ws : List Word)
  | keyPendingExpiry (addr : Nat)
  | regRdBlk (q : Req) (ws : List Word)
  | regWrBlk (q : Req) (ws : List Word)
  | regWrKey (q : Req) (ws : List Word)
  | resetOnRead (f : RorField)
  | tblRd (q : Req) (ws : List Word)
  | tblWr (q : Req) (ws : List Word)
  | tblSwap (q : Req) (ws : List Word)
  | tblSwapCancel (q : Req) (ws : List Word)
  | tblSwapValidated
  | swapTimeReached
  | swapDestinationSwitch (conn : Nat)
  | swapSwitchingEnd
  | bankCopyDone
  | xcConnect (q : Req) (ws : List Word)
  | xcDisconnect (q : Req) (ws : List Word)
  | snapshot (q : Req) (ws : List Word)
  | cntClear (q : Req) (ws : List Word)
  | chProvision (q : Req) (ws : List Word)
  | chProvisionCompletion (c : Nat)
  | chRelease (q : Req) (ws : List Word)
  | chCtrlWrite (q : Req) (c : Nat) (w : Word)
  | policerSet (q : Req) (ws : List Word)
  | shaperSet (q : Req) (ws : List Word)
  | gateArm (q : Req) (ws : List Word)
  | gateArmCancel (q : Req) (ws : List Word)
  | apsCmdClear (q : Req) (ws : List Word)
  | apsCmdMsP (q : Req) (ws : List Word)
  | apsCmdMsW (q : Req) (ws : List Word)
  | apsCmdExer (q : Req) (ws : List Word)
  | protOvrClear (q : Req) (p : Nat)
  | protOvrLockout (q : Req) (p : Nat)
  | protOvrForcedSwitch (q : Req) (p : Nat)
  | refSelect (q : Req) (ws : List Word)
  | dcoSet (q : Req) (ws : List Word)
  | timeStepAbsolute (q : Req) (ws : List Word)
  | timeStepRelative (q : Req) (ws : List Word)
  | timeAdjRate (q : Req) (ws : List Word)
  | timeOffsetAdj (q : Req) (ws : List Word)
  | evtPop (q : Req) (ws : List Word)
  | tsPop (q : Req) (ws : List Word)
  | eyeScanStart (q : Req) (ws : List Word)
  | eyeScanStop (q : Req) (ws : List Word)
  | eyeScanRead (q : Req) (ws : List Word)
  | eyeScanDone (c : Nat) (errs : List Nat)
  | prbsStart (q : Req) (ws : List Word)
  | prbsStop (q : Req) (ws : List Word)
  | prbsRead (q : Req) (ws : List Word)
  | prbsReadClear (q : Req) (ws : List Word)
  | prbsLock (l : LaneSymbols)
  | prbsLossOfLock (c : Nat) (before window : List Nat)
  | loopbackOff (q : Req) (ws : List Word)
  | loopbackNear (q : Req) (ws : List Word)
  | loopbackFar (q : Req) (ws : List Word)
  | faultInjectWithdraw (q : Req) (ws : List Word)
  | faultInjectAssert (q : Req) (ws : List Word)
  | faultInjectPulse (q : Req) (ws : List Word)
  | faultPulseEnd
  | faultInjAssert (q : Req) (src : Nat)
  | faultInjWithdraw (q : Req)
  | sensorRd (q : Req) (ws : List Word)
  | logRd (q : Req) (ws : List Word)
  | fwWriteBegin (q : Req) (ws : List Word)
  | fwWriteData (q : Req) (ws : List Word)
  | fwWriteEnd (q : Req) (ws : List Word)
  | fwWriteAbort (q : Req) (ws : List Word)
  | fwWriteCompletion (ok : Bool)
  | fwActivateChoose (q : Req) (ws : List Word)
  | fwActivateCommit (q : Req) (ws : List Word)
  | fwActWrite (q : Req) (w : Word)
  | bootHeaderWritten (ok : Bool)
  | reboot (q : Req) (ws : List Word)
  | pmRd (q : Req) (ws : List Word)
  | dccWr (q : Req) (ws : List Word)
  | dccRd (q : Req) (ws : List Word)
  | cfgStoreSaveNominal (q : Req) (ws : List Word)
  | cfgStoreErase (q : Req) (ws : List Word)
  | cfgStoreProgram (q : Req) (ws : List Word)
  | cfgStoreRead (q : Req) (ws : List Word)
  | cfgStoreCompletion (ok : Bool)
  | twinStatus (q : Req) (ws : List Word)
  | twinForward (q : Req) (ws : List Word)
  | leaseYield (q : Req) (ws : List Word)
  | devLockWrite (q : Req) (w : Word)
  | faultAck (q : Req) (w : Word)
  | registerScrub (addr : Nat) (found : ScrubFinding)
  | busPathError (master target : Nat) (write : Bool) (addr : Nat)
  | faultRaise (src : Nat) (kind : FaultKind) (g c : Option Nat) (a : FaultAccess)
  | faultAckTimerExpiry (sev : Nat)
  | faultEventWindowExpiry (src : Nat)
  | watchdogExpiry (interrupted : Option Nat)
  | badgerRestartDone (reload binsOk : Bool)
  | sensorConversion (temps : List Int) (mv : List Nat)
  | mgmtEventHoldoffExpiry (code ch : Nat)
  | logFlush
  | commandEventHoldoffExpiry (code : Nat)
  | protectionTimerMirror
  | ppsOutEdge (n : Nat)
  | logRdCompletion
  | gfpDelineationChange (c : Nat) (core : Nat)
  | delayMemoryScrub (corrected : Nat) (uncorrectable : List MemErr)
  | hiBerChange (c : Nat) (on : Bool)
  | linkFaultStateChange (c : Nat) (st : LinkFault)
  deriving DecidableEq, Repr

end Sys2Proof
end

