-- ==== Sys2Proof/Decode.lean ====
section
/-!
DEFINITION. Words that spell commands: spec/opcode_table.json gives none of its rows any bits, so no word spells one.
The packets that carry commands are read in Machine/HostPort.lean.
-/
namespace Sys2Proof

/-- The command that a word of `nbits` bits spells by the table's bits: none. -/
def decodeTableWord (_nbits _w : Nat) : Option Instr := none

end Sys2Proof
end

