-- ==== Sys2Proof/Config.lean ====
section
/-!
DEFINITION. What one device or one moment fixes and the spec leaves open: constants with no body, so that no proof
can lean on a value (notes/assumptions).
-/
namespace Sys2Proof

/-- The n-th draw from the random source (R442). -/
opaque Config.random : Nat → BitVec 64

/-- A value that the spec leaves open, the n-th of a run; `State.freeCtr` counts them. -/
opaque Config.free : Nat → Word

/-- The content of OTP key slot n (R442); no command reads it. -/
opaque Config.otpKey : Nat → List Byte

/-- The SHA-256 of the public key in OTP image-key slot n (R552). -/
opaque Config.keyHash : Nat → List Byte

/-- The revocation fuse of OTP image-key slot n (R552). -/
opaque Config.keyRevoked : Nat → Bool

/-- The silicon stepping, DEV_REV bits 7:0 (R503). -/
opaque Config.stepping : BitVec 8

/-- ECDSA P-256: does the signature (r then s) verify over the SHA-256 digest under the public key (x then y)? The
algorithm is named, not stated, by R550. -/
opaque Config.ecdsaValid (pub digest sig : List Byte) : Bool

/-- The DFE tap and CTLE code an adaptation of a lane ends with (R57): a measurement the spec gives no value for. -/
opaque Config.adapted : Nat → Word

/-- What a receiver reads where as many samples of a repeated bit are 1 as 0 (R49) (DESIGN CHOICE,
notes/assumptions/173.md). -/
opaque Config.tie : List Bool → Bool

/-- The bits a PRBS generator starts from, after a first 1 (R72) (DESIGN CHOICE, notes/assumptions/173.md). -/
opaque Config.prbsSeed : Nat → List Bool

end Sys2Proof
end

