-- ==== Sys2Proof/Machine/Bits.lean ====
section
/-!
DEFINITION. Bit fields of words: reading and writing NAME[hi:lo] (00_scope.md, Notation), signed values, bytes of a word.
-/
namespace Sys2Proof.Machine

/-- A number reduced to the `n` bits a field has. -/
def low (n v : Nat) : Nat := v % 2 ^ n

/-- The field `[hi:lo]` of a word, as a number. -/
def fld (w : Word) (hi lo : Nat) : Nat := (w.toNat >>> lo) % 2 ^ (hi + 1 - lo)

/-- The mask of the bits `[hi:lo]`. -/
def fmask (hi lo : Nat) : Word := BitVec.ofNat 32 ((2 ^ (hi + 1 - lo) - 1) <<< lo)

/-- The word with the field `[hi:lo]` replaced by `v`; every other bit keeps its value. -/
def setFld (w : Word) (hi lo v : Nat) : Word :=
  (w &&& ~~~(fmask hi lo)) ||| (BitVec.ofNat 32 (v <<< lo) &&& fmask hi lo)

/-- One bit of a word. -/
def bit (w : Word) (i : Nat) : Bool := w.getLsbD i

/-- The word with bit `i` set or cleared. -/
def setBit (w : Word) (i : Nat) (b : Bool) : Word := setFld w i i (if b then 1 else 0)

/-- 0 or 1. -/
def b2n (b : Bool) : Nat := if b then 1 else 0

/-- An `n`-bit two's complement number. -/
def signed (n v : Nat) : Int :=
  if v % 2 ^ n < 2 ^ (n - 1) then (v % 2 ^ n : Nat) else ((v % 2 ^ n : Nat) : Int) - (2 ^ n : Nat)

/-- The signed value of a whole word. -/
def sword (w : Word) : Int := signed 32 w.toNat

/-- A signed value as a 32-bit word, modulo 2^32. -/
def ofSigned (i : Int) : Word := BitVec.ofInt 32 i

/-- A signed value clamped to the 32-bit range (a saturating signed register). -/
def satSigned (i : Int) : Word :=
  BitVec.ofInt 32 (if i < -2147483648 then -2147483648 else if i > 2147483647 then 2147483647 else i)

/-- Ones in the low `n` bits of a number. -/
def popcount : Nat → Nat → Nat
  | 0, _ => 0
  | n + 1, v => v % 2 + popcount n (v / 2)

/-- A byte from eight bits, most significant first. -/
def byteOf (l : List Bool) : Byte := BitVec.ofNat 8 (l.foldl (fun v b => 2 * v + b2n b) 0)

/-- The n low bits of a value, least significant first. -/
def lowBits (v : Nat) : Nat → List Bool
  | 0 => []
  | n + 1 => (v % 2 == 1) :: lowBits (v / 2) n

/-- The bits of a byte, most significant first. -/
def bitsMsb (b : Byte) : List Bool := (lowBits b.toNat 8).reverse

/-- The four bytes of a word, most significant first (R438). -/
def wordBytes (w : Word) : List Byte :=
  [BitVec.ofNat 8 (fld w 31 24), BitVec.ofNat 8 (fld w 23 16), BitVec.ofNat 8 (fld w 15 8),
    BitVec.ofNat 8 (fld w 7 0)]

/-- A word from four bytes, most significant first. -/
def word4 (a b c d : Byte) : Word :=
  BitVec.ofNat 32 (((a.toNat * 256 + b.toNat) * 256 + c.toNat) * 256 + d.toNat)

/-- Bytes into words, most significant first, the last word padded with zero bytes (R135, R565). -/
def packWords : List Byte → List Word
  | [] => []
  | [a] => [word4 a 0 0 0]
  | [a, b] => [word4 a b 0 0]
  | [a, b, c] => [word4 a b c 0]
  | a :: b :: c :: d :: r => word4 a b c d :: packWords r

/-- Words into bytes, most significant first. -/
def unpackWords : List Word → List Byte
  | [] => []
  | w :: r => wordBytes w ++ unpackWords r

/-- Add to a counter that saturates at `top`. -/
def satAdd (top a n : Nat) : Nat := if a + n ≤ top then a + n else top

/-- Ceiling division. -/
def cdiv (a b : Nat) : Nat := if b = 0 then 0 else (a + b - 1) / b

/-- The word at index `i` of a parameter list; 0 past its end. -/
def wd (ws : List Word) (i : Nat) : Word := (ws[i]?).getD 0

/-- Replace the element at index `i` of a list. -/
def setAt {α : Type} (l : List α) (i : Nat) (a : α) : List α := l.set i a

end Sys2Proof.Machine
end

