-- ==== Sys2Proof/Machine/Regs.lean ====
section
/-!
DEFINITION. The register map: canonical addresses (R10, R494), address decoding with its aliases (R478 to R480), and
for every register its reset word, the bits of each access class (R11, R469) and the enable bits that gate it (R12,
R497). The class tables are those of the chapters that define the registers.
-/
namespace Sys2Proof.Machine

/-- The base of channel c's window (R10). -/
def chBase (c : Nat) : Nat := 0x100000 + (c / 16) * 0x20000 + 0x10000 + (c % 16) * 0x1000

/-- Slot n of channel c (R494). -/
def chReg (c n : Nat) : Nat := chBase c + 4 * n

/-- Slot n of the group block of group g (R494). -/
def grpReg (g n : Nat) : Nat := 0x100000 + g * 0x20000 + 4 * n

/-- Offset `off` of global page p (R494). -/
def pgReg (p off : Nat) : Nat := p * 0x1000 + off

/-- Where an address lies. -/
inductive Place where
  | page (p i : Nat)
  | group (g n : Nat)
  | chan (c n : Nat)
  deriving DecidableEq, Repr

/-- R478, R479: the register an address selects, and whether it is one of the read-only aliases of slots 28 to 31. -/
def decodeAddr (a : Nat) : Place × Bool :=
  let grp (g : Nat) : Place × Bool :=
    let n := a / 4 % 32
    if a / 0x10000 % 2 = 0 then (.group g n, false)
    else
      let c := 16 * g + a / 0x1000 % 16
      if n < 28 then (.chan c n, false) else (.chan c (n - 8), true)
  if a / 0x100000 % 4 = 0 then
    let p := a / 0x1000 % 16
    (.page (if p < 9 then p else p - 8) (a / 4 % 64), false)
  else if a / 0x100000 % 4 = 1 then grp (a / 0x20000 % 8)
  else grp (8 + a / 0x20000 % 4)

/-- The canonical address of a place. -/
def Place.addr : Place → Nat
  | .page p i => pgReg p (4 * i)
  | .group g n => grpReg g n
  | .chan c n => chReg c n

/-- One register: its reset word, the bits of each class, the counter fields, and the gates: which configuration bits
are gated by which bit of which register. Bits in none of the masks are reserved. -/
structure RegInfo where
  reset : Word := 0
  cfg : Word := 0
  w1c : Word := 0
  sta : Word := 0
  cmd : Word := 0
  cnt : List (Nat × Nat) := []
  hold : Bool := false
  key : Bool := false
  trp : Bool := false
  gates : List (Word × Nat × Nat) := []
  deriving DecidableEq, Repr

/-- R497, with the field tables of the rules it names. -/
def chInfo (c : Nat) : Nat → RegInfo
  | 0 => { reset := 0x100A0000, cfg := 0xB8FF0000, gates := [(0x08000000, chReg c 0, 31)] }
  | 1 => { reset := 0x00000020, cfg := 0xFFFFFFE0, gates := [(0xFFFFFFE0, chReg c 0, 31)] }
  | 2 => { reset := 0x03882240, cfg := 0xFFFFFFC0, gates := [(0xFFFFFFC0, chReg c 0, 31)] }
  | 3 => { reset := 0x56B00000, cfg := 0xFFF00000, gates := [(0xFFF00000, chReg c 0, 31)] }
  | 4 => { reset := 0x1F000000, sta := 0xFFEFFFFF }
  | 5 => { sta := 0x007FFFFF }
  | 6 => { w1c := 0x007FFFFF }
  | 7 => { cfg := 0x007FFFFF, gates := [(0x007FFFFF, chReg c 17, 31)] }
  | 8 => { reset := 0xEE000000, cfg := 0xFE000000, gates := [(0xFE000000, chReg c 0, 31)] }
  | 9 => { reset := 0x011C0960, cfg := 0xFFFFFFFF, gates := [(0x7FFFFFFF, chReg c 9, 31)] }
  | 10 => { reset := 0x02000000, cfg := 0xFFFFFFE0, gates := [(0x7FFFFFE0, chReg c 10, 31)] }
  | 11 => { cmd := 0xC0000000, w1c := 0x30000000, cfg := 0x0FFFFF00, gates := [(0x07FFFF00, chReg c 11, 27)] }
  | 12 => { reset := 0x3F800000, cfg := 0xFF800000, trp := true, gates := [(0xFF800000, chReg c 0, 31)] }
  | 13 => { reset := 0x06800000, cfg := 0xFFC00000, trp := true, gates := [(0xFFC00000, chReg c 0, 31)] }
  | 14 => { reset := 0x10140000, cfg := 0xFF7FFFFF, gates := [(0x7F7FFFFF, chReg c 14, 31)] }
  | 15 => { cfg := 0xFFFFFFFF, gates := [(0x7FFFFFFF, chReg c 15, 31)] }
  | 16 => { w1c := 0x80000000, cfg := 0x00FF0000, sta := 0x0000FFFF }
  | 17 => { reset := 0xC00A0000, cfg := 0xC0FF0000, cnt := [(15, 0)], gates := [(0x40FF0000, chReg c 17, 31)] }
  | 26 => { cfg := 0xF0000000, cnt := [(15, 0)] }
  | 27 => { w1c := 0xC7FFFFFF, sta := 0x20000000 }
  | _ => { hold := true }

/-- R500, R501. -/
def grpInfo : Nat → RegInfo
  | 0 => { sta := 0x001F1F1F }
  | 1 => { reset := 0x00FF0000, sta := 0xF0FFFFFF }
  | 2 => { reset := 0x00FF0000, sta := 0xF0FFFFFF }
  | 3 => { cnt := [(31, 16), (15, 0)] }
  | 4 => { sta := 0x0007FFFF }
  | 5 => { sta := 0xFFFFFFFF }
  | 6 => { cnt := [(31, 16), (15, 0)] }
  | 7 => { sta := 0x000FFFFF }
  | 30 => { cfg := 0xFFFFFFFF }
  | 31 => { w1c := 0xE0000000, cnt := [(23, 8)], sta := 0x0000003F }
  | _ => {}

/-- PAGE_WRITE_IGN (R475). -/
def pageIgnInfo : RegInfo := { w1c := 0xE0000000, cnt := [(23, 8)], sta := 0x0000003F }

/-- Page 0 by register index, offset ÷ 4 (R503, R504). -/
def page0Info (i : Nat) : Option RegInfo :=
  if i = 0 then some { reset := 0x00019256, sta := 0xFFFFFFFF }
  else if i = 1 then some { sta := 0x000000FF }
  else if i = 2 then some { sta := 0xF0000000, w1c := 0x08000000 }
  else if i = 3 then some { cfg := 0x80000000 }
  else if i = 4 then some { cfg := 0xE0000000 }
  else if i = 5 then some { sta := 0x0000000F }
  else if i = 6 then some { sta := 0xFFFFFFFF }
  else if i = 7 ∨ i = 8 then some { key := true }
  else if i = 9 then some { sta := 0x00003FFF }
  else if i = 10 then some { sta := 0xFFFFFFFF }
  else if i = 11 then some { sta := 0xC0000000 }
  else if 16 ≤ i ∧ i < 46 then some { sta := 0xFFFFFFFF }
  else if 48 ≤ i ∧ i < 52 then some { reset := 0x00FF0000, sta := 0xF0FFFFFF }
  else if 52 ≤ i ∧ i < 58 then some { cfg := 0xFFFFFFFF }
  else if i = 63 then some pageIgnInfo
  else none

/-- Page 1 (R506). -/
def page1Info (i : Nat) : Option RegInfo :=
  if i = 0 then some { reset := 0xC0000000, sta := 0xF8000000 }
  else if i = 1 then some { reset := 0x06405021, cfg := 0xFFFFFFF1, trp := true }
  else if i = 2 then some { w1c := 0xC0000000 }
  else if i = 3 ∨ i = 7 then some { sta := 0xFF00003F }
  else if i = 4 ∨ i = 8 then some { sta := 0x00FFFFFF }
  else if i = 5 ∨ i = 9 then some { sta := 0xFFFFFFFF }
  else if i = 6 ∨ i = 10 then some { sta := 0x3FFFFFFF }
  else if i = 11 then some { cmd := 0xE0000000 }
  else if 12 ≤ i ∧ i < 16 then some { cnt := [(31, 0)] }
  else if i = 16 ∨ i = 17 then some { key := true }
  else if i = 18 then some { reset := 0x0000003F, sta := 0x8000003F }
  else if i = 20 ∨ i = 21 then some { sta := 0xFFFFFFFF }
  else if 30 ≤ i ∧ i < 62 then some { cnt := [(31, 16), (15, 0)] }
  else if i = 63 then some pageIgnInfo
  else none

/-- Page 2 (R401, R402, R406). -/
def page2Info (i : Nat) : Option RegInfo :=
  if i = 0 then some { reset := 0x3C3C0000, cfg := 0xBFFFFF00, trp := true, gates := [(0x3FFFFF00, 0x2000, 31)] }
  else if i = 1 then some { reset := 0xFFFFFFFF, cfg := 0xFFFFFFFF }
  else if i = 2 then some { reset := 0x0A0A0398, cfg := 0xFFFFFFFF, gates := [(0xFFFFFFFF, 0x2000, 31)] }
  else if i = 3 then some { cfg := 0x00007777, gates := [(0x00007777, 0x2000, 31)] }
  else if 4 ≤ i ∧ i < 8 then some { cfg := 0xC0FFC0FF }
  else if i = 8 then some { reset := 0x00F00000, sta := 0xFEF003FF }
  else if i = 9 then some { sta := 0x1FFF1FFF }
  else if i = 10 then some { sta := 0xFFFFFFFF }
  else if i = 11 ∨ i = 12 then some { key := true }
  else if 16 ≤ i ∧ i < 29 then some { reset := 0x80000000, sta := 0xFFFFFFFF }
  else if 32 ≤ i ∧ i < 36 then some { cfg := 0xE0000000, gates := [(0x60000000, 0x2000 + 4 * i, 31)] }
  else if 36 ≤ i ∧ i < 40 then
    some { reset := 0x00989680, cfg := 0x0FFFFFFF, gates := [(0x0FFFFFFF, 0x2000 + 4 * (i - 4), 31)] }
  else if i = 40 ∨ i = 41 then
    some { reset := 0x06400000, cfg := 0xFFFFFFFF, gates := [(0x7FFFFFFF, 0x2000 + 4 * i, 31)] }
  else if i = 63 then some pageIgnInfo
  else none

/-- Page 3 (R418, R419). -/
def page3Info (i : Nat) : Option RegInfo :=
  if i = 0 then some { sta := 0xE0000000 }
  else if i = 1 then some { cmd := 0x80000000 }
  else if i = 2 then some { sta := 0x0000FFFF }
  else if i = 3 then some { sta := 0xFFFFFFFF }
  else if i = 4 then some { sta := 0x3FFFFFFF }
  else if i = 5 then some { sta := 0x0000FFFF }
  else if i = 6 then some { sta := 0xFFFFFFFF }
  else if i = 7 then some { reset := 0x000003E8, cfg := 0x0001FFFF }
  else if i = 8 ∨ i = 9 then some { key := true }
  else if i = 10 then some { w1c := 0xF8000000 }
  else if i = 11 then some { sta := 0xFFFFFFFF }
  else if i = 12 then
    some { cfg := 0xF0000000, gates := [(0x40000000, 0x3030, 31), (0x10000000, 0x3030, 29)] }
  else if i = 13 ∨ i = 15 then some { sta := 0xFFFFFFFF }
  else if i = 14 ∨ i = 16 then some { w1c := 0x80000000, sta := 0x3FFFFFFF }
  else if i = 17 then some { cnt := [(31, 24), (23, 16), (15, 8), (7, 0)] }
  else if 18 ≤ i ∧ i < 30 then
    let n := (i - 18) / 3
    let ctl := 0x3050 + 12 * n
    if (i - 18) % 3 = 0 then some { cfg := 0xFFFFFFFF, gates := [(0xFFFFFFFF, ctl, 31)] }
    else if (i - 18) % 3 = 1 then some { cfg := 0x3FFFFFFF, gates := [(0x3FFFFFFF, ctl, 31)] }
    else some { cmd := 0x80000000, w1c := 0x40000000, cfg := 0x30000000, gates := [(0x30000000, ctl, 31)] }
  else if 32 ≤ i ∧ i < 44 then some { w1c := 0x80000000, sta := 0x003F0000, cnt := [(15, 0)] }
  else if i = 63 then some pageIgnInfo
  else none

/-- Page 4 (R311 to R315). -/
def page4Info (i : Nat) : Option RegInfo :=
  if i = 0 then some { reset := 0x20000000, cfg := 0xE0000000, gates := [(0x60000000, 0x4000, 31)] }
  else if i = 1 then some { reset := 0x00000003, cfg := 0x0000001F, trp := true, gates := [(0x0000001F, 0x4000, 31)] }
  else if 2 ≤ i ∧ i < 6 then some { key := true }
  else if i = 6 then some { sta := 0xFFF0FFFF }
  else if i = 7 then some { sta := 0xFCFFFFFF }
  else if i = 8 then some { sta := 0xFFFFFFFF }
  else if i = 9 then some { cnt := [(31, 16), (15, 0)] }
  else if i = 10 then some { cnt := [(31, 24), (23, 16), (15, 0)] }
  else if i = 11 then some { sta := 0xFFFFFFFF }
  else if i = 63 then some pageIgnInfo
  else none

/-- The reset word of VMON_LIMr (R507). -/
def vmonLimReset (r : Nat) : Word :=
  if r ≤ 1 then 0x030502D7 else if r = 2 then 0x039F0369 else if r = 3 then 0x04D4048C
  else if r = 4 then 0x046D042B else 0x073E06D2

/-- Page 5 (R507, R508). -/
def page5Info (i : Nat) : Option RegInfo :=
  if i < 16 then some { sta := 0x8000FFFF }
  else if i < 32 then some { reset := 0x0690FD80, cfg := 0xFFFFFFFF }
  else if i < 38 then some { sta := 0x8000FFFF }
  else if i < 44 then some { reset := vmonLimReset (i - 38), cfg := 0xFFFFFFFF }
  else if i = 44 then some { sta := 0xC0000000, cnt := [(15, 0)] }
  else if i = 45 then some { sta := 0xC000FFFF }
  else if i = 46 ∨ i = 47 then some { key := true }
  else if i = 48 then some { sta := 0xC0000000 }
  else if i = 49 then some { cnt := [(31, 0)] }
  else if i = 50 then some { sta := 0x0003FFFF }
  else if i = 51 ∨ i = 52 ∨ i = 53 then some { sta := 0xFFFFFFFF }
  else if i = 54 then some { sta := 0xE0000000 }
  else if i = 55 then some { sta := 0x0000007F }
  else if i = 63 then some pageIgnInfo
  else none

/-- Page 6 (R468, R509). -/
def page6Info (i : Nat) : Option RegInfo :=
  if i = 0 then some { reset := 0x80000000, cfg := 0x80000000 }
  else if i = 1 then some { cfg := 0x00003FFE }
  else if i = 2 then some { reset := 0x00080000, sta := 0x03FF87FF }
  else if i = 3 then some { w1c := 0x80000000, cnt := [(15, 0)] }
  else if i = 4 ∨ i = 5 ∨ i = 6 then some { cnt := [(31, 16), (15, 0)] }
  else if 16 ≤ i ∧ i < 32 then some { sta := 0xBF87FFFF }
  else if i = 63 then some pageIgnInfo
  else none

/-- Page 7 (R382, R510). -/
def page7Info (i : Nat) : Option RegInfo :=
  if i = 0 then some { reset := 0x000003E8, cfg := 0x000FFFFF }
  else if i = 1 then some { sta := 0x0007FFFF }
  else if i = 2 ∨ i = 3 then some { reset := 0x00040000, sta := 0x0007FFFF }
  else if i = 4 then some { sta := 0x0003FFFF }
  else if 16 ≤ i ∧ i < 28 then some { sta := 0x0007FFFF }
  else if i = 32 then some { sta := 0xC0000FFF }
  else if 33 ≤ i ∧ i < 37 then some { sta := 0xFFFFFFFF }
  else if i = 37 then some { sta := 0x07FF07FF }
  else if i = 38 then some { sta := 0x001FFFFF }
  else if i = 39 then some { sta := 0x000FFFFF }
  else if i = 40 ∨ i = 41 then some { cnt := [(31, 0)] }
  else if i = 63 then some pageIgnInfo
  else none

/-- Page 8 (R511). -/
def page8Info (i : Nat) : Option RegInfo :=
  if i = 0 ∨ i = 1 ∨ i = 3 then some { sta := 0xFFFFFFFF }
  else if i = 2 then some { sta := 0x3FFFFFFF }
  else if 4 ≤ i ∧ i < 10 then some { w1c := 0xFFFFFFFF }
  else if i = 63 then some pageIgnInfo
  else none

/-- A register of a global page; none where no register is implemented (R480). -/
def pageInfo (p i : Nat) : Option RegInfo :=
  if p = 0 then page0Info i else if p = 1 then page1Info i else if p = 2 then page2Info i
  else if p = 3 then page3Info i else if p = 4 then page4Info i else if p = 5 then page5Info i
  else if p = 6 then page6Info i else if p = 7 then page7Info i else page8Info i

/-- What stands at a place. -/
def regInfo : Place → Option RegInfo
  | .page p i => pageInfo p i
  | .group _ n => some (grpInfo n)
  | .chan c n => some (chInfo c n)

/-- The reset word of the register at a canonical address; 0 where there is none.
(DESIGN CHOICE, notes/assumptions/3.md). -/
def resetWord (a : Nat) : Word :=
  match regInfo (decodeAddr a).1 with
  | some r => r.reset
  | none => 0

/-- The bus target of an address (R489). -/
def busTarget (p : Place) : Nat :=
  match p with
  | .page p i => if p = 3 then 16 else if p = 5 ∧ 48 ≤ i ∧ i ≤ 62 then 15 else 0
  | .group g _ => 1 + g
  | .chan c _ => 1 + c / 16

/-- The seven KEY_A addresses (R481, R503, R506, R507). -/
def keyAddrs : List Nat := [0x00001C, 0x001040, 0x00202C, 0x003020, 0x004008, 0x004010, 0x0050B8]

end Sys2Proof.Machine
end

