-- ==== Sys2Proof/Machine/Store.lean ====
section
/-!
DEFINITION. The one form in which the machine keeps sparse data (registers, tables, flash bytes, per-channel and
per-stream state): a list of keys and values, keys strictly rising, no entry equal to what an unlisted key reads as.
-/
namespace Sys2Proof.Machine

/-- Sparse data by number. -/
abbrev Store (α : Type) := List (Nat × α)

/-- The value at key `k`; `d` is what an unlisted key reads as. -/
def Store.get {α : Type} (d : α) : Store α → Nat → α
  | [], _ => d
  | (k', v) :: r, k => if k' = k then v else Store.get d r k

/-- Put `v` at key `k` in a list whose keys rise; an entry equal to the default is left out. -/
def Store.set {α : Type} [DecidableEq α] (d : α) : Store α → Nat → α → Store α
  | [], k, v => if v = d then [] else [(k, v)]
  | (k', v') :: r, k, v =>
    if k' < k then (k', v') :: Store.set d r k v
    else if k' = k then (if v = d then r else (k, v) :: r)
    else if v = d then (k', v') :: r else (k, v) :: (k', v') :: r

/-- Every key of the list is above `b` and the keys rise, and no value equals the default. -/
def Store.okFrom {α : Type} [DecidableEq α] (d : α) : Option Nat → Store α → Bool
  | _, [] => true
  | b, (k, v) :: r =>
    (match b with | none => true | some j => decide (j < k)) && !decide (v = d) && Store.okFrom d (some k) r

/-- The canonical form. -/
def Store.wf {α : Type} [DecidableEq α] (d : α) (m : Store α) : Bool := Store.okFrom d none m

/-- The keys that are listed. -/
def Store.keys {α : Type} (m : Store α) : List Nat := m.map Prod.fst

/-- Change the value at one key. -/
def Store.mod {α : Type} [DecidableEq α] (d : α) (m : Store α) (k : Nat) (f : α → α) : Store α :=
  Store.set d m k (f (Store.get d m k))

/-- Clear the keys that satisfy `p`. -/
def Store.drop {α : Type} (m : Store α) (p : Nat → Bool) : Store α := m.filter (fun e => !p e.1)

end Sys2Proof.Machine
end

