-- ==== Sys2Proof/Machine/State.lean ====
section
/-!
DEFINITION. The machine's state as plain data: the live words of all 6,080 registers and their OWL status copies, the
words of every table of R457, the flash, the FIFOs and queues, and the state the spec gives each block that no
register shows (verifiers, fox engines, timers, the lease, the selector, queues of frames, pending commands).

Registers, table words and flash bytes are `Store`s: what an unlisted one reads as is its reset content
(Machine/Regs.lean, Machine/Ops.lean; an erased flash byte). Timers hold the OWL edge at which they run out.
-/
namespace Sys2Proof.Machine

/-- Why a run of the block stops with a fault: the spec gives every row of the table an effect in every state, so
no meaning raises one. -/
inductive Fault where
  /-- Raised by nobody; the type must not be empty of names. Safe. -/
  | none
  deriving DecidableEq, Repr

/-- Why a command has no meaning. -/
inductive Refusal where
  /-- Answered by an arm of exec for a row not modelled yet. Safe: nothing is proved of it. -/
  | notModelled (mnemonic : String)
  deriving DecidableEq, Repr

/-- Reset and power phase: RST_N held low (R573), boot code running (R578), working (R504 AWAKE or RECOVERY), DEEP
(R39), and the exit from DEEP (R46). -/
inductive Phase where
  | held | boot | run | deep | deepExit
  deriving DecidableEq, Repr

/-- One PRBS generator and checker (R72 to R75): the checker's history, newest bit first, its consecutive correct
predictions, the window of 1,024 bits that runs, and the counts while locked. -/
structure Prbs where
  gen : Bool := false
  chk : Bool := false
  pattern : Nat := 0
  inv : Bool := false
  lock : Bool := false
  losses : Nat := 0
  hist : List Bool := []
  good : Nat := 0
  winBits : Nat := 0
  winErrs : Nat := 0
  bits : Nat := 0
  errs : Nat := 0
  deriving DecidableEq, Repr

/-- One eye scan (R76 to R80): running, its settings, the requester whose completion is due, the OWL edge of its start,
the number of points an aborted scan had measured with the first of their free values, and the points of a complete
one. -/
structure Eye where
  running : Bool := false
  since : Nat := 0
  got : Nat := 0
  base : Nat := 0
  eye : Nat := 0
  dwell : Nat := 0
  req : Option Req := none
  points : List Byte := []
  deriving DecidableEq, Repr

/-- An elastic store as it starts: 16 of its 32 entries filled (R66). -/
def halfStore : List (Option (BitVec 128)) := List.replicate 16 none

/-- A lane: signal detector, receiver, elastic stores with what they hold, next to leave first (R66; none where the
spec does not give it), the last symbols before precoding of either direction (R51), and test functions
(02_serial_lanes.md). -/
structure Lane where
  sd : Bool := false
  rxOn : Bool := false
  pll : Bool := false
  adapted : Bool := false
  txOn : Bool := false
  calFail : Bool := false
  rxAsleep : Bool := false
  wakeAt : Option Nat := none
  sleepHold : Option Nat := none
  storeRx : List (Option (BitVec 128)) := halfStore
  storeTx : List (Option (BitVec 128)) := halfStore
  preRx : Nat := 0
  preTx : Nat := 0
  slipClear : Option Nat := none
  txOwnClock : Bool := false
  followsClient : Bool := false
  bmpReturn : Option Nat := none
  prbs : Prbs := {}
  loop : Nat := 0
  eye : Eye := {}
  deriving DecidableEq, Repr

/-- The verifier and the channel's place in the fox queue (03_frame_hunting.md); `offset` and `phase` are the bit
offset and the frame phase that the last hand-back wrote (R94), `par` the parities of the last frames on the alignment,
newest first (R115, R129), `order` the number of the logical lane at each place (R106). -/
structure Framer where
  errs : Nat := 0
  mfas : Option Nat := none
  mfOut : Bool := false
  mfBad : Nat := 0
  mfGood : Nat := 0
  reqAge : Option Nat := none
  held : Option Nat := none
  waitFrom : Option Nat := none
  offset : Nat := 0
  phase : Nat := 0
  par : List (List Byte) := []
  order : List Nat := []
  deriving DecidableEq, Repr

/-- One acceptance by identical repetition (R120, R122, R123, R157, R205): the candidate, its run, the accepted value.
-/
structure Accept (α : Type) where
  cand : Option α := none
  run : Nat := 0
  acc : Option α := none
  deriving DecidableEq, Repr

/-- Run counters of a criterion "in n consecutive frames" and its clearing (R205, R210). -/
structure Run where
  set : Nat := 0
  clr : Nat := 0
  deriving DecidableEq, Repr

/-- One Poisson window machine (R217). -/
structure Poisson where
  frames : Nat := 0
  viol : Nat := 0
  dirty : Bool := false
  hi : Nat := 0
  lo : Nat := 0
  decl : Bool := false
  deriving DecidableEq, Repr

/-- The tandem connection monitor of one level (R246): the STAT received, its run, the failure declared. -/
structure Tcm where
  cand : Nat := 1
  run : Nat := 0
  clr : Nat := 0
  failOf : Option Nat := none
  deriving DecidableEq, Repr

/-- Acceptance and defect machinery of a channel (04, 07). `traceBuf` holds the bytes of the trace multiframe that
runs, `traceEver` that a trace has been accepted since provisioning; `oh` is the overhead of the last frame. -/
structure Monitor where
  aps : Accept (List Byte) := {}
  s1 : Accept Byte := {}
  trace : Accept (List Byte) := {}
  traceBuf : List Byte := []
  traceEver : Bool := false
  ptype : Accept Nat := {}
  msi : Accept (List Byte) := {}
  ais : Run := {}
  rdi : Run := {}
  lck : Run := {}
  oci : Run := {}
  lofAt : Option Nat := none
  lomAt : Option Nat := none
  lomLeft : Option Nat := none
  csfAt : Option Nat := none
  csfSend : Option Nat := none
  gfp : GfpState := .hunt
  deg : Poisson := {}
  exc : Poisson := {}
  burst : Run := {}
  burstDecl : Bool := false
  tcm : Store Tcm := []
  oh : List (Nat × Byte) := []
  deriving DecidableEq, Repr

/-- The channel's live counters (R221), the sums of the second that is open (R223), and the wrap of each. -/
structure Counts where
  ne : Nat := 0
  fe : Nat := 0
  corr : Nat := 0
  unc : Nat := 0
  secNe : Nat := 0
  secFe : Nat := 0
  secCorr : Nat := 0
  secUnc : Nat := 0
  secDef : Nat := 0
  partial_ : Bool := false
  deriving DecidableEq, Repr

/-- The justification of a container (R145, R158): Cm and CnD that GMP announces, the Cm before, and the decision of AMP
(1 positive, -1 negative). -/
structure Justify where
  cm : Nat := 0
  was : Nat := 0
  cnd : Nat := 0
  amp : Int := 0
  deriving DecidableEq, Repr

/-- What the transmitter sends (R111, R125, R132, R164, R211, R212, R524). `traceLatch` is the trace being sent and
`traceIdx` its next byte on SDH. `rei`, `reiPath` and `reiTcm` are the violations received since they were last
reported, `iae` the layers that received an incoming alignment error (0 SM, 1 to 6 a tandem connection). Of the last
frame: `maint` (0 none, 1 MS-AIS, 2 ODU-AIS, 3 ODU-OCI), `eth` (0 frames and idles, 1 local fault, 2 remote fault, 3
idles, 4 configuration ordered sets with an all-zero base page, 5 low-power idle, 6 configuration ordered sets of auto-
negotiation), `sent`, the overhead bytes by index, `section`, the section overhead of all STM-1s in the order sent,
`line`, the frame as the line takes it, `lanes`, the symbols that each lane of the bond sends, `lo`, the overhead of
each lower-order tributary that began; `dests`, the positions that do not carry their source (1 maintenance of the
container type, 2 unequipped or OCI, 3 to 6 the mapper's replacement: error code-groups, local-fault ordered sets, CSF
frames with GFP idles, generic AIS), with `begun` those whose own frame has begun; `ptrMove`, the pointers that moved
(1 increment, -1 decrement, 0 new data), and `ptrWord` the pointer bytes sent. Parity for the frames that follow: `b1`,
`b2` and, by VC-4, `b3`; `bip` of the last OPUs, newest first, and `loBip` of the tributaries. `adjQuiet` holds per
destination the frames without adjustment that are left, 4 before the first, and `ptrVal` its pointer. `count` counts
the frames, and `just` holds the justification of each container. `csfUpi` is the UPI of the CSF frame sent last, `gfp`
what fills the containers of GFP-F clients, `page` the base page that auto-negotiation sends. -/
structure Tx where
  traceLatch : List Byte := []
  traceIdx : Nat := 0
  rei : Nat := 0
  reiPath : Nat := 0
  reiTcm : Store Nat := []
  iae : List Nat := []
  maint : Nat := 0
  eth : Nat := 0
  sent : List (Nat × Byte) := []
  section_ : List Byte := []
  line : List Byte := []
  lanes : List (List Nat) := []
  lo : List (Nat × List (Nat × Byte)) := []
  dests : List (Nat × Nat) := []
  begun : List Nat := []
  adjQuiet : Store Nat := []
  ptrVal : Store Nat := []
  ptrMove : List (Nat × Int) := []
  ptrWord : List (Nat × List Byte) := []
  b1 : Option Byte := none
  b2 : List Byte := []
  b3 : Store (Option Byte) := []
  bip : List Byte := []
  loBip : Store (List Byte) := []
  count : Nat := 0
  just : Store Justify := []
  csfUpi : Option Nat := none
  gfp : List (Nat × List Byte) := []
  page : Nat := 0
  deriving DecidableEq, Repr

/-- A captured frame or trace in progress (R127, R128); of the frame-start stamps, by direction, the eligible frames and
the stamped ones, and the bytes of J0 since its last trace marker (R431, R433). -/
structure Capture where
  trigSeen : Bool := false
  running : Bool := false
  frames : Nat := 0
  traceRun : Bool := false
  samples : Nat := 0
  skip : Nat := 0
  stampRx : Nat := 0
  stampTx : Nat := 0
  idRx : Nat := 0
  idTx : Nat := 0
  j0 : List Byte := []
  deriving DecidableEq, Repr

/-- A frame waiting in an egress queue (R359, R376, R432): its length and cells, whether they are reserved ones, the OWL
edge at which it was written, its launch time in ns with the flow entry, and its bytes up to the end of the payload. -/
structure QFrame where
  len : Nat
  cells : Nat
  guar : Bool
  at_ : Nat
  launch : Option Nat := none
  flow : Option Nat := none
  bytes : List Byte := []
  deriving DecidableEq, Repr

/-- One egress queue with its shaper's bucket (R360 to R366), in 1/8,000 byte at an OWL edge. -/
structure EQueue where
  frames : List QFrame := []
  tokens : Int := 0
  tokAt : Nat := 0
  deriving DecidableEq, Repr

/-- A gate list (R368, R369): its activation time in ns, its cycle and its number of entries. -/
structure GateList where
  at_ : Nat
  cycle : Nat
  len : Nat
  deriving DecidableEq, Repr

/-- The packet units of a channel (11_packet_clients.md): the queues, the frame being sent with its queue, the histories
of the GFP payload scrambler, newest bit first (R150), the port
shaper's bucket, the frames of the mapper's rate-adaptation store (R151) with the container bytes already spent on the
first, the guard-band engine, the gate lists, and the entry and gates last applied. -/
structure Packet where
  queues : Store EQueue := []
  busy : Option (QFrame × Nat) := none
  scrIn : List Bool := []
  scrOut : List Bool := []
  port : EQueue := {}
  fifo : List Nat := []
  spent : Nat := 0
  gbEngine : Option Nat := none
  armed : Option GateList := none
  running : Option GateList := none
  bank : Nat := 0
  entry : Nat := 0
  gates : Nat := 255
  deriving DecidableEq, Repr

/-- A policer's buckets in 1/8,000 byte at an OWL edge (R353). -/
structure Policer where
  tc : Nat := 0
  tp : Nat := 0
  at_ : Nat := 0
  deriving DecidableEq, Repr

/-- A frame that the packet units passed to the GFP-F mapper (R348, R354, R375, R432), or a CSF frame of the mapper,
whose length is 0 (R153): its channel and length, the DEI written, the tag inserted, the nanoseconds written into an
event message, and the GFP frame. -/
structure Mapped where
  ch : Nat
  len : Nat
  dei : Option Bool := none
  taf : Option (Nat × Nat) := none
  rxNs : Option Nat := none
  gfp : List Byte := []
  deriving DecidableEq, Repr

/-- A frame that started on a client lane (R360, R432): its channel, queue and length, the nanoseconds added to the
correction of an event message, and its bytes with the FCS. -/
structure Started where
  ch : Nat
  queue : Nat
  len : Nat
  corr : Option Nat := none
  bytes : List Byte := []
  deriving DecidableEq, Repr

/-- Clause 37 auto-negotiation (R52, R148): 0 ability detect, 1 acknowledge detect, 2 complete acknowledge, 3 idle
detect, 4 link; the configuration word received, its run, the link timer. -/
structure AutoNeg where
  st : Nat := 0
  word : Nat := 0
  run : Nat := 0
  timer : Option Nat := none
  deriving DecidableEq, Repr

/-- The link is up. -/
def AutoNeg.linked (a : AutoNeg) : Bool := a.st == 4

/-- The coded stream of an Ethernet client (R131, R147, R149): running disparity or scrambler history, newest bit
first, of either direction; rows of the PCS lanes, or 257-bit blocks, since the stream began; the parity of each PCS
lane since its last marker; the lane number at each place, as its markers give it; the characters that do not fill a
superblock, the blocks that do not fill a row of the lanes, the blocks that do not fill a 257-bit block and the 257-bit
blocks that do not fill a codeword; the words that the last received row gave to the mapper, those that the last
transmitted row sent, and those that do not fill a round of the lanes. -/
structure Coded where
  dispIn : Bool := false
  dispOut : Bool := false
  scrIn : List Bool := []
  scrOut : List Bool := []
  posIn : Nat := 0
  posOut : Nat := 0
  bipIn : Store (Option Byte) := []
  bipOut : Store (Option Byte) := []
  order : List Nat := []
  waitIn : List Nat := []
  rowIn : List (List Bool) := []
  waitRow : List (List Bool) := []
  waitOut : List (List Bool) := []
  up : List (List Bool) := []
  down : List (List Bool) := []
  lineOut : List (List Bool) := []
  deriving DecidableEq, Repr

/-- The hidden state of a channel; `mapFill` is the fill of its client mapper's store in eighths (R171). -/
structure Chan where
  an : AutoNeg := {}
  coded : Coded := {}
  lane : Lane := {}
  frm : Framer := {}
  mon : Monitor := {}
  cnt : Counts := {}
  tx : Tx := {}
  cap : Capture := {}
  pkt : Packet := {}
  bondOwner : Option Nat := none
  dupMarks : List (Nat × Nat) := []
  voteMark : Option Nat := none
  mapFill : Nat := 4
  deriving DecidableEq, Repr

/-- A stamp-queue entry of four words (R433). -/
structure Stamp where
  w0 : Word
  w1 : Word
  w2 : Word
  w3 : Word
  at_ : Nat
  deriving DecidableEq, Repr

/-- The hidden state of a group: its clock, the sequencer's timers and its stamp queue (R37, R44, R433). -/
structure Group where
  clk : Bool := false
  stopAt : Option Nat := none
  startAt : Option Nat := none
  stamps : List Stamp := []
  deriving DecidableEq, Repr

/-- The states of a fox engine (R94, R103). -/
inductive FoxState where
  | idle | search | candidate | confirm | handback | release | outOfService
  deriving DecidableEq, Repr

/-- One fox engine; `offset` is that of its candidate, `lookAt` the OWL edge of its last sighting or of the start of its
search. -/
structure Fox where
  st : FoxState := .idle
  ch : Option Nat := none
  second : Bool := false
  left : Nat := 0
  since : Nat := 0
  endAt : Option Nat := none
  age : Nat := 0
  offset : Nat := 0
  lookAt : Nat := 0
  deriving DecidableEq, Repr

/-- One condition of a protection group: present, hold-off running, and standing as a request (R249). -/
structure Cond where
  here : Bool := false
  hold : Option Nat := none
  req : Bool := false
  deriving DecidableEq, Repr

/-- An item reported under hold-off (R233, R266): its last reported value, its value, whether the run suppressed a
change of it, and the time of its latest change. -/
structure Item where
  reported : Nat := 0
  value : Nat := 0
  suppressed : Bool := false
  changed : Bool := false
  time : Nat := 0
  deriving DecidableEq, Repr

/-- The hidden state of a protection group (08_protection_switching.md). Request codes are those of R247. `early` holds
the destinations that a swap switched since the last selection boundary, with the selection that each took (R201). -/
structure Pg where
  sfW : Cond := {}
  sfP : Cond := {}
  sdW : Cond := {}
  sdP : Cond := {}
  manual : Nat := 0
  override : Nat := 0
  exer : Option Nat := none
  exerBase : Nat := 0
  exerFlag : Bool := false
  wtrAt : Option Nat := none
  wtrOn : Bool := false
  dnr : Bool := false
  top : Nat := 0
  topRemote : Bool := false
  local_ : Nat := 0
  sel : Bool := false
  applied : Bool := false
  early : List (Nat × Bool) := []
  bridged : Bool := false
  farReq : Nat := 0
  farWork : Bool := false
  farBridged : Bool := false
  farArch : Option Bool := none
  farMode : Option Bool := none
  farCand : Option (List Byte) := none
  farRun : Nat := 0
  farAcc : Option (List Byte) := none
  badRun : Nat := 0
  noRespAt : Option Nat := none
  unstable : Bool := false
  noResp : Bool := false
  modeMis : Bool := false
  archMis : Bool := false
  disW : Bool := false
  disP : Bool := false
  frozen : Bool := false
  frozenAt : Option Nat := none
  lastSwitch : Nat := 0
  deriving DecidableEq, Repr

/-- A frame or block of a stream's member held in the delay memory (R276, R280, R291). -/
structure Held where
  seq : Nat
  clean : Bool
  valid : Bool
  data : List Byte
  at_ : Nat
  usable : Bool := true
  deriving DecidableEq, Repr

/-- One member of a redundancy stream: 0 NONE, 1 HUNT, 2 ALIGNED, 3 WINDOW (R269), the OWL edge of its last frame or
block, and, of a GFP-F container, its delineation with the history of the payload descrambler (R285). -/
structure Member where
  st : Nat := 0
  last : Option Nat := none
  run : Nat := 0
  bad : Nat := 0
  outside : Nat := 0
  alignedAt : Option Nat := none
  lossAt : Option Nat := none
  clearAt : Option Nat := none
  lastAt : Nat := 0
  held : List Held := []
  gfp : GfpState := .hunt
  scr : List Bool := []
  deriving DecidableEq, Repr

/-- The hidden state of a redundancy stream (09_hitless_and_voting.md): its members, whether a schedule is set, the
number of the frame or block played out next with its play-out time and the period of the schedule, both in fs (R278,
R279), what is known of the frame that a voted signal's blocks fill, the counter of a TX stream with the number of each
destination's next frame, the number of the last frame or block that began and the device time of its start in ns, and
what the result carries: of a VOTE_TX stream also the slots of the carrier frame that is being filled and the payload of
the last one (R290), of a FRER stream the histories of the payload scrambler and the last GFP frame (R285). -/
structure Red where
  a : Member := {}
  b : Member := {}
  c : Member := {}
  sched : Bool := false
  firstAligned : Option Nat := none
  noneSince : Option Nat := none
  current : Option Nat := none
  next : Nat := 0
  playAt : Nat := 0
  period : Nat := 0
  outSeq : Nat := 0
  outBy : Store (Option Nat) := []
  startAt : Option (Nat × Nat) := none
  frame : List Byte := []
  frameBad : Bool := true
  out : List Byte := []
  outMaint : Bool := true
  skewed : Bool := false
  slots : List Byte := []
  carrier : List Byte := []
  frerOut : List FrerFrame := []
  scrOut : List Bool := []
  gfp : List Byte := []
  deriving DecidableEq, Repr

/-- One FRER entry: the vector recovery (R284, R287), or the next sequence number of generation and the frames a
follower holds for their number (R331). -/
structure Frer where
  recovSeq : Nat := 0
  history : List Bool := []
  takeAny : Bool := true
  resetAt : Option Nat := none
  nextSeq : Nat := 0
  waiting : List (FrerFrame × Nat) := []
  deriving DecidableEq, Repr

/-- A reliable frame of the twin link: type, payload words (R318, R319). -/
structure LinkFrame where
  typ : Nat
  seq : Nat
  words : List Word
  at_ : Nat := 0
  sentAt : Nat := 0
  req : Option Req := none
  deriving DecidableEq, Repr

/-- The twin link and the lease (10_twin_pairing.md). `sent` holds the frames that have left since the last OWL edge;
`tof` is the twin's REF_INFO: its TCLK offset and selected reference; `lenHeld` is the LEASE_LEN that is held since the
copies of LEASE_CFG all differed (R485). -/
structure Twin where
  up : Bool := false
  sent : List LinkFrame := []
  unacked : List LinkFrame := []
  nextSeq : Nat := 1
  rxSeq : Nat := 0
  timeouts : Nat := 0
  resendAt : Option Nat := none
  ackAt : Option Nat := none
  helloAt : Option Nat := none
  clash : Bool := false
  epoch : Nat := 0
  beat : Nat := 0
  beatAt : Option Nat := none
  beatTime : Nat := 0
  leaseEnd : Option Nat := none
  claimPoint : Option Nat := none
  claimRepeat : Nat := 0
  claimReason : Nat := 0
  yieldAt : Option Nat := none
  yieldReq : Option Req := none
  pinLevel : Option Bool := none
  stillAt : Option Nat := none
  outP : Bool := false
  outN : Bool := false
  farRole : Nat := 0
  farEpoch : Nat := 0
  farAt : Nat := 0
  refInfoAt : Option Nat := none
  refInfoPpt : Int := 0
  refInfoSel : Nat := 15
  refInfoSend : Option Nat := none
  seqSyncAt : Option Nat := none
  mirrorAt : Option Nat := none
  resync : Nat := 0
  bulk : Bool := false
  bulkHeld : List MirrorData := []
  lenHeld : Option Nat := none
  deriving DecidableEq, Repr

/-- One monitored candidate of the selector (R389 to R391, R411): active, qualified and since which OWL edge, the runs
of measurements inside and outside the window, and the sum of its offsets in the second that is open. -/
structure Cand where
  active : Bool := false
  qualified : Bool := false
  inRun : Nat := 0
  outRun : Nat := 0
  since : Nat := 0
  sum : Int := 0
  samples : Nat := 0
  deriving DecidableEq, Repr

/-- A clock output (R406), in the unit of `Clock.tclk`: from where its periods count, from where it carries them, and
where the last one ends after it has been stopped. -/
structure ClkPin where
  since : Nat := 0
  onAt : Option Nat := none
  offAt : Option Nat := none
  deriving DecidableEq, Repr

/-- The selector (12_reference_clocks.md). `state` is that of REF_STATUS; `steer` and `softWord` are in ppt. `phase` (in
ppt · µs) and `integ` are those of the loop on a locked reference; `outs` are the clock outputs. -/
structure Refs where
  cands : Store Cand := []
  state : Nat := 0
  selected : Nat := 15
  lockAt : Option Nat := none
  softAt : Option Nat := none
  softOut : Bool := false
  steer : Int := 0
  phase : Int := 0
  integ : Int := 0
  outs : Store ClkPin := []
  softWord : Int := 0
  clamped : Bool := false
  frozen : Bool := false
  pend : Bool := false
  measured : Nat := 0
  sum : Int := 0
  samples : Nat := 0
  deriving DecidableEq, Repr

/-- Device time (R413, R414): seconds, and the part below one second in units of 2^-48 ns; what TCLK has run in 10^-12
edges (R399); the slew that is left in fs (R425), the end of a step arming (R423), the second that is open (R223) and
whether a step opened it (R225), the TCLK time of the last accepted PPS edges (R435), bits 47:32 of the trigger times
(R436), the second each PPS output last marked and the end of its pulse. -/
structure Clock where
  sec : Nat := 0
  sub : Nat := 0
  tclk : Nat := 0
  slew : Int := 0
  armTill : Option Nat := none
  open_ : Nat := 0
  stepped : Bool := false
  ppsLast : Store (Option Nat) := []
  trigHi : Store Nat := []
  ppsMark : Store (Option Int) := []
  ppsEnd : Store (Option Nat) := []
  deriving DecidableEq, Repr

/-- A command that has passed steps 1 to 10 of R440 and waits for its execution. -/
structure Accepted where
  req : Req
  opcode : Nat
  words : List Word
  deriving DecidableEq, Repr

/-- A reply that waits to be taken (R446). -/
structure Reply where
  req : Req
  completion : Bool
  opcode : Nat
  tag : Nat
  status : Nat
  detail : Nat
  words : List Word
  deriving DecidableEq, Repr

/-- What a firmware command that replied PENDING is waiting for (R447). A provisioning holds the CH_CTRL that it has
still to write, and the OWL edge at which it wrote it (R459). -/
inductive Job where
  | held (opcode : Nat) (words : List Word)
  | provision (c : Nat) (ctrl : Option Word) (since : Option Nat)
  | swap
  | eye (c : Nat)
  | erase (slot len : Nat)
  | program
  | verify
  | cfg (action addr : Nat)
  | forward (tag : Nat)
  | logRead (idx count : Nat)
  | pulse
  | leaseYield
  deriving DecidableEq, Repr

/-- A firmware command whose completion is due, or whose final reply is (R447). -/
structure PendCmd where
  req : Req
  opcode : Nat
  job : Job
  pending : Bool
  dueAt : Option Nat := none
  deriving DecidableEq, Repr

/-- A pending KEY_A (R482). -/
structure KeyA where
  addr : Nat
  src : Src
  value : Word
  till : Nat
  deriving DecidableEq, Repr

/-- The session of an in-band command source (R442). -/
structure Session where
  nonce : BitVec 64 := 0
  fresh : Bool := true
  last : Nat := 0
  advance : Nat := 0
  deriving DecidableEq, Repr

/-- The command engine and the host port (14_command_packets.md). -/
structure Cmd where
  inbox : List Accepted := []
  pend : List PendCmd := []
  hostReplies : List Reply := []
  sent : List Reply := []
  hostRead : List Byte := []
  keys : List KeyA := []
  awaiting : List Req := []
  deaf : Option Nat := none
  deriving DecidableEq, Repr

/-- One raised fault that no acknowledgement has covered (R519, R533). -/
structure Unack where
  src : Nat
  injected : Bool
  deriving DecidableEq, Repr

/-- One source's 1 ms event window (R522). -/
structure Window where
  till : Nat
  again : Option Event
  deriving DecidableEq, Repr

/-- The fault collector (17_fault_collector.md). -/
structure Faults where
  unack1 : List Unack := []
  unack2 : List Unack := []
  unack3 : List Unack := []
  t1 : Option Nat := none
  t2 : Option Nat := none
  t3 : Option Nat := none
  levels : List Nat := []
  wires : List Nat := []
  injected : Option Nat := none
  safe : Bool := false
  pulseAt : Option Nat := none
  windows : Store (Option Window) := []
  deriving DecidableEq, Repr

/-- Maintenance resources of R561. -/
inductive Claim where
  | lane (c : Nat) (byPrbs : Bool)
  | sampler (c : Nat)
  | flashUpload
  | flashHeader
  | flashCfg
  | injector
  | twinRole
  | group (p : Nat)
  deriving DecidableEq, Repr

/-- An upload in progress (R555). -/
structure Upload where
  slot : Nat
  len : Nat
  next : Nat := 0
  erased : Bool := false
  deriving DecidableEq, Repr

/-- The management subsystem (18_management_subsystem.md). `mustReload`: the restart follows source 19 (R539).
`unfit` holds the slots whose upload has begun and not been verified. -/
structure Mgmt where
  flash : Store Byte := []
  otpFuses : Nat := 0
  claims : List Claim := []
  awake : Bool := false
  mclk : Bool := false
  readyAt : Option Nat := none
  wdtAt : Option Nat := none
  upload : Option Upload := none
  unfit : List Nat := []
  headerNext : Option Nat := none
  logBuf : List (List Byte) := []
  logLost : Nat := 0
  lostSeq : Nat := 0
  logSeq : Nat := 0
  logAt : Option Nat := none
  foldAt : Option Nat := none
  unfolded : List Nat := []
  deepSecs : List Nat := []
  tempMax : List Int := []
  tempState : List Nat := []
  voltState : List Nat := []
  bins : Store (List Nat) := []
  rebootAt : Option Nat := none
  mustReload : Bool := false
  deriving DecidableEq, Repr

/-- One event timer with the items that share it (R233, R266, R341, R412, R464, R545): `more` tells that an item changed
while the timer ran, `last` is the time of the latest change of the run. -/
structure Hold where
  at_ : Option Nat := none
  items : List (Nat × Item) := []
  more : Bool := false
  last : Nat := 0
  deriving DecidableEq, Repr

/-- The cross-connect swap in progress (R190 to R194): `sec` is the whole seconds field once it is armed; `switched`
holds the destinations and `lines` the channels whose structure has switched. -/
structure Swap where
  st : Nat := 0
  bank : Nat := 0
  copy : Bool := false
  sec : Nat := 0
  ns : Nat := 0
  validating : Option Req := none
  endAt : Option Nat := none
  switched : List Nat := []
  lines : List Nat := []
  cancelled : Bool := false
  deriving DecidableEq, Repr

/-- The monitor of an E1 or DS1 (R168): its last seven bits; the hunt for G.704 alignment (0 search, 1 and 2
confirming, 3 aligned), the bits since the last alignment signal and the errored ones in a row; the CRC-4 multiframe
with the frame it is in, the first bits of the last odd frames, the remainder that runs, the one to be confirmed and
the bits that confirm it; the zeros of the AIS window; the bits that do not yet fill a byte. -/
structure E1Mon where
  win : List Bool := []
  rest : List Bool := []
  sync : Nat := 0
  pos : Nat := 0
  bad : Nat := 0
  crcSync : Bool := false
  mfPos : Nat := 0
  mfBits : List Bool := []
  crc : Nat := 0
  crcWas : Option Nat := none
  crcGot : List Bool := []
  zeros : Nat := 0
  count : Nat := 0
  low : Nat := 0
  high : Nat := 0
  deriving DecidableEq, Repr

/-- The output of a remapper at one destination (R165 to R167): the bits that wait, the AIS it sends, and the bits of
the last multiframe with its control bits. -/
structure Remap where
  fifo : List Bool := []
  ais : Bool := false
  bits : List Bool := []
  ctl : List Bool := []
  deriving DecidableEq, Repr

/-- The state of an endpoint as its frames show it (R157, R158, R163, R168, R187, R210): as the source of a connection
the pointer interpreter (0 NORM, 1 AIS, 2 LOP) with its runs, the flags, the accepted signal label, the H4 sequence,
the justification received (Cm, and the decision of AMP), the E1 or DS1 monitor and the overhead of the last frame; as
a destination, the output of the remapper that feeds it. -/
structure Trib where
  ptr : Nat := 0
  cur : Option Nat := none
  cand : Nat := 0
  candRun : Nat := 0
  badRun : Nat := 0
  onesRun : Nat := 0
  sinceAdj : Nat := 255
  label : Accept Nat := {}
  uneq : Bool := false
  stat : Run := {}
  cm : Nat := 0
  amp : Int := 0
  jcRun : Nat := 0
  jcFail : Bool := false
  h4 : Option Nat := none
  h4Bad : Nat := 0
  lomAt : Option Nat := none
  lom : Bool := false
  msi : Bool := false
  ais : Bool := false
  aisRun : Run := {}
  e1 : E1Mon := {}
  e1Ais : Bool := false
  e1Oof : Bool := false
  tcm : Store Tcm := []
  iae : List Nat := []
  rei : Nat := 0
  reiTcm : Store Nat := []
  oh : List (Nat × Byte) := []
  out : Remap := {}
  deriving DecidableEq, Repr

/-- The buffers of a data communication stream (R134): received frames with the OWL edge of their arrival, frames to
send, each with the command that it ends (R450), the bits of the one that is being sent with its command, and the
commands whose last reply has been sent. -/
structure DccStream where
  rx : List (Nat × List Byte) := []
  tx : List (List Byte × Option Req) := []
  bits : List Bool := []
  sending : Option Req := none
  sent : List Req := []
  deriving DecidableEq, Repr

/-- The machine. `regs` and `copies` hold what differs from the reset word of Machine/Regs.lean (exclusive or);
`pending` is the queue of commands that wait, first in, first out; `freeCtr` is the model's own counter for the values
the spec leaves open (Config.lean). -/
structure State where
  pending : List Instr
  phase : Phase
  osc : Bool
  owl : Nat
  straps : Straps
  regs : Store Word
  copies : Store Word
  badPar : List Nat
  trpBad : List Nat
  tables : Store Word
  tblBad : List Nat
  chans : Store Chan
  groups : Store Group
  policers : Store Policer
  foxes : Store Fox
  lastRoam : Nat
  pgs : Store Pg
  reds : Store Red
  frers : Store Frer
  snoopRest : Store Nat
  memWake : Option Nat
  memSleep : Option Nat
  memNoteTill : Nat
  twin : Twin
  refs : Refs
  time : Clock
  cmd : Cmd
  sessions : Store Session
  streams : Store DccStream
  events : List Event
  holds : Store Hold
  swap : Swap
  tribs : Store Trib
  faults : Faults
  mgmt : Mgmt
  deepAt : Option Nat
  wakeAt : Option Nat
  jtag : Nat
  ppsOut : List Nat
  sampledAt : Nat
  mapped : List Mapped
  started : List Started
  freeCtr : Nat
  deriving DecidableEq, Repr

/-- The machine with every state at its reset value and RST_N low (R573, R574): no register, table word, channel or
stream differs from its reset content, the flash is erased, and no command waits.
(DESIGN CHOICE, notes/assumptions/2.md; DEDUCED, notes/assumptions/6.md). -/
def State.reset : State where
  pending := []
  phase := .held
  osc := true
  owl := 0
  straps := { twinId := false, bootSrc := 0, testEn := false }
  regs := []
  copies := []
  badPar := []
  trpBad := []
  tables := []
  tblBad := []
  chans := []
  groups := []
  policers := []
  foxes := []
  lastRoam := 11
  pgs := []
  reds := []
  frers := []
  snoopRest := []
  memWake := none
  memSleep := none
  memNoteTill := 0
  twin := {}
  refs := {}
  time := {}
  cmd := {}
  sessions := []
  streams := []
  events := []
  holds := []
  swap := {}
  tribs := []
  faults := {}
  mgmt := {}
  deepAt := none
  wakeAt := none
  jtag := 0x02
  ppsOut := []
  sampledAt := 0
  mapped := []
  started := []
  freeCtr := 0

end Sys2Proof.Machine
end

