-- ==== Sys2Proof/Machine/Ops.lean ====
section
/-!
DEFINITION. The named operations over State that every family shares: registers and their fields, channels, groups,
timers, device time, events and hold-off, free values, replies.
-/
namespace Sys2Proof.Machine

/-- What a command answers. -/
abbrev Out := Host.Outcome State Fault Refusal

/-! ### Registers -/

/-- The live word of the register at a canonical address. -/
def State.reg (s : State) (a : Nat) : Word := Store.get 0 s.regs a ^^^ resetWord a

/-- Put a live word. -/
def State.setReg (s : State) (a : Nat) (w : Word) : State :=
  { s with regs := Store.set 0 s.regs a (w ^^^ resetWord a) }

/-- One field of a register. -/
def State.rf (s : State) (a hi lo : Nat) : Nat := fld (s.reg a) hi lo

/-- One bit of a register. -/
def State.rb (s : State) (a i : Nat) : Bool := bit (s.reg a) i

/-- Replace one field of a register. -/
def State.setRf (s : State) (a hi lo v : Nat) : State := s.setReg a (setFld (s.reg a) hi lo v)

/-- Set or clear one bit of a register. -/
def State.setRb (s : State) (a i : Nat) (b : Bool) : State := s.setReg a (setBit (s.reg a) i b)

/-- Count in a field of a register that saturates at all ones (R11, CNT). -/
def State.count (s : State) (a hi lo n : Nat) : State :=
  s.setRf a hi lo (satAdd (2 ^ (hi + 1 - lo) - 1) (s.rf a hi lo) n)

/-- Slot n of channel c. -/
def State.cr (s : State) (c n : Nat) : Word := s.reg (chReg c n)

/-- A field of slot n of channel c. -/
def State.crf (s : State) (c n hi lo : Nat) : Nat := s.rf (chReg c n) hi lo

/-- A bit of slot n of channel c. -/
def State.crb (s : State) (c n i : Nat) : Bool := s.rb (chReg c n) i

/-- Replace a field of slot n of channel c. -/
def State.setCrf (s : State) (c n hi lo v : Nat) : State := s.setRf (chReg c n) hi lo v

/-- Set or clear a bit of slot n of channel c. -/
def State.setCrb (s : State) (c n i : Nat) (b : Bool) : State := s.setRb (chReg c n) i b

/-! ### Channels, groups and the other numbered parts -/

/-- The hidden state of channel c. -/
def State.ch (s : State) (c : Nat) : Chan := Store.get {} s.chans c

/-- Change the hidden state of channel c. -/
def State.modCh (s : State) (c : Nat) (f : Chan → Chan) : State := { s with chans := Store.mod {} s.chans c f }

/-- The lane of channel c. -/
def State.lane (s : State) (c : Nat) : Lane := (s.ch c).lane

/-- Change the lane of channel c. -/
def State.modLane (s : State) (c : Nat) (f : Lane → Lane) : State := s.modCh c fun h => { h with lane := f h.lane }

/-- Change the verifier of channel c. -/
def State.modFrm (s : State) (c : Nat) (f : Framer → Framer) : State := s.modCh c fun h => { h with frm := f h.frm }

/-- Change the monitors of channel c. -/
def State.modMon (s : State) (c : Nat) (f : Monitor → Monitor) : State := s.modCh c fun h => { h with mon := f h.mon }

/-- The hidden state of group g. -/
def State.grp (s : State) (g : Nat) : Group := Store.get {} s.groups g

/-- Change the hidden state of group g. -/
def State.modGrp (s : State) (g : Nat) (f : Group → Group) : State := { s with groups := Store.mod {} s.groups g f }

/-- Fox engine e. -/
def State.fox (s : State) (e : Nat) : Fox := Store.get {} s.foxes e

/-- Change fox engine e. -/
def State.modFox (s : State) (e : Nat) (f : Fox → Fox) : State := { s with foxes := Store.mod {} s.foxes e f }

/-- The hidden state of protection group p. -/
def State.pg (s : State) (p : Nat) : Pg := Store.get {} s.pgs p

/-- Change the hidden state of protection group p. -/
def State.modPg (s : State) (p : Nat) (f : Pg → Pg) : State := { s with pgs := Store.mod {} s.pgs p f }

/-- The hidden state of redundancy stream n. -/
def State.red (s : State) (n : Nat) : Red := Store.get {} s.reds n

/-- Change the hidden state of redundancy stream n. -/
def State.modRed (s : State) (n : Nat) (f : Red → Red) : State := { s with reds := Store.mod {} s.reds n f }

/-- The recovery and generation state of FRER entry n. -/
def State.frer (s : State) (n : Nat) : Frer := Store.get {} s.frers n

/-- Change the state of FRER entry n. -/
def State.modFrer (s : State) (n : Nat) (f : Frer → Frer) : State := { s with frers := Store.mod {} s.frers n f }

/-- Change the twin block. -/
def State.modTwin (s : State) (f : Twin → Twin) : State := { s with twin := f s.twin }

/-- Change the selector. -/
def State.modRefs (s : State) (f : Refs → Refs) : State := { s with refs := f s.refs }

/-- Change the management block. -/
def State.modMgmt (s : State) (f : Mgmt → Mgmt) : State := { s with mgmt := f s.mgmt }

/-- Change the command engine. -/
def State.modCmd (s : State) (f : Cmd → Cmd) : State := { s with cmd := f s.cmd }

/-- Change the collector. -/
def State.modFaults (s : State) (f : Faults → Faults) : State := { s with faults := f s.faults }

/-- Fold a change over a list of numbers. -/
def State.each (s : State) (l : List Nat) (f : State → Nat → State) : State := l.foldl f s

/-! ### Tables: one word store, a word named by table, bank, entry and word (R457) -/

/-- The number of a table word. -/
def tblKey (t b e w : Nat) : Nat := ((t * 2 + b) * 65536 + e) * 128 + w

/-- Word w is a counter that a written 0 clears. -/
def tblCnt (t w : Nat) : Bool :=
  if t = 0x03 then w == 1 || w == 2 else if t = 0x04 then w == 6 else if t = 0x05 then w ≥ 4
  else if t = 0x06 then w ≥ 2 else if t = 0x08 then w ≥ 4 else if t = 0x18 then w == 2
  else if t = 0x19 then 5 ≤ w && w ≤ 7 else if t = 0x1A then w ≥ 3 else if t = 0x1C then w ≥ 5
  else if t = 0x1E then w < 8 else false

/-- The reset word of a table word, where it is not 0 (R239, R269, R286, R298, R350, R355, R362, R363, R367). -/
def tblReset (t w : Nat) : Word :=
  if t = 0x04 then (if w = 0 then 0x0400012C else 0)
  else if t = 0x05 then (if w = 2 then 0x03000000 else 0)
  else if t = 0x06 then (if w = 0 then 0x20000000 else if w = 1 then 0x03E80001 else 0)
  else if t = 0x07 then
    (if w = 0 then 0x7F000000 else if w = 2 then 0x1EDC6F41 else if w = 4 ∨ w = 6 then 0xFFFFFFFF else 0)
  else if t = 0x18 then (if w = 0 then 0x000FF000 else 0)
  else if t = 0x19 then (if w = 3 ∨ w = 4 then 0x00002580 else 0)
  else if t = 0x1B then (if w = 0 then 0x00000400 else if w = 2 then 0x00002594 else 0)
  else if t = 0x1C then
    (if w = 0 then 0x00FAC688 else if w = 2 then 0x00002594 else if w = 3 then 0x1F0000FF else 0)
  else if t = 0x1D then (if w = 0 then 0x000000FF else if w = 1 then 0x000003E8 else 0)
  else 0

/-- A table word of bank b. -/
def State.tblB (s : State) (t b e w : Nat) : Word := Store.get 0 s.tables (tblKey t b e w) ^^^ tblReset t w

/-- A word of an unbanked table. -/
def State.tbl (s : State) (t e w : Nat) : Word := s.tblB t 0 e w

/-- Put a table word of bank b. -/
def State.setTblB (s : State) (t b e w : Nat) (v : Word) : State :=
  { s with tables := Store.set 0 s.tables (tblKey t b e w) (v ^^^ tblReset t w) }

/-- Put a word of an unbanked table. -/
def State.setTbl (s : State) (t e w : Nat) (v : Word) : State := s.setTblB t 0 e w v

/-- Put words from word w of an entry onwards. -/
def State.setTblWords (s : State) (t b e w : Nat) : List Word → State
  | [] => s
  | v :: r => (s.setTblB t b e w v).setTblWords t b e (w + 1) r

/-- The words w .. w + n − 1 of an entry. -/
def State.tblWords (s : State) (t b e w : Nat) : Nat → List Word
  | 0 => []
  | n + 1 => s.tblB t b e w :: s.tblWords t b e (w + 1) n

/-- Count in a table word field that saturates. -/
def State.countTbl (s : State) (t e w hi lo n : Nat) : State :=
  let v := s.tbl t e w
  s.setTbl t e w (setFld v hi lo (satAdd (2 ^ (hi + 1 - lo) - 1) (fld v hi lo) n))

/-- The words of an entry failed their parity. -/
def State.entryBad (s : State) (t b e : Nat) : Bool := s.tblBad.any fun x => x / 128 == tblKey t b e 0 / 128

/-- Bit 31 of word 0 of an unbanked entry, its enable bit; an entry with a parity error acts as if it were 0 (R484). -/
def State.entryOn (s : State) (t e : Nat) : Bool := bit (s.tbl t e 0) 31 && !s.entryBad t 0 e

/-! ### Timers: an OWL edge at which they run out (R30) -/

/-- A timer has run out (DEDUCED, notes/assumptions/7.md). -/
def State.due (s : State) (t : Option Nat) : Bool :=
  match t with
  | some d => d ≤ s.owl
  | none => false

/-- The OWL edge n µs from now. -/
def State.after (s : State) (us : Nat) : Option Nat := some (s.owl + us)

/-- Microseconds left of a timer; 0 when it is idle or out. -/
def State.left (s : State) (t : Option Nat) : Nat :=
  match t with
  | some d => d - s.owl
  | none => 0

/-! ### Device time (R413) -/

/-- The nanoseconds field. -/
def State.ns (s : State) : Nat := s.time.sub / 2 ^ 48

/-- Device time in whole nanoseconds. -/
def State.nowNs (s : State) : Nat := s.time.sec * 1000000000 + s.ns

/-- The TIME field of an event raised now (R464). -/
def State.evTime (s : State) : Nat := s.nowNs % 2 ^ 32

/-- TIME_VALID (R419). -/
def State.timeValid (s : State) : Bool := s.rb 0x3000 31

/-- UPTIME (R504): seconds counted by Owl since RST_N rose. -/
def State.uptime (s : State) : Nat := s.owl / 1000000

/-! ### The event FIFO (R464, R466) -/

/-- The layout of an event. -/
def mkEvent (chat : Bool) (cls grp chn code time : Nat) : Event :=
  BitVec.ofNat 64 (2 ^ 63 + b2n chat * 2 ^ 62 + cls % 64 * 2 ^ 56 + grp % 256 * 2 ^ 48 + chn % 256 * 2 ^ 40
    + code % 256 * 2 ^ 32 + time % 2 ^ 32)

/-- The event FIFO's depth (R466). -/
def evtMax : Nat := 1024

/-- Push an event; at full it is discarded and counted, and EVT_OVF is set. -/
def State.push (s : State) (e : Event) : State :=
  if s.events.length < evtMax then { s with events := s.events ++ [e] }
  else (s.count 0x600C 15 0 1).setRb 0x600C 31 true

/-- Push an event of a class at the present time. -/
def State.event (s : State) (cls grp chn code : Nat) : State := s.push (mkEvent false cls grp chn code s.evTime)

/-! ### Hold-off (R233 and the rules that follow it) -/

/-- The hold-off timer with number k. -/
def State.hold (s : State) (k : Nat) : Hold := Store.get {} s.holds k

/-- Change the hold-off timer with number k. -/
def State.modHold (s : State) (k : Nat) (f : Hold → Hold) : State := { s with holds := Store.mod {} s.holds k f }

/-- The item i of a hold-off timer. -/
def Hold.item (h : Hold) (i : Nat) : Item := Store.get {} h.items i

/-- Would a change be suppressed: the timer runs. -/
def State.holdRuns (s : State) (k : Nat) : Bool := (s.hold k).at_.isSome

/-- Item i of timer k takes value v: an idle timer starts; the first change of an item in a run is held, a further one
is suppressed (R233, R266). A zero hold-off runs out at the next OWL edge. -/
def State.change (s : State) (k i v us : Nat) : State :=
  let h := s.hold k
  let it := h.item i
  if it.value = v then s
  else
    s.modHold k fun _ =>
      { at_ := if h.at_.isSome then h.at_ else s.after (max us 1)
        more := h.at_.isSome, last := s.evTime
        items := Store.set {} h.items i
          { it with value := v, suppressed := it.suppressed || it.changed, changed := true, time := s.evTime } }

/-- An occurrence of item i of timer k: every occurrence is a change. -/
def State.occur (s : State) (k i us : Nat) : State := s.change k i (((s.hold k).item i).value + 1) us

/-- The items of a timer that its expiry reports. -/
def Hold.reports (h : Hold) : List (Nat × Item) :=
  h.items.filter fun e => e.2.value != e.2.reported || e.2.suppressed

/-- The timer after its expiry: every item reported, the timer idle. -/
def Hold.settled (h : Hold) : Hold :=
  { at_ := none, last := h.last
    items := h.items.foldl (fun m e =>
      Store.set {} m e.1 { e.2 with reported := e.2.value, suppressed := false, changed := false }) h.items }

/-- Run timer k out, if it is due: `mk` gives the event of an item. -/
def State.expireHold (s : State) (k : Nat) (mk : Nat → Item → Event) : State :=
  let h := s.hold k
  if s.due h.at_ then
    (h.reports.foldl (fun t e => t.push (mk e.1 e.2)) s).modHold k fun _ => h.settled
  else s

/-- The timer numbers: defects (R233), tributaries (R234), protection (R266), references (R412), the twin (R341),
commands (R464), management (R545). -/
def holdDefect (c d : Nat) : Nat := 0x10000 + c * 32 + d
def holdTrib (c : Nat) : Nat := 0x20000 + c
def holdProt (p : Nat) : Nat := 0x30000 + p
def holdRef (n : Nat) : Nat := 0x40000 + n
def holdTwin (code : Nat) : Nat := 0x50000 + code
def holdCmd (code : Nat) : Nat := 0x60000 + code
def holdMgmt (code ch : Nat) : Nat := 0x70000 + code * 256 + ch

/-! ### Free values -/

/-- A value the spec leaves open, fresh each time (DESIGN CHOICE, notes/assumptions/5.md). -/
def State.freeWord (s : State) : Word := Config.free s.freeCtr

/-- Count a free value as taken. -/
def State.tookFree (s : State) : State := { s with freeCtr := s.freeCtr + 1 }

/-! ### Status codes (R463) -/

def stOk : Nat := 0x0000
def stPending : Nat := 0x0001
def eOpcode : Nat := 0x0101
def eParam : Nat := 0x0102
def eLength : Nat := 0x0103
def eCrc : Nat := 0x0104
def eDenied : Nat := 0x0201
def eAuth : Nat := 0x0202
def eEnabled : Nat := 0x0301
def eKey : Nat := 0x0302
def eLocked : Nat := 0x0303
def eBusy : Nat := 0x0401
def eTimePast : Nat := 0x0402
def eJump : Nat := 0x0403
def eNotActive : Nat := 0x0501

/-! ### Maintenance claims (R561) -/

/-- A resource is claimed. -/
def State.claimed (s : State) (p : Claim → Bool) : Bool := s.mgmt.claims.any p

/-- Add a claim. -/
def State.claim (s : State) (c : Claim) : State := s.modMgmt fun m => { m with claims := m.claims ++ [c] }

/-- Release the claims that satisfy p. -/
def State.release (s : State) (p : Claim → Bool) : State :=
  s.modMgmt fun m => { m with claims := m.claims.filter fun c => !p c }

/-- Lane c is claimed by PRBS or LOOPBACK. -/
def isLane (c : Nat) : Claim → Bool
  | .lane d _ => c == d
  | _ => false

/-- The flash is claimed. -/
def isFlash : Claim → Bool
  | .flashUpload => true
  | .flashHeader => true
  | .flashCfg => true
  | _ => false

/-! ### Bonds and channel roles (R4, R48, R140) -/

/-- CH_MODE.CLIENT. -/
def State.client (s : State) (c : Nat) : Nat := s.crf c 1 31 24

/-- Lanes a client code takes (R48). -/
def lanesOf (code : Nat) : Nat :=
  if code = 0x12 ∨ code = 0x24 then 4 else if code = 0x13 ∨ code = 0x25 then 2 else 1

/-- The owner of channel c: itself unless a bond holds it. -/
def State.owner (s : State) (c : Nat) : Nat := (s.ch c).bondOwner.getD c

/-- Channel c is a bond member other than its owner. -/
def State.isMember (s : State) (c : Nat) : Bool := (s.ch c).bondOwner.isSome

/-- The channels of the bond that c owns: itself, and the lanes of its client code that are reserved for it (R68). -/
def State.bond (s : State) (c : Nat) : List Nat :=
  ((List.range (lanesOf (s.client c))).map (c + ·)).filter fun d => d == c || (s.ch d).bondOwner == some c

/-- A client is provisioned on the channel, or the channel is a bond member (R48, R68). -/
def State.provisioned (s : State) (c : Nat) : Bool := s.client c != 0 || s.isMember c

/-- CH_EN; a member is enabled by its owner (R69). -/
def State.enabled (s : State) (c : Nat) : Bool := s.crb (s.owner c) 0 31

/-- SDH and SONET codes. -/
def isSdh (code : Nat) : Bool := 1 ≤ code && code ≤ 4

/-- OTN codes. -/
def isOtn (code : Nat) : Bool := 0x10 ≤ code && code ≤ 0x13

/-- N of STM-N and OC-N (R48). -/
def stmN (code : Nat) : Nat := if code = 1 then 1 else if code = 2 then 4 else if code = 3 then 16 else 64

/-- Ethernet codes. -/
def isEth (code : Nat) : Bool := 0x20 ≤ code && code ≤ 0x25

/-- ROLE (R140). -/
def State.role (s : State) (c : Nat) : Nat := s.crf c 1 21 19

/-- A line or CBR channel: its frames are hunted by the fox engines (R82). -/
def State.framed (s : State) (c : Nat) : Bool := isSdh (s.client c) || isOtn (s.client c)

/-- A GFP-F role: ETH_GFP_ODU or ETH_GFP_VC. -/
def State.gfpRole (s : State) (c : Nat) : Bool := isEth (s.client c) && (s.role c == 4 || s.role c == 5)

/-- CH_STATUS.STATE (R84). -/
def State.chState (s : State) (c : Nat) : Nat := s.crf c 4 31 29

def stAsleep : Nat := 0
def stWaking : Nat := 1
def stHunting : Nat := 2
def stWaitFox : Nat := 3
def stInFrame : Nat := 4
def stOofHold : Nat := 5
def stFaulted : Nat := 6

/-- Put CH_STATUS.STATE of a channel and of the members of its bond (R69). -/
def State.setChState (s : State) (c v : Nat) : State :=
  s.each (s.bond c) fun t d => t.setCrf d 4 31 29 v

/-- The defects as they stand (R202). -/
def State.def_ (s : State) (c d : Nat) : Bool := s.crb c 5 d

/-- IN_FRAME or OOF_HOLD: the channel keeps an alignment (R85). -/
def State.aligned (s : State) (c : Nat) : Bool := s.chState c == stInFrame || s.chState c == stOofHold

/-- All channels. -/
def allCh : List Nat := List.range 192

/-- The channels of group g. -/
def grpChs (g : Nat) : List Nat := (List.range 16).map (16 * g + ·)

/-! ### The collector's safe state and the device's phase -/

/-- The device works: neither in reset, nor booting, nor in DEEP. -/
def State.running (s : State) : Bool := s.phase == .run

/-- RST_N is high and the master oscillator runs (R31, R573) (DEDUCED, notes/assumptions/116.md). -/
def State.alive (s : State) : Bool := s.osc && s.phase != .held

/-- What happens while the device is alive; in reset or without its oscillator nothing does. -/
def whileOn (s t : State) : State := if s.alive then t else s

/-- FW_UP (R504). -/
def State.fwUp (s : State) : Bool := s.rb 0x0008 28

/-- The fast clocks FCLK, HCLK and TCLK run: from RST_N's rise, except in DEEP (R25). -/
def State.clocked (s : State) : Bool := s.osc && (s.phase == .run || s.phase == .boot)

/-- What happens in the domains of the fast clocks. -/
def whileClk (s t : State) : State := if s.clocked then t else s

end Sys2Proof.Machine
end

