-- ==== Sys2Proof/Machine/Containers.lean ====
section
/-!
DEFINITION. The containers of the device and how clients map into them (R139, R141, R143, R146, R155).
-/
namespace Sys2Proof.Machine

/-- A container: its rate and its payload capacity in kbit/s, and its rate tolerance in ppm, that of its line where the
table gives none. -/
structure Container where
  kbps : Nat := 0
  payload : Nat := 0
  ppm : Option Nat := none
  deriving DecidableEq, Repr

/-- Kilobits per second of one tributary slot in an ODU4 and in an ODU2. -/
def slotKbps (odu4 : Bool) : Nat := if odu4 then 1301709 else 1249177

/-- Payload of an ODUflex: 3,808 of the 3,824 columns of its frame. -/
def flexPayload (kbps : Nat) : Nat := kbps * 3808 / 3824

/-- The containers by SIGNAL code (R271): VC-4 to VC-4-64c, ODU0 to ODU4, ODUflex, VC-3, VC-12, VC-11, then E1 and DS1
themselves. The payload of a VC-12 and a VC-11 is what a multiframe always carries of an E1 or DS1 (R165). -/
def containers : List Container :=
  [{ kbps := 150336, payload := 149760 }, { kbps := 601344, payload := 599040 },
    { kbps := 2405376, payload := 2396160 }, { kbps := 9621504, payload := 9584640 },
    { kbps := 1244160, payload := 1238954, ppm := some 20 }, { kbps := 2498775, payload := 2488320, ppm := some 20 },
    { kbps := 10037274, payload := 9995277, ppm := some 20 }, { kbps := 10399525, payload := 10356013, ppm := some 100 },
    { kbps := 104794446, payload := 104355975, ppm := some 20 }, {},
    { kbps := 48960, payload := 48384 }, { kbps := 2240, payload := 2046 }, { kbps := 1664, payload := 1542 },
    { kbps := 2048, payload := 2048 }, { kbps := 1544, payload := 1544 }]

/-- The container of a SIGNAL; an ODUflex of n slots of an ODU4 or an ODU2. -/
def containerOf (g n : Nat) (odu4 : Bool := true) : Container :=
  if g = 9 then { kbps := n * slotKbps odu4, payload := flexPayload (n * slotKbps odu4), ppm := some 20 }
  else containers.getD g {}

/-- How a mapper adapts its client (R143). -/
inductive MapMethod where
  | amp | bmp | transcodedGmp | gmp | gfpF
  deriving DecidableEq, Repr

/-- A client mapping (R143): its method, its PSI payload type or C2, the client tolerance in ppm where there is one, and
what replaces a failed client, as `Tx.dests` has it: 3 to 5, or 6 generic AIS in the OPU payload. -/
structure Mapping where
  method : MapMethod
  ptype : Nat
  ppm : Option Nat := none
  repl : Nat := 0
  deriving DecidableEq, Repr

/-- The mapping of a CLIENT in a ROLE. -/
def mappingOf (code role : Nat) : Option Mapping :=
  if isSdh code then
    if role = 1 then some { method := .amp, ptype := 0x02, ppm := some 45, repl := 6 }
    else if role = 2 then some { method := .bmp, ptype := 0x03, ppm := some 100, repl := 6 }
    else none
  else if !isEth code then none
  else if role = 3 then
    if code = 0x20 then some { method := .transcodedGmp, ptype := 0x07, ppm := some 100, repl := 3 }
    else if code = 0x21 then some { method := .bmp, ptype := 0x03, ppm := some 100, repl := 4 }
    else some { method := .gmp, ptype := 0x07, ppm := some 100, repl := 4 }
  else if role = 4 then some { method := .gfpF, ptype := 0x05, repl := 5 }
  else if role = 5 then some { method := .gfpF, ptype := 0x1B, repl := 5 }
  else none

/-- The mapping of a channel. -/
def State.mapping (s : State) (c : Nat) : Option Mapping := mappingOf (s.client c) (s.role c)

/-- A channel maps by BMP. -/
def State.isBmp (s : State) (c : Nat) : Bool := (s.mapping c).any fun m => m.method == .bmp

/-- The rate that follows a client's recovered clock: n is 239 for its ODU, 255 for the line that the ODU leaves on
whole (R146). -/
def bmpKbps (n kbps : Nat) : Nat := kbps * n / 237

/-- The rate of a coded client's stream in kbit/s: 1000BASE-X is transcoded to 8/10 × 67/64 of its line (R147),
100GBASE-R is 64b/66b (R149). -/
def codedKbps (code : Nat) : Nat := if code = 0x20 then 1250000 * 8 / 10 * 67 / 64 else 103125000

/-- The words of a server multiframe and the bounds on the number of them that a rate fills, within a tolerance. Where
the client leaves it the justification stays at the bound (R171) (PRESUMED, notes/assumptions/149.md). -/
def cmBounds (words kbps cap ppm : Nat) : Nat × Nat :=
  (words * kbps * (1000000 - ppm) / (cap * 1000000), min words ((words * kbps * (1000000 + ppm) / (cap * 1000000)) + 1))

end Sys2Proof.Machine
end

