-- ==== Sys2Proof/Machine/Crc.lean ====
section
/-!
DEFINITION. Check values over bytes: the programmable algorithm of R298 with the fixed units of R296 as its
parameters, SHA-256 and HMAC-SHA-256 (named by R442, R539, R550).
-/
namespace Sys2Proof.Machine

/-- A number with its low n bits reversed. -/
def revBits : Nat → Nat → Nat
  | 0, _ => 0
  | n + 1, v => (v % 2) * 2 ^ n + revBits n (v / 2)

/-- The parameters of a check algorithm (R298). -/
structure CrcAlg where
  width : Nat
  refin : Bool
  refout : Bool
  poly : Nat
  init : Nat
  xorout : Nat
  deriving DecidableEq, Repr

/-- One bit into the register: `b` is the data bit (R298). -/
def CrcAlg.bitStep (a : CrcAlg) (reg b : Nat) : Nat :=
  let top := (reg / 2 ^ (a.width - 1)) % 2 ^^^ b
  let r := (reg * 2) % 2 ^ a.width
  if top = 1 then r ^^^ a.poly else r

/-- The top n bits of an 8-bit value into the register, most significant first. -/
def CrcAlg.bits (a : CrcAlg) : Nat → Nat → Nat → Nat
  | 0, reg, _ => reg
  | n + 1, reg, d => a.bits n (a.bitStep reg (d / 2 ^ n % 2)) d

/-- One byte into the register. -/
def CrcAlg.byte (a : CrcAlg) (reg : Nat) (d : Byte) : Nat :=
  a.bits 8 reg (if a.refin then revBits 8 d.toNat else d.toNat)

/-- The register as the value it gives. -/
def CrcAlg.finish (a : CrcAlg) (reg : Nat) : Nat :=
  (if a.refout then revBits a.width reg else reg) ^^^ a.xorout

/-- The check value of a byte string. -/
def CrcAlg.run (a : CrcAlg) (l : List Byte) : Nat := a.finish (l.foldl a.byte a.init)

/-- CRC-32C (R296). -/
def algCrc32c : CrcAlg :=
  { width := 32, refin := true, refout := true, poly := 0x1EDC6F41, init := 0xFFFFFFFF, xorout := 0xFFFFFFFF }

/-- CRC-32 of the Ethernet FCS (R296). -/
def algCrc32 : CrcAlg :=
  { width := 32, refin := true, refout := true, poly := 0x04C11DB7, init := 0xFFFFFFFF, xorout := 0xFFFFFFFF }

/-- CRC-16 of GFP headers (R296). -/
def algCrc16 : CrcAlg := { width := 16, refin := false, refout := false, poly := 0x1021, init := 0, xorout := 0 }

/-- CRC-32C of a byte string, as a word. -/
def crc32c (l : List Byte) : Word := BitVec.ofNat 32 (algCrc32c.run l)

/-- The FCS of an Ethernet frame's bytes, as it is sent: least significant byte first (R296). -/
def fcsOf (l : List Byte) : Word := BitVec.ofNat 32 (algCrc32.run l)

/-! ### SHA-256 -/

/-- The whole k-th root of n, from its bit b − 1 down: the largest r + x with x < 2^b whose k-th power is at most n. -/
def rootBits (k n : Nat) : Nat → Nat → Nat
  | 0, r => r
  | b + 1, r => rootBits k n b (if (r + 2 ^ b) ^ k ≤ n then r + 2 ^ b else r)

/-- The first 64 primes. -/
def shaPrimes : List Nat :=
  (List.range 312).filter fun n => decide (2 ≤ n) && (List.range n).all fun d => decide (d < 2) || n % d != 0

/-- The first 32 bits of the fraction of the k-th root of n. -/
def rootFrac (k n : Nat) : Word := BitVec.ofNat 32 (rootBits k (n * 2 ^ (32 * k)) 40 0)

/-- The round constants: from the cube roots of the primes. -/
def shaK : List Word := shaPrimes.map (rootFrac 3)

/-- The initial hash value: from the square roots of the first eight primes. -/
def shaInit : List Word := (shaPrimes.take 8).map (rootFrac 2)

/-- Rotate right. -/
def rotr (w : Word) (n : Nat) : Word := (w >>> n) ||| (w <<< (32 - n))

/-- The sum of the rotations of a word by the amounts of a list. -/
def rotSum (l : List Nat) (w : Word) : Word := l.foldl (fun x n => x ^^^ rotr w n) 0

/-- Extend the message schedule by n words; the newest word comes first. -/
def shaSched : Nat → List Word → List Word
  | 0, l => l
  | n + 1, l =>
    let old := wd l 14
    let new := wd l 1
    let mix := (rotSum [7, 18] old ^^^ (old >>> 3)) + (rotSum [17, 19] new ^^^ (new >>> 10))
    shaSched n ((mix + wd l 6 + wd l 15) :: l)

/-- One round on the eight working words, with the sum of its constant and its schedule word: the line moves down one
place, and the new words enter at its head and its middle. -/
def shaRound (h : List Word) (kw : Word) : List Word :=
  let top := wd h 0
  let mid := wd h 4
  let pick := (mid &&& wd h 5) ||| (~~~mid &&& wd h 6)
  let most := (top &&& (wd h 1 ||| wd h 2)) ||| (wd h 1 &&& wd h 2)
  let sum := wd h 7 + kw + pick + rotSum [6, 11, 25] mid
  setAt ((sum + most + rotSum [2, 13, 22] top) :: h.take 7) 4 (wd h 3 + sum)

/-- One block of 16 words into the hash value. -/
def shaBlock (h blk : List Word) : List Word :=
  List.zipWith (· + ·) h ((List.zipWith (· + ·) shaK (shaSched 48 blk.reverse).reverse).foldl shaRound h)

/-- Blocks of 16 words, with fuel. -/
def shaBlocks : Nat → List Word → List Word → List Word
  | 0, h, _ => h
  | n + 1, h, ws => if ws.isEmpty then h else shaBlocks n (shaBlock h (ws.take 16)) (ws.drop 16)

/-- The padded message. -/
def shaPad (l : List Byte) : List Byte :=
  let z := (119 - l.length % 64) % 64
  l ++ [0x80] ++ List.replicate z 0 ++ wordBytes (BitVec.ofNat 32 (8 * l.length / 2 ^ 32))
    ++ wordBytes (BitVec.ofNat 32 (8 * l.length))

/-- SHA-256 of a byte string: 32 bytes. -/
def sha256 (l : List Byte) : List Byte :=
  let ws := packWords (shaPad l)
  unpackWords (shaBlocks (ws.length / 16) shaInit ws)

/-- HMAC-SHA-256. -/
def hmacSha256 (key msg : List Byte) : List Byte :=
  let k := if key.length > 64 then sha256 key else key
  let k := k ++ List.replicate (64 - k.length) 0
  sha256 (k.map (· ^^^ 0x5C) ++ sha256 (k.map (· ^^^ 0x36) ++ msg))

end Sys2Proof.Machine
end

