-- ==== Sys2Proof/Machine/Collector.lean ====
section
/-!
DEFINITION. The log's RAM buffer (R547, R548) and the fault collector (17_fault_collector.md): raising a fault, its
record, counters, event and acknowledge timer, escalation and the safe state.
-/
namespace Sys2Proof.Machine

/-! ### Waking the Badger and forming log records -/

/-- A task wakes the Badger (R38, R538): it is ready 15 µs later, and MCLK runs from the wake. In DEEP no clock starts;
what waits in the log's buffer wakes it afterwards. -/
def State.wakeBadger (s : State) : State :=
  if s.mgmt.awake || s.mgmt.readyAt.isSome || !s.clocked then s
  else s.modMgmt fun m => { m with readyAt := s.after 15, mclk := true }

/-- An occurrence of a management event (R545): a 10 ms timer per code and channel field. -/
def State.mgmtEvent (s : State) (code ch : Nat) : State := s.occur (holdMgmt code ch) 0 10000

/-- The 32 bytes of a record (R547). -/
def logBytes (s : State) (typ : Nat) (inj : Bool) (code : Nat) (d0 d1 : Word) (seq : Nat) : List Byte :=
  let body := [BitVec.ofNat 8 typ, BitVec.ofNat 8 (b2n s.timeValid * 128 + b2n inj * 64),
    BitVec.ofNat 8 (code / 256), BitVec.ofNat 8 code]
    ++ wordBytes (BitVec.ofNat 32 seq) ++ wordBytes (BitVec.ofNat 32 s.uptime)
    ++ wordBytes (BitVec.ofNat 32 s.time.sec) ++ wordBytes (BitVec.ofNat 32 s.ns)
    ++ wordBytes d0 ++ wordBytes d1
  body ++ wordBytes (crc32c body)

/-- Put one record into the RAM buffer of 512 records; at full it is lost (R548). -/
def State.putRec (s : State) (typ : Nat) (inj : Bool) (code : Nat) (d0 d1 : Word) : State :=
  let m := s.mgmt
  if m.logBuf.length < 512 then
    s.modMgmt fun m => { m with
      logBuf := m.logBuf ++ [logBytes s typ inj code d0 d1 m.logSeq]
      logSeq := m.logSeq + 1
      logAt := if m.logAt.isSome then m.logAt else s.after 100000 }
  else
    s.modMgmt fun m => { m with
      logLost := satAdd 0xFFFF m.logLost 1
      lostSeq := if m.logLost = 0 then m.logSeq else m.lostSeq
      logSeq := m.logSeq + 1 }

/-- Form a record while the Badger can run (R528, R548). After records were lost, a LOST record comes first, with
event 0x40. -/
def State.logRec (s : State) (typ : Nat) (inj : Bool) (code : Nat) (d0 d1 : Word) : State :=
  if s.fwUp then
    let s := s.wakeBadger
    let m := s.mgmt
    let s := if m.logLost != 0 && m.logBuf.length < 512 then
        ((s.putRec 0x0A false m.logLost (BitVec.ofNat 32 m.lostSeq) 0).modMgmt fun m => { m with logLost := 0 }).mgmtEvent
          0x40 0xFF
      else s
    s.putRec typ inj code d0 d1
  else s

/-! ### Severities, ranking, records -/

/-- The severity of a source's own reports (R513); source 0 acts at once and is recorded at S3. -/
def srcSev (n : Nat) : Nat :=
  if n = 0 ∨ n = 1 ∨ n = 25 ∨ n = 26 then 3
  else if n = 2 ∨ n = 3 ∨ n = 6 ∨ n = 7 ∨ n = 17 ∨ n = 19 ∨ n = 24 ∨ n = 27 ∨ n = 29 then 2
  else if n = 4 ∨ n = 14 ∨ n = 15 ∨ n = 16 ∨ n = 23 then 0
  else 1

/-- One report that reaches the collector. -/
structure Report where
  src : Nat
  wire : Bool := false
  injected : Bool := false
  group : Option Nat := none
  chan : Option Nat := none
  acc : FaultAccess := {}
  deriving DecidableEq, Repr

/-- INJ_CAP (R533). -/
def State.injCap (s : State) : Bool := s.rb 0x1004 0

/-- The severity at which a report is raised (R513, R514, R533). -/
def State.raisedAt (s : State) (r : Report) : Nat :=
  if r.injected then (if srcSev r.src = 3 && s.injCap then 2 else srcSev r.src)
  else if r.wire then max (srcSev r.src) 2
  else srcSev r.src

/-- The first of a list under R518, rules 2 and 3: real before injected, then the lower source. -/
def topRank : List Unack → Option Unack
  | [] => none
  | u :: r =>
    match topRank r with
    | none => some u
    | some v =>
      if (u.injected == v.injected && u.src ≤ v.src) || (!u.injected && v.injected) then some u else some v

/-- The highest-ranked unacknowledged fault (R518, R522). -/
def State.topFault (s : State) : Unack :=
  let f := s.faults
  ((topRank f.unack3).orElse fun _ => (topRank f.unack2).orElse fun _ => topRank f.unack1).getD
    { src := 0, injected := false }

/-- The SRC word of a record (R506, R517). -/
def recWord (sev : Nat) (r : Report) : Word :=
  BitVec.ofNat 32 (sev * 2 ^ 30 + b2n r.injected * 2 ^ 29 + r.acc.master % 8 * 2 ^ 26 + r.acc.access % 4 * 2 ^ 24
    + r.src % 64)

/-- Put a record: at 0x100C the first, at 0x101C the latest (R516, R517). -/
def State.putRecord (s : State) (base sev : Nat) (r : Report) : State :=
  (((s.setReg base (recWord sev r)).setReg (base + 4)
    (BitVec.ofNat 32 (if r.acc.access = 0 then 0 else r.acc.addr % 2 ^ 24))).setReg (base + 8)
    (BitVec.ofNat 32 s.time.sec)).setReg (base + 12) (BitVec.ofNat 32 s.ns)

/-- The first record takes the fault while FIRST_VALID is 0, the latest record otherwise (R516, R517). -/
def State.record (s : State) (sev : Nat) (r : Report) : State :=
  if s.rb 0x1008 31 then (s.putRecord 0x101C sev r).setRb 0x1008 30 true
  else (s.putRecord 0x100C sev r).setRb 0x1008 31 true

/-! ### Timers and the safe state -/

/-- The acknowledge time of a severity in µs (R506). -/
def State.ackTime (s : State) (sev : Nat) : Nat :=
  1000 * max 1 (if sev = 1 then s.rf 0x1004 31 20 else if sev = 2 then s.rf 0x1004 19 10 else s.rf 0x1004 9 4)

/-- The unacknowledged faults of a severity. -/
def Faults.unack (f : Faults) (sev : Nat) : List Unack :=
  if sev = 1 then f.unack1 else if sev = 2 then f.unack2 else if sev = 3 then f.unack3 else []

/-- Put the unacknowledged faults of a severity. -/
def Faults.setUnack (f : Faults) (sev : Nat) (l : List Unack) : Faults :=
  if sev = 1 then { f with unack1 := l } else if sev = 2 then { f with unack2 := l }
  else if sev = 3 then { f with unack3 := l } else f

/-- The timer of a severity. -/
def Faults.timer (f : Faults) (sev : Nat) : Option Nat :=
  if sev = 1 then f.t1 else if sev = 2 then f.t2 else if sev = 3 then f.t3 else none

/-- Put the timer of a severity. -/
def Faults.setTimer (f : Faults) (sev : Nat) (t : Option Nat) : Faults :=
  if sev = 1 then { f with t1 := t } else if sev = 2 then { f with t2 := t }
  else if sev = 3 then { f with t3 := t } else f

/-- Add an unacknowledged fault. -/
def addUnack (l : List Unack) (u : Unack) : List Unack := if l.contains u then l else l ++ [u]

/-- Start the timer of a severity if it is idle (R519). -/
def State.startAck (s : State) (sev : Nat) : State :=
  if (s.faults.timer sev).isSome then s
  else s.modFaults fun f => f.setTimer sev (s.after (s.ackTime sev))

/-- Put the event window of a source. -/
def State.setWindow (s : State) (src : Nat) (w : Option Window) : State :=
  s.modFaults fun f => { f with windows := Store.set none f.windows src w }

/-- A fault event, within its source's window of 1 ms (R522) (DEDUCED, notes/assumptions/12.md). -/
def State.faultEvent (s : State) (sev : Nat) (r : Report) : State :=
  let grp := b2n r.injected * 128 + b2n r.wire * 64 + (r.group.getD 0x3F) % 64
  let ev (chat : Bool) := mkEvent chat 0x0A grp (r.chan.getD 0xFF) (sev * 64 + r.src) s.evTime
  match Store.get none s.faults.windows r.src with
  | some w => s.setWindow r.src (some { w with again := some (ev true) })
  | none => (s.push (ev false)).setWindow r.src (some { till := s.owl + 1000, again := none })

/-- The lease ends and no renewal is sent (R524, R326); a yield that is under way ends by its own time. -/
def Twin.toSafe (t : Twin) : Twin :=
  { t with leaseEnd := none, claimPoint := none, beatAt := none }

/-- The device enters the safe state (R523, R524): FAULT_P low, HEALTHY 0, DEV_STATUS.STATE SAFE, ROLE SAFE and no SOLE
on a twin (R326, R341), the safe-state event, a log record. Every transmitter takes its maintenance signal from
`faults.safe`. -/
def State.enterSafe (s : State) : State :=
  if s.faults.safe then s
  else
    let top := s.topFault
    let s := { s with faults := { s.faults with safe := true }, twin := s.twin.toSafe }
    let s := (s.setRf 0x1000 31 30 0).setRf 0x0008 31 29 3
    let s := if s.rf 0x4018 31 29 = 0 then s else (s.setRf 0x4018 31 29 6).event 0x0B 0xFA 0xFF 0x16
    let s := if s.rb 0x4018 28 then (s.setRb 0x4018 28 false).event 0x0B 0xFA 0xFF 0x21 else s
    let s := s.push (mkEvent false 0x0A (b2n top.injected * 128 + 0x3F) 0xFE (3 * 64 + top.src) s.evTime)
    s.logRec 0x04 top.injected top.src (s.reg 0x103C) 0

/-! ### Raising -/

/-- Raise a fault (R516 to R522): counters, record, event, log record at S2 and S3, acknowledge timer; source 0
enters the safe state at once, unless it is injected under INJ_CAP (R533) (DEDUCED, notes/assumptions/10.md). -/
def State.raise (s : State) (r : Report) : State :=
  let sev := s.raisedAt r
  let s := s.count (0x1030 + 4 * sev) 31 0 1
  let s := s.count (0x1078 + 4 * (r.src / 2)) (if r.src % 2 = 1 then 31 else 15) (if r.src % 2 = 1 then 16 else 0) 1
  let s := s.record sev r
  let s := s.faultEvent sev r
  let s := if sev ≥ 2 then
      s.logRec 0x02 r.injected (sev * 256 + r.src) (recWord sev r)
        (BitVec.ofNat 32 (if r.acc.access = 0 then 0 else r.acc.addr % 2 ^ 24))
    else s
  let s := if sev = 0 then s
    else s.modFaults fun f => f.setUnack sev (addUnack (f.unack sev) { src := r.src, injected := r.injected })
  if r.src = 0 && sev = 3 then s.enterSafe
  else if sev = 0 then s else s.startAck sev

/-- A block reports a fault; while its pair has a wire fault the collector cannot see it (R514). -/
def State.report (s : State) (r : Report) : State := if s.faults.wires.contains r.src then s else s.raise r

/-- An edge report of a source, with no instance. -/
def State.fault (s : State) (src : Nat) : State := s.report { src := src }

/-- The onset of a level condition: it is raised and its pair stays asserted (R513). -/
def State.levelOn (s : State) (r : Report) : State :=
  (s.report r).modFaults fun f => { f with levels := f.levels ++ [r.src] }

/-- The end of one instance's level condition (R513). -/
def State.levelOff (s : State) (src : Nat) : State := s.modFaults fun f => { f with levels := f.levels.erase src }

/-- The unacknowledged faults of a severity move up one (R519): one event, one count, one log record.
(DEDUCED, notes/assumptions/11.md). -/
def State.escalate (s : State) (sev : Nat) : State :=
  let top := (topRank (s.faults.unack sev)).getD { src := 0, injected := false }
  let s := s.modFaults fun f =>
    ((f.setUnack (sev + 1) ((f.unack sev).foldl addUnack (f.unack (sev + 1)))).setUnack sev []).setTimer sev none
  let s := s.count (0x1030 + 4 * (sev + 1)) 31 0 1
  let s := s.startAck (sev + 1)
  let s := s.push (mkEvent false 0x0A (b2n top.injected * 128 + 0x3F) 0xFD ((sev + 1) * 64 + top.src) s.evTime)
  s.logRec 0x03 top.injected ((sev + 1) * 256 + top.src) (s.reg (0x1030 + 4 * (sev + 1))) 0

/-- The acknowledge timer of a severity runs out (R519, R533). -/
def State.ackExpiry (s : State) (sev : Nat) : State :=
  if sev = 3 then (s.modFaults fun f => f.setTimer 3 none).enterSafe
  else if sev = 2 && s.injCap && (s.faults.unack 2).all (·.injected) then s.modFaults fun f => f.setTimer 2 none
  else s.escalate sev

/-- An acknowledgement of a severity (R519). -/
def State.ackSev (s : State) (sev : Nat) : State :=
  s.modFaults fun f => (f.setUnack sev []).setTimer sev none

/-- SRC_PEND (R515): the sources whose pairs are asserted. -/
def State.srcPend (s : State) (n : Nat) : Bool :=
  s.faults.levels.contains n || s.faults.wires.contains n || s.faults.injected == some n

/-! ### Voted copies (R485) -/

/-- A write makes the copies of a place agree again (R485). -/
def State.trpAgree (s : State) (a : Nat) : State :=
  if s.trpBad.contains a && a != 0x1004 then
    let s := { s with trpBad := s.trpBad.filter (· != a) }.levelOff 6
    match (decodeAddr a).1 with
    | .chan c _ =>
      if a < 2 ^ 24 && !s.trpBad.contains (chReg c 12) && !s.trpBad.contains (chReg c 13) then s.setCrb c 27 29 false else s
    | _ => s
  else s

/-- The number under which the copies of a protection group's entry are scrubbed. -/
def pgScrub (p : Nat) : Nat := 2 ^ 24 + p

/-! ### Ignored writes and key failures -/

/-- Set the ignored-write flag of the window of a place, with its S0 note (R12, R475). -/
def State.flagIgnored (s : State) (p : Place) : State :=
  let s := match p with
    | .chan c n => s.setCrb c 27 n true
    | .group g n => ((s.setRb (grpReg g 31) 31 true).count (grpReg g 31) 23 8 1).setRf (grpReg g 31) 5 0 n
    | .page p i => ((s.setRb (pgReg p 0xFC) 31 true).count (pgReg p 0xFC) 23 8 1).setRf (pgReg p 0xFC) 5 0 i
  match p with
  | .chan c _ => s.report { src := 14, group := some (c / 16), chan := some c }
  | .group g _ => s.report { src := 14, group := some g }
  | .page _ _ => s.fault 14

/-- A key procedure fails: KEY_FAIL of the page and an S0 note (R482). -/
def State.keyFail (s : State) (a : Nat) : State := (s.setRb (pgReg (a / 0x1000) 0xFC) 29 true).fault 15

end Sys2Proof.Machine
end

