-- ==== Sys2Proof/Machine/Link.lean ====
section
/-!
DEFINITION. Sending on the twin link (R318, R319, R330), the pair's state as the other families see it (R309, R339),
UNSYNC, and the events of R341.
-/
namespace Sys2Proof.Machine

/-! ### The pair (R309, R314, R339) -/

/-- TWIN_ROLE_CFG.MODE is PAIRED. -/
def State.paired (s : State) : Bool := s.rf 0x4008 31 30 == 1

/-- ROLE: 0 SOLO, 1 PAIRING, 2 SYNCING, 3 STANDBY, 4 ACTIVE, 5 LAPSED, 6 SAFE (R314). -/
def State.twinRole (s : State) : Nat := s.rf 0x4018 31 29

/-- The device is not the one that acts for the pair (R339): pair-level commands answer E_NOT_ACTIVE. -/
def State.notActive (s : State) : Bool :=
  let r := s.twinRole
  s.paired && (r == 1 || r == 2 || r == 3 || r == 5)

/-- The device takes pair-level decisions (R309, R323, R524): it is not paired, or it holds the lease. -/
def State.pairActive (s : State) : Bool := !s.paired || s.twinRole == 0 || s.twinRole == 4

/-- The device is the lease holder of a pair. -/
def State.holder (s : State) : Bool := s.paired && s.twinRole == 4

/-! ### Events (R341) -/

/-- A held-off event of the class TWIN: every occurrence is a change; `v` is kept for the channel field. -/
def State.twinOccur (s : State) (code v : Nat) : State :=
  s.change (holdTwin code) 0 ((((s.hold (holdTwin code)).item 0).value / 256 + 1) * 256 + v % 256) 10000

/-- An event of the class TWIN that is not held off. -/
def State.twinEvent (s : State) (code chan : Nat) : State := s.event 0x0B 0xFA chan code

/-- TWIN_EVENT_HOLDOFF_EXPIRY. -/
def State.twinHoldExpiry (s : State) (code : Nat) : State :=
  s.expireHold (holdTwin code) fun _ i => mkEvent i.suppressed 0x0B 0xFA (i.value % 256) code i.time

/-- UNSYNC takes a value; XC_STATE and TWIN_STATE show the same bit (R195, R314). -/
def State.setUnsync (s : State) (v : Bool) : State :=
  if s.rb 0x4018 22 == v then s
  else (s.setRb 0x4018 22 v).twinOccur (if v then 0x40 else 0x41) 0xFF

/-! ### Blocks (R316, R317) -/

/-- A block of the link: whether it is a control block, and its eight bytes. -/
abbrev LinkBlock := Bool × List Byte

/-- The data of a frame, in whole blocks. -/
def LinkFrame.data (f : LinkFrame) : List Byte :=
  let l := f.words.flatMap wordBytes
  l ++ List.replicate ((8 - l.length % 8) % 8) 0

/-- TYPE, SEQ and LEN as the START block holds them. -/
def LinkFrame.head (f : LinkFrame) : List Byte :=
  let n := f.data.length / 8
  [BitVec.ofNat 8 f.typ, BitVec.ofNat 8 (f.seq / 256), BitVec.ofNat 8 f.seq, BitVec.ofNat 8 (n / 256), BitVec.ofNat 8 n]

/-- The CRC-32C of a frame, over TYPE, SEQ, LEN and the data. -/
def LinkFrame.check (f : LinkFrame) : Word := crc32c (f.head ++ f.data)

/-- Eight bytes a block. -/
def inBlocks : Nat → List Byte → List LinkBlock
  | 0, _ => []
  | n + 1, l => (false, l.take 8) :: inBlocks n (l.drop 8)

/-- A frame in blocks: START, data, END. -/
def LinkFrame.blocks (f : LinkFrame) : List LinkBlock :=
  [(true, 0xD2 :: f.head ++ [0, 0])] ++ inBlocks (f.data.length / 8) f.data ++ [(true, 0xE1 :: wordBytes f.check ++ [0, 0, 0])]

/-- The idle block that fills the time between frames. -/
def linkIdle : LinkBlock := (true, 0x55 :: List.replicate 7 0)

/-- The lane that carries block n. -/
def laneOf (n : Nat) : Nat := n % 4

/-- The blocks of lane k out of a stream that begins with block n. -/
def laneBlocks (k : Nat) : Nat → List LinkBlock → List LinkBlock
  | _, [] => []
  | n, b :: r => if laneOf n = k then b :: laneBlocks k (n + 1) r else laneBlocks k (n + 1) r

/-- The lane marker block: it carries the lane number; the spec gives no format beyond that (DESIGN CHOICE,
notes/assumptions/198.md). -/
def linkMarker (k : Nat) : LinkBlock :=
  (true, BitVec.ofNat 8 k :: (List.range 7).map fun i => (Config.free (2 ^ 40 + i)).setWidth 8)

/-- The next n blocks that lane k sends from its block number p: every 16,384th block is the marker, then the waiting
blocks, then idle (R316). -/
def laneStream (k : Nat) : Nat → Nat → List LinkBlock → List LinkBlock
  | 0, _, _ => []
  | n + 1, p, l =>
    if p % 16384 = 0 then linkMarker k :: laneStream k n (p + 1) l
    else l.head?.getD linkIdle :: laneStream k n (p + 1) l.tail

/-- The number of the first block of a lane in an OWL cycle: 28.125 Gbit/s in blocks of 66 bits (R316). -/
def laneBlockAt (us : Nat) : Nat := us * 28125 / 66

/-- What the twin link's lane k sends in this OWL cycle: the frames that leave in it, striped, and idle (R316, R317). -/
def State.twinLane (s : State) (k : Nat) : List LinkBlock :=
  laneStream k (laneBlockAt (s.owl + 1) - laneBlockAt s.owl) (laneBlockAt s.owl)
    (laneBlocks k 0 (s.twin.sent.flatMap LinkFrame.blocks))

/-- The received CRC-32C is wrong: the frame is discarded and counted in CRC_ERR (R317). -/
def crcBad (f : LinkFrame) (got : Option Word) : Bool := got.any (· != f.check)

/-- A received frame, discarded and counted where its CRC is wrong. -/
def State.crcGate (s : State) (f : LinkFrame) (got : Option Word) (t : State) : State :=
  if crcBad f got then (if s.rb 0x4000 31 then s.count 0x4024 15 0 1 else s) else t

/-- A received unreliable frame of a type and its payload. -/
def State.gotFrame (s : State) (typ : Nat) (ws : List Word) (got : Option Word) (t : State) : State :=
  s.crcGate { typ := typ, seq := 0, words := ws } got t

/-- The words of one entry of SEQ_SYNC. -/
def SeqSync.words (e : SeqSync) : List Word :=
  [BitVec.ofNat 32 e.stream, BitVec.ofNat 32 e.value, BitVec.ofNat 32 (e.at_ / 1000000000), BitVec.ofNat 32 (e.at_ % 1000000000)]

/-! ### Frames -/

/-- A type that is sent reliably. -/
def isReliable (typ : Nat) : Bool := typ == 0x10 || typ == 0x11 || typ == 0x20 || typ == 0x21

/-- The SEQ after one: modulo 65,536 with 0 skipped. -/
def nextSeq (n : Nat) : Nat := if n ≥ 65535 then 1 else n + 1

/-- Reliable frames outstanding at most (R319). -/
def linkWindow : Nat := 256

/-- Put a frame on the link, with the command that it ends once it leaves (R450); reliable frames wait for their
acknowledgement, and beyond 256 of them for their turn. While the link is down only HELLO leaves. -/
def State.linkSendFor (s : State) (typ : Nat) (ws : List Word) (q : Option Req) : State :=
  if isReliable typ then
    if s.twin.up then
      s.modTwin fun t =>
        let full := t.unacked.length ≥ linkWindow
        let f : LinkFrame :=
          { typ := typ, seq := t.nextSeq, words := ws, at_ := s.owl, sentAt := s.owl, req := if full then q else none }
        { t with
          sent := if t.unacked.length < linkWindow then t.sent ++ [f] else t.sent
          unacked := t.unacked ++ [f], nextSeq := nextSeq t.nextSeq
          resendAt := if t.resendAt.isSome then t.resendAt else s.after 10 }
    else s
  else if !s.twin.up && typ != 1 then s
  else s.modTwin fun t => { t with sent := t.sent ++ [{ typ := typ, seq := 0, words := ws, at_ := s.owl, sentAt := s.owl }] }

/-- Put a frame on the link. -/
def State.linkSend (s : State) (typ : Nat) (ws : List Word) : State := s.linkSendFor typ ws none

/-- The object numbers of class 1 that name no table entry. -/
def mirrorSwap : Nat := 1
def mirrorCancel : Nat := 2
def mirrorLeaseCfg : Nat := 3

/-- The words of an armed swap as the link carries them: its time, and COPY. -/
def State.swapWords (s : State) : List Word :=
  [BitVec.ofNat 32 s.swap.sec, BitVec.ofNat 32 (b2n s.swap.copy * 2 ^ 30 + s.swap.ns)]

/-- The object number of a table entry (DEDUCED, notes/assumptions/35.md). -/
def mirrorObj (t b e : Nat) : Nat := tblKey t b e 0 / 128

/-- A bank of the cross-connect tables as the link names it, 0 the one in use and 1 the inactive one, since the twins'
banks in use can differ in number (R200); the same function turns the name back. -/
def State.relBank (s : State) (t b : Nat) : Nat := if t = 1 ∨ t = 2 then (b + s.swap.bank) % 2 else b

/-- The first words of a MIRROR payload: class, object, offset and count. -/
def mirrorHead (cls obj off n : Nat) : List Word :=
  [BitVec.ofNat 32 (cls * 2 ^ 24 + n), BitVec.ofNat 32 obj, BitVec.ofNat 32 off]

/-- Mirror words of an object (R330): the holder alone does, while the link is up and the safe state is not entered. -/
def State.mirror (s : State) (cls obj : Nat) (ws : List Word) : State :=
  if s.holder && s.twin.up && !s.faults.safe then s.linkSend 0x10 (mirrorHead cls obj 0 ws.length ++ ws) else s

/-- Mirror the first n words of a table entry. -/
def State.mirrorEntry (s : State) (t b e n : Nat) : State :=
  s.mirror 1 (mirrorObj t (s.relBank t b) e) (s.tblWords t b e 0 n)

end Sys2Proof.Machine
end

