-- ==== Sys2Proof/Machine/Operands.lean ====
section
/-!
DEFINITION. The operand forms of commands: packets and their headers (R438, R439), replies (R446, R447), parameter
words and their common checks (R440 step 11, R611), endpoint words (R173).
-/
namespace Sys2Proof.Machine

/-! ### Packet bytes -/

/-- The SOURCE code of a source class (R441). -/
def srcCode : Src → Nat
  | .host => 1
  | .inband _ => 2
  | .twin => 3

/-- The 8 header bytes (R439). -/
def headerBytes (ver : Nat) (completion ordered : Bool) (src op tag len : Nat) : List Byte :=
  [BitVec.ofNat 8 (ver * 16 + b2n completion * 2 + b2n ordered), BitVec.ofNat 8 src,
    BitVec.ofNat 8 (op / 256), BitVec.ofNat 8 op, BitVec.ofNat 8 (tag / 256), BitVec.ofNat 8 tag,
    BitVec.ofNat 8 (len / 256), BitVec.ofNat 8 len]

/-- The CRC-32C trailer after the bytes it covers (R438). -/
def withTrailer (l : List Byte) : List Byte := l ++ wordBytes (crc32c l)

/-- The words of a reply: STATUS and DETAIL, then the opcode's words (R446). -/
def Reply.payload (r : Reply) : List Word := BitVec.ofNat 32 (r.status % 65536 * 65536 + r.detail % 65536) :: r.words

/-- A reply's header and payload. -/
def Reply.body (r : Reply) : List Byte :=
  headerBytes 1 r.completion false (match r.req.source with | some b => b.toNat | none => srcCode r.req.src) (r.opcode % 0x8000 + 0x8000) r.tag r.payload.length
    ++ unpackWords r.payload

/-- The KEY_SLOT of an in-band stream (R133). -/
def State.keySlot (s : State) (slot : Nat) : Nat := fld (s.tbl 0x12 slot 0) 29 27

/-- The session of an in-band source. -/
def State.session (s : State) (slot : Nat) : Session := Store.get {} s.sessions slot

/-- Change the session of an in-band source. -/
def State.modSession (s : State) (slot : Nat) (f : Session → Session) : State :=
  { s with sessions := Store.mod {} s.sessions slot f }

/-- The eight bytes of a NONCE. -/
def nonceBytes (n : BitVec 64) : List Byte :=
  wordBytes (BitVec.ofNat 32 (n.toNat / 2 ^ 32)) ++ wordBytes (BitVec.ofNat 32 n.toNat)

/-- The MAC of R442: 16 bytes over NONCE, header and payload. -/
def State.mac (s : State) (slot : Nat) (body : List Byte) : List Byte :=
  (hmacSha256 (Config.otpKey (s.keySlot slot)) (nonceBytes (s.session slot).nonce ++ body)).take 16

/-- The whole packet of a reply. -/
def State.replyBytes (s : State) (r : Reply) : List Byte :=
  match r.req.src with
  | .inband slot => withTrailer (r.body ++ s.mac slot r.body)
  | _ => withTrailer r.body

/-! ### Replies -/

/-- Handled by the Badger (R454). -/
def isFirmware (op : Nat) : Bool := op == 0x0202 || op == 0x0203 || (0x0401 ≤ op && op != 0x0701 && op != 0x0702)

/-- Queue a frame for sending on an in-band stream (R134), with the command that it ends. Replies are queued beyond the
4 KiB of R134 too (DESIGN CHOICE, notes/assumptions/170.md). -/
def State.queueStream (s : State) (slot : Nat) (l : List Byte) (q : Option Req) : State :=
  { s with streams := Store.mod {} s.streams slot fun d => { d with tx := d.tx ++ [(l, q)] } }

/-- A command is no longer outstanding. -/
def State.settle (s : State) (q : Req) : State :=
  s.modCmd fun c => { c with awaiting := c.awaiting.erase q }

/-- A reply leaves: into the host reply queue, on the stream, or over the link. A command of the twin whose final reply
leaves is no longer outstanding; one of a stream is until the stream has sent it (R450). -/
def State.putReply (s : State) (r : Reply) : State :=
  match r.req.src with
  | .host => s.modCmd fun c => { c with hostReplies := c.hostReplies ++ [r] }
  | .inband slot => s.queueStream slot (s.replyBytes r) (if r.status = stPending then none else some r.req)
  | .twin =>
    let t := s.modCmd fun c => { c with sent := c.sent ++ [r] }
    let t := t.linkSendFor 0x21 (packWords (s.replyBytes r)) (if r.status = stPending then none else some r.req)
    if r.status = stPending || (s.twin.up && s.twin.unacked.length ≥ linkWindow) then t else t.settle r.req

/-- The first reply of a command (R446). -/
def State.reply (s : State) (q : Req) (op st det : Nat) (ws : List Word) : State :=
  s.putReply { req := q, completion := false, opcode := op, tag := q.tag, status := st, detail := det, words := ws }

/-- A reply that carries a status only. -/
def State.status (s : State) (q : Req) (op st : Nat) : State := s.reply q op st 0 []

/-- OK with no words. -/
def State.ok (s : State) (q : Req) (op : Nat) : State := s.status q op stOk

/-- The entry of a command that replied PENDING or waits (R447). -/
def State.pendOf (s : State) (q : Req) : Option PendCmd := s.cmd.pend.find? fun p => p.req == q

/-- The command has replied PENDING. -/
def State.wasPending (s : State) (q : Req) : Bool :=
  match s.pendOf q with
  | some p => p.pending
  | none => false

/-- A final reply that is a completion where PENDING has gone before, a first reply otherwise; the command leaves the
list of those that wait (R447) (DESIGN CHOICE, notes/assumptions/18.md). -/
def State.finish (s : State) (q : Req) (op st det : Nat) (ws : List Word) : State :=
  let was := s.wasPending q
  let s := s.modCmd fun c => { c with pend := c.pend.filter fun p => p.req != q }
  s.putReply { req := q, completion := was, opcode := op, tag := q.tag, status := st, detail := det, words := ws }

/-- Put the entry of a waiting command: in its place in the order of arrival, or last. -/
def State.setPend (s : State) (p : PendCmd) : State :=
  s.modCmd fun c => { c with
    pend := if c.pend.any fun x => x.req == p.req then c.pend.map fun x => if x.req == p.req then p else x
            else c.pend ++ [p] }

/-- Reply PENDING and wait for a job (R447). A command that replied PENDING on the firmware's behalf does not reply it
again. -/
def State.pendOn (s : State) (q : Req) (op : Nat) (j : Job) (due : Option Nat) : State :=
  (if s.wasPending q then s else s.status q op stPending).setPend
    { req := q, opcode := op, job := j, pending := true, dueAt := due }

/-! ### Parameter checks -/

/-- The bits of W0 outside `used` are 0 (R611). -/
def onlyBits (w used : Word) : Bool := w &&& ~~~used == 0

/-- All words of a list are 0. -/
def allZero (ws : List Word) : Bool := ws.all (· == 0)

/-- Words that a source may read at once. -/
def maxCount (q : Req) : Nat := match q.src with | .inband _ => 1016 | _ => 1020

/-- The words that the parameters of an opcode take, where that number is fixed (R454). -/
def fixedLen (op : Nat) (w : Word) : Option Nat :=
  if [0x0001, 0x0003, 0x0A01, 0x0A03].contains op then some 0
  else if [0x0102, 0x0103, 0x0902, 0x0905].contains op then some 2
  else if [0x0105, 0x0201, 0x0203, 0x0406, 0x0603].contains op then some 3
  else if [0x0401, 0x0403, 0x0407].contains op then some 4
  else if op = 0x0405 then some 5
  else if op = 0x0404 then some (if bit w 31 then 2 else 1)
  else if op = 0x0903 then (match fld w 31 30 with | 0 => some 2 | 1 => none | _ => some 1)
  else if op = 0x0909 then (match fld w 31 28 with | 0 => some 1 | 1 => some 2 | 2 => none | 3 => some 2 | _ => none)
  else if [0x0002, 0x0104, 0x0202, 0x0907, 0x0A02].contains op then none
  else some 1

/-- The least words of an opcode with variable parameters; CFG_STORE has no length for an ACTION it does not know. -/
def leastLen (op : Nat) (w : Word) : Nat :=
  if op = 0x0002 then 0 else if op = 0x0909 ∧ fld w 31 28 > 3 then 1 else if op = 0x0104 ∨ op = 0x0907 then 2 else 3

/-- Step 11 of R440: LEN is not what the opcode takes. A byte count within its range decides the words of its data. -/
def lenBad (src : Src) (op : Nat) (ws : List Word) : Bool :=
  let w := wd ws 0
  match fixedLen op w with
  | some n => ws.length != n
  | none =>
    let (hi, head) := if op = 0x0907 then (15, 1) else (11, 2)
    let n := fld w hi 0
    ws.length < leastLen op w
      || (op = 0x0002 && ws.length > maxCount { src := src, tag := 0 })
      || (op = 0x0907 && ws.length > 1001)
      || ((op = 0x0903 || (op = 0x0909 && fld w 31 28 = 2) || op = 0x0907) && 1 ≤ n && n ≤ 4000 && ws.length != head + (n + 3) / 4)

/-! ### Endpoint words -/

/-- The kind of an endpoint word, bits 31:28, its channel and its remaining fields are read in XConnect.lean. -/
def epKind (w : Word) : Nat := fld w 31 28

end Sys2Proof.Machine
end

