-- ==== Sys2Proof/Machine/Flags.lean ====
section
/-!
DEFINITION. The flags of a channel: its defects with latches, hold-off and chatter (R202 to R207, R233), the
conditions they make (R208 to R210), the maintenance reports that follow, the Poisson and burst criteria (R217 to
R220), and the acceptance of repeated values (R120 to R123).
-/
namespace Sys2Proof.Machine

/-! ### Defect bits (R202, R205) -/

def dLOS : Nat := 0
def dOOF : Nat := 1
def dLOF : Nat := 2
def dLOM : Nat := 3
def dAIS : Nat := 4
def dRDI : Nat := 5
def dTIM : Nat := 6
def dPLM : Nat := 7
def dDEG : Nat := 8
def dEXC : Nat := 9
def dSSF : Nat := 10
def dLCK : Nat := 11
def dOCI : Nat := 12
def dHIBER : Nat := 13
def dLOBL : Nat := 14
def dAMLOSS : Nat := 15
def dLF : Nat := 16
def dRF : Nat := 17
def dCSF : Nat := 18
def dLFD : Nat := 19
def dDUP : Nat := 20
def dVDIS : Nat := 21
def dSLIP : Nat := 22

/-- A PRBS generator or checker or a loopback runs on a lane of the bond: the defect bits hold, except dLOS (R75,
R460) (DEDUCED, notes/assumptions/78.md). -/
def State.testing (s : State) (c : Nat) : Bool :=
  (s.bond (s.owner c)).any fun d => (s.lane d).prbs.gen || (s.lane d).prbs.chk || (s.lane d).loop != 0

/-- A PRBS checker runs on a lane of the bond. -/
def State.checking (s : State) (c : Nat) : Bool := (s.bond (s.owner c)).any fun d => (s.lane d).prbs.chk

/-- The defect bit d of channel c holds its value (R75, R204, R34). -/
def State.defHeld (s : State) (c d : Nat) : Bool :=
  !s.enabled c || s.chState c == stFaulted || (d != dLOS && (s.testing c || (s.lane c).rxAsleep))

/-- EVT_HOLDOFF in µs (R232). -/
def State.evtHold (s : State) (c : Nat) : Nat := 1000 * s.crf c 17 23 16

/-- The hold-off of a defect after a change to v (R233): a change while its timer runs counts in CHATTER. -/
def State.defChange (s : State) (c d : Nat) (v : Bool) : State :=
  if s.crb c 17 31 && !s.crb c 7 d then
    let k := holdDefect c d
    let runs := s.holdRuns k && ((s.hold k).item 0).value != b2n v
    let s := s.change k 0 (b2n v) (s.evtHold c)
    if runs then s.count (chReg c 17) 15 0 1 else s
  else s

/-- Put a defect bit, with its latch, hold-off, second record and capture trigger; no rule holds it back. -/
def State.putDef (s : State) (c d : Nat) (v : Bool) : State :=
  if s.def_ c d == v then s
  else
    let s := s.setCrb c 5 d v
    let s := if v then s.setCrb c 6 d true else s
    let s := if v then s.modCh c fun h => { h with cnt := { h.cnt with secDef := h.cnt.secDef ||| 2 ^ d } } else s
    let s := if s.crf c 11 26 25 = 1 && !s.crb c 7 d then
        s.modCh c fun h => { h with cap := { h.cap with trigSeen := true } } else s
    s.defChange c d v

/-- A defect as its criterion gives it. -/
def State.setDef (s : State) (c d : Nat) (v : Bool) : State := if s.defHeld c d then s else s.putDef c d v

/-! ### Conditions of R208 and R209 -/

/-- LINE and CBR roles: the channel is a framed line or a CBR client (R140). -/
def State.lineRole (s : State) (c : Nat) : Bool := s.framed c

/-- dLOS holds on a lane of the channel: for a bond, on any of its lanes (DEDUCED, notes/assumptions/120.md). -/
def State.losAny (s : State) (c : Nat) : Bool := (s.bond c).any fun d => s.def_ d dLOS

/-- The defects that make a LINE or CBR channel substitute maintenance signals, dOOF apart (R208). -/
def State.failDefs (s : State) (c : Nat) : Bool :=
  s.losAny c || s.def_ c dLOF || s.def_ c dAIS || s.def_ c dLCK || s.def_ c dOCI
    || (isOtn (s.client c) && s.def_ c dLOM) || (s.crb c 8 28 && s.def_ c dTIM) || (s.crb c 8 27 && s.def_ c dPLM)
    || (s.crb c 8 26 && s.def_ c dEXC)

/-- An Ethernet client has failed (R143, R214). -/
def State.clientFailed (s : State) (c : Nat) : Bool :=
  s.losAny c || s.def_ c dLOF || s.def_ c dLOBL || s.def_ c dAMLOSS || (s.lane c).rxAsleep

/-- The containers a channel sources are substituted (R208, R209, R214) (DEDUCED, notes/assumptions/68.md). -/
def State.substitutes (s : State) (c : Nat) : Bool :=
  s.chState c == stFaulted || !s.enabled c
    || (if isEth (s.client c) then s.clientFailed c else s.failDefs c || s.def_ c dOOF)

/-- The containers a channel sources are in server signal fail (R209, R214). -/
def State.serverFail (s : State) (c : Nat) : Bool :=
  s.chState c == stFaulted || !s.enabled c
    || (if isEth (s.client c) then s.clientFailed c else s.failDefs c)

/-- Keep dSSF of a LINE or CBR channel equal to its condition (R205 bit 10, R208). -/
def State.syncSsf (s : State) (c : Nat) : State :=
  if s.framed c then s.setDef c dSSF (s.failDefs c || s.def_ c dOOF) else s

/-! ### Restarting and pausing the acceptance processes (R206, R207) -/

/-- Every acceptance process restarts from nothing. -/
def Monitor.restart (m : Monitor) : Monitor :=
  { m with
    aps := {}, s1 := {}, trace := {}, traceBuf := [], ptype := {}, msi := {}, ais := {}, rdi := {}, lck := {}, oci := {} }

/-- The acceptance of the tributaries' labels and states restarts (R207). -/
def Trib.restart (t : Trib) : Trib := { t with label := {}, stat := {}, aisRun := {} }

/-- The endpoints of channel c whose state is held. -/
def State.tribsOf (s : State) (c : Nat) : List Nat :=
  (s.tribs.map Prod.fst).filter fun k => 1 ≤ k / 2 ^ 28 && k / 2 ^ 28 ≤ 3 && k / 2 ^ 20 % 256 == c

/-- dLOF or dLOS sets: the defects drawn from overhead clear, except SDH dLOM, and the processes restart (R207). -/
def State.clearOverhead (s : State) (c : Nat) : State :=
  let l := [dAIS, dRDI, dTIM, dPLM, dLCK, dOCI] ++ (if isOtn (s.client c) then [dLOM] else [])
  let s := (s.each l fun t d => t.setDef c d false).modMon c fun m => { m.restart with lomAt := none, lomLeft := none }
  s.each (s.tribsOf c) fun t k => { t with tribs := Store.mod {} t.tribs k Trib.restart }

/-! ### Frame loss (R205 bits 1 and 2, R206) -/

/-- dOOF sets: the 3 ms towards dLOF start, and the timers of OTN dLOM pause. -/
def State.oofOn (s : State) (c : Nat) : State :=
  if s.def_ c dOOF then s
  else
    let s := s.setDef c dOOF true
    let s := s.modMon c fun m => { m with
      lofAt := if s.def_ c dLOF then none else s.after 3000
      lomLeft := m.lomAt.map (· - s.owl)
      lomAt := none }
    s.syncSsf c

/-- dOOF clears: the 3 ms towards the end of dLOF start, and the timers of OTN dLOM resume. -/
def State.oofOff (s : State) (c : Nat) : State :=
  if s.def_ c dOOF then
    let s := s.setDef c dOOF false
    let s := s.modMon c fun m => { m with
      lofAt := if s.def_ c dLOF then s.after 3000 else none
      lomAt := m.lomLeft.map (· + s.owl)
      lomLeft := none }
    s.syncSsf c
  else s

/-! ### Maintenance events of a lane: an eye scan that ends (R77, R464) -/

/-- Bit rate of a lane in kbit/s (R48). -/
def laneKbps (code : Nat) : Nat :=
  if 1 ≤ code ∧ code ≤ 3 then 2488320 else if code = 4 then 9953280
  else if code = 0x10 then 10709225 else if code = 0x11 then 11095728
  else if code = 0x12 then 27952493 else if code = 0x13 then 55904987
  else if code = 0x20 then 1250000 else if code = 0x21 then 10312500
  else if code = 0x22 ∨ code = 0x24 then 25781250 else if code = 0x23 ∨ code = 0x25 then 53125000
  else 0

/-- Points of a scan (R76). -/
def eyePoints : Nat := 8192

/-- The time of one point in ns: its dwell and 10 µs of settling (R78, R80). -/
def State.pointNs (s : State) (c : Nat) : Nat :=
  let k := laneKbps (s.client (s.owner c))
  10000 + (if k = 0 then 0 else 10 ^ (5 + (s.lane c).eye.dwell) * 1000000 / k)

/-- Points measured since a running scan started (DESIGN CHOICE, notes/assumptions/79.md). -/
def State.eyeGot (s : State) (c : Nat) : Nat :=
  min eyePoints ((s.owl - (s.lane c).eye.since) * 1000 / s.pointNs c)

/-- A scan ends: completion, event, claim released; `det` is 0 complete, 1 aborted (R461). -/
def State.endScan (s : State) (c det : Nat) : State :=
  if (s.lane c).eye.running then
    let req := (s.lane c).eye.req
    let got := s.eyeGot c
    let s := s.modLane c fun l => { l with eye := { l.eye with running := false, req := none, got := got } }
    let s := s.release fun k => k == .sampler c
    let s := s.event 0x09 (c / 16) c (if det = 0 then 0x10 else 0x11)
    match req with
    | some q => s.finish q 0x0801 stOk det []
    | none => s
  else s

/-- Frames, or ordered sets, of a complete capture (R127). -/
def State.captLen (s : State) (c : Nat) : Nat :=
  if isEth (s.client c) then 256 else if isOtn (s.client c) then 32 else 1

/-- The channel leaves its alignment: a partial capture is discarded (R127). -/
def State.captureLost (s : State) (c : Nat) : State :=
  s.modCh c fun h => { h with cap := { h.cap with frames := if h.cap.frames < s.captLen c then 0 else h.cap.frames } }

/-- The channel takes a state (R84). Leaving IN_FRAME ends an eye scan (R77) and moves a loop-timed transmitter to
TCLK; entering it moves the transmitter back (R65). -/
def State.toState (s : State) (c v : Nat) : State :=
  let was := s.chState c
  let s := s.setChState c v
  let s := if v != stInFrame && v != stOofHold then s.captureLost c else s
  let s := if s.crb c 2 11 then
      s.each (s.bond c) fun t d => t.modLane d fun l => { l with txOwnClock := v == stInFrame }
    else s
  if was = stInFrame && v != stInFrame then s.each (s.bond c) fun t d => t.endScan d 1 else s

/-! ### Degrade (R217 to R220) -/

/-- R217 at the end of a window: the run counters and the declaration. -/
def Poisson.endWindow (p : Poisson) : Poisson :=
  if p.dirty then { p with frames := 0, viol := 0, dirty := false }
  else
    let hi := if p.viol ≥ 10 then p.hi + 1 else 0
    let lo := if p.viol ≤ 1 then p.lo + 1 else 0
    { frames := 0, viol := 0, dirty := false, hi := min hi 2, lo := min lo 2
      decl := if hi ≥ 2 then true else if lo ≥ 2 then false else p.decl }

/-- One frame into the window that runs. -/
def Poisson.frame (p : Poisson) (viol : Nat) (bad : Bool) : Poisson :=
  { p with frames := p.frames + 1, viol := p.viol + viol, dirty := p.dirty || bad }

/-- The window length of R217 for an exponent and a frame of b bits. -/
def poissonW (e b : Nat) : Nat := max 4 (cdiv (10 ^ (e + 1)) b)

/-- DEG_EXP as it acts (R216): the exponent e of R217. -/
def State.degExp (s : State) (c : Nat) : Nat := 5 + min 4 (s.crf c 9 26 24)

/-- DEG_M as it acts (R216). -/
def State.degM (s : State) (c : Nat) : Nat := max 2 (min 10 (s.crf c 9 21 18))

/-- DEG_THR as it acts (R216). -/
def State.degThr (s : State) (c : Nat) : Nat := max 1 (s.crf c 9 17 0)

/-- DEG_METHOD as it acts (R216, R219). -/
def State.degMethod (s : State) (c : Nat) : Nat :=
  if isEth (s.client c) then 1 else min 2 (s.crf c 9 30 29)

/-- dDEG and dEXC follow their algorithms (R216, R218 to R220). -/
def State.syncDeg (s : State) (c : Nat) : State :=
  let on := s.crb c 9 31
  let m := (s.ch c).mon
  let meth := s.degMethod c
  let deg :=
    if meth = 0 then m.deg.decl
    else if meth = 1 then m.burstDecl
    else m.deg.decl || m.burstDecl
  let exc := !isEth (s.client c) && s.crf c 9 23 22 != 3 && m.exc.decl
  ((s.setDef c dDEG (on && deg)).setDef c dEXC (on && exc)).syncSsf c

/-- The burst method at the end of a second (R219). -/
def Monitor.burstSecond (m : Monitor) (degM : Nat) (skip bad : Bool) : Monitor :=
  if skip then m
  else if bad then
    let n := min degM (m.burst.set + 1)
    { m with burst := { set := n, clr := 0 }, burstDecl := m.burstDecl || n ≥ degM }
  else
    let n := min degM (m.burst.clr + 1)
    { m with burst := { set := 0, clr := n }, burstDecl := m.burstDecl && n < degM }

/-! ### Runs and acceptance -/

/-- One frame of a criterion: `now` is the condition; it sets after n frames in a row and clears after m. -/
def Run.step (r : Run) (n m : Nat) (was now : Bool) : Run × Bool :=
  let set := if now then min n (r.set + 1) else 0
  let clr := if now then 0 else min m (r.clr + 1)
  ({ set := set, clr := clr }, if was then clr < m else set ≥ n)

/-- One reception of a value that is accepted after n identical ones in a row; the flag says that it is accepted at
this reception. -/
def Accept.step {α : Type} [DecidableEq α] (a : Accept α) (n : Nat) (v : α) : Accept α × Bool :=
  let run := if a.cand = some v then min n (a.run + 1) else 1
  if run ≥ n then ({ cand := some v, run := run, acc := some v }, true)
  else ({ a with cand := some v, run := run }, false)

end Sys2Proof.Machine
end

