-- ==== Sys2Proof/Machine/LineCode.lean ====
section
/-!
DEFINITION. What a lane carries (02_serial_lanes.md, 03_frame_hunting.md): repetition (R49), Gray coding and precoding
(R51), polarity (R64), transmit equalisation (R55, R56), the signal detector (R60), the PRBS patterns and their checker
(R72, R74), the code of an eye point (R79), frame periods and alignment words (R82, R83). A symbol is a level 0 to 3 of
a PAM4 lane, or 0 and 1 of an NRZ lane.
-/
namespace Sys2Proof.Machine

/-! ### Symbols (R49, R51, R64) -/

/-- The lane is PAM4 (R48). -/
def State.pam4 (s : State) (c : Nat) : Bool :=
  let k := s.client (s.owner c)
  k == 0x13 || k == 0x23 || k == 0x25

/-- Consecutive pieces of k elements, with fuel. -/
def pieces {α : Type} (k : Nat) : Nat → List α → List (List α)
  | 0, _ => []
  | n + 1, l => if k = 0 ∨ l.length < k then [] else l.take k :: pieces k n (l.drop k)

/-- Elements dealt out to m lists in turn; an incomplete round is left out. -/
def deal {α : Type} (m : Nat) (l : List α) : List (List α) :=
  let rounds := pieces m l.length l
  (List.range m).map fun k => rounds.filterMap (·[k]?)

/-- One element of each list in turn, with fuel. -/
def inTurn {α : Type} : Nat → List (List α) → List α
  | 0, _ => []
  | n + 1, ls => ls.filterMap List.head? ++ inTurn n (ls.map List.tail)

/-- The level of a bit pair in Gray code (R51), first bit first (PRESUMED, notes/assumptions/135.md). -/
def grayLevel : List Bool → Nat
  | [false, true] => 1
  | [true, true] => 2
  | [true, false] => 3
  | _ => 0

/-- The bit pair of a level. -/
def grayBits (v : Nat) : List Bool := [decide (2 ≤ v), v == 1 || v == 2]

/-- Precoding 1/(1+D) mod 4 after the symbol `prev` (R51). -/
def precode (prev : Nat) : List Nat → List Nat
  | [] => []
  | x :: r => let y := (x + 4 - prev % 4) % 4; y :: precode y r

/-- The symbols that a precoded stream carries. -/
def unprecode (prev : Nat) : List Nat → List Nat
  | [] => []
  | y :: r => (y + prev) % 4 :: unprecode y r

/-- The inverted polarity of a symbol (R64). -/
def invSym (pam : Bool) (v : Nat) : Nat := (if pam then 3 else 1) - v

/-- How often a lane repeats each line bit (R49). -/
def repeats (code : Nat) : Nat := if code = 1 then 16 else if code = 2 then 4 else 1

/-- The majority of samples; the spec does not say what a tie reads as (R49). -/
def majority (l : List Bool) : Bool :=
  let n := l.count true
  if 2 * n > l.length then true else if 2 * n < l.length then false else Config.tie l

/-- The bit that the samples of one repeated bit give: of the centre eight of 16, of all four of 4 (R49). -/
def sampleBit (rep : Nat) (l : List Bool) : Bool := majority (if rep = 16 then (l.drop 4).take 8 else l)

/-- The symbols that the transmitter of lane c makes of a bit stream, each bit `rep` times, by Gray code, precoding and
then polarity (R49, R51, R64), with the last symbol of the precoder. A test pattern is not repeated (R72). Before the
first symbol the precoder and its inverse take 0 (DESIGN CHOICE, notes/assumptions/178.md). -/
def State.laneSymbols (s : State) (c rep : Nat) (l : List Bool) : List Nat × Nat :=
  let pam := s.pam4 c
  let was := (s.lane c).preTx
  let x := if pam then (pieces 2 l.length l).map grayLevel else l.flatMap fun b => List.replicate rep (b2n b)
  let x := if pam && s.crb c 2 28 then precode was x else x
  (if s.crb c 2 30 then x.map (invSym pam) else x, (x.getLast?).getD was)

/-- The bits that the receiver of lane c takes from symbols: polarity, then precoding, Gray code and the majority of
bits that come `rep` times (R49, R51, R64); with the last symbol before the precoding is undone. -/
def State.laneBits (s : State) (c rep : Nat) (l : List Nat) : List Bool × Nat :=
  let pam := s.pam4 c
  let was := (s.lane c).preRx
  let y := if s.crb c 2 31 then l.map (invSym pam) else l
  let x := if pam && s.crb c 2 29 then unprecode was y else y
  let b := x.map (· == 1)
  (if pam then x.flatMap grayBits else if rep = 1 then b else (pieces rep b.length b).map (sampleBit rep),
    (y.getLast?).getD was)

/-! ### Transmit equalisation (R53, R55, R56) -/

/-- The coefficients c(−2) to c(+2) of presets 0 to 7 (R55). -/
def ffePresets : List (List Int) :=
  [[0, 0, 63, 0, 0], [0, 0, 55, -8, 0], [0, 0, 49, -14, 0], [0, -4, 47, -12, 0], [0, -6, 43, -14, 0],
    [0, -8, 41, -14, 0], [2, -10, 39, -12, 0], [2, -10, 35, -14, -2]]

/-- The coefficients in use: a preset, those of the lane equaliser table for 15, and none for 8 to 14 (R56). -/
def State.ffe (s : State) (c : Nat) : Option (List Int) :=
  let p := s.crf c 2 27 24
  let w := s.tbl 0x10 c 0
  if p = 15 then
    some [signed 8 (fld w 31 24), signed 8 (fld w 23 16), signed 8 (fld w 15 8), signed 8 (fld w 7 0),
      signed 8 (fld (s.tbl 0x10 c 1) 31 24)]
  else ffePresets[p]?

/-- The lane swings (R31, R56, R63): the oscillator runs, its transmitter is on, and it has coefficients. -/
def State.swings (s : State) (c : Nat) : Bool := s.osc && (s.lane c).txOn && (s.ffe c).isSome

/-- The rate of a transmitter in kbit/s: that of the client that it follows (R146), or of R48. -/
def State.txKbps (s : State) (c : Nat) : Nat :=
  if (s.lane c).followsClient then bmpKbps 255 (laneKbps (if s.client c = 0x11 then 0x21 else 4))
  else laneKbps (s.client (s.owner c))

/-- What a transmitter puts on its balls: its rate, the swing of TX_SWING in mVppd and the coefficients in 1/64 of it;
nothing while it does not swing (R48, R53, R55, R56, R63). -/
def State.txDrive (s : State) (c : Nat) : Option (Nat × Nat × List Int) :=
  if s.swings c then (s.ffe c).map fun l => (s.txKbps c, 400 + 50 * s.crf c 2 23 20, l) else none

/-! ### The lanes of a bond (R49, R51, R64, R104, R131) -/

/-- The logical, PCS or FEC lanes that the lanes of a client carry bit by bit in turn (R104, R131, R149). -/
def subLanes (code : Nat) : Nat :=
  if code = 0x12 ∨ code = 0x13 ∨ code = 0x24 then 20 else if code = 0x25 then 4 else if code = 0x23 then 2 else 1

/-- The channel sends the signal that R524 gives its type: in the safe state, and while it is FAULTED (R85). -/
def State.maintAll (s : State) (c : Nat) : Bool := s.faults.safe || s.chState c == stFaulted

/-- A generator, or a loopback at the far end, has the transmitter of lane d (R75, R460); the signal of R524 takes it
back. -/
def State.laneTaken (s : State) (d : Nat) : Bool :=
  !s.maintAll (s.owner d) && ((s.lane d).prbs.gen || (s.lane d).loop == 2)

/-- The symbols that lane j of the bond of c sent last. -/
def State.sentSymbols (s : State) (c j : Nat) : List Nat := ((s.ch c).tx.lanes[j]?).getD []

/-- The symbols at the receiver of lane d: those at its balls, and in a NEAR loopback those that it sent last (R460)
(DEDUCED, notes/assumptions/202.md). -/
def State.atReceiver (s : State) (c d : Nat) (l : List Nat) : List Nat :=
  if (s.lane d).loop = 1 then s.sentSymbols c (d - c) else l

/-- A lane in a FAR loopback sends back the bits that it received (R460). -/
def State.sendBack (s : State) (c d : Nat) (bits : List Bool) : State :=
  if (s.lane d).loop = 2 && s.laneTaken d && s.swings d then
    let out := s.laneSymbols d (repeats (s.client c)) bits
    (s.modLane d fun l => { l with preTx := out.2 }).modCh c fun h => { h with tx := { h.tx with
      lanes := ((List.range (lanesOf (s.client c))).map (s.sentSymbols c)).set (d - c) out.1 } }
  else s

/-- The bits of every logical, PCS or FEC lane, in the order of their places, from the symbols of the lanes of the bond
of c, with what those lanes keep and send back; the places of one lane take its bits in turn (DESIGN CHOICE,
notes/assumptions/179.md). -/
def State.lanesIn (s : State) (c : Nat) (ls : List (List Nat)) : List (List Bool) × State :=
  let code := s.client c
  let got := (s.bond c).zip ls |>.map fun e => (e.1, s.laneBits e.1 (repeats code) (s.atReceiver c e.1 e.2))
  (got.flatMap fun e => deal (subLanes code / lanesOf code) e.2.1,
    got.foldl (fun t e => (t.modLane e.1 fun l => { l with preRx := e.2.2 }).sendBack c e.1 e.2.1) s)

/-- The lanes of the bond of c send the bits of the logical, PCS or FEC lanes at their places; a lane that does not
swing or is taken sends none of them (R31, R56, R63, R75), and one in a FAR loopback what it sent back (R460). -/
def State.lanesOut (s : State) (c : Nat) (sub : List (List Bool)) : State :=
  let code := s.client c
  let m := subLanes code / lanesOf code
  let out := (List.range (lanesOf code)).map fun j =>
    let bits := let l := (sub.drop (m * j)).take m; inTurn ((l.headD []).length) l
    (c + j, if s.swings (c + j) && !s.laneTaken (c + j) then s.laneSymbols (c + j) (repeats code) bits
      else (if s.swings (c + j) && (s.lane (c + j)).loop == 2 then s.sentSymbols c j else [], (s.lane (c + j)).preTx))
  (out.foldl (fun t e => t.modLane e.1 fun l => { l with preTx := e.2.2 }) s).modCh c fun h =>
    { h with tx := { h.tx with lanes := out.map (·.2.1) } }

/-! ### The signal detector (R60) -/

/-- SD_THR in mVppd (R53). -/
def State.sdThr (s : State) (c : Nat) : Nat := [50, 80, 120, 160].getD (s.crf c 2 7 6) 0

/-- SD_QUAL in µs (R53). -/
def State.sdQual (s : State) (c : Nat) : Nat := 2 ^ (s.crf c 2 10 8 + 3)

/-- The detector asserts: the input, in mVppd at the last OWL edges, newest first, has stayed above the threshold for
SD_QUAL. -/
def State.sdAsserts (s : State) (c : Nat) (l : List Nat) : Bool :=
  s.sdQual c ≤ l.length && (l.take (s.sdQual c)).all (s.sdThr c < ·)

/-- The detector deasserts: below 70 % of the threshold at eight consecutive OWL edges. -/
def State.sdDrops (s : State) (c : Nat) (l : List Nat) : Bool :=
  8 ≤ l.length && (l.take 8).all fun v => 10 * v < 7 * s.sdThr c

/-! ### PRBS patterns and the checker (R72, R74) -/

/-- The exponents of a pattern's polynomial, largest first, its constant term apart. -/
def prbsExps (pattern : Nat) : List Nat :=
  [[7, 6], [9, 5], [15, 14], [23, 18], [31, 28], [13, 12, 2, 1]].getD pattern [7, 6]

/-- The bit that follows a history, newest bit first. -/
def prbsNext (exps : List Nat) (hist : List Bool) : Bool :=
  exps.foldl (fun b e => b != hist.getD (e - 1) false) false

/-- The n bits that follow a history. -/
def prbsSeq (exps : List Nat) : Nat → List Bool → List Bool
  | 0, _ => []
  | n + 1, h => let b := prbsNext exps h; b :: prbsSeq exps n ((b :: h).take (exps.headD 1))

/-- The first n symbols of a running generator (R72, R73, R75), which the signal of R524 overrides; its seed is open, and
not all zero. -/
def State.prbsSymbols (s : State) (c n : Nat) : List Nat :=
  let p := (s.lane c).prbs
  let l := prbsSeq (prbsExps p.pattern) n (true :: Config.prbsSeed p.pattern)
  if p.gen && s.swings c && !s.maintAll (s.owner c) then (s.laneSymbols c 1 (l.map (· != p.inv))).1 else []

/-- One received bit in the checker (R74). While it is not locked its history is what it received; a wrong prediction
starts the count of correct ones again. While it is locked it predicts from its own sequence.
(DEDUCED, notes/assumptions/136.md). -/
def Prbs.bit (p : Prbs) (b : Bool) : Prbs :=
  let exps := prbsExps p.pattern
  let n := exps.headD 1
  let b := b != p.inv
  let want := prbsNext exps p.hist
  if p.hist.length < n then { p with hist := b :: p.hist }
  else if p.lock then
    let bad := b2n (want != b)
    let p := { p with hist := (want :: p.hist).take n, bits := (p.bits + 1) % 2 ^ 64, errs := satAdd 0xFFFFFFFF p.errs bad,
                      winErrs := p.winErrs + bad, winBits := p.winBits + 1 }
    if p.winErrs > 256 then
      { p with lock := false, losses := satAdd 0xFFFF p.losses 1, hist := [], good := 0, winBits := 0, winErrs := 0 }
    else if p.winBits = 1024 then { p with winBits := 0, winErrs := 0 } else p
  else
    let good := if want = b then p.good + 1 else 0
    { p with hist := (b :: p.hist).take n, good := good % 256, lock := good == 256, winBits := 0, winErrs := 0 }

/-! ### The byte of an eye point (R78, R79) -/

/-- round(−10 × log10(errors ÷ bits)), clamped to 1 to 254: how many k give a ratio of at most 10^(−(2k − 1)/20). -/
def eyeCode (bits errs : Nat) : Byte :=
  if errs = 0 then 0
  else BitVec.ofNat 8 (max 1 ((List.range 254).countP fun k => errs ^ 20 * 10 ^ (2 * k + 1) ≤ bits ^ 20))

/-! ### Frames (R82, R83) -/

/-- The frame period in ns. -/
def frameNs (code : Nat) : Nat :=
  if isSdh code then 125000 else if code = 0x10 then 12191 else if code = 0x11 then 11767 else 1168

/-- The 48 bits around the A1/A2 or OA1/OA2 boundary. -/
def fasWord : Nat := 0xF6F6F6282828

/-- The n bits centred on the boundary are right. -/
def fasOk (n w : Nat) : Bool := w / 2 ^ (24 - n / 2) % 2 ^ n == fasWord / 2 ^ (24 - n / 2) % 2 ^ n

/-- SEARCH_LEN as it acts. -/
def State.searchLen (s : State) (c : Nat) : Nat := [24, 32, 48, 48].getD (s.crf c 3 25 24) 48

/-- VERIFY_LEN as it acts. -/
def State.verifyLen (s : State) (c : Nat) : Nat := [16, 24, 32, 48].getD (s.crf c 3 23 22) 32

/-- A frame period can have passed since the OWL cycle `t` (R30, R94). -/
def State.framePassed (s : State) (c t : Nat) : Bool := frameNs (s.client c) ≤ (s.owl + 1 - t) * 1000

end Sys2Proof.Machine
end

