-- ==== Sys2Proof/Machine/ReedSolomon.lean ====
section
/-!
DEFINITION. The Reed-Solomon codes of the lines: GFEC RS(255,239) of OTN (R104, R105), RS(528,514) and RS(544,514) of
Ethernet clients (R52, R107, R149). A code with t corrected symbols has 2t check symbols and the generator roots
α^0 to α^(2t − 1). Fields and roots are those of the standards (PRESUMED, notes/assumptions/162.md).
-/
namespace Sys2Proof.Machine

/-- A code: symbol width, field polynomial, symbols of a codeword, and how many it corrects. -/
structure RsCode where
  width : Nat
  poly : Nat
  len : Nat
  t : Nat
  deriving DecidableEq, Repr

/-- GFEC: x^8 + x^4 + x^3 + x^2 + 1 (PRESUMED, notes/assumptions/162.md). -/
def gfec : RsCode := { width := 8, poly := 0x11D, len := 255, t := 8 }

/-- RS(528,514): x^10 + x^3 + 1 (PRESUMED, notes/assumptions/162.md). -/
def rs528 : RsCode := { width := 10, poly := 0x409, len := 528, t := 7 }

/-- RS(544,514). -/
def rs544 : RsCode := { width := 10, poly := 0x409, len := 544, t := 15 }

/-- A field element times α. -/
def RsCode.double (r : RsCode) (a : Nat) : Nat := if 2 * a < 2 ^ r.width then 2 * a else 2 * a ^^^ r.poly

/-- The product of field elements. -/
def RsCode.mul (r : RsCode) (a b : Nat) : Nat :=
  (List.range r.width).foldr (fun i p => r.double p ^^^ (if b.testBit i then a else 0)) 0

/-- A power of a field element. -/
def RsCode.pow (r : RsCode) (a : Nat) : Nat → Nat
  | 0 => 1
  | n + 1 => r.mul (r.pow a n) a

/-- The inverse of a field element: its power 2^w − 2. -/
def RsCode.inv (r : RsCode) (a : Nat) : Nat :=
  (List.range (r.width - 1)).foldl (fun p _ => let q := r.mul p a; r.mul q q) 1

/-- The powers of α from α^0. -/
def RsCode.alphas (r : RsCode) : Nat → Nat → List Nat
  | 0, _ => []
  | n + 1, a => a :: r.alphas n (r.double a)

/-- A polynomial, lowest coefficient first, at x. -/
def RsCode.eval (r : RsCode) (p : List Nat) (x : Nat) : Nat := p.foldr (fun c v => r.mul v x ^^^ c) 0

/-- The 2t syndromes of a word whose first symbol is the highest coefficient. -/
def RsCode.syndromes (r : RsCode) (w : List Nat) : List Nat := (r.alphas (2 * r.t) 1).map (r.eval w.reverse)

/-- Sum of polynomials, the second times `k` and shifted by `m`. -/
def RsCode.addScaled (r : RsCode) (p q : List Nat) (k m : Nat) : List Nat :=
  let q := List.replicate m 0 ++ q.map (r.mul k)
  (List.range (max p.length q.length)).map fun i => p.getD i 0 ^^^ q.getD i 0

/-- The search for the error locator: locator, the one before the last change of length with its discrepancy, the
length, and the steps since that change. -/
structure Locator where
  cur : List Nat := [1]
  old : List Nat := [1]
  oldDisc : Nat := 1
  len : Nat := 0
  gap : Nat := 1
  deriving DecidableEq, Repr

/-- Syndrome number n in the search. -/
def Locator.step (r : RsCode) (syn : List Nat) (l : Locator) (n : Nat) : Locator :=
  let d := (List.range (l.len + 1)).foldl (fun v i => v ^^^ r.mul (l.cur.getD i 0) (syn.getD (n - i) 0)) 0
  if d = 0 then { l with gap := l.gap + 1 }
  else
    let next := r.addScaled l.cur l.old (r.mul d (r.inv l.oldDisc)) l.gap
    if 2 * l.len ≤ n then { cur := next, old := l.cur, oldDisc := d, len := n + 1 - l.len, gap := 1 }
    else { l with cur := next, gap := l.gap + 1 }

/-- The error locator of a word with these syndromes. -/
def RsCode.locator (r : RsCode) (syn : List Nat) : Locator := (List.range (2 * r.t)).foldl (Locator.step r syn) {}

/-- The error at the coefficient whose power of α is x, with the locator and the evaluator. -/
def RsCode.errorAt (r : RsCode) (loc omega : List Nat) (x : Nat) : Nat :=
  let y := r.inv x
  let deriv := (List.range loc.length).foldl (fun v i =>
    if i % 2 = 1 then v ^^^ r.mul (loc.getD i 0) (r.pow y (i - 1)) else v) 0
  r.mul (r.mul x (r.eval omega y)) (r.inv deriv)

/-- A received codeword: the corrected word with the number of symbols corrected, or none where it has more errors than
the code corrects. -/
def RsCode.decode (r : RsCode) (w : List Nat) : Option (List Nat × Nat) :=
  let syn := r.syndromes w
  if syn.all (· == 0) then some (w, 0)
  else
    let l := r.locator syn
    let xs := (r.alphas r.len 1).reverse
    let hits := xs.filter fun x => r.eval l.cur (r.inv x) == 0
    if l.len > r.t ∨ hits.length ≠ l.len then none
    else
      let omega := ((List.range (2 * r.t)).map fun k =>
        (List.range (k + 1)).foldl (fun v i => v ^^^ r.mul (l.cur.getD i 0) (syn.getD (k - i) 0)) 0)
      some (List.zipWith (fun a x => if hits.contains x then a ^^^ r.errorAt l.cur omega x else a) w xs, l.len)

/-- The generator polynomial, highest coefficient first, without its leading 1. -/
def RsCode.generator (r : RsCode) : List Nat :=
  ((r.alphas (2 * r.t) 1).foldl (fun g a => r.addScaled (0 :: g) g a 0) [1]).reverse.drop 1

/-- One information symbol into the division by the generator. -/
def RsCode.divStep (r : RsCode) (gen rem : List Nat) (x : Nat) : List Nat :=
  let k := rem.headD 0 ^^^ x
  List.zipWith (fun a b => a ^^^ r.mul k b) (rem.drop 1 ++ [0]) gen

/-- The check symbols of an information word. -/
def RsCode.check (r : RsCode) (info : List Nat) : List Nat :=
  info.foldl (r.divStep r.generator) (List.replicate (2 * r.t) 0)

end Sys2Proof.Machine
end

