-- ==== Sys2Proof/Machine/LineFrame.lean ====
section
/-!
DEFINITION. The stages between a line and its overhead (R104, R105): the frame-synchronous scramblers, GFEC over the
rows of an OTU frame, the logical lanes of OTL, a whole frame with its overhead positions (R112, R113), and its parity (R115,
R129).
-/
namespace Sys2Proof.Machine

/-! ### Scramblers -/

/-- The first n bytes of a scrambler whose register of the largest exponent starts at all ones. -/
def scrBytes (exps : List Nat) (n : Nat) : List Byte :=
  let ones := List.replicate (exps.headD 1) true
  (pieces 8 n (ones ++ prbsSeq exps (8 * n) ones)).map byteOf

/-- Bytes scrambled, or descrambled, after the first k. -/
def scramble (exps : List Nat) (k : Nat) (l : List Byte) : List Byte :=
  l.take k ++ List.zipWith (· ^^^ ·) (l.drop k) (scrBytes exps (l.length - k))

/-- The scrambler of a line, 1 + x^6 + x^7 of SDH after the first row of the section overhead, 1 + x + x^3 + x^12 + x^16
of OTN after the FAS. -/
def lineScramble (code : Nat) (l : List Byte) : List Byte :=
  if isSdh code then scramble [7, 6] (9 * stmN code) l else scramble [16, 12, 3, 1] 6 l

/-! ### GFEC -/

/-- Codeword k of a row: every sixteenth symbol. The FAS lies outside the protection and counts as zeros (R105). -/
def rowWord (row : Nat) (l : List Byte) (k : Nat) : List Nat :=
  (List.range (l.length / 16)).map fun i =>
    if row = 0 ∧ 16 * i + k < 6 then 0 else (l.getD (16 * i + k) 0).toNat

/-- A row of 4,080 bytes after decoding, with the symbols corrected and the codewords that cannot be. -/
def gfecRow (row : Nat) (l : List Byte) : List Byte × Nat × Nat :=
  let words := (List.range 16).map fun k => let w := rowWord row l k; ((gfec.decode w).getD (w, 0), (gfec.decode w).isNone)
  ((List.range l.length).map fun i =>
      if row = 0 ∧ i < 6 then l.getD i 0
      else BitVec.ofNat 8 (((words[i % 16]?).map fun w => w.1.1.getD (i / 16) 0).getD 0),
    words.foldl (fun n w => n + w.1.2) 0, words.countP (·.2))

/-- The 3,824 bytes of a row with the 256 of its parity. -/
def gfecAdd (row : Nat) (l : List Byte) : List Byte :=
  let checks := (List.range 16).map fun k => gfec.check (rowWord row l k)
  l ++ (List.range 256).map fun i => BitVec.ofNat 8 (((checks[i % 16]?).getD []).getD (i / 16) 0)

/-! ### The logical lanes of OTL4.4 and OTL4.2 -/

/-- The number that a lane's marker gives: the byte after the first five of its alignment word; none where the lane does
not hold the alignment word of this frame. -/
def laneMarker (l : List Byte) : Option Nat :=
  if l.take 5 = [0xF6, 0xF6, 0xF6, 0x28, 0x28] then (l[5]?).map BitVec.toNat else none

/-- The frame that twenty logical lanes in their order carry: 16 bytes of each in turn, beginning with the lane of the
marker (PRESUMED, notes/assumptions/163.md). -/
def otlJoin (l : List Byte) : List Byte :=
  let lanes := pieces 816 20 l
  let m := ((lanes.filterMap laneMarker).headD 0) % 20
  (List.range 1020).flatMap fun g => (((lanes[(g + m) % 20]?).getD []).drop (16 * (g / 20))).take 16

/-- The twenty logical lanes of frame m, one after the other. -/
def otlSplit (m : Nat) (l : List Byte) : List Byte :=
  (List.range 20).flatMap fun k => (List.range 51).flatMap fun j => (l.drop (16 * (20 * j + (k + 20 - m % 20) % 20))).take 16

/-! ### A frame and its overhead -/

/-- A byte of a list of index and byte. -/
def byteFor (l : List (Nat × Byte)) (i : Nat) : Option Byte := (l.find? fun e => e.1 == i).map Prod.snd

/-- The first index of a tandem connection level. -/
def tcmAt (lvl : Nat) : Nat := if lvl ≥ 4 then 20 + 3 * (6 - lvl) else 32 + 3 * (3 - lvl)

/-- The 64 overhead bytes of an OTU frame of 4,080 bytes a row. -/
def otnOverhead (l : List Byte) : List (Nat × Byte) :=
  (List.range 64).map fun i => (i, l.getD (i / 16 * 4080 + i % 16) 0)

/-- Index of M1 in the section overhead of STM-1 number v + 1 (PRESUMED, notes/assumptions/156.md). -/
def isM1 (n i v : Nat) : Bool := if n = 1 then i == 77 else i == 75 && v == 2

/-- The section overhead of STM-1 number 1 of an STM-N frame, M1, and the B2 bytes at 704 onwards (R112, R127). -/
def sdhOverhead (n : Nat) (l : List Byte) : List (Nat × Byte) :=
  let at_ (i v : Nat) : Byte := l.getD (i / 9 * 270 * n + i % 9 * n + v) 0
  (List.range 81).map (fun i => (i, at_ i 0)) ++ [(81, if n = 1 then at_ 77 0 else at_ 75 2)]
    ++ (List.range (3 * n)).map fun k => (704 + k, at_ (36 + k % 3) (k / 3))

/-- An STM-N frame from its section overhead and its payload area, row by row. -/
def sdhFrame (n : Nat) (soh area : List Byte) : List Byte :=
  (List.range 9).flatMap fun r => (soh.drop (9 * n * r)).take (9 * n) ++ (area.drop (261 * n * r)).take (261 * n)

/-- An OTU frame from its overhead and its payload area, with GFEC. -/
def otnFrame (oh area : List Byte) : List Byte :=
  (List.range 4).flatMap fun r => gfecAdd r ((oh.drop (16 * r)).take 16 ++ (area.drop (3808 * r)).take 3808)

/-! ### Parity (R115, R129) -/

/-- The exclusive or of bytes. -/
def xorAll (l : List Byte) : Byte := l.foldl (· ^^^ ·) 0

/-- The exclusive or of the bytes of each class modulo m. -/
def xorClasses (m : Nat) (l : List Byte) : List Byte :=
  (pieces m l.length l).foldl (List.zipWith (· ^^^ ·)) (List.replicate m 0)

/-- Violations of a BIP-8: the bits in which two bytes differ. -/
def bipErrs (a b : Byte) : Nat := popcount 8 (a ^^^ b).toNat

/-- What the next STM-N frame should carry: in B1 the parity of the frame as scrambled, in B2 that of the rest of the
frame beside the first three rows of its section overhead. -/
def sdhParity (n : Nat) (raw l : List Byte) : List Byte :=
  xorAll raw :: xorClasses (3 * n) ((List.range 9).flatMap fun r =>
    ((l.drop (270 * n * r)).take (270 * n)).drop (if r < 3 then 9 * n else 0))

/-- The violations that an STM-N frame shows of the parity of the frame before it: of B2 on a line, of B1 otherwise. -/
def sdhErrs (n : Nat) (line : Bool) (was l : List Byte) : Nat :=
  match was with
  | [] => 0
  | b1 :: b2 =>
    if line then ((List.range (3 * n)).map fun k => bipErrs (b2.getD k 0) (l.getD (1080 * n + k) 0)).sum
    else bipErrs b1 (l.getD (270 * n) 0)

/-- The parity of the OPU in an OTU frame, which the BIP-8s of the second frame after it should carry. -/
def opuParity (l : List Byte) : List Byte := [xorAll ((List.range 4).flatMap fun r => (l.drop (4080 * r + 14)).take 3810)]

/-! ### Received and sent frames -/

/-- What a line delivers as a whole frame, and the overhead that it holds: lanes joined, descrambled, corrected (R104);
its violations of the parities `was` of the frames before it, newest first, and those parities with its own. -/
def lineFrame (code : Nat) (line : Bool) (was : List (List Byte)) (f : RxFrame) : RxFrame × List (List Byte) :=
  if f.raw.isEmpty then (f, [])
  else if isSdh code then
    let n := stmN code
    let l := lineScramble code f.raw
    ({ f with oh := sdhOverhead n l ++ f.oh, bip := sdhErrs n line (was.headD []) l }, [sdhParity n f.raw l])
  else
    let rows := pieces 4080 4 (lineScramble code (if code = 0x12 ∨ code = 0x13 then otlJoin f.raw else f.raw))
    let dec := (List.range 4).map fun r => gfecRow r ((rows[r]?).getD [])
    let l := dec.flatMap (·.1)
    let oh := otnOverhead l
    let errs (i : Nat) : Nat := ((was[1]?).getD []).foldl (fun n b => n + bipErrs b ((byteFor oh i).getD 0)) 0
    ({ f with oh := oh
              corr := dec.foldl (fun n d => n + d.2.1) 0, uncorr := dec.foldl (fun n d => n + d.2.2) 0
              bip := errs 8, bipPath := errs 42
              bipTcm := ((List.range 7).drop 1).map fun lvl => (lvl, errs (tcmAt lvl + 1)) },
      opuParity l :: was.take 1)

/-- A frame that comes while the channel is out of frame, with the overhead that lies at the positions of the held
alignment: descrambled, not corrected (R105, R128) (DESIGN CHOICE, notes/assumptions/180.md). -/
def looseFrame (code : Nat) (f : RxFrame) : RxFrame :=
  if f.raw.isEmpty then f
  else if isSdh code then { f with oh := sdhOverhead (stmN code) (lineScramble code f.raw) ++ f.oh }
  else { f with oh := otnOverhead (lineScramble code (if code = 0x12 ∨ code = 0x13 then otlJoin f.raw else f.raw)) ++ f.oh }

/-- Frame number `count` as the line takes it: GFEC, scrambling and lanes in the reverse order (R104). -/
def lineOut (code count : Nat) (oh area : List Byte) : List Byte :=
  if isSdh code then lineScramble code (sdhFrame (stmN code) oh area)
  else
    let l := lineScramble code (otnFrame oh area)
    if code = 0x12 ∨ code = 0x13 then otlSplit count (l.set 5 (BitVec.ofNat 8 (count % 240))) else l

end Sys2Proof.Machine
end

