-- ==== Sys2Proof/Machine/Coding.lean ====
section
/-!
DEFINITION. The line codes of Ethernet clients that a container carries bit by bit (R52, R107, R131, R147 to R149):
8b/10b with its transcoding into superblocks, 64b/66b with its scrambler, alignment markers and their parity, and the
transcoding to and from 257-bit blocks around RS-FEC. A word is the list of its bits in the order sent. Code tables,
marker values and bit places are those of IEEE 802.3 and G.7041 (PRESUMED, notes/assumptions/164.md).
-/
namespace Sys2Proof.Machine

/-! ### 8b/10b (R147). A character is a byte, 256 + k for control character k of 0 to 11, or 268 for an error -/

/-- The six-bit codes of the low five bits at negative disparity, first bit most significant (PRESUMED,
notes/assumptions/164.md). -/
def sixBit : List Nat :=
  [0x27, 0x1D, 0x2D, 0x31, 0x35, 0x29, 0x19, 0x38, 0x39, 0x25, 0x15, 0x34, 0x0D, 0x2C, 0x1C, 0x17,
    0x1B, 0x23, 0x13, 0x32, 0x0B, 0x2A, 0x1A, 0x3A, 0x33, 0x26, 0x16, 0x36, 0x0E, 0x2E, 0x1E, 0x2B]

/-- The four-bit codes of the high three bits at negative disparity. -/
def fourBit : List Nat := [0xB, 0x9, 0x5, 0xC, 0xD, 0xA, 0x6, 0xE]

/-- The control code-groups at negative disparity: K28.0 to K28.7, K23.7, K27.7, K29.7, K30.7 (PRESUMED,
notes/assumptions/164.md). -/
def controlTen : List Nat := [0x0F4, 0x0F9, 0x0F5, 0x0F3, 0x0F2, 0x0FA, 0x0F6, 0x0F8, 0x3A8, 0x368, 0x2E8, 0x1E8]

/-- The code-group of a character at a disparity, `pos` positive; an error is sent as one that no character has. -/
def tenOf (pos : Bool) (ch : Nat) : Nat :=
  if ch < 256 then
    let x := ch % 32
    let y := ch / 32
    let a := sixBit.getD x 0
    let flip6 := popcount 6 a != 3
    let a := if pos && (flip6 || x == 7) then 0x3F ^^^ a else a
    let p := pos != flip6
    let alt := y == 7 && (if p then x == 11 || x == 13 || x == 14 else x == 17 || x == 18 || x == 20)
    let b := if alt then 0x7 else fourBit.getD y 0
    let b := if p && (popcount 4 b != 2 || y == 3) then 0xF ^^^ b else b
    a * 16 + b
  else
    let w := controlTen.getD (ch - 256) 0x0F1
    if pos then 0x3FF ^^^ w else w

/-- The running disparity after a code-group. -/
def disparity (pos : Bool) (g : Nat) : Bool := if popcount 10 g > 5 then true else if popcount 10 g < 5 then false else pos

/-- The character of a received code-group at a running disparity. -/
def charOf (pos : Bool) (g : Nat) : Nat := ((List.range 268).find? fun ch => tenOf pos ch == g).getD 268

/-- A number from bits, the first most significant. -/
def msbNat (l : List Bool) : Nat := l.foldl (fun v b => 2 * v + b2n b) 0

/-- The n bits of a number, most significant first. -/
def msbBits (v n : Nat) : List Bool := (lowBits v n).reverse

/-- Characters of code-groups, with the running disparity they leave. -/
def charsOf (pos : Bool) : List (List Bool) → List Nat × Bool
  | [] => ([], pos)
  | g :: r => let n := msbNat g; let z := charsOf (disparity pos n) r; (charOf pos n :: z.1, z.2)

/-- Code-groups of characters, with the running disparity they leave. -/
def groupsOf (pos : Bool) : List Nat → List (List Bool) × Bool
  | [] => ([], pos)
  | ch :: r => let n := tenOf pos ch; let z := groupsOf (disparity pos n) r; (msbBits n 10 :: z.1, z.2)

/-! ### 65-bit blocks and 536-bit superblocks (R147) -/

/-- The control octets of a block's control characters, each with its place: whether another follows, the place, the
code; 12 stands for an error. -/
def controlOctets : List (Nat × Nat) → List Nat
  | [] => []
  | [(i, ch)] => [i * 16 + (ch - 256)]
  | (i, ch) :: r => (128 + i * 16 + (ch - 256)) :: controlOctets r

/-- Eight characters as a flag and eight octets: control octets first, then the data. -/
def blockOf (l : List Nat) : Bool × List Nat :=
  let z := (List.range l.length).zip l
  let ctl := z.filter fun e => 256 ≤ e.2
  (!ctl.isEmpty, controlOctets ctl ++ (z.filter fun e => e.2 < 256).map Prod.snd)

/-- The places and codes that leading control octets give, with the octets behind them. -/
def controlsOf : Nat → List Nat → List (Nat × Nat) × List Nat
  | 0, l => ([], l)
  | _ + 1, [] => ([], [])
  | n + 1, x :: r =>
    let e := (x / 16 % 8, 256 + min 12 (x % 16))
    if x ≥ 128 then let z := controlsOf n r; (e :: z.1, z.2) else ([e], r)

/-- Data octets into the places that no control character has. -/
def placeChars (ctl : List (Nat × Nat)) : List Nat → List Nat → List Nat
  | [], _ => []
  | i :: is, data =>
    match ctl.find? fun e => e.1 == i with
    | some e => e.2 :: placeChars ctl is data
    | none => data.headD 0 :: placeChars ctl is (data.drop 1)

/-- The eight characters of a block; where the superblock is bad, every control character is an error. -/
def blockChars (bad flag : Bool) (l : List Nat) : List Nat :=
  if flag then
    let z := controlsOf 8 l
    placeChars (if bad then z.1.map fun e => (e.1, 268) else z.1) (List.range 8) z.2
  else l

/-- The CRC-16 of a superblock (PRESUMED, notes/assumptions/164.md). -/
def algSuper : CrcAlg := { width := 16, refin := false, refout := false, poly := 0x941F, init := 0, xorout := 0 }

/-- Sixty-four characters as a superblock: the octets of eight blocks, their flags, the CRC-16. -/
def superblock (l : List Nat) : List Bool :=
  let bs := (pieces 8 8 l).map blockOf
  let body := (bs.flatMap Prod.snd).map (BitVec.ofNat 8 ·) ++ [byteOf (bs.map Prod.fst)]
  body.flatMap bitsMsb ++ msbBits (algSuper.run body) 16

/-- The characters of a superblock. -/
def superChars (l : List Bool) : List Nat :=
  let b := (pieces 8 65 (l.take 520)).map byteOf
  let bad := algSuper.run b != msbNat (l.drop 520)
  let flags := bitsMsb (b.getD 64 0)
  (List.range 8).flatMap fun k => blockChars bad (flags.getD k false) (((b.drop (8 * k)).take 8).map BitVec.toNat)

/-! ### Self-synchronous scramblers: x^58 + x^39 + 1 of 64b/66b, x^43 + 1 of GFP (R149, R150) -/

/-- Scramble bits; the history is what was sent, newest first. -/
def selfScr (exps : List Nat) (h : List Bool) : List Bool → List Bool × List Bool
  | [] => ([], h)
  | x :: r =>
    let y := x != prbsNext exps h
    let z := selfScr exps ((y :: h).take (exps.headD 1)) r
    (y :: z.1, z.2)

/-- Descramble bits; the history is what was received, newest first. -/
def selfDescr (exps : List Nat) (h : List Bool) : List Bool → List Bool × List Bool
  | [] => ([], h)
  | y :: r =>
    let z := selfDescr exps ((y :: h).take (exps.headD 1)) r
    ((y != prbsNext exps h) :: z.1, z.2)

/-- The scrambler of 64b/66b. -/
def scr58 : List Nat := [58, 39]

/-- The control block that replaces a bad one: type 0x1E and eight error codes. -/
def errorBlock : List Bool := [true, false] ++ lowBits 0x1E 8 ++ (List.replicate 8 (lowBits 0x1E 7)).flatten

/-- One received block: descrambled, or the error block where its sync header is invalid. -/
def blockIn (h : List Bool) (l : List Bool) : List Bool × List Bool :=
  let z := selfDescr scr58 h (l.drop 2)
  (if l.headD false == (l.getD 1 false) then errorBlock else l.take 2 ++ z.1, z.2)

/-- One block as it is sent. -/
def blockOut (h : List Bool) (l : List Bool) : List Bool × List Bool :=
  let z := selfScr scr58 h (l.drop 2)
  (l.take 2 ++ z.1, z.2)

/-! ### Alignment markers (R131) -/

/-- The first three bytes of the markers of the twenty PCS lanes of 100GBASE-R (PRESUMED, notes/assumptions/164.md). -/
def markers100 : List Nat :=
  [0xC16821, 0x9D718E, 0x594BE8, 0x4D957B, 0xF50709, 0xDD14C2, 0x9A4A26, 0x7B4566, 0xA02476, 0x68C9FB,
    0xFD6C99, 0xB99155, 0x5CB9B2, 0x1AF8BD, 0x83C7CA, 0x3536CD, 0xC4314C, 0xADD6B7, 0x5F662A, 0xC0F0E5]

/-- Blocks between markers on one lane. -/
def markerGap : Nat := 16384

/-- The parity that a block adds to its lane. -/
def blockBip (l : List Bool) : Byte :=
  ((pieces 8 8 (l.drop 2)).map fun b => byteOf b.reverse).foldl (· ^^^ ·)
    (BitVec.ofNat 8 (8 * b2n (l.headD false) + 16 * b2n (l.getD 1 false)))

/-- The bits of the first three bytes of a marker. -/
def markerHead (m : Nat) : List Bool := [m / 65536, m / 256, m].flatMap fun b => lowBits (b % 256) 8

/-- A marker with its parity. -/
def markerBlock (m : Nat) (bip : Byte) : List Bool :=
  let b : List Byte := [m / 65536, m / 256, m, bip.toNat].map (BitVec.ofNat 8 ·)
  [true, false] ++ ((b ++ b.map (255 - ·) : List Byte).flatMap fun x => lowBits x.toNat 8)

/-- What lies at the places of a row, by the number of the lane at each place; no order is known where the list is
empty. -/
def byOrder {α : Type} (order : List Nat) (row : List α) : List α :=
  if order.isEmpty then row else (List.range row.length).filterMap fun k => row[order.findIdx (· == k)]?

/-- The number of the lane at each place, where a marker of every lane is found; otherwise what was known. -/
def newOrder (was : List Nat) (n : Nat) (ids : List Nat) : List Nat :=
  if ids.length = n ∧ ids.eraseDups.length = n then ids else was

/-- One received block of PCS lane `e.1`: a marker is removed and its parity checked, another block is descrambled. -/
def laneBlockIn (mark : Bool) (a : Coded × List (List Bool) × Nat) (e : Nat × List Bool) : Coded × List (List Bool) × Nat :=
  let k := a.1
  let was := Store.get none k.bipIn e.1
  if mark then
    let bad : Bool := match was with
      | some b => b != byteOf (((e.2.drop 26).take 8).reverse)
      | none => false
    ({ k with bipIn := Store.set none k.bipIn e.1 (some (blockBip e.2)) }, a.2.1, a.2.2 + b2n bad)
  else
    let z := blockIn k.scrIn e.2
    ({ k with scrIn := z.2, bipIn := Store.set none k.bipIn e.1 (was.map (· ^^^ blockBip e.2)) }, a.2.1 ++ [z.1],
      a.2.2 + b2n (e.2.headD false == e.2.getD 1 false))

/-- One block of each of the twenty PCS lanes of the four-lane stream, as they lie at their places: a row of markers
says which lane is where. The blocks that go on in the order of the lanes, and the errors. -/
def fourLaneIn (k : Coded) (row : List (List Bool)) : Coded × List (List Bool) × Nat :=
  let mark := k.posIn % markerGap = 0
  let ids := row.filterMap fun l => markers100.findIdx? fun m => (l.drop 2).take 24 == markerHead m
  let order := if mark then newOrder k.order 20 ids else k.order
  ((List.range 20).zip (byOrder order row)).foldl (laneBlockIn mark)
    ({ k with posIn := k.posIn + 1, order := order }, [], 0)

/-- One block of PCS lane i as it is sent, with the parity of the lane. -/
def laneBlockOut (a : Coded × List (List Bool)) (e : Nat × List Bool) : Coded × List (List Bool) :=
  let z := blockOut a.1.scrOut e.2
  let bip := (Store.get none a.1.bipOut e.1).getD 0 ^^^ blockBip z.1
  ({ a.1 with scrOut := z.2, bipOut := Store.set none a.1.bipOut e.1 (some bip) }, a.2 ++ [z.1])

/-- The markers of a client with the parity of their lanes, which starts anew with them. -/
def markerRow (k : Coded) (marks : List (Nat × Nat)) : Coded × List (List Bool) :=
  let ms := marks.map fun e => (e.1, markerBlock e.2 ((Store.get none k.bipOut e.1).getD 0))
  ({ k with bipOut := ms.foldl (fun b e => Store.set none b e.1 (some (blockBip e.2))) k.bipOut }, ms.map Prod.snd)

/-- The twenty lanes of 100GBASE-R with their markers. -/
def marks100 : List (Nat × Nat) := (List.range 20).zip markers100

/-- One block of each of the twenty PCS lanes as they are sent, behind the markers where they are due. -/
def fourLaneOut (k : Coded) (row : List (List Bool)) : Coded × List (List Bool) :=
  let due := k.posOut % markerGap = 0
  let m := if due then markerRow k marks100 else (k, [])
  ((List.range 20).zip row).foldl laneBlockOut ({ m.1 with posOut := k.posOut + (if due then 2 else 1) }, m.2)

/-! ### 257-bit blocks and RS-FEC (R107, R149) -/

/-- The block types; the first nibble sent, the low one, tells them apart (PRESUMED, notes/assumptions/164.md). -/
def blockTypes : List Nat := [0x1E, 0x2D, 0x33, 0x4B, 0x55, 0x66, 0x78, 0x87, 0x99, 0xAA, 0xB4, 0xCC, 0xD2, 0xE1, 0xFF]

/-- The second nibble of the block type with a first nibble. -/
def secondNibble (n : Nat) : Nat := ((blockTypes.find? fun t => t % 16 == n).getD 0) / 16

/-- The five leading bits of a 257-bit block, which bits 8 to 12 mask (PRESUMED, notes/assumptions/164.md). -/
def maskHead (l : List Bool) : List Bool := List.zipWith (· != ·) (l.take 5) ((l.drop 8).take 5) ++ l.drop 5

/-- The payloads of the four blocks of a 257-bit block: the first control block lacks its second type nibble. -/
def split257 (h : List Bool) (seen : Bool) : List Bool → List Bool → List (List Bool) × List Bool
  | [], _ => ([], h)
  | d :: ds, l =>
    if d || seen then
      let z := selfDescr scr58 h (l.take 64)
      let r := split257 z.2 (seen || !d) ds (l.drop 64)
      (([!d, d] ++ z.1) :: r.1, r.2)
    else
      let a := selfDescr scr58 h (l.take 4)
      let t := lowBits (secondNibble (byteOf (a.1.reverse)).toNat) 4
      let b := selfScr scr58 a.2 t
      let z := selfDescr scr58 b.2 ((l.drop 4).take 56)
      let r := split257 z.2 true ds (l.drop 60)
      (([true, false] ++ a.1 ++ t ++ z.1) :: r.1, r.2)

/-- A received 257-bit block as four descrambled 66-bit blocks. -/
def in257 (h : List Bool) (l : List Bool) : List (List Bool) × List Bool :=
  let x := maskHead l
  if x.headD false then split257 h false [true, true, true, true] (x.drop 1)
  else split257 h false ((x.drop 1).take 4) (x.drop 5)

/-- Four scrambled blocks as a 257-bit block. -/
def out257 (bs : List (List Bool)) : List Bool :=
  let z := bs.flatMap (·.drop 2)
  let flags := bs.map fun b => b.getD 1 false
  let x := if flags.all id then true :: z
    else
      let i := flags.findIdx (!·)
      false :: flags ++ z.take (64 * i + 4) ++ z.drop (64 * i + 8)
  maskHead x

/-- The RS-FEC of a client: its code, its FEC lanes, the leading bytes of its markers, the 257-bit blocks from markers
to markers, and whether the markers carry parity. -/
structure FecKind where
  rs : RsCode
  lanes : Nat
  marks : List Nat
  gap : Nat
  bip : Bool := true
  deriving DecidableEq, Repr

/-- The markers of a client of four PCS lanes (PRESUMED, notes/assumptions/164.md). -/
def markers4 (first : Nat) : List Nat := [first, 0xF0C4E6, 0xC5659B, 0xA2793D]

/-- The RS-FEC that a client uses, `on` where CH_MODE asks 25GBASE-R for it (R52) (PRESUMED, notes/assumptions/164.md).
-/
def fecOf (code : Nat) (on : Bool) : Option FecKind :=
  if code = 0x25 then some { rs := rs544, lanes := 4, marks := markers100, gap := 5 * markerGap }
  else if code = 0x23 then some { rs := rs544, lanes := 2, marks := markers4 0x907647, gap := 20480 }
  else if code = 0x22 ∧ on then some { rs := rs528, lanes := 1, marks := markers4 0xC16821, gap := 20480, bip := false }
  else none

/-- The 257-bit blocks that the markers fill. -/
def FecKind.markLen (f : FecKind) : Nat := f.marks.length / 4

/-- The symbols of a codeword from bits, and back. -/
def symbolsOf (l : List Bool) : List Nat := (pieces 10 l.length l).map fun b => msbNat b.reverse

/-- The leading bytes of marker i where the FEC carries it: the first of every FEC lane, and of twenty the last four,
are alike (PRESUMED, notes/assumptions/164.md). -/
def FecKind.markOf (f : FecKind) (i : Nat) : Nat :=
  f.marks.getD (if i < f.lanes then 0 else if i ≥ 16 then 16 else i) 0

/-- The markers as 257-bit blocks: every FEC lane carries whole markers in turn, its symbols those of the lanes in turn.
-/
def FecKind.markBlocks (f : FecKind) (ms : List (List Bool)) : List (List Bool) :=
  let per := (deal f.lanes (ms.map (·.drop 2))).map List.flatten
  let whole := inTurn (per.headD []).length (per.map fun l => pieces 10 l.length l)
  let rest := per.flatMap fun l => l.drop (l.length / 10 * 10)
  pieces 257 f.markLen (whole.flatten ++ rest ++ List.replicate 5 false)

/-- The number of the FEC lane at each place of a codeword that begins with the markers, by its second one. -/
def FecKind.order (f : FecKind) (was : List Nat) (w : List (List Bool)) : List Nat :=
  let ids := (deal f.lanes w).filterMap fun l =>
    (List.range f.lanes).find? fun i => (l.flatten.drop 64).take 24 == markerHead (f.markOf (f.lanes + i))
  newOrder was f.lanes ids

/-- One received codeword as ten-bit words at the places of the FEC lanes: the 66-bit blocks of its twenty 257-bit
blocks, markers left out, with the symbols corrected and whether it could not be. -/
def FecKind.in_ (f : FecKind) (k : Coded) (w : List (List Bool)) : Coded × List (List Bool) × Nat × Bool :=
  let order := if k.posIn % f.gap = 0 then f.order k.order w else k.order
  let w := ((pieces f.lanes w.length w).flatMap (byOrder order)).map fun b => msbNat b.reverse
  let z := f.rs.decode w
  let blocks := pieces 257 20 ((((z.map Prod.fst).getD w).take 514).flatMap fun v => lowBits v 10)
  let r := blocks.foldl (fun (a : Coded × List (List Bool)) b =>
    let n := a.1.posIn % f.gap
    let c := { a.1 with posIn := a.1.posIn + 1 }
    if n < f.markLen then (c, a.2)
    else let x := in257 c.scrIn b; ({ c with scrIn := x.2 }, a.2 ++ x.1)) ({ k with order := order }, [])
  (r.1, if z.isNone then r.2.map fun _ => errorBlock else r.2, (z.map Prod.snd).getD 0, z.isNone)

/-- The markers where they are due, with parity, or with the fixed bytes of codeword markers
(PRESUMED, notes/assumptions/164.md). -/
def FecKind.due (f : FecKind) (k : Coded) : Coded × List (List Bool) :=
  if k.posOut % f.gap = 0 then
    let marks := (List.range f.marks.length).map fun i => (i, f.markOf i)
    let m := if f.bip then markerRow k marks else (k, marks.map fun e => markerBlock e.2 0x33)
    ({ m.1 with posOut := k.posOut + f.markLen }, f.markBlocks m.2)
  else (k, [])

/-- Four blocks into the RS-FEC transmitter: the 257-bit blocks wait until twenty fill a codeword. -/
def FecKind.out (f : FecKind) (k : Coded) (bs : List (List Bool)) : Coded × List (List Bool) :=
  let m := f.due k
  let lanes := (List.range 4).map fun j => (4 * m.1.posOut + j) % f.marks.length
  let x := (lanes.zip bs).foldl laneBlockOut (m.1, [])
  let all := k.waitOut ++ m.2 ++ [out257 x.2]
  let k := { x.1 with posOut := m.1.posOut + 1, waitOut := all }
  if all.length < 20 then (k, [])
  else
    let info := symbolsOf (all.take 20).flatten
    ({ k with waitOut := all.drop 20 }, (info ++ f.rs.check info).map fun v => lowBits v 10)

/-! ### The stream of a client (R147, R149) -/

/-- What a client's receiver took: the words that its mapper carries, with block errors, corrected symbols and codewords
that could not be. -/
structure CodedIn where
  coded : Coded
  blocks : Nat := 0
  corr : Nat := 0
  unc : Nat := 0
  deriving DecidableEq, Repr

/-- The length of the words that the lanes of an Ethernet client carry: code-groups or symbols of RS-FEC, or 66-bit
blocks. -/
def wordLen (code : Nat) (fec : Bool) : Nat := if code = 0x20 || (fecOf code fec).isSome then 10 else 66

/-- Words received on a client's lanes, by CLIENT and its RS-FEC: code-groups, 66-bit blocks, or the symbols of RS-FEC,
in whole codewords; of several lanes one word of each place in turn. -/
def codedIn (code : Nat) (fec : Bool) (k : Coded) (l : List (List Bool)) : CodedIn :=
  if code = 0x20 then
    let z := charsOf k.dispIn l
    let all := k.waitIn ++ z.1
    let n := all.length / 64
    { coded := { k with dispIn := z.2, waitIn := all.drop (64 * n), up := (pieces 64 n all).map superblock }
      blocks := z.1.countP (· == 268) }
  else if code = 0x24 then
    let all := k.rowIn ++ l
    let n := all.length / 20
    (pieces 20 n all).foldl (fun a row =>
      let z := fourLaneIn a.coded row
      { a with coded := { z.1 with up := z.1.up ++ z.2.1 }, blocks := a.blocks + z.2.2 })
      { coded := { k with up := [], rowIn := all.drop (20 * n) } }
  else match fecOf code fec with
  | some f =>
    let all := k.rowIn ++ l
    let n := all.length / f.rs.len
    (pieces f.rs.len n all).foldl (fun a w =>
      let z := f.in_ a.coded w
      { coded := { z.1 with up := z.1.up ++ z.2.1 }, blocks := a.blocks, corr := a.corr + z.2.2.1
        unc := a.unc + b2n z.2.2.2 }) { coded := { k with up := [], rowIn := all.drop (f.rs.len * n) } }
  | none =>
    l.foldl (fun a b =>
      let z := blockIn a.coded.scrIn b
      { a with coded := { a.coded with scrIn := z.2, up := a.coded.up ++ [z.1] }
               blocks := a.blocks + b2n (b.headD false == b.getD 1 false) }) { coded := { k with up := [] } }

/-- Words as a client's lanes send them; blocks that do not fill a row of the lanes, or a 257-bit block, wait. -/
def codedOut (code : Nat) (fec : Bool) (k : Coded) (l : List (List Bool)) : Coded :=
  if code = 0x20 then
    let z := groupsOf k.dispOut (l.flatMap superChars)
    { k with dispOut := z.2, down := z.1 }
  else if code = 0x24 then
    let all := k.waitRow ++ l
    let n := all.length / 20
    (pieces 20 n all).foldl (fun a b => let z := fourLaneOut a b; { z.1 with down := z.1.down ++ z.2 })
      { k with down := [], waitRow := all.drop (20 * n) }
  else match fecOf code fec with
  | some f =>
    let all := k.waitRow ++ l
    let n := all.length / 4
    (pieces 4 n all).foldl (fun a b => let z := f.out a b; { z.1 with down := z.1.down ++ z.2 })
      { k with down := [], waitRow := all.drop (4 * n) }
  | none =>
    l.foldl (fun a b => let z := blockOut a.scrOut b; { a with scrOut := z.2, down := a.down ++ [z.1] }) { k with down := [] }

/-- A block of control characters that are all alike: 0 idles, 6 low-power idle (PRESUMED, notes/assumptions/164.md). -/
def controlBlock (ch : Nat) : List Bool := [true, false] ++ lowBits 0x1E 8 ++ (List.replicate 8 (lowBits ch 7)).flatten

/-- A block of the sequence ordered set of local fault (1) or remote fault (2) with idles (PRESUMED,
notes/assumptions/164.md). -/
def faultBlock (n : Nat) : List Bool :=
  [true, false] ++ lowBits 0x4B 8 ++ lowBits (n * 65536) 24 ++ List.replicate 32 false

/-- The block that a BASE-R transmitter sends in place of its words, by what `Tx.eth` says. -/
def ethBlock (eth : Nat) (b : List Bool) : List Bool :=
  if eth = 0 then b else if eth ≤ 2 then faultBlock eth else controlBlock (if eth = 5 then 6 else 0)

/-- The words sent, dealt to the lanes at their places in whole rounds, with the words that wait. -/
def dealOut (m : Nat) (k : Coded) : Coded × List (List Bool) :=
  let all := k.lineOut ++ k.down
  let n := all.length / m * m
  ({ k with lineOut := all.drop n }, (deal m (all.take n)).map List.flatten)

end Sys2Proof.Machine
end

