-- ==== Sys2Proof/Machine/Mapping.lean ====
section
/-!
DEFINITION. The justification control of containers (R129, R145, R158, R159, R170): GMP with its CRCs, AMP.
-/
namespace Sys2Proof.Machine

/-! ### GMP (R158): Cm of 14 bits in JC1 and JC2, CRC-8 in JC3; CnD in JC4 and JC5, CRC-5 in JC6
(PRESUMED, notes/assumptions/149.md) -/

/-- The bits that an increment or decrement of Cm inverts. -/
def gmpInvert (d : Int) : Nat :=
  if d = 1 then 0x2AAA else if d = -1 then 0x1555 else if d = 2 then 0x1999 else if d = -2 then 0x2666 else 0

/-- The CRC-8 over JC1 and JC2. -/
def algCrc8 : CrcAlg := { width := 8, refin := false, refout := false, poly := 0x0D, init := 0, xorout := 0 }

/-- JC1 to JC3 that announce Cm after the value `was`: a change of one or two is sent as the old value with bits
inverted and an increment or decrement indication, a larger one as the new value with both. -/
def gmpJc (was cm : Nat) : List Byte :=
  let d : Int := (cm : Int) - was
  let small := d = 1 ∨ d = -1 ∨ d = 2 ∨ d = -2
  let c := if small then was % 2 ^ 14 ^^^ gmpInvert d else cm % 2 ^ 14
  let ii := decide (d > 0) || !(decide (small ∨ d = 0))
  let di := decide (d < 0) || !(decide (small ∨ d = 0))
  let jc1 := BitVec.ofNat 8 (c / 64)
  let jc2 := BitVec.ofNat 8 (c % 64 * 4 + b2n ii * 2 + b2n di)
  [jc1, jc2, BitVec.ofNat 8 (algCrc8.run [jc1, jc2])]

/-- Cm from JC1 to JC3 after the value `was`, and whether the CRC-8 holds. Where it fails, the previous value, adjusted
by the indications received with it, is used. -/
def gmpCm (was : Nat) (jc : List Byte) : Nat × Bool :=
  let jc1 := (jc.getD 0 0).toNat
  let jc2 := (jc.getD 1 0).toNat
  let c := jc1 * 64 + jc2 / 4
  let ii := jc2 / 2 % 2 == 1
  let di := jc2 % 2 == 1
  if algCrc8.run (jc.take 2) = (jc.getD 2 0).toNat then
    (if ii && !di then (if c = was ^^^ gmpInvert 2 then was + 2 else was + 1)
     else if di && !ii then (if c = was ^^^ gmpInvert (-2) then was - 2 else was - 1)
     else c, true)
  else (was + b2n (ii && !di) - b2n (di && !ii), false)

/-- The CRC-5 x^5 + x + 1 over ten bits. -/
def crc5 (v : Nat) : Nat :=
  (List.range 15).foldl (fun r i =>
    let x := r * 2 + v * 32 / 2 ^ (14 - i) % 2
    if x ≥ 32 then (x - 32) ^^^ 3 else x) 0

/-- JC4 to JC6. -/
def gmpCnd (cnd : Nat) : List Byte :=
  let v := cnd % 1024
  [BitVec.ofNat 8 (v / 32), BitVec.ofNat 8 (v % 32), BitVec.ofNat 8 (crc5 v)]

/-! ### AMP (R145, R159) -/

/-- The JC byte of a decision: negative, none, positive (PRESUMED, notes/assumptions/171.md). -/
def ampJc (d : Int) : Byte := if d < 0 then 0x01 else if d > 0 then 0x03 else 0x00

/-- A bit by the majority of three bytes. -/
def major3 (l : List Byte) (i : Nat) : Bool := 2 ≤ l.countP fun b => b.toNat.testBit i

/-- The decision that three JC bytes carry, by the majority of each bit; 10 is read as no justification. -/
def ampDecode (jc : List Byte) : Int :=
  if major3 jc 0 then (if major3 jc 1 then 1 else -1) else 0

/-- The decision of the mapper from the fill of its store in eighths (DESIGN CHOICE, notes/assumptions/150.md). -/
def ampDecide (fill : Nat) : Int := if fill < 2 then 1 else if fill > 6 then -1 else 0

/-- Payload bits that a frame or multiframe yields beside the fixed ones, by the decision: the negative opportunity
carries data under a negative one, the positive opportunity unless the decision is positive. -/
def ampBytes (d : Int) : Nat := if d < 0 then 2 else if d > 0 then 0 else 1

end Sys2Proof.Machine
end

