-- ==== Sys2Proof/Machine/EthBytes.lean ====
section
/-!
DEFINITION. The bytes of an Ethernet frame as the packet units read and change them: the first tag (R349), the
time-aligned forwarding tag (R375), IEEE 1588 event messages (R430, R432), the FCS (R151, R296).
-/
namespace Sys2Proof

/-- The FCS of a frame is that of its bytes. -/
def EthFrame.fcsOk (f : EthFrame) : Bool := f.fcs == Machine.fcsOf f.payload

end Sys2Proof

namespace Sys2Proof.Machine

/-- A frame of bytes with its FCS. -/
def sealed (l : List Byte) : EthFrame := { payload := l, fcs := fcsOf l }

/-- The FCS as it stands on the wire: the least significant byte of the register first. -/
def fcsBytes (w : Word) : List Byte := (wordBytes w).reverse

/-- Put bytes into a list from an offset. -/
def putBytes (l : List Byte) (o : Nat) (b : List Byte) : List Byte := l.take o ++ b ++ l.drop (o + b.length)

/-- A number from the bytes of a list, most significant first. -/
def numAt (l : List Byte) (o n : Nat) : Nat := ((l.drop o).take n).foldl (fun v b => v * 256 + b.toNat) 0

/-- The n bytes of a number, most significant first. -/
def numBytes (n v : Nat) : List Byte := (List.range n).map fun i => BitVec.ofNat 8 (v / 256 ^ (n - 1 - i))

/-! ### The first tag (R349, R354) -/

/-- DEI of the first tag takes a value; an untagged frame has none. -/
def setDei (l : List Byte) (v : Bool) : List Byte :=
  if tagged l then putBytes l 14 [BitVec.ofNat 8 ((l.getD 14 0).toNat / 32 * 32 + b2n v * 16 + (l.getD 14 0).toNat % 16)]
  else l

/-! ### The time-aligned forwarding tag (R375) -/

/-- The tag goes in directly after the first VLAN tag, or after the source address. -/
def tafInsert (l : List Byte) (sec ns : Nat) : List Byte :=
  let o := rtagAt l
  l.take o ++ [0x88, 0xB5] ++ numBytes 2 sec ++ numBytes 4 (ns % 2 ^ 30) ++ l.drop o

/-- A frame without its tag, and the stamp the tag carried. -/
def tafStrip (l : List Byte) : List Byte × Option (Nat × Nat) :=
  let o := rtagAt l
  if pairAt l o = 0x88B5 then (l.take o ++ l.drop (o + 8), some (numAt l (o + 2) 2, numAt l (o + 4) 4 % 2 ^ 30)) else (l, none)

/-! ### IEEE 1588 event messages (R429, R430, R432) -/

/-- An event message: where its PTP header stands, and its UDP header where there is one; messageType and sequenceId. -/
structure PtpMsg where
  hdr : Nat
  udp : Option Nat
  typ : Nat
  seq : Nat
  deriving DecidableEq, Repr

/-- The PTP header at an offset. -/
def ptpHere (l : List Byte) (o : Nat) (udp : Option Nat) : Option PtpMsg :=
  let ty := (l.getD o 0).toNat % 16
  if ty < 4 && o + 34 ≤ l.length then some { hdr := o, udp := udp, typ := ty, seq := pairAt l (o + 30) } else none

/-- The event message behind the EtherType at an offset, after at most `n` more VLAN tags and a time-aligned forwarding
tag; `sel` is PTP_TRANS. -/
def ptpFrom (l : List Byte) (sel : Nat) : Nat → Nat → Nat → Option PtpMsg
  | 0, _, _ => none
  | k + 1, n, o =>
    let t := pairAt l o
    if (t = 0x8100 ∨ t = 0x88A8) ∧ n > 0 then ptpFrom l sel k (n - 1) (o + 4)
    else if t = 0x88B5 then ptpFrom l sel k n (o + 8)
    else if t = 0x88F7 ∧ sel ≠ 1 then ptpHere l (o + 2) none
    else if t = 0x0800 ∧ sel ≠ 0 ∧ (l.getD (o + 2) 0).toNat / 16 = 4 ∧ (l.getD (o + 11) 0).toNat = 17 then
      let u := o + 2 + (l.getD (o + 2) 0).toNat % 16 * 4
      if pairAt l (u + 2) = 319 then ptpHere l (u + 8) (some u) else none
    else none

/-- The event message of a frame under PTP_TRANS. -/
def ptpOf (l : List Byte) (sel : Nat) : Option PtpMsg := ptpFrom l sel 4 2 12

/-- A changed message: bytes 16 to 19 of its header, and no UDP checksum. -/
def ptpPut (l : List Byte) (m : PtpMsg) (o : Nat) (b : List Byte) : List Byte :=
  let l := putBytes l (m.hdr + o) b
  match m.udp with
  | some u => putBytes l (u + 6) [0, 0]
  | none => l

/-- RX_INSERT: 0b10 and the nanoseconds of the ingress stamp. -/
def ptpInsert (l : List Byte) (m : PtpMsg) (ns : Nat) : List Byte := ptpPut l m 16 (numBytes 4 (2 ^ 31 + ns % 2 ^ 30))

/-- The nanoseconds that a message carries, where bytes 16 to 19 begin with 0b10. -/
def ptpNs (l : List Byte) (m : PtpMsg) : Option Nat :=
  let v := numAt l (m.hdr + 16) 4
  if v / 2 ^ 30 = 2 then some (v % 2 ^ 30) else none

/-- TX_MODE 2: the time spent goes into correctionField, and bytes 16 to 19 become 0. -/
def ptpCorrect (l : List Byte) (m : PtpMsg) (ns : Nat) : List Byte :=
  let l := ptpPut l m 8 (numBytes 8 ((numAt l (m.hdr + 8) 8 + ns * 65536) % 2 ^ 64))
  ptpPut l m 16 [0, 0, 0, 0]

end Sys2Proof.Machine
end

