-- ==== Sys2Proof/Machine/Gfp.lean ====
section
/-!
DEFINITION. GFP-F frames (R150, R152, R153): core header and cHEC, type header and tHEC, the self-synchronous scrambler
of the payload area, delineation.
-/
namespace Sys2Proof.Machine

/-- The mask of the core header. -/
def coreMask : Nat := 0xB6AB31E0

/-- CRC-16 over two bytes. -/
def hec16 (v : Nat) : Nat := algCrc16.run [BitVec.ofNat 8 (v / 256), BitVec.ofNat 8 v]

/-- A core header word as sent, from the length of the payload area. -/
def coreWord (len : Nat) : Nat := (len % 65536 * 65536 + hec16 len) ^^^ coreMask

/-- The cHEC of an unmasked core header holds. -/
def coreOk (v : Nat) : Bool := hec16 (v / 65536) == v % 65536

/-- A core header word as received: the length and whether a single bit was corrected, which is done in SYNC only; none
where its cHEC fails. -/
def coreRead (sync : Bool) (w : Nat) : Option (Nat × Bool) :=
  let v := w % 2 ^ 32 ^^^ coreMask
  if coreOk v then some (v / 65536, false)
  else if sync then
    ((List.range 32).find? fun i => coreOk (v ^^^ 2 ^ i)).map fun i => ((v ^^^ 2 ^ i) / 65536, true)
  else none

/-- Delineation after a core header where one is expected: DELTA is 1. -/
def gfpNext (g : GfpState) (w : Nat) : GfpState :=
  match g, coreRead (g == .sync) w with
  | .hunt, some _ => .presync
  | .presync, some _ => .sync
  | .sync, some _ => .sync
  | _, none => .hunt

/-- A type header from PTI, PFI and UPI, with the null extension header and its tHEC. -/
def typeBytes (pti : Nat) (pfi : Bool) (upi : Nat) : List Byte :=
  let v := pti * 8192 + b2n pfi * 4096 + upi
  [BitVec.ofNat 8 (v / 256), BitVec.ofNat 8 v, BitVec.ofNat 8 (hec16 v / 256), BitVec.ofNat 8 (hec16 v)]

/-- What a payload area shows after descrambling: its type header, whether its tHEC holds, the bytes behind it. -/
structure GfpHead where
  pti : Nat
  pfi : Bool
  exi : Nat
  upi : Nat
  hecOk : Bool
  payload : List Byte
  deriving DecidableEq, Repr

/-- The header of a descrambled payload area. -/
def gfpHead (l : List Byte) : GfpHead :=
  let v := (l.getD 0 0).toNat * 256 + (l.getD 1 0).toNat
  { pti := v / 8192, pfi := v / 4096 % 2 == 1, exi := v / 256 % 16, upi := v % 256
    hecOk := hec16 v == (l.getD 2 0).toNat * 256 + (l.getD 3 0).toNat, payload := l.drop 4 }

/-- A client data frame of R150. -/
def GfpHead.client (h : GfpHead) : Bool := h.hecOk && h.pti == 0 && h.exi == 0 && h.upi == 1

/-- A CSF frame. -/
def GfpHead.csf (h : GfpHead) : Bool := h.hecOk && h.pti == 4 && (h.upi == 1 || h.upi == 2)

/-- Bytes through the payload scrambler with its history. -/
def scr43 (h : List Bool) (l : List Byte) : List Byte × List Bool :=
  let z := selfScr [43] h (l.flatMap bitsMsb)
  ((pieces 8 l.length z.1).map byteOf, z.2)

/-- Bytes through the payload descrambler. -/
def descr43 (h : List Bool) (l : List Byte) : List Byte × List Bool :=
  let z := selfDescr [43] h (l.flatMap bitsMsb)
  ((pieces 8 l.length z.1).map byteOf, z.2)

/-- The payload FCS of G.7041: CRC-32 with the most significant bit first (PRESUMED, notes/assumptions/169.md). -/
def algPfcs : CrcAlg :=
  { width := 32, refin := false, refout := false, poly := 0x04C11DB7, init := 0xFFFFFFFF, xorout := 0xFFFFFFFF }

/-- The four bytes of the payload FCS. -/
def pfcsBytes (l : List Byte) : List Byte := wordBytes (BitVec.ofNat 32 (algPfcs.run l))

/-- A GFP frame as sent: core header, then the scrambled type header, payload and, with PFI, payload FCS. -/
def gfpFrame (h : List Bool) (pti upi : Nat) (pfi : Bool) (l : List Byte) : List Byte × List Bool :=
  let z := scr43 h (typeBytes pti pfi upi ++ l ++ if pfi then pfcsBytes l else [])
  (wordBytes (BitVec.ofNat 32 (coreWord (l.length + 4 + 4 * b2n pfi))) ++ z.1, z.2)

/-- The client frame in a descrambled payload, with the FCS it carries, and whether the payload FCS holds where there is
one. -/
def GfpHead.frame (h : GfpHead) : EthFrame × Bool :=
  let n := h.payload.length - 4 * b2n h.pfi
  let l := h.payload.take n
  let m := l.length - 4
  let w := match (l.drop m).reverse with
    | a :: b :: c :: d :: _ => word4 a b c d
    | _ => 0
  ({ payload := l.take m, fcs := w }, !h.pfi || h.payload.drop n == pfcsBytes l)

/-- The idle frame: a core header of length 0. -/
def gfpIdle : List Byte := wordBytes (BitVec.ofNat 32 (coreWord 0))

end Sys2Proof.Machine
end

