-- ==== Sys2Proof/Machine/E1.lean ====
section
/-!
DEFINITION. E1 and DS1 (R165 to R168, R171): the justification of the asynchronous mappings, the output of a remapper,
the monitor of G.704 alignment, CRC-4 and AIS.
-/
namespace Sys2Proof.Machine

/-! ### The asynchronous mapping (R165) -/

/-- The bits that a multiframe always carries: 1,023 of an E1, 771 of a DS1. -/
def asyncBase (ds1 : Bool) : Nat := if ds1 then 771 else 1023

/-- An opportunity carries data: the majority of its three control bits is 0 (PRESUMED, notes/assumptions/147.md). -/
def ctlData (l : List Bool) : Bool := 2 ≤ l.count false

/-- The bits that a multiframe yields: the fixed ones, then S1 and S2 where their control bits say so. -/
def demapBits (ds1 : Bool) (ctl bits : List Bool) : List Bool :=
  let n := asyncBase ds1
  bits.take n ++ (if ctlData (ctl.take 3) then (bits.drop n).take 1 else [])
    ++ (if ctlData ((ctl.drop 3).take 3) then (bits.drop (n + 1)).take 1 else [])

/-- Bits that a remapper's store holds at the centre, beside the multiframe that it sends next
(DESIGN CHOICE, notes/assumptions/148.md). -/
def remapCentre : Nat := 256

/-- The store has saturated: it cannot fill a multiframe, or holds more than twice its centre beside one (R171). -/
def Remap.slips (ds1 : Bool) (r : Remap) : Bool :=
  !r.ais && (r.fifo.length < asyncBase ds1 || r.fifo.length > asyncBase ds1 + 1 + 2 * remapCentre)

/-- The store put back to its centre: bits repeated or discarded. -/
def Remap.recentre (ds1 : Bool) (r : Remap) : Remap :=
  let n := asyncBase ds1 + 1 + remapCentre
  { r with fifo := r.fifo.take n ++ List.replicate (n - r.fifo.length) (r.fifo.getLastD true) }

/-- Bits of the source enter. -/
def Remap.put (r : Remap) (l : List Bool) : Remap := { r with fifo := r.fifo ++ l }

/-- A multiframe leaves (R165 to R167): of a lost source all ones at the nominal rate, one opportunity used; otherwise
as many opportunities as the store needs to stay at its centre. A store that is short repeats its last bit. -/
def Remap.take (ds1 lost : Bool) (r : Remap) : Remap :=
  let n := asyncBase ds1
  if lost then
    { fifo := List.replicate (n + 1 + remapCentre) true, ais := true, bits := List.replicate (n + 2) true
      ctl := [true, true, true, false, false, false] }
  else
    let have_ := r.fifo.length
    let k := if have_ > n + 1 + remapCentre then 2 else if have_ = n + 1 + remapCentre then 1 else 0
    let out := r.fifo.take (n + k)
    { fifo := r.fifo.drop (n + k), ais := false
      bits := out ++ List.replicate (n + 2 - out.length) (out.getLastD true)
      ctl := List.replicate 3 (decide (k < 2)) ++ List.replicate 3 (decide (k < 1)) }

/-! ### The monitor (R168) (PRESUMED, notes/assumptions/83.md) -/

/-- The frame alignment signal of G.704. -/
def e1Fas : List Bool := [false, false, true, true, false, true, true]

/-- One bit into the CRC-4 x^4 + x + 1. -/
def crc4Step (c : Nat) (b : Bool) : Nat :=
  let x := c * 2 % 16
  if (c / 8 == 1) != b then x ^^^ 3 else x

/-- The first bit of a frame in the CRC-4 multiframe: one of the alignment frames carries a bit of the CRC, one of the
others a bit of the multiframe signal 001011. The flag counts a block error. -/
def E1Mon.first (m : E1Mon) (fasFrame b : Bool) : E1Mon × Bool :=
  let m := { m with mfPos := (m.mfPos + 1) % 16 }
  let block := m.crcSync && m.mfPos % 8 == 0
  let bad := block && m.crcGot.length == 4 && m.crcWas.isSome
    && m.crcWas != some (m.crcGot.foldl (fun v x => 2 * v + b2n x) 0)
  let m := if block then { m with crcWas := some m.crc, crc := 0, crcGot := [] } else m
  if fasFrame then ({ m with crcGot := m.crcGot ++ [b] }, bad)
  else
    let l := (m.mfBits ++ [b]).drop (m.mfBits.length - 5)
    let here := l == [false, false, true, false, true, true]
    let m := { m with mfBits := l }
    if m.crcSync then (if m.mfPos = 11 && !here then { m with crcSync := false } else m, bad)
    else if here then ({ m with crcSync := true, mfPos := 11, crcWas := none, crcGot := [], crc := 0 }, false)
    else (m, false)

/-- One bit of an aligned or hunting E1. The first bit of an alignment frame is the 505th after the last alignment
signal, that of the frame between the 249th. -/
def E1Mon.bit (m : E1Mon) (b : Bool) : E1Mon × Bool :=
  let win := (m.win ++ [b]).drop (m.win.length - 6)
  let pos := m.pos + 1
  let m := { m with win := win, pos := pos }
  if m.sync = 0 then
    (if win = e1Fas then { m with sync := 1, pos := 0, bad := 0, crcSync := false } else { m with pos := 0 }, false)
  else if m.sync = 1 then (if pos = 250 then { m with sync := if b then 2 else 0 } else m, false)
  else if m.sync = 2 then
    (if pos = 512 then { m with sync := if win = e1Fas then 3 else 0, pos := 0 } else m, false)
  else
    let r : E1Mon × Bool := if pos = 249 then m.first false b else if pos = 505 then m.first true b else (m, false)
    let m : E1Mon := { r.1 with crc := crc4Step r.1.crc (b && pos != 505) }
    if pos = 512 then
      if win = e1Fas then ({ m with pos := 0, bad := 0 }, r.2)
      else if m.bad ≥ 2 then ({ m with sync := 0, pos := 0 }, r.2) else ({ m with pos := 0, bad := m.bad + 1 }, r.2)
    else (m, r.2)

/-- One bit into the AIS detector; the answer is the AIS. Of an E1 two windows of 512 bits with at most two zeros set it
and two with more clear it; of a DS1 one window of 4,632 bits with at most four zeros. -/
def E1Mon.aisBit (ds1 was : Bool) (m : E1Mon) (b : Bool) : E1Mon × Bool :=
  let m := { m with zeros := m.zeros + b2n (!b), count := m.count + 1 }
  if m.count < (if ds1 then 4632 else 512) then (m, was)
  else
    let few := m.zeros ≤ (if ds1 then 4 else 2)
    let need := if ds1 then 1 else 2
    let m := { m with zeros := 0, count := 0, low := if few then min need (m.low + 1) else 0
                      high := if few then 0 else min need (m.high + 1) }
    (m, if m.low ≥ need then true else if m.high ≥ need then false else was)

/-- Bits of an E1 or DS1: the monitor, the AIS and the CRC-4 block errors. Of a DS1 only AIS is judged. -/
def E1Mon.run (ds1 : Bool) (m : E1Mon) (was : Bool) (l : List Bool) : E1Mon × Bool × Nat :=
  l.foldl (fun (r : E1Mon × Bool × Nat) b =>
    let a := r.1.aisBit ds1 r.2.1 b
    let x := if ds1 then (a.1, false) else a.1.bit b
    (x.1, a.2, r.2.2 + b2n x.2)) (m, was, 0)

end Sys2Proof.Machine
end

