-- ==== Sys2Proof/Machine/Fox.lean ====
section
/-!
DEFINITION. The fox engines (R88 to R103): requests and their ages, grants, the engine's states, back-off, and the
commands of the family.
-/
namespace Sys2Proof.Machine

/-! ### Requests (R88, R89) -/

/-- The engine that serves channel c. -/
def State.foxOf (s : State) (c : Nat) : Option Nat :=
  (List.range 28).find? fun e => (s.fox e).ch == some c && (s.fox e).st != .idle && (s.fox e).st != .outOfService

/-- A channel may make a request: a framed line, enabled, out of frame, lanes aligned where it has several, no engine
that serves it, and neither dLOS, FAULTED, ASLEEP, WAKING nor held by a checker. -/
def State.mayRequest (s : State) (c : Nat) : Bool :=
  s.framed c && s.enabled c && !s.def_ c dLOS && !s.checking c && s.crb c 4 23 && (s.foxOf c).isNone
    && (s.chState c == stHunting || s.chState c == stWaitFox)

/-- Withdraw any request the channel has made. -/
def State.withdraw (s : State) (c : Nat) : State :=
  s.modFrm c fun f => { f with reqAge := none, held := none, waitFrom := none }

/-- The wait shown in WAIT_US up to now (R84). -/
def State.waitUs (s : State) (c : Nat) : Nat :=
  match (s.ch c).frm.waitFrom with
  | some t => min 0xFFFF (s.owl - t)
  | none => s.crf c 4 15 0

/-- The channel requests an engine and enters WAIT_FOX (R88, R89). Its age is the OWL cycle of the request.
(DESIGN CHOICE, notes/assumptions/140.md). -/
def State.request (s : State) (c : Nat) : State :=
  if s.mayRequest c && (s.ch c).frm.reqAge.isNone && (s.ch c).frm.held.isNone then
    (s.toState c stWaitFox).modFrm c fun f =>
      { f with reqAge := some s.owl, waitFrom := some (f.waitFrom.getD s.owl) }
  else s

/-! ### Attempts that end (R94, R98, R99) -/

/-- An attempt has failed (R94): HUNT_FAIL, ATTEMPTS, and the group's NO_FRAME count (R501). -/
def State.attemptFailed (s : State) (c : Nat) : State :=
  ((s.setCrb c 4 22 true).count (chReg c 4) 19 16 1).count (grpReg (c / 16) 3) 15 0 1

/-- BACKOFF clears; a held request becomes eligible at once (R99). -/
def State.clearBackoff (s : State) (c : Nat) : State :=
  let s := s.setCrb c 4 21 false
  if (s.ch c).frm.held.isSome then s.modFrm c fun f => { f with held := none, reqAge := some s.owl } else s

/-- BACKOFF sets at the first moment at which dLOF is set and 8 attempts have failed (R99). -/
def State.backoffNow (s : State) (c : Nat) : Bool :=
  s.def_ c dLOF && s.crf c 4 19 16 ≥ 8

/-- The engine serving c is released at once (R98). A slip while a candidate is checked ends the attempt as NO_FRAME. An
engine in RELEASE has given the channel back already. -/
def State.releaseFox (s : State) (c : Nat) (slip : Bool) : State :=
  match (s.foxOf c).filter fun e => (s.fox e).st != .release with
  | none => s
  | some e =>
    let checking := (s.fox e).st == .candidate || (s.fox e).st == .confirm
    let s := s.modFox e fun _ => {}
    let s := s.setCrf c 4 28 24 31
    if slip && checking then s.attemptFailed c else s

/-- A new request after a failed attempt, held for 1 ms under back-off (R94, R99). -/
def State.rerequest (s : State) (c : Nat) : State :=
  if s.mayRequest c then
    let s := if s.backoffNow c then s.setCrb c 4 21 true else s
    if s.crb c 4 21 then
      (s.toState c stWaitFox).modFrm c fun f => { f with reqAge := none, held := s.after 1000, waitFrom := some s.owl }
    else s.request c
  else s

/-- The channel leaves its frame (R85): dOOF sets, the engine is released, and a request follows where R88 allows it: a
new one after an attempt that a slip has failed (R98, R99). -/
def State.outOfFrame (s : State) (c : Nat) (slip : Bool) : State :=
  let cut := slip && ((s.foxOf c).any fun e => (s.fox e).st == .candidate || (s.fox e).st == .confirm)
  let s := s.releaseFox c slip
  let s := if s.aligned c then s.toState c stHunting else s
  let s := s.oofOn c
  let s := s.modFrm c fun f => { f with errs := 0, mfas := none }
  if cut then s.rerequest c else s.request c

/-- The channel enters FAULTED (R85, R484): engine released, request withdrawn. -/
def State.toFaulted (s : State) (c : Nat) : State :=
  let s := s.releaseFox c false
  let s := s.withdraw c
  s.toState c stFaulted

/-! ### Grants (R90 to R92) -/

/-- Waiting channels that are eligible among a list, by age and then by index (R90). -/
def State.oldest (s : State) : List Nat → Option Nat
  | [] => none
  | c :: r =>
    match (s.ch c).frm.reqAge, s.oldest r with
    | none, x => x
    | some _, none => some c
    | some a, some d => if a ≤ ((s.ch d).frm.reqAge.getD 0) then some c else some d

/-- An engine takes a channel (R94). -/
def State.grant (s : State) (e c : Nat) : State :=
  let f := (s.ch c).frm
  let s := s.setCrf c 4 15 0 (s.waitUs c)
  let s := s.modFox e fun _ =>
    { st := .search, ch := some c, since := s.owl, age := f.reqAge.getD s.owl, lookAt := s.owl }
  let s := s.withdraw c
  let s := s.toState c stHunting
  let s := s.setCrf c 4 28 24 e
  s.count (grpReg (c / 16) 3) 31 16 1

/-- The group's waiting channels, with ROAM_EN where a roaming engine chooses (R91). -/
def State.waiting (s : State) (g : Nat) (roam : Bool) : List Nat :=
  (grpChs g).filter fun c => (s.ch c).frm.reqAge.isSome && (!roam || s.crb c 3 21)

/-- FOX_GRANT: a free engine of a group serves its group's oldest request (R90). -/
def State.foxGrant (s : State) (e : Nat) : State :=
  if e < 24 && (s.fox e).st == .idle && (s.grp (e / 2)).clk && s.running then
    match s.oldest (s.waiting (e / 2) false) with
    | some c => s.grant e c
    | none => s
  else s

/-- The groups a roaming engine may serve: a waiting channel with ROAM_EN, and neither own engine free (R91). -/
def State.roamEligible (s : State) (g : Nat) : Bool :=
  !(s.waiting g true).isEmpty && (s.fox (2 * g)).st != .idle && (s.fox (2 * g + 1)).st != .idle

/-- The next eligible group after the last one served, in round-robin order (R91). -/
def State.nextGroup (s : State) : Option Nat :=
  ((List.range 12).map fun i => (s.lastRoam + 1 + i) % 12).find? fun g => s.roamEligible g

/-- One roaming engine at an epoch. -/
def State.roamGrant (s : State) (e : Nat) : State :=
  if (s.fox e).st == .idle then
    match s.nextGroup with
    | some g =>
      match s.oldest (s.waiting g true) with
      | some c => { s.grant e c with lastRoam := g }
      | none => s
    | none => s
  else s

/-- ROAMING_EPOCH: an OWL edge whose count is a multiple of 8 (R91). -/
def State.roamingEpoch (s : State) : State :=
  if s.owl % 8 = 0 && s.running then s.each [24, 25, 26, 27] State.roamGrant else s

/-! ### The engine's states (R94) -/

/-- RELEASE starts: result NO_FRAME, the channel back in WAIT_FOX. -/
def State.foxFail (s : State) (e : Nat) : State :=
  match (s.fox e).ch with
  | none => s
  | some c =>
    let s := s.attemptFailed c
    let s := s.modFox e fun f => { f with st := .release, endAt := s.after 2 }
    let s := s.toState c stWaitFox
    let s := s.setCrf c 4 28 24 31
    s.modFrm c fun f => { f with waitFrom := some s.owl }

/-- HANDBACK starts: the channel enters IN_FRAME (R95), the verifier takes the offset and the phase, given by the OWL
cycle of the last correct alignment word, and dOOF clears. -/
def State.foxHandback (s : State) (e : Nat) : State :=
  match (s.fox e).ch with
  | none => s
  | some c =>
    let s := s.modFox e fun f => { f with st := .handback, endAt := s.after 2 }
    let s := s.toState c stInFrame
    let s := ((s.setCrb c 4 22 false).setCrb c 4 21 false).setCrf c 4 19 16 0
    let s := s.modFrm c fun f => { f with
      errs := 0, mfas := none, mfBad := 0, mfGood := 0, offset := (s.fox e).offset, phase := s.owl, par := [] }
    s.oofOff c

/-- The 48 bits `w` around the boundary hold the search pattern of the channel that engine e serves.
(DEDUCED, notes/assumptions/141.md). -/
def State.foxSees (s : State) (e w : Nat) : Bool := fasOk (s.searchLen ((s.fox e).ch.getD 0)) w

/-- FOX_SEARCH_MATCH: the first full match, at offset `off` (R94, R96). -/
def State.foxMatch (s : State) (e off w : Nat) : State :=
  if (s.fox e).st == .search && s.foxSees e w then
    s.modFox e fun f => { f with st := .candidate, offset := off, lookAt := s.owl }
  else s

/-- FOX_SEARCH_NO_MATCH: one frame period of SEARCH without a match. -/
def State.foxNoMatch (s : State) (e : Nat) : State :=
  if (s.fox e).st == .search && s.framePassed ((s.fox e).ch.getD 0) (s.fox e).lookAt then s.foxFail e else s

/-- CONFIRM_N as it acts (R83). -/
def State.confirmN (s : State) (c : Nat) : Nat := max 1 (s.crf c 3 27 26)

/-- FOX_CANDIDATE_CHECK: the alignment word `w` one frame after the match. -/
def State.foxCandidate (s : State) (e w : Nat) : State :=
  let f := s.fox e
  if f.st == .candidate && s.framePassed (f.ch.getD 0) f.lookAt then
    if s.foxSees e w then
      let n := s.confirmN (f.ch.getD 0) - 1
      let s := s.modFox e fun f => { f with st := .confirm, left := n, lookAt := s.owl }
      if n = 0 then s.foxHandback e else s
    else if f.second then s.foxFail e
    else s.modFox e fun f => { f with st := .search, second := true, lookAt := s.owl }
  else s

/-- FOX_CONFIRM_CHECK: one of the further alignment words. -/
def State.foxConfirm (s : State) (e w : Nat) : State :=
  let f := s.fox e
  if f.st == .confirm && s.framePassed (f.ch.getD 0) f.lookAt then
    if s.foxSees e w then
      let s := s.modFox e fun f => { f with left := f.left - 1, lookAt := s.owl }
      if f.left ≤ 1 then s.foxHandback e else s
    else s.foxFail e
  else s

/-- FOX_HANDBACK_END: 2 µs after the hand-back started the engine is free. -/
def State.foxHandbackEnd (s : State) (e : Nat) : State :=
  let f := s.fox e
  if f.st == .handback && s.due f.endAt then
    let s := s.modFox e fun _ => {}
    match f.ch with
    | some c => if s.crf c 4 28 24 = e then s.setCrf c 4 28 24 31 else s
    | none => s
  else s

/-- FOX_RELEASE_END: 2 µs after the release started (R94, R99). -/
def State.foxReleaseEnd (s : State) (e : Nat) : State :=
  let f := s.fox e
  if f.st == .release && s.due f.endAt then
    let s := s.modFox e fun _ => {}
    match f.ch with
    | some c => s.rerequest c
    | none => s
  else s

/-- BACKOFF_HOLD_EXPIRY: the held request becomes eligible (R99). -/
def State.backoffExpiry (s : State) (c : Nat) : State :=
  if s.due (s.ch c).frm.held then s.modFrm c fun f => { f with held := none, reqAge := some s.owl } else s

/-- FOX_PARITY_FAIL: the engine leaves service, an S1 fault is raised, and its channel waits again with its original
age (R103); one that is IN_FRAME stays so, and one already given back requests anew.
(DESIGN CHOICE, notes/assumptions/142.md). -/
def State.foxParityFail (s : State) (e : Nat) : State :=
  if e < 28 && (s.fox e).st != .outOfService then
    let f := s.fox e
    let s := s.modFox e fun _ => { st := .outOfService }
    let s := s.report { src := 12, group := if e < 24 then some (e / 2) else none }
    match f.ch with
    | none => s
    | some c =>
      if s.crf c 4 28 24 = e && s.chState c == stHunting then
        ((s.setCrf c 4 28 24 31).toState c stWaitFox).modFrm c fun r =>
          { r with reqAge := some f.age, waitFrom := some s.owl }
      else if f.st == .handback then s.setCrf c 4 28 24 31
      else if f.st == .release then s.rerequest c
      else s
  else s

/-! ### dLOF (R205 bit 2, R99, R100) -/

/-- DLOF_TIMER_EXPIRY: 3 ms of dOOF, or 3 ms without. While dLOF holds its value the timer stands.
(DEDUCED, notes/assumptions/143.md). -/
def State.dlofExpiry (s : State) (c : Nat) : State :=
  if s.due (s.ch c).mon.lofAt && !s.defHeld c dLOF then
    let s := s.modMon c fun m => { m with lofAt := none }
    if s.def_ c dOOF then
      let s := s.setDef c dLOF true
      let s := s.clearOverhead c
      let s := if s.backoffNow c then s.setCrb c 4 21 true else s
      s.syncSsf c
    else (s.setDef c dLOF false).syncSsf c
  else s

/-! ### The commands -/

/-- R90, R92. -/
def execFoxGrant (e : Nat) (s : State) : Out := .next (whileOn s (s.foxGrant e))
/-- R91. -/
def execRoamingEpoch (s : State) : Out := .next (whileOn s s.roamingEpoch)
/-- R94, R96. -/
def execFoxSearchMatch (x : Sighting) (s : State) : Out := .next (whileOn s (s.foxMatch x.engine x.offset x.word))
/-- R94. -/
def execFoxSearchNoMatch (e : Nat) (s : State) : Out := .next (whileOn s (s.foxNoMatch e))
/-- R94, R95. -/
def execFoxCandidateCheck (e w : Nat) (s : State) : Out := .next (whileOn s (s.foxCandidate e w))
/-- R94, R95. -/
def execFoxConfirmCheck (e w : Nat) (s : State) : Out := .next (whileOn s (s.foxConfirm e w))
/-- R94. -/
def execFoxHandbackEnd (e : Nat) (s : State) : Out := .next (whileOn s (s.foxHandbackEnd e))
/-- R94, R99. -/
def execFoxReleaseEnd (e : Nat) (s : State) : Out := .next (whileOn s (s.foxReleaseEnd e))
/-- R99. -/
def execBackoffHoldExpiry (c : Nat) (s : State) : Out := .next (whileOn s (s.backoffExpiry c))
/-- R103. -/
def execFoxParityFail (e : Nat) (s : State) : Out := .next (whileOn s (s.foxParityFail e))
/-- R100, R205, R207. -/
def execDlofTimerExpiry (c : Nat) (s : State) : Out := .next (whileOn s (s.dlofExpiry c))

end Sys2Proof.Machine
end

