-- ==== Sys2Proof/Machine/Lanes.lean ====
section
/-!
DEFINITION. Lanes and their sleep (01_structure.md R32 to R47, R612, 02_serial_lanes.md R59 to R71, R81): group clocks,
wakes, signal detect, locks and adaptation, slips, lane alignment and PCS lock, with the commands of the family.
-/
namespace Sys2Proof.Machine

/-- A command about a channel the device has (R2). -/
def onCh (c : Nat) (s t : State) : State := if c < 192 && s.alive then t else s

/-- What the channel logic and packet units of channel c do: nothing while the clock of its group is stopped (R13). -/
def onGrpClk (c : Nat) (s t : State) : State := if c < 192 && s.alive && (s.grp (c / 16)).clk then t else s

/-- A command about a group the device has. -/
def onGrp (g : Nat) (s t : State) : State := if g < 12 && s.alive then t else s

/-! ### DEEP (R39 to R41) -/

/-- Something Owl watches ends DEEP: the fast clocks run 50 µs later (R46); a lane of the bond that caused it wakes at
the same edge (R612). -/
def State.deepWake (s : State) (hostCs : Bool) : State :=
  if s.phase == .deep then
    { s with phase := .deepExit, wakeAt := s.after 50
             cmd := if hostCs then { s.cmd with deaf := s.after 60 } else s.cmd }
  else s

/-- A timer of Owl has run out: a lease timer, a wake timer of the Badger, an acknowledge timer or an event timer
(R29). -/
def State.owlTimerOut (s : State) : Bool :=
  s.due s.twin.beatAt || s.due s.twin.leaseEnd || s.due s.twin.claimPoint || s.due s.twin.stillAt
    || s.due s.twin.yieldAt || s.due s.mgmt.foldAt || s.due s.mgmt.logAt
    || s.due s.faults.t1 || s.due s.faults.t2 || s.due s.faults.t3
    || s.holds.any fun h => s.due h.2.at_

/-- A row of a timer that Owl runs: in DEEP its effect ends DEEP too (R29, R40). -/
def owlOn (s t : State) : State := whileOn s (if s.phase == .deep && s.owlTimerOut then t.deepWake false else t)

/-! ### Group clocks (R37, R42, R44, R45) -/

/-- A channel whose transmit side runs although its receive side sleeps (R33): a LINE role on a framed line. -/
def State.txKeeps (s : State) (c : Nat) : Bool := s.framed c && s.role c == 0 && s.enabled c

/-- Frames held in the packet units of channel c. -/
def Packet.held (p : Packet) : Nat :=
  p.queues.foldl (fun n q => n + q.2.frames.length) 0 + (if p.busy.isSome then 1 else 0)

/-- The three conditions of R37; a transmit side that R33 keeps counts from its enable. -/
def State.quiet (s : State) (g : Nat) : Bool :=
  (grpChs g).all fun c =>
    s.chState c == stAsleep && !((s.lane c).txOn || s.txKeeps (s.owner c)) && (s.ch c).pkt.held == 0

/-- Start or cancel the 10 µs of R37. -/
def State.checkStop (s : State) (g : Nat) : State :=
  if (s.grp g).clk && s.quiet g then
    if (s.grp g).stopAt.isSome then s else s.modGrp g fun x => { x with stopAt := s.after 10 }
  else s.modGrp g fun x => { x with stopAt := none }

/-- A wake request for a group (R42, R44, R45): a running stop is cancelled; a stopped clock runs `us` µs later, 20 from
the OWL edge of a detector's assertion, 21 from a command between two edges, and not before the core PLL runs that a DEEP
exit starts (R46, R612).
(DESIGN CHOICE, notes/assumptions/137.md). -/
def State.wakeGroup (s : State) (g us : Nat) : State :=
  if (s.grp g).clk then s.modGrp g fun x => { x with stopAt := none }
  else if (s.grp g).startAt.isSome then s
  else s.modGrp g fun x => { x with startAt := some (max (s.owl + us) (s.wakeAt.getD 0)) }

/-- GROUP_CLOCK_STOP: the 10 µs have passed and the conditions still hold. -/
def State.groupStop (s : State) (g : Nat) : State :=
  if (s.grp g).clk && s.due (s.grp g).stopAt && s.quiet g then
    (s.modGrp g fun x => { x with clk := false, stopAt := none }).count (grpReg g 6) 15 0 1
  else s

/-- A channel that waits for its group clock takes WAKING (R44). -/
def State.startWaking (s : State) (c : Nat) : State :=
  if s.enabled c && !s.isMember c && s.chState c == stAsleep && !(s.lane c).rxAsleep && (s.lane c).rxOn then
    s.toState c stWaking
  else s

/-- GROUP_CLOCK_RUNNING: the clock runs; waking channels read WAKING. -/
def State.groupRun (s : State) (g : Nat) : State :=
  if !(s.grp g).clk && s.due (s.grp g).startAt && s.phase != .deep then
    let s := (s.modGrp g fun x => { x with clk := true, startAt := none }).count (grpReg g 6) 31 16 1
    s.each (grpChs g) State.startWaking
  else s

/-! ### Receivers -/

/-- Power up the receiver of a lane (R59, R81): it starts at PLL lock, with its stores half full (R66).
(DEDUCED, notes/assumptions/15.md). -/
def Lane.power (l : Lane) (us : Nat) : Lane :=
  if l.calFail then l
  else { l with rxOn := true, rxAsleep := false, pll := false, adapted := false, wakeAt := some us
                storeRx := halfStore, storeTx := halfStore, preRx := 0, preTx := 0 }

/-- Clear ADAPT_DONE (R57). -/
def State.clearAdapt (s : State) (c : Nat) : State := s.setTbl 0x10 c 1 (setBit (s.tbl 0x10 c 1) 0 false)

/-- Wake the receive side of the bond that c belongs to (R44, R71); `us` is the time of its group clock. -/
def State.wakeRx (s : State) (c us : Nat) : State :=
  let o := s.owner c
  let s := s.each (s.bond o) fun t d => (t.modLane d fun l => l.power t.owl).clearAdapt d
  let s := s.wakeGroup (o / 16) us
  if (s.grp (o / 16)).clk && s.chState o != stFaulted && (s.lane o).rxOn then s.toState o stWaking else s

/-! ### The sleep hold-off (R32, R35, R71) -/

/-- SLEEP_POL as it acts (R32). -/
def State.sleepPol (s : State) (c : Nat) : Nat :=
  let p := s.crf (s.owner c) 0 29 28
  if p = 3 then 1 else p

/-- The hold-off of a lane starts from zero where R35 lets it run, and is idle otherwise. -/
def State.startHold (s : State) (c : Nat) : State :=
  let on := s.sleepPol c == 2 && s.provisioned c && s.enabled c && s.def_ c dLOS && !(s.lane c).sd
  s.modLane c fun l => { l with
    sleepHold := if on then s.after (100000 * s.crf (s.owner c) 0 23 16) else none }

/-- The second records of the channels of a bond are PARTIAL (R223). -/
def State.partBond (s : State) (c : Nat) : State :=
  s.each (s.bond c) fun t d => t.modCh d fun h => { h with cnt := { h.cnt with partial_ := true } }

/-- The receive sides of a bond go to sleep; outside R33 the whole channel does. Hold-offs that have run out stand, so
that lanes which stay dark through a wake need no new one (R71). -/
def State.sleepRx (s : State) (o : Nat) : State :=
  let s := (s.releaseFox o false).withdraw o
  let keep := s.txKeeps o
  let s := s.each (s.bond o) fun t d => t.modLane d fun l => { l with
    rxOn := false, rxAsleep := true, pll := false, adapted := false, wakeAt := none
    txOn := keep && l.txOn, txOwnClock := false }
  ((s.partBond o).toState o stAsleep).checkStop (o / 16)

/-- The hold-off of a lane has run out, and the OWL cycle in which it did has passed: an assertion in that cycle cancels
it (R43). -/
def State.heldOut (s : State) (c : Nat) : Bool :=
  match (s.lane c).sleepHold with
  | some t => t < s.owl
  | none => false

/-- SLEEP_HOLD_EXPIRY: the hold-off of the lane has run out; the bond sleeps once every lane's has (R71). -/
def State.sleepExpiry (s : State) (c : Nat) : State :=
  let o := s.owner c
  if s.chState o != stFaulted && !(s.lane o).rxAsleep && s.heldOut c
      && (s.bond o).all (fun d => s.heldOut d && s.def_ d dLOS && !(s.lane d).sd) then s.sleepRx o
  else s

/-! ### dLOS (R60 to R62, R85, R205) -/

/-- dLOS sets on a lane: overhead defects clear, the frame is lost, back-off ends, the hold-off may start. -/
def State.losOn (s : State) (c : Nat) : State :=
  let o := s.owner c
  let s := s.setDef c dLOS true
  let s := s.modLane c fun l => { l with pll := false, adapted := false }
  let s := if (s.bond o).length > 1 then s.setCrb o 4 23 false else s
  let s := if s.framed o then
      let s := s.releaseFox o false
      let s := s.withdraw o
      let s := if s.aligned o || s.chState o == stWaitFox then s.toState o stHunting else s
      let s := s.oofOn o
      let s := if c = o then (s.setCrb o 4 21 false).clearOverhead o else s
      s.modFrm o fun f => { f with errs := 0, mfas := none }
    else if s.chState o == stInFrame then s.toState o stHunting
    else s
  (s.syncSsf o).startHold c

/-- The detector's output falls (R62). -/
def State.sdOff (s : State) (c : Nat) : State :=
  let s := s.modLane c fun l => { l with sd := false }
  if s.provisioned c && s.enabled c then
    if (s.lane c).rxAsleep then s
    else if s.def_ c dLOS then
      (s.modLane c fun l => { l with pll := false, adapted := false }).startHold c
    else s.losOn c
  else s

/-- The detector's output rises (R34, R35, R43, R61, R62, R612): an unprovisioned lane's detector is off.
(DEDUCED, notes/assumptions/9.md). -/
def State.sdOn (s : State) (c : Nat) : State :=
  if s.provisioned c then
    let s := (s.modLane c fun l => { l with sd := true, sleepHold := none }).deepWake false
    if s.enabled c then
      let o := s.owner c
      if (s.lane c).rxAsleep || s.chState o == stAsleep then s.wakeRx c 20
      else if s.def_ c dLOS then
        let s := (s.modLane c fun l => { l with pll := false, adapted := false }).clearAdapt c
        if s.chState o == stHunting then s.toState o stWaking else s
      else s
    else s
  else s

/-- SIGNAL_DETECT_ASSERT: the levels in mVppd at the last OWL edges, newest first, qualify (R60). -/
def State.sdRise (s : State) (c : Nat) (lv : List Nat) : State :=
  if !(s.lane c).sd && s.sdAsserts c lv then s.sdOn c else s

/-- SIGNAL_DETECT_DEASSERT: the levels at the last OWL edges lie below the hysteresis (R60). -/
def State.sdFall (s : State) (c : Nat) (lv : List Nat) : State :=
  if (s.lane c).sd && s.sdDrops c lv then s.sdOff c else s

/-- LANE_PLL_LOCK (R50, R59, R63): the lane's PLLs lock; the transmitter starts to toggle, the receiver where it has
light within 200 ppm of its rate. -/
def State.pllLock (s : State) (c : Nat) (ppm : Int) : State :=
  let o := s.owner c
  let l := s.lane c
  if s.enabled c && s.provisioned c && !l.calFail && (s.grp (c / 16)).clk && (l.rxOn || s.txKeeps o) then
    s.modLane c fun l => { l with txOn := true, pll := l.rxOn && l.sd && ppm.natAbs ≤ 200 }
  else s

/-- The table words an adaptation leaves (R57, R58): the CTLE code and the taps that REACH and ADAPT_MODE allow; in
service the CTLE code of ADAPT_MODE 1 stays (R53, R59). -/
def State.adaptTable (s : State) (c : Nat) (again : Bool) : State :=
  let w := s.cr c 2
  let reach := fld w 13 12
  let fixed := fld w 15 14 = 3
  let ctle := if fixed then fld w 19 16
    else if again && fld w 15 14 = 1 then fld (s.tbl 0x10 c 1) 19 16 else fld (Config.adapted s.freeCtr) 3 0
  let tap (k : Nat) : Word :=
    if fixed || reach = 0 || (reach = 1 && k > 0) then 0 else Config.adapted (s.freeCtr + 1 + k)
  let s := s.setTbl 0x10 c 1 (setBit (setFld (s.tbl 0x10 c 1) 19 16 ctle) 0 true)
  let s := ((s.setTbl 0x10 c 2 (tap 0)).setTbl 0x10 c 3 (tap 1)).setTbl 0x10 c 4 (tap 2)
  { s with freeCtr := s.freeCtr + 4 }

/-- Adaptation goes on in service under ADAPT_MODE 0 and 1 (R59): a read finds what it has come to. -/
def State.adaptShow (s : State) (c : Nat) : State :=
  if (s.lane c).adapted && s.crf c 2 15 14 ≤ 1 then s.adaptTable c true else s

/-- INITIAL_ADAPTATION_DONE (R44, R59, R88): ADAPT_DONE, dLOS clears, and once every lane of the bond is adapted the
channel leaves WAKING. -/
def State.adaptDone (s : State) (c : Nat) : State :=
  let o := s.owner c
  let l := s.lane c
  if s.enabled c && l.rxOn && l.pll && l.sd && !l.adapted then
    let s := (s.modLane c fun l => { l with adapted := true, wakeAt := none }).adaptTable c false
    let s := (s.setDef c dLOS false).syncSsf o
    if s.chState o == stWaking && (s.bond o).all (fun d => (s.lane d).adapted) then
      let s := s.toState o stHunting
      if s.framed o then (s.oofOn o).request o else s
    else s
  else s

/-! ### Enabling and disabling (R15, R69, R204) -/

/-- The lanes of a bond are no longer aligned (R84, R106). -/
def State.unalign (s : State) (c : Nat) : State := if lanesOf (s.client c) > 1 then s.setCrb c 4 23 false else s

/-- CH_EN goes from 0 to 1 on an owner: every lane of the bond powers up, dLOS holds until adaptation has ended, and
BACKOFF clears with it (R99). -/
def State.enableCh (s : State) (c : Nat) : State :=
  let s := ((s.wakeRx c 21).unalign c).modCh c fun h => { h with
    tx := { h.tx with adjQuiet := [] }, an := {}, coded := {} }
  let s := (s.partBond c).setCrb c 4 21 false
  let s := s.each (s.bond c) fun t d => t.putDef d dLOS true
  let s := if s.framed c then s.oofOn c else s
  s.each (s.bond c) fun t d => (t.syncSsf d).startHold d

/-- The defect bits, reported values and hold-off timers of a disabled channel (R204). -/
def State.clearDefects (s : State) (c : Nat) : State :=
  let s := s.setReg (chReg c 5) 0
  let s := { s with copies := Store.set 0 s.copies (chReg c 5) 0 }
  let s := s.modCh c fun h => { h with dupMarks := [], voteMark := none }
  s.each (List.range 23) fun t d => t.modHold (holdDefect c d) fun _ => {}

/-- CH_EN goes from 1 to 0: the lanes of the bond power down and the channel sleeps; FAULTED stays.
(DEDUCED, notes/assumptions/8.md). -/
def State.disableCh (s : State) (c : Nat) : State :=
  let s := ((s.releaseFox c false).withdraw c).unalign c
  let s := s.each (s.bond c) fun t d =>
    ((t.modLane d fun l => { l with
      rxOn := false, rxAsleep := false, pll := false, adapted := false, txOn := false, sleepHold := none
      wakeAt := none, slipClear := none, txOwnClock := false }).clearDefects d).modMon d fun m =>
        { m.restart with lofAt := none, lomAt := none, lomLeft := none, csfAt := none, deg := {}, exc := {},
                         burst := {}, burstDecl := false }
  let s := if s.chState c == stFaulted then s else s.toState c stAsleep
  (s.partBond c).checkStop (c / 16)

/-! ### Slips (R66, R67, R171) and watermarks (R235, R236) -/

/-- The fill of the watched store becomes v, in 1/256 (R235): an upward crossing of WM_LEVEL sets WM_FLAG and raises
one event, outside hold-off. -/
def State.watermark (s : State) (c v : Nat) : State :=
  let w := s.cr c 16
  let v := min v 255
  let lvl := fld w 23 16
  let cross := lvl != 0 && fld w 7 0 < lvl && v ≥ lvl
  let w := setFld (setFld w 7 0 v) 15 8 (max v (fld w 15 8))
  let s := s.setReg (chReg c 16) (if cross then setBit w 31 true else w)
  if cross && s.crb c 17 31 then s.event 0x03 (c / 16) c 0x10 else s

/-- ELASTIC_SLIP sets for 1 ms after the last slip (R205 bit 22). -/
def State.slipped (s : State) (c : Nat) : State :=
  (s.setDef c dSLIP true).modLane c fun l => { l with slipClear := s.after 1000 }

/-- What an elastic store holds after it has come to hold `l`, the entry that leaves next first (R66, R67): it slips to
16 entries at 0, by repeating the last that left, and at 32, by discarding the oldest; otherwise the gating of its
reads or the justification holds it between 8 and 24, with entries that the row does not give. Which entries are
repeated and discarded is a choice (DESIGN CHOICE, notes/assumptions/181.md). -/
def storeKeep (last : Option (BitVec 128)) (l : List (BitVec 128)) : List (Option (BitVec 128)) :=
  let n := l.length
  if n = 0 then List.replicate 16 last
  else if 32 ≤ n then (l.drop (n - 16)).map some
  else (l.drop (n - 24)).map some ++ List.replicate (8 - n) none

/-- What a store has come to hold. -/
def storeData : StoreFill → List (BitVec 128)
  | .rx l => l
  | .tx l => l

/-- The store runs empty or full. -/
def storeOut (f : StoreFill) : Bool := (storeData f).isEmpty || 32 ≤ (storeData f).length

/-- The stores of a lane after one has come to a fill. -/
def Lane.fill (f : StoreFill) (l : Lane) : Lane :=
  match f with
  | .rx e => { l with storeRx := storeKeep l.storeRx.getLast?.join e }
  | .tx e => { l with storeTx := storeKeep l.storeTx.getLast?.join e }

/-- A receive store. -/
def storeIsRx : StoreFill → Bool
  | .rx _ => true
  | .tx _ => false

/-- The fill of a lane's receive store shows in CH_WATERMARK, 8/256 for each entry, where no rate-adaptation store does
(R235). -/
def State.storeShow (s : State) (c : Nat) (f : StoreFill) : State :=
  if storeIsRx f && !s.gfpRole c then s.watermark c (8 * (s.lane c).storeRx.length) else s

/-- ELASTIC_STORE_SLIP: a store has come to a fill; a receive slip on a framed line loses the frame (R67, R85,
R98). -/
def State.slip (s : State) (c : Nat) (f : StoreFill) : State :=
  let o := s.owner c
  if s.enabled c then
    let s := (s.modLane c (Lane.fill f)).storeShow c f
    let s := if storeOut f then s.slipped c else s
    if storeOut f && storeIsRx f && s.framed o && s.chState o != stFaulted
        && (s.aligned o || s.chState o == stHunting || s.chState o == stWaitFox) then s.outOfFrame o true
    else s
  else s

/-- ELASTIC_SLIP_CLEAR: 1 ms after the last slip. While the bit holds its value the timer stands. -/
def State.slipEnd (s : State) (c : Nat) : State :=
  if s.due (s.lane c).slipClear && !s.defHeld c dSLIP then
    (s.modLane c fun l => { l with slipClear := none }).setDef c dSLIP false
  else s

/-! ### Lane alignment and PCS lock (R70, R106 to R108, R205 bits 13 to 17) -/

/-- The skew that the deskew of a bond absorbs, in ns (R70). -/
def deskewNs : Nat := 180

/-- LANE_ALIGNER_LOCK: the lanes of an OTU4 bond are identified by their markers and deskewed, where their skew lies
within the deskew range (R70, R106). -/
def State.alignerLock (s : State) (a : LaneAlign) : State :=
  let c := a.lane
  if isOtn (s.client c) && lanesOf (s.client c) > 1 && s.enabled c && a.skewNs ≤ deskewNs
      && (s.bond c).all (fun d => (s.lane d).adapted) then
    ((s.modFrm c fun f => { f with order := a.order }).setCrb c 4 23 true).request c
  else s

/-- LANE_ALIGNMENT_LOSS: LANES_ALIGNED falls and dOOF sets at once (R106). -/
def State.alignerLoss (s : State) (c : Nat) : State :=
  if isOtn (s.client c) && lanesOf (s.client c) > 1 && s.enabled c then
    let s := (s.setCrb c 4 23 false).releaseFox c false
    let s := s.withdraw c
    let s := if s.aligned c || s.chState c == stWaitFox then s.toState c stHunting else s
    s.oofOn c
  else s

/-- Alignment-marker lock is used (R107): multi-lane and RS-FEC clients. -/
def State.usesAm (s : State) (c : Nat) : Bool :=
  let k := s.client c
  k == 0x23 || k == 0x24 || k == 0x25 || (k == 0x22 && s.crb c 1 22)

/-- BMP: the line whose transmit clock follows the client falls back to TCLK while the client has failed or is disabled;
10 ms after that, or after its connection, it follows (R146) (DESIGN CHOICE, notes/assumptions/165.md). -/
def State.bmpFollow (s : State) (line client : Nat) : State :=
  if s.clientFailed client || !s.enabled client then
    s.modLane line fun l => { l with followsClient := false, bmpReturn := none }
  else if (s.lane line).followsClient || (s.lane line).bmpReturn.isSome then s
  else s.modLane line fun l => { l with bmpReturn := s.after 10000 }

/-- PCS_LOCK_ACQUIRED: block lock and, where used, alignment-marker lock on every lane, whose skew the deskew of a bond
absorbs (R70, R107, R108). -/
def State.pcsLock (s : State) (a : LaneAlign) : State :=
  let c := a.lane
  if isEth (s.client c) && s.enabled c && !s.isMember c && !s.checking c && s.chState c != stFaulted
      && (lanesOf (s.client c) == 1 || a.skewNs ≤ deskewNs) && (s.bond c).all (fun d => (s.lane d).adapted) then
    let s := (s.setDef c dLOBL false).setDef c dAMLOSS false
    let s := s.modCh c fun h => { h with coded := { h.coded with
      dispIn := false, scrIn := [], posIn := 0, bipIn := [], waitIn := [], rowIn := [], order := a.order } }
    (s.setCrb c 4 23 true).toState c stInFrame
  else s

/-- BASE-R clients (R205): every Ethernet code but 1000BASE-X. -/
def isBaseR (code : Nat) : Bool := isEth code && code != 0x20

/-- The link fault state machine of a BASE-R client enters or leaves its fault states (R132, R205 bits 16 and 17). -/
def State.setFault (s : State) (c : Nat) (st : LinkFault) : State :=
  if isBaseR (s.client c) then (s.setDef c dLF (st == .localFault)).setDef c dRF (st == .remoteFault) else s

/-- The client's own PCS signals local fault: it lacks lock, or hi_ber or hi_ser holds (R205 bit 16).
(DEDUCED, notes/assumptions/127.md). -/
def State.pcsFault (s : State) (c : Nat) : Bool := s.def_ c dLOBL || s.def_ c dAMLOSS || s.def_ c dHIBER

/-- PCS_LOCK_LOST: which of block lock and alignment-marker lock is lost (R108); the PCS signals local fault. -/
def State.pcsLost (s : State) (c : Nat) (block am : Bool) : State :=
  if isEth (s.client c) && s.enabled c && !s.isMember c then
    let s := if block then s.setDef c dLOBL true else s
    let s := if am && s.usesAm c then s.setDef c dAMLOSS true else s
    let s := if s.pcsFault c then s.setFault c .localFault else s
    let s := if (block || am) && lanesOf (s.client c) > 1 then s.setCrb c 4 23 false else s
    let s := if block then s.modCh c fun h => { h with an := {} } else s
    if (block || am) && s.chState c == stInFrame then s.toState c stHunting else s
  else s

/-- HI_BER_CHANGE (R205 bits 13 and 16). -/
def State.hiBer (s : State) (c : Nat) (on : Bool) : State :=
  if isBaseR (s.client c) && !s.isMember c then
    let s := s.setDef c dHIBER on
    if on then s.setFault c .localFault else s
  else s

/-- LINK_FAULT_STATE_CHANGE (R132, R205 bits 16 and 17): local fault holds while the client's own PCS signals it. -/
def State.linkFault (s : State) (c : Nat) (st : LinkFault) : State :=
  if s.isMember c then s else s.setFault c (if s.pcsFault c then .localFault else st)

/-- TERMINATION_CALIBRATION (R81, R598): at boot; a lane that fails raises S1 and does not enable until reset. -/
def State.calibrate (s : State) (resistorOk : Bool) (failed : List Nat) : State :=
  if s.phase == .boot then
    s.each (allCh.filter fun c => !resistorOk || failed.contains c) fun t c =>
      (t.modLane c fun l => { l with calFail := true }).report { src := 13, group := some (c / 16), chan := some c }
  else s

/-! ### The commands -/

/-- R60, R61, R34, R35, R44, R62. -/
def execSignalDetectAssert (l : LaneLevels) (s : State) : Out := .next (onCh l.lane s (s.sdRise l.lane l.mv))
/-- R60, R62. -/
def execSignalDetectDeassert (l : LaneLevels) (s : State) : Out := .next (onCh l.lane s (s.sdFall l.lane l.mv))
/-- R32, R33, R43, R47, R71. -/
def execSleepHoldExpiry (c : Nat) (s : State) : Out := .next (onCh c s (s.sleepExpiry c))
/-- R37, R42. -/
def execGroupClockStop (g : Nat) (s : State) : Out := .next (onGrp g s (s.groupStop g))
/-- R59, R63. -/
def execLanePllLock (l : LaneOffset) (s : State) : Out := .next (onCh l.lane s (s.pllLock l.lane l.ppm))
/-- R59, R44, R88. -/
def execInitialAdaptationDone (c : Nat) (s : State) : Out := .next (onCh c s (s.adaptDone c))
/-- R66, R67, R85. -/
def execElasticStoreSlip (c : Nat) (f : StoreFill) (s : State) : Out := .next (onCh c s (s.slip c f))
/-- R205 bit 22. -/
def execElasticSlipClear (c : Nat) (s : State) : Out := .next (onCh c s (s.slipEnd c))
/-- R70, R106. -/
def execLaneAlignerLock (a : LaneAlign) (s : State) : Out := .next (onCh a.lane s (s.alignerLock a))
/-- R106. -/
def execLaneAlignmentLoss (c : Nat) (s : State) : Out := .next (onCh c s (s.alignerLoss c))
/-- R70, R107, R108. -/
def execPcsLockAcquired (a : LaneAlign) (s : State) : Out := .next (onCh a.lane s (s.pcsLock a))
/-- R107, R108, R205. -/
def execPcsLockLost (c : Nat) (block am : Bool) (s : State) : Out := .next (onCh c s (s.pcsLost c block am))
/-- R205 bit 13. -/
def execHiBerChange (c : Nat) (on : Bool) (s : State) : Out := .next (onCh c s (s.hiBer c on))
/-- R205 bits 16, 17, R132. -/
def execLinkFaultStateChange (c : Nat) (st : LinkFault) (s : State) : Out := .next (onCh c s (s.linkFault c st))
/-- R81, R598. -/
def execTerminationCalibration (resistorOk : Bool) (failed : List Nat) (s : State) : Out :=
  .next (whileOn s (s.calibrate resistorOk failed))

end Sys2Proof.Machine
end

