-- ==== Sys2Proof/Machine/Pm.lean ====
section
/-!
DEFINITION. Performance monitoring (R216 to R228, R231 to R236): degrade windows, live counters, one-second records,
the firmware's bins and thresholds, hold-off expiries, watermarks.
-/
namespace Sys2Proof.Machine

/-! ### Degrade windows (R217) -/

/-- PM_LAYER as it acts on a line or CBR channel: path or section (R216). -/
def State.pmPath (s : State) (c : Nat) : Bool := s.crf c 9 28 27 = 1 && s.role c == 0

/-- The number of VC-4s that a VCX or X code names. -/
def vcX (x : Nat) : Nat := if x = 0 then 1 else if x = 1 then 4 else if x = 2 then 16 else 64

/-! ### Live counters (R221, R222) -/

/-- Which of the four counters. -/
def Counts.val (k : Counts) (n : Nat) : Nat :=
  if n = 0 then k.ne else if n = 1 then k.fe else if n = 2 then k.corr else k.unc

/-- Add to a live counter and to the sum of the second. -/
def Counts.add (k : Counts) (n v : Nat) : Counts :=
  if n = 0 then { k with ne := (k.ne + v) % 2 ^ 48, secNe := k.secNe + v }
  else if n = 1 then { k with fe := (k.fe + v) % 2 ^ 48, secFe := k.secFe + v }
  else if n = 2 then { k with corr := (k.corr + v) % 2 ^ 48, secCorr := k.secCorr + v }
  else { k with unc := (k.unc + v) % 2 ^ 48, secUnc := k.secUnc + v }

/-- Count in counter n of channel c; a wrap modulo 2^48 sets its CNT_WRAP bit (R511). -/
def State.countCh (s : State) (c n v : Nat) : State :=
  if v = 0 then s
  else
    let wraps := (s.ch c).cnt.val n + v ≥ 2 ^ 48
    let s := s.modCh c fun h => { h with cnt := h.cnt.add n v }
    if wraps then s.setRb (0x8010 + 4 * (c / 32)) (c % 32) true else s

/-- Clear the four live counters (R222, R231). -/
def State.clearCnt (s : State) (c : Nat) : State :=
  s.modCh c fun h => { h with cnt := { h.cnt with ne := 0, fe := 0, corr := 0, unc := 0, partial_ := true } }

/-! ### One-second records (R223 to R225) -/

/-- The eight words of a record. -/
def pmWords (sec : Nat) (short : Bool) (k : Counts) (asleep : Bool) : List Word :=
  let z (v : Nat) := if asleep then 0 else v
  [BitVec.ofNat 32 sec,
    BitVec.ofNat 32 (2 ^ 31 + b2n short * 2 ^ 30 + b2n k.partial_ * 2 ^ 29 + k.secDef % 2 ^ 23),
    BitVec.ofNat 32 (z k.secNe), BitVec.ofNat 32 (z k.secFe), BitVec.ofNat 32 (z k.secCorr),
    BitVec.ofNat 32 (z k.secCorr / 2 ^ 32 % 256), BitVec.ofNat 32 (z k.secUnc), 0]

/-- The second that opens: no sums, the defects that stand (R223). -/
def State.openSecond (s : State) (c : Nat) : State :=
  s.modCh c fun h => { h with cnt := { h.cnt with
    secNe := 0, secFe := 0, secCorr := 0, secUnc := 0, secDef := (s.cr c 5).toNat
    partial_ := s.chState c == stAsleep } }

/-- Close the record of one channel, and class its second for the burst method (R219, R223). -/
def State.closeCh (short : Bool) (s : State) (c : Nat) : State :=
  if s.provisioned c then
    let k := (s.ch c).cnt
    let asleep := !(s.grp (c / 16)).clk
    let s := s.setTblWords 0x13 0 (16 * c + s.time.open_ % 16) 0 (pmWords s.time.open_ short k asleep)
    let d := BitVec.ofNat 32 k.secDef
    let skip := bit d dLOS || bit d dOOF || bit d dLOF || bit d dAIS
    let s := if s.crb c 9 31 && s.degMethod c != 0 then
        (s.modMon c fun m => m.burstSecond (s.degM c) skip (k.secNe ≥ s.degThr c)).syncDeg c
      else s
    s.openSecond c
  else s.openSecond c

/-- Close the second that is open on every channel; the firmware folds it later (R223, R226). -/
def State.closeSecond (s : State) (short : Bool) : State :=
  let s := s.each allCh (State.closeCh (short || s.time.stepped))
  { s with time := { s.time with open_ := s.time.sec, stepped := short }
           mgmt := { s.mgmt with unfolded := s.mgmt.unfolded ++ [s.time.open_ % 2 ^ 32] } }

/-! ### Bins (R226 to R228)

A channel's bins lie in `mgmt.bins` under 256c + slot: 0 the current 15-minute bin, 1 to 32 the previous ones, 64 and
65 those of 24 hours, 128 the undecided seconds. A bin is [start, suspect, elapsed, NE, FE, CORR, UNCORR, ES, SES,
UAS, crossed]; the undecided seconds are [unavailable, e1, e2, ...] with e = 4 × second + 2 × ES + SES. -/

/-- Element i of a bin. -/
def nth (l : List Nat) (i : Nat) : Nat := (l[i]?).getD 0

/-- A new bin. -/
def newBin (start : Nat) : List Nat := [start, 0, 0, 0, 0, 0, 0, 0, 0, 0, 0]

/-- Add to element i of a bin. -/
def addAt (l : List Nat) (i v : Nat) : List Nat := l.set i (nth l i + v)

/-- A bin of a channel. -/
def Mgmt.bin (m : Mgmt) (c n : Nat) : List Nat := Store.get [] m.bins (256 * c + n)

/-- Put a bin of a channel. -/
def Mgmt.setBin (m : Mgmt) (c n : Nat) (b : List Nat) : Mgmt :=
  { m with bins := Store.set [] m.bins (256 * c + n) b }

/-- Shift the previous 15-minute bins by one, newest first. -/
def Mgmt.shiftBins (m : Mgmt) (c : Nat) : Nat → Mgmt
  | 0 => m
  | n + 1 => (m.setBin c (n + 1) (m.bin c n)).shiftBins c n

/-- The bin that second `sec` belongs to becomes current (R226). -/
def Mgmt.roll (m : Mgmt) (c sec : Nat) : Mgmt :=
  let a := sec / 900 * 900
  let m := if m.bin c 0 = [] then m.setBin c 0 (newBin a)
    else if nth (m.bin c 0) 0 = a then m
    else (m.shiftBins c 32).setBin c 0 (newBin a)
  let d := sec / 86400 * 86400
  if m.bin c 64 = [] then m.setBin c 64 (newBin d)
  else if nth (m.bin c 64) 0 = d then m
  else (m.setBin c 65 (m.bin c 64)).setBin c 64 (newBin d)

/-- Change the bins that hold second `sec`: the current or the previous ones. -/
def Mgmt.inBins (m : Mgmt) (c sec : Nat) (f : List Nat → List Nat) : Mgmt :=
  let n := if nth (m.bin c 0) 0 ≤ sec then 0 else 1
  let k := if nth (m.bin c 64) 0 ≤ sec then 64 else 65
  let m := if m.bin c n = [] then m else m.setBin c n (f (m.bin c n))
  if m.bin c k = [] then m else m.setBin c k (f (m.bin c k))

/-- Count a second: as ES and SES, or as UAS (R226). -/
def countSec (uas : Bool) (e : Nat) (b : List Nat) : List Nat :=
  if uas then addAt b 9 1 else addAt (addAt b 7 (e / 2 % 2)) 8 (e % 2)

/-- Count undecided seconds. -/
def Mgmt.flush (m : Mgmt) (c : Nat) (uas : Bool) (l : List Nat) : Mgmt :=
  l.foldl (fun m e => m.inBins c (e / 4) (countSec uas e)) m

/-- One second into the unavailability rule of R226 (DEDUCED, notes/assumptions/20.md). -/
def Mgmt.second (m : Mgmt) (c e : Nat) : Mgmt :=
  let t := m.bin c 128
  let una := nth t 0 = 1
  let pend := t.drop 1
  if una then
    if e % 2 = 1 then ((m.flush c true pend).flush c true [e]).setBin c 128 [1]
    else if pend.length + 1 = 10 then (m.flush c false (pend ++ [e])).setBin c 128 [0]
    else m.setBin c 128 (1 :: (pend ++ [e]))
  else if e % 2 = 0 then ((m.flush c false pend).flush c false [e]).setBin c 128 [0]
  else if pend.length + 1 = 10 then (m.flush c true (pend ++ [e])).setBin c 128 [1]
  else m.setBin c 128 (0 :: (pend ++ [e]))

/-- A bin as it reads now: the undecided seconds of its span count by the present period (R226). -/
def Mgmt.readBin (m : Mgmt) (c n : Nat) : List Nat :=
  let b := m.bin c n
  let t := m.bin c 128
  let len := if n ≥ 64 then 86400 else 900
  (t.drop 1).foldl (fun b e =>
    if nth b 0 ≤ e / 4 && e / 4 < nth b 0 + len then countSec (nth t 0 = 1) e b else b) b

/-- The line rate of an OTU in kbit/s (R48). -/
def otuKbps (code : Nat) : Nat :=
  if code = 0x10 then 10709225 else if code = 0x11 then 11095728 else 111809974

/-- The defects that contribute to signal fail, as a mask (R143, R209, R226). -/
def State.sfMask (s : State) (c : Nat) : Word :=
  if isEth (s.client c) then 0x0000C005
  else
    let w : Word := 0x00001815
    let w := if isOtn (s.client c) then w ||| 0x8 else w
    let w := if s.crb c 8 28 then w ||| 0x40 else w
    let w := if s.crb c 8 27 then w ||| 0x80 else w
    if s.crb c 8 26 then w ||| 0x200 else w

/-- The code of a second in the undecided list: ES and SES of R226. -/
def State.secCode (s : State) (c sec ne : Nat) (d : Word) : Nat :=
  let bad := (d &&& s.sfMask c) != 0
  let ses := bad || (!isEth (s.client c) &&
    (if isSdh (s.client c) then 10 * ne ≥ 3 * 8000 else 10 * ne * 130560 ≥ 3 * 1000 * otuKbps (s.client c)))
  4 * sec + 2 * b2n (bad || ne ≥ 1) + b2n ses

/-- A bin that spans one of the seconds in which the device was in DEEP is SUSPECT (R226). -/
def deepBin (secs : List Nat) (len : Nat) (b : List Nat) : List Nat :=
  if b != [] && secs.any fun d => d / len * len == nth b 0 then b.set 1 1 else b

/-- The current bins of a channel, SUSPECT where they span a time in DEEP. -/
def Mgmt.deepMark (m : Mgmt) (c : Nat) : Mgmt :=
  let put (m : Mgmt) (n len : Nat) : Mgmt :=
    let b := deepBin m.deepSecs len (m.bin c n)
    if b = m.bin c n then m else m.setBin c n b
  put (put m 0 900) 64 86400

/-- DEEP begins or ends in second `sec`. -/
def Mgmt.inDeep (m : Mgmt) (sec : Nat) : Mgmt :=
  let m := { m with deepSecs := (m.deepSecs ++ [sec % 2 ^ 32]).eraseDups }
  allCh.foldl Mgmt.deepMark m

/-- The threshold-crossing events of one bin; word `w` of the threshold table is its first (R228, R234). -/
def State.crossings (s : State) (c n w code : Nat) : State :=
  s.each (List.range 7) fun t i =>
    let b := t.mgmt.readBin c n
    let th := (t.tbl 0x14 c (w + i)).toNat
    if th != 0 && nth b (3 + i) ≥ th && (nth b 10 / 2 ^ i) % 2 = 0 then
      let t := t.modMgmt fun m => m.setBin c n ((m.bin c n).set 10 (nth b 10 + 2 ^ i))
      if t.crb c 17 30 && t.crb c 17 31 then t.event 0x03 (c / 16) c (code + i) else t
    else t

/-- A second whose record was overwritten: its bins are SUSPECT. -/
def State.lostRec (sec : Nat) (s : State) (c : Nat) : State :=
  if s.provisioned c then s.modMgmt fun m => (m.roll c sec).inBins c sec fun b => b.set 1 1 else s

/-- Fold one record of one channel (R226). What a period of unavailability adds to the bin that has just closed is
compared with its thresholds too (R228). -/
def State.foldRec (sec : Nat) (s : State) (c : Nat) : State :=
  let e := 16 * c + sec % 16
  let w1 := s.tbl 0x13 e 1
  if s.provisioned c && bit w1 31 && (s.tbl 0x13 e 0).toNat = sec then
    let ne := (s.tbl 0x13 e 2).toNat
    let corr := (s.tbl 0x13 e 4).toNat + fld (s.tbl 0x13 e 5) 7 0 * 2 ^ 32
    let susp := b2n (bit w1 30 || bit w1 29)
    let s := s.modMgmt fun m => (m.roll c sec).deepMark c
    let last := (s.mgmt.bin c 1, s.mgmt.bin c 65)
    let s := s.modMgmt fun m =>
      let m := m.inBins c sec fun b =>
        let b := if susp = 1 then b.set 1 1 else b
        addAt (addAt (addAt (addAt (addAt b 2 1) 3 ne) 4 (s.tbl 0x13 e 3).toNat) 5 corr) 6 (s.tbl 0x13 e 6).toNat
      m.second c (s.secCode c sec ne w1)
    let s := (s.crossings c 0 0 0x00).crossings c 64 7 0x80
    let s := if s.mgmt.bin c 1 != last.1 then s.crossings c 1 0 0x00 else s
    if s.mgmt.bin c 65 != last.2 then s.crossings c 65 7 0x80 else s
  else if bit w1 31 then State.lostRec sec s c
  else s

/-- The records of seconds, oldest first. One whose place a later second of the list has taken, as after a step of
device time, is lost. -/
def State.foldAll (s : State) : List Nat → State
  | [] => s
  | sec :: r =>
    let s := if r.any (· % 16 == sec % 16) then s.each allCh (State.lostRec sec) else s.each allCh (State.foldRec sec)
    s.foldAll r

/-- PM_FOLD: the records written since the last fold; those the ring has overwritten leave their bins SUSPECT
(R226). PM_STAT shows the newest folded second (R511). -/
def State.pmFold (s : State) : State :=
  if s.fwUp && s.due s.mgmt.foldAt && !s.mgmt.awake then s.wakeBadger
  else if s.fwUp && s.due s.mgmt.foldAt then
    let l := s.mgmt.unfolded
    let s := s.foldAll l
    let day := (l.getLast?.getD 0) / 86400
    let s := s.modMgmt fun m =>
      { m with unfolded := [], foldAt := s.after 8000000, deepSecs := m.deepSecs.filter fun d => day ≤ d / 86400 }
    match l.getLast? with
    | some sec => s.setReg 0x800C (BitVec.ofNat 32 sec)
    | none => s
  else s

/-- A 48-bit value as a low word and a high word. -/
def lowHigh (v : Nat) : List Word := [BitVec.ofNat 32 v, BitVec.ofNat 32 (v / 2 ^ 32 % 65536)]

/-- The reply words of PM_RD (R227). -/
def pmReply (b : List Nat) : List Word :=
  [BitVec.ofNat 32 (nth b 0), BitVec.ofNat 32 (nth b 1 * 2 ^ 31 + nth b 2)]
    ++ lowHigh (nth b 3) ++ lowHigh (nth b 4) ++ lowHigh (nth b 5) ++ lowHigh (nth b 6)
    ++ [BitVec.ofNat 32 (nth b 7), BitVec.ofNat 32 (nth b 8), BitVec.ofNat 32 (nth b 9)]

/-- PM_RD (R227). -/
def State.fxPmRd (q : Req) (ws : List Word) (s : State) : State :=
  let w := wd ws 0
  let c := fld w 31 24
  let n := fld w 7 0
  if ws.length != 1 then s.finish q 0x0906 eLength 0 []
  else if !onlyBits w 0xFF0000FF || c ≥ 192 || (n > 32 && n != 64 && n != 65) then s.finish q 0x0906 eParam 0 []
  else s.finish q 0x0906 stOk 0 (pmReply (s.mgmt.readBin c n))

/-! ### Hold-off (R233, R234) and watermarks (R235, R236) -/

/-- The event of a defect's hold-off (R234). -/
def defEvent (c d : Nat) (i : Item) : Event :=
  mkEvent i.suppressed 0x01 (c / 16) c (i.value % 2 * 128 + b2n i.suppressed * 64 + d) i.time

/-- DEFECT_HOLDOFF_EXPIRY. -/
def State.defExpiry (s : State) (c d : Nat) : State := s.expireHold (holdDefect c d) fun _ i => defEvent c d i

/-- TRIBUTARY_HOLDOFF_EXPIRY: one event for all the tributaries of a destination channel (255: REMAP and RED). -/
def State.tribExpiry (s : State) (c : Nat) : State :=
  let h := s.hold (holdTrib c)
  if s.due h.at_ then
    let r := h.reports
    let s := if r.isEmpty && !h.more then s
      else s.push (mkEvent h.more 0x02 (if c < 192 then c / 16 else 0xFF) c 0 h.last)
    s.modHold (holdTrib c) fun _ => h.settled
  else s

/-! ### The commands -/

/-- R226, R228. -/
def execPmFold (s : State) : Out := .next (owlOn s s.pmFold)
/-- R233, R234. -/
def execDefectHoldoffExpiry (c d : Nat) (s : State) : Out := .next (owlOn s (if c < 192 ∧ d < 23 then s.defExpiry c d else s))
/-- R234. -/
def execTributaryHoldoffExpiry (c : Nat) (s : State) : Out := .next (owlOn s (if c < 256 then s.tribExpiry c else s))
/-- R235, R236. -/
def execWatermarkCrossing (c fill : Nat) (s : State) : Out := .next (onCh c s (s.watermark c fill))

end Sys2Proof.Machine
end

