-- ==== Sys2Proof/Machine/XConnect.lean ====
section
/-!
DEFINITION. The cross-connect (06_cross_connect.md with R141, R155 to R161 and R268): endpoints, the validation of
connections and structure entries with the reasons of R196, XC_CONNECT, XC_DISCONNECT, TBL_SWAP and the swap itself.
-/
namespace Sys2Proof.Machine

/-! ### Endpoint words (R173) -/

/-- CHANNEL. -/
def epCh (w : Word) : Nat := fld w 27 20
/-- V. -/
def epV (w : Word) : Nat := fld w 19 14
/-- X as a number of VC-4s. -/
def epX (w : Word) : Nat := vcX (fld w 13 12)
/-- TPN. -/
def epTpn (w : Word) : Nat := fld w 19 13
/-- INDEX. -/
def epIndex (w : Word) : Nat := fld w 13 7
/-- LOTYPE. -/
def epLo (w : Word) : Nat := fld w 6 5
/-- REMAPPER. -/
def epRemap (w : Word) : Nat := fld w 10 0
/-- STREAM. -/
def epStream (w : Word) : Nat := fld w 19 9
/-- MEMBER. -/
def epMember (w : Word) : Nat := fld w 8 7

/-- The bits of an endpoint word that its kind uses. -/
def epUsed (w : Word) : Word :=
  let k := epKind w
  if k = 1 then 0xFFFFF000 else if k = 2 then 0xFFFFE000 else if k = 3 then 0xFFFFFFE0
  else if k = 4 then 0xF00007FF else if k = 5 then 0xF00FFF80 else 0xF0000000

/-- Kinds 1 to 3 lie on a channel. -/
def epOnCh (w : Word) : Bool := 1 ≤ epKind w && epKind w ≤ 3

/-- The endpoint lies on channel c. -/
def epIsOn (w : Word) (c : Nat) : Bool := epOnCh w && epCh w == c

/-! ### The tables of a bank -/

/-- The connection numbers in use in bank b (R185). -/
def State.conns (s : State) (b : Nat) : List Nat :=
  s.tables.filterMap fun e =>
    if e.1 / 8388608 = 4 + b ∧ e.1 % 128 = 0 ∧ epKind e.2 != 0 then some (e.1 / 128 % 65536) else none

/-- The structure entries of bank b with a word that is not 0 (R184). -/
def State.structs (s : State) (b : Nat) : List Nat :=
  (s.tables.filterMap fun e => if e.1 / 8388608 = 2 + b then some (e.1 / 128 % 65536) else none).eraseDups

/-- One connection (R185). -/
structure Conn where
  dest : Word
  src : Word
  ctl : Word
  alt : Word
  deriving DecidableEq, Repr

/-- TYPE. -/
def Conn.typ (k : Conn) : Nat := fld k.ctl 31 24
/-- PGROUP. -/
def Conn.pgroup (k : Conn) : Nat := fld k.ctl 23 17

/-- Connection n of bank b. -/
def State.conn (s : State) (b n : Nat) : Conn :=
  { dest := s.tblB 2 b n 0, src := s.tblB 2 b n 1, ctl := s.tblB 2 b n 2, alt := s.tblB 2 b n 3 }

/-- Put connection n of bank b; its words get new parity. -/
def State.setConn (s : State) (b n : Nat) (k : Conn) : State :=
  let s := s.setTblWords 2 b n 0 [k.dest, k.src, k.ctl, k.alt]
  { s with tblBad := s.tblBad.filter fun x => x / 128 != tblKey 2 b n 0 / 128 }

/-- The bank in use, and the other (R189). -/
def State.bankUsed (s : State) : Nat := s.swap.bank

/-- The inactive bank. -/
def State.bankOther (s : State) : Nat := 1 - s.swap.bank

/-- The connections of bank b with their numbers. -/
def State.bankConns (s : State) (b : Nat) : List (Nat × Conn) := (s.conns b).map fun n => (n, s.conn b n)

/-! ### Positions and containers (R138, R141, R160, R175)

A container is (signal, n): 0 to 3 VC-4 to VC-4-64c, 4 ODU0, 5 ODU1, 6 ODU2, 7 ODU2e, 8 ODU4, 9 ODUflex of n slots,
10 VC-3, 11 VC-12, 12 VC-11, 13 E1, 14 DS1. These are the SIGNAL codes of R269. -/

/-- A container type. -/
abbrev Sig := Nat × Nat

/-- Word w of structure entry i of channel c in bank b. -/
def State.line (s : State) (b c i w : Nat) : Word := s.tblB 1 b (80 * c + i) w

/-- VC4_MODE. -/
def State.vc4Mode (s : State) (b c v : Nat) : Nat := fld (s.line b c v 0) 31 30

/-- The TUG-3 k of VC-4 v carries a TU-3. -/
def State.isTu3 (s : State) (b c v k : Nat) : Bool := fld (s.line b c v 0) (25 + 2 * k) (24 + 2 * k) == 1

/-- The TUG-2 number j = 7k + l of VC-4 v carries TU-11s. -/
def State.isTu11 (s : State) (b c v j : Nat) : Bool := bit (s.line b c v 0) j

/-- The mask of the slots of MUX entry i. -/
def State.slotMask (s : State) (b c i : Nat) : Nat :=
  (s.line b c i 1).toNat + (s.line b c i 2).toNat * 2 ^ 32 + (s.line b c i 3).toNat * 2 ^ 64

/-- The channel is an SDH or SONET line of the device. -/
def State.sdhLine (s : State) (c : Nat) : Bool := isSdh (s.client c) && s.role c == 0

/-- STRUCT of an OTU line (R140). -/
def State.structOf (s : State) (c : Nat) : Nat := s.crf c 1 18 16

/-- The channel is an OTU line with STRUCT = MUX. -/
def State.muxLine (s : State) (c : Nat) : Bool :=
  (s.client c == 0x10 || s.client c == 0x12 || s.client c == 0x13) && s.role c == 0 && s.structOf c == 1

/-- Tributary slots of a MUX line (R155). -/
def State.slotsOf (s : State) (c : Nat) : Nat := if s.client c = 0x10 then 8 else 80

/-- The container at the fabric port of a WHOLE line or of a client channel (R141). -/
def State.wholeOdu (s : State) (c : Nat) : Option Sig :=
  let k := s.client c
  let r := s.role c
  if isOtn k then
    (if r != 0 || s.structOf c != 0 then none
     else if k = 0x10 then some (6, 0) else if k = 0x11 then some (7, 0) else some (8, 0))
  else if k = 3 then (if r = 1 then some (5, 0) else none)
  else if k = 4 then (if r = 1 ∨ r = 2 then some (6, 0) else none)
  else if r = 3 then
    (if k = 0x20 then some (4, 0) else if k = 0x21 then some (7, 0)
     else if k = 0x24 ∨ k = 0x25 then some (8, 0) else none)
  else if r = 4 then
    (if (k = 0x22 ∨ k = 0x23) ∧ 1 ≤ s.crf c 1 15 9 ∧ s.crf c 1 15 9 ≤ 80 then some (9, s.crf c 1 15 9) else none)
  else none

/-- The container of a MUX entry. -/
def State.muxSig (s : State) (b c i : Nat) : Option Sig :=
  let w := s.line b c i 0
  if !bit w 31 then none
  else
    let t := fld w 30 28
    if t < 4 then some (4 + t, 0) else if t = 5 then some (9, popcount 96 (s.slotMask b c i)) else none

/-- The reason, of those that lie in one endpoint alone, for which it has no position in bank b: 3 NO_POSITION,
10 PLACEMENT, 13 MEMBER_CHANNEL (R160, R161, R174, R175, R177); 0 where it has one.
(DEDUCED, notes/assumptions/23.md). -/
def State.epReason (s : State) (b : Nat) (w : Word) : Nat :=
  let k := epKind w
  let c := epCh w
  if epOnCh w then
    if c ≥ 192 then 3
    else if s.isMember c then 13
    else if k = 1 then
      if s.sdhLine c then
        let n := stmN (s.client c)
        let x := epX w
        if epV w ≥ n then 3
        else if (List.range x).any fun i => epV w + i < n && s.vc4Mode b c (epV w + i) ≥ 2 then 3
        else if epV w % x != 0 || epV w + x > n then 10
        else 0
      else if isEth (s.client c) && s.role c == 5 && epV w == 0 && fld w 13 12 == s.crf c 1 8 7 then 0
      else 3
    else if k = 2 then
      if epTpn w = 0 then (if (s.wholeOdu c).isSome then 0 else 3)
      else if s.muxLine c && epTpn w ≤ s.slotsOf c && (s.muxSig b c (epTpn w - 1)).isSome then 0
      else 3
    else
      let i := epIndex w
      if s.sdhLine c && epV w < stmN (s.client c) && s.vc4Mode b c (epV w) == 2 then
        if epLo w = 0 then (if i < 3 && s.isTu3 b c (epV w) i then 0 else 3)
        else if epLo w = 1 then
          (if i < 63 && !s.isTu3 b c (epV w) (i / 21) && !s.isTu11 b c (epV w) (i / 3) then 0 else 3)
        else if epLo w = 2 then
          (if i < 84 && !s.isTu3 b c (epV w) (i / 28) && s.isTu11 b c (epV w) (i / 4) then 0 else 3)
        else 3
      else 3
  else 0

/-- The container at an endpoint of kinds 1 to 3 (DEDUCED, notes/assumptions/21.md). -/
def State.epSig (s : State) (b : Nat) (w : Word) : Option Sig :=
  if epKind w = 1 then some (fld w 13 12, 0)
  else if epKind w = 2 then
    (if epTpn w = 0 then s.wholeOdu (epCh w) else s.muxSig b (epCh w) (epTpn w - 1))
  else if epKind w = 3 then (if epLo w < 3 then some (10 + epLo w, 0) else none)
  else none

/-! ### Remappers (R177, R181) -/

/-- What a connection makes of remapper r: 13 an E1 remapper, 14 a DS1 remapper. -/
def State.remapNames (s : State) (k : Conn) (r : Nat) : Option Nat :=
  let here (w : Word) := epKind w == 4 && epRemap w == r
  if here k.dest || here k.src || here k.alt then
    let t := k.typ
    if t = 7 ∨ t = 8 then some 13
    else if t = 9 ∨ t = 10 then some 14
    else if t = 11 then some (fld (s.tbl 5 (epStream k.dest) 0) 27 24)
    else if t = 12 then some (fld (s.tbl 5 (epStream k.src) 0) 27 24)
    else none
  else none

/-- The remapper of a connection, where it has one. -/
def Conn.remapper (k : Conn) : Option Nat :=
  if epKind k.dest = 4 then some (epRemap k.dest) else if epKind k.src = 4 then some (epRemap k.src) else none

/-! ### Redundancy (R267, R268) -/

/-- Word 0 of a redundancy stream. -/
def State.redWord (s : State) (n : Nat) : Word := s.tbl 5 n 0

/-- ROLE. -/
def State.redRole (s : State) (n : Nat) : Nat := fld (s.redWord n) 30 28

/-- The container of SIGNAL. -/
def State.redSig (s : State) (n : Nat) : Sig :=
  let g := fld (s.redWord n) 27 24
  (g, if g = 9 then fld (s.redWord n) 23 17 else 0)

/-- The carrier of a voted SIGNAL (R290). -/
def State.redCarrier (s : State) (n : Nat) : Sig :=
  let g := fld (s.redWord n) 27 24
  if g ≥ 11 then (10, 0) else if g = 10 then (0, 0) else if g = 0 then (1, 0) else (9, fld (s.redWord n) 6 0)

/-- The container a member takes (DEDUCED, notes/assumptions/24.md). -/
def State.redIn (s : State) (n : Nat) : Sig := if s.redRole n = 2 then s.redCarrier n else s.redSig n

/-- The container of the result. -/
def State.redOut (s : State) (n : Nat) : Sig := if s.redRole n = 3 then s.redCarrier n else s.redSig n

/-- The members a role uses. -/
def roleMembers (role : Nat) : Nat :=
  if role = 0 then 2 else if role = 1 then 1 else if role = 2 then 3 else if role = 3 then 1
  else if role = 4 then 2 else 1

/-- The container at the far side of a RED connection. -/
def State.redOther (s : State) (b : Nat) (w : Word) (want : Sig) : Bool :=
  if epKind w = 4 then want.1 == 13 || want.1 == 14 else s.epSig b w == some want

/-- R268: the channel allows the membership. -/
def State.redAllow (s : State) (w : Word) (role : Nat) : Bool :=
  if role = 0 ∨ role = 4 then s.crb (epCh w) 13 31 else if role = 2 then s.crb (epCh w) 13 30 else true

/-- The membership stands in the bank in use, so that its connection is not a new one (R271). -/
def State.redStands (s : State) (k : Conn) (src : Word) : Bool :=
  (s.bankConns s.bankUsed).any fun e => e.2.dest == k.dest && e.2.typ == k.typ && (e.2.src == src || e.2.alt == src)

/-- The channel of a member's source allows the membership; while the copies of its CH_HITLESS all differ, the
memberships that stand are kept and new ones refused (R268, R271). -/
def State.redAdmits (s : State) (k : Conn) (src : Word) (role : Nat) : Bool :=
  !epOnCh src
    || (if s.trpBad.contains (chReg (epCh src) 13) then s.redStands k src else s.redAllow src role)

/-- R268 holds for a connection whose source side is `src`. -/
def State.redOk (s : State) (b : Nat) (k : Conn) (src : Word) : Bool :=
  if k.typ = 11 then
    let n := epStream k.dest
    bit (s.redWord n) 31 && epMember k.dest < roleMembers (s.redRole n) && s.redOther b src (s.redIn n)
      && s.redAdmits k src (s.redRole n)
  else if k.typ = 12 then
    let n := epStream src
    bit (s.redWord n) 31 && s.redOther b k.dest (s.redOut n)
  else true

/-! ### The check of one connection (R174 to R185, R196, R244) -/

/-- The kinds fit the type (R175). -/
def kindsFit (t : Nat) (src dest : Word) : Bool :=
  let a := epKind src
  let d := epKind dest
  if t = 1 ∨ t = 2 then a == 1 && d == 1
  else if t = 3 then a == 2 && d == 2
  else if t = 4 ∨ t = 5 ∨ t = 6 then a == 3 && d == 3
  else if t = 7 ∨ t = 9 then a == 3 && d == 4
  else if t = 8 ∨ t = 10 then a == 4 && d == 3
  else if t = 11 then (1 ≤ a && a ≤ 4) && d == 5 && epMember dest != 3
  else (1 ≤ d && d ≤ 4) && a == 5 && epMember src == 3

/-- The low-order container of a type, as LOTYPE. -/
def loOfType (t : Nat) : Nat := if t = 4 then 0 else if t = 5 ∨ t = 7 ∨ t = 8 then 1 else 2

/-- The containers of both ends are those of the type (R175). -/
def State.sigsFit (s : State) (b t : Nat) (src dest : Word) : Bool :=
  if t = 1 then fld src 13 12 == 0 && fld dest 13 12 == 0
  else if t = 2 then fld src 13 12 != 0 && fld src 13 12 == fld dest 13 12
  else if t = 3 then s.epSig b src == s.epSig b dest
  else if t = 4 ∨ t = 5 ∨ t = 6 then epLo src == loOfType t && epLo dest == loOfType t
  else if t = 7 ∨ t = 9 then epLo src == loOfType t
  else if t = 8 ∨ t = 10 then epLo dest == loOfType t
  else true

/-- Both ends are containers of Ethernet client channels (R176). -/
def State.ethToEth (s : State) (src dest : Word) : Bool :=
  (1 ≤ epKind src && epKind src ≤ 2) && (1 ≤ epKind dest && epKind dest ≤ 2)
    && isEth (s.client (epCh src)) && isEth (s.client (epCh dest))

/-- R146: a BMP ODU that leaves whole on a line lies in the line's group, and TX_LOOP of the line is 0. -/
def State.bmpOk (s : State) (t : Nat) (src dest : Word) : Bool :=
  if t = 3 && epTpn dest = 0 && isOtn (s.client (epCh dest)) && epTpn src = 0 && s.isBmp (epCh src) then
    epCh src / 16 == epCh dest / 16 && !s.crb (epCh dest) 2 11
  else true

/-- One source side of a connection: 0, or the lowest of reasons 2, 3, 4, 5, 10, 13 (R196). The container of an ODU on a
bond member is not known. -/
def State.pairReason (s : State) (b t : Nat) (src dest : Word) : Nat :=
  let ra := s.epReason b src
  let rd := s.epReason b dest
  let member := ra = 13 ∨ rd = 13
  if !kindsFit t src dest then 2
  else if ra = 3 ∨ rd = 3 then 3
  else if !(member ∧ t = 3) && !s.sigsFit b t src dest then 4
  else if !member && s.ethToEth src dest then 5
  else if ra = 10 ∨ rd = 10 then 10
  else if !member && !s.bmpOk t src dest then 10
  else if member then 13
  else 0

/-- Two destinations share a position: the same word, or VC-4s that overlap (DEDUCED, notes/assumptions/22.md). -/
def destClash (a d : Word) : Bool :=
  a == d || (epKind a == 1 && epKind d == 1 && epCh a == epCh d && epV a < epV d + epX d && epV d < epV a + epX a)

/-- Pool units of a connection (R180). -/
def State.poolUnits (s : State) (k : Conn) : Nat :=
  let lo (n : Nat) := if n = 0 then 84 else if n = 1 then 4 else 3
  let t := k.typ
  if 4 ≤ t ∧ t ≤ 10 then lo (loOfType t)
  else if t = 11 then
    if epKind k.src = 3 then lo (epLo k.src)
    else if epKind k.src = 4 then (if fld (s.redWord (epStream k.dest)) 27 24 = 14 then 3 else 4)
    else 0
  else if t = 12 then
    if epKind k.dest = 3 then lo (epLo k.dest)
    else if epKind k.dest = 4 then (if fld (s.redWord (epStream k.src)) 27 24 = 14 then 3 else 4)
    else 0
  else 0

/-- Pool units of a list of connections. -/
def State.poolOf (s : State) (l : List (Nat × Conn)) : Nat := l.foldl (fun n e => n + s.poolUnits e.2) 0

/-- Appearances of a source word (R183). -/
def appearances (l : List (Nat × Conn)) (w : Word) : Nat :=
  (l.filter fun e => e.2.src == w || e.2.alt == w).length

/-- PG_EN of a protection group. -/
def State.pgEnabled (s : State) (p : Nat) : Bool := p < 96 && bit (s.tbl 4 p 0) 31

/-- R244: the sources of a protected entry are those of its group. -/
def State.pgFits (s : State) (k : Conn) : Bool :=
  let p := k.pgroup
  if fld (s.tbl 4 p 0) 30 29 = 0 then
    epIsOn k.src (fld (s.tbl 4 p 1) 7 0) && epIsOn k.alt (fld (s.tbl 4 p 2) 7 0)
      && (k.src &&& 0xF00FFFFF) == (k.alt &&& 0xF00FFFFF)
  else k.src == s.tbl 4 p 1 && k.alt == s.tbl 4 p 2

/-- Reason 11 (R185, R244). R244 states its check for TBL_SWAP; XC_CONNECT makes it too
(DESIGN CHOICE, notes/assumptions/184.md). -/
def State.pgReason (s : State) (b : Nat) (k : Conn) : Bool :=
  if k.pgroup = 127 then k.alt != 0
  else !s.pgEnabled k.pgroup || s.pairReason b k.typ k.alt k.dest != 0 || !s.redOk b k k.alt || !s.pgFits k

/-- Reason 17 (R173, R185): bits that must be 0, and TCM fields off lower-order ODUs. -/
def fieldBad (k : Conn) : Bool :=
  let low (w : Word) := epKind w == 2 && 1 ≤ epTpn w && epTpn w ≤ 80
  !onlyBits k.dest (epUsed k.dest) || !onlyBits k.src (epUsed k.src) || !onlyBits k.alt (epUsed k.alt)
    || bit k.ctl 16 || fld k.ctl 3 0 != 0 || popcount 6 (fld k.ctl 9 4) > 3
    || (fld k.ctl 15 10 != 0 && !low k.src) || (fld k.ctl 9 4 != 0 && !low k.dest)

/-! ### The check of a structure entry (R155 to R157, R184) -/

/-- Slots an ODU takes: the exact count of R155, or the least of an ODUflex. -/
def slotsNeeded (t : Nat) : Nat := if t = 0 ∨ t = 5 then 1 else if t = 1 then 2 else 8

/-- A structure entry breaks R184. -/
def State.structBad (s : State) (b c i : Nat) : Bool :=
  let w := s.line b c i 0
  let zero := s.line b c i 1 == 0 && s.line b c i 2 == 0 && s.line b c i 3 == 0
  if s.sdhLine c && !s.isMember c && i < stmN (s.client c) then
    !zero || fld w 31 30 == 3 || fld w 23 21 != 0 || fld w 25 24 > 1 || fld w 27 26 > 1 || fld w 29 28 > 1
  else if s.muxLine c && !s.isMember c then
    if bit w 31 then
      let t := fld w 30 28
      let m := s.slotMask b c i
      let n := popcount 96 m
      let sl := s.slotsOf c
      fld w 27 0 != 0 || m ≥ 2 ^ sl || i ≥ sl
        || !(t == 0 || t == 1 || t == 5 || (sl == 80 && (t == 2 || t == 3)))
        || (if t = 5 then n == 0 else n != slotsNeeded t)
        || (List.range 80).any fun j => j != i && bit (s.line b c j 0) 31 && (s.slotMask b c j &&& m) != 0
    else fld w 27 0 != 0 || fld (s.line b c i 3) 31 16 != 0
  else w != 0 || !zero

/-- The structure entry of a lower-order ODU breaks R184: its slots are not free, or its server has too few (R155). -/
def State.slotsBad (s : State) (b : Nat) (w : Word) : Bool :=
  epKind w == 2 && epTpn w != 0 && s.muxLine (epCh w) && s.structBad b (epCh w) (epTpn w - 1)

/-! ### The reasons of a connection (R196) -/

/-- The first of a list of reasons that holds. -/
def firstReason : List (Nat × Bool) → Nat
  | [] => 0
  | (r, true) :: _ => r
  | (_, false) :: l => firstReason l

/-- The lowest reason for which connection k is refused in bank b among the connections `others`; `before` are those
whose pool units and appearances count first. -/
def State.connReason (s : State) (b : Nat) (others before : List (Nat × Conn)) (k : Conn) : Nat :=
  let pr := s.pairReason b k.typ k.src k.dest
  let kinds := others.filterMap fun e => k.remapper.bind (s.remapNames e.2)
  firstReason [
    (1, k.typ = 0 || k.typ > 12),
    (pr, 0 < pr && pr ≤ 5),
    (6, others.any fun e => destClash e.2.dest k.dest),
    (7, appearances before k.src ≥ 4 || (k.alt != 0 && appearances before k.alt ≥ 4)),
    (8, s.poolOf before + s.poolUnits k > 64512),
    (9, match k.remapper with
        | some r => kinds.any fun t => s.remapNames k r != some t
        | none => false),
    (pr, 0 < pr && pr ≤ 10),
    (11, s.pgReason b k),
    (12, s.slotsBad b k.dest || s.slotsBad b k.src || s.slotsBad b k.alt),
    (pr, 0 < pr),
    (15, !s.redOk b k k.src),
    (17, fieldBad k)]

/-! ### Validation of a bank (R190, R196) -/

/-- The first structure entry that fails, as a reason word. -/
def State.structFail (s : State) (b : Nat) : List Nat → Option Word
  | [] => none
  | e :: r =>
    let item := e / 80 * 65536 + e % 80
    if s.entryBad 1 b e then some (BitVec.ofNat 32 (16 * 2 ^ 24 + item))
    else if s.structBad b (e / 80) (e % 80) then some (BitVec.ofNat 32 (12 * 2 ^ 24 + item))
    else s.structFail b r

/-- The first connection that fails, as a reason word. -/
def State.connFail (s : State) (b : Nat) (all : List (Nat × Conn)) : List (Nat × Conn) → List (Nat × Conn) → Option Word
  | _, [] => none
  | done, (n, k) :: r =>
    let why := if s.entryBad 2 b n then 16
      else s.connReason b (all.filter fun e => e.1 != n) done k
    if why != 0 then some (BitVec.ofNat 32 (why * 2 ^ 24 + n)) else s.connFail b all (done ++ [(n, k)]) r

/-- A number put in its place in a rising list. -/
def putNat (n : Nat) : List Nat → List Nat
  | [] => [n]
  | a :: r => if n < a then n :: a :: r else if n = a then a :: r else a :: putNat n r

/-- The numbers of a list with those of the entries of table t in bank b whose words failed their parity, rising. -/
def State.withBad (s : State) (t b : Nat) (l : List Nat) : List Nat :=
  (s.tblBad.filter fun k => k / 8388608 == 2 * t + b).foldl (fun m k => putNat (k / 128 % 65536) m) l

/-- The whole bank (R190): structure entries before connections, empty ones only for their parity. -/
def State.bankFail (s : State) (b : Nat) : Option Word :=
  let l := s.bankConns b
  (s.structFail b (s.withBad 1 b (s.structs b))).orElse fun _ =>
    s.connFail b l [] ((s.withBad 2 b (s.conns b)).map fun n => (n, s.conn b n))

/-! ### XC_CONNECT and XC_DISCONNECT (R189, R194, R197, R200) -/

/-- The inactive bank takes no edit: a swap is armed or switching, or a copy runs (R194). -/
def State.bankLocked (s : State) : Bool := s.swap.st != 0

/-- The lowest connection number that is free among those from k, for n more. -/
def firstFree (l : List Nat) (k : Nat) : Nat → Option Nat
  | 0 => none
  | n + 1 => if l.contains k then firstFree l (k + 1) n else some k

/-- A reason word with its item. -/
def reasonWord (why item : Nat) : Word := BitVec.ofNat 32 (why * 2 ^ 24 + item)

/-- XC_CONNECT. -/
def State.fxXcConnect (q : Req) (ws : List Word) (s : State) : State :=
  let op := 0x0403
  if ws.length != 4 then s.finish q op eLength 0 []
  else if s.notActive then s.finish q op eNotActive 0 []
  else if s.bankLocked then s.finish q op eEnabled 0 []
  else
    let b := s.bankOther
    let l := s.bankConns b
    let k : Conn := { ctl := wd ws 0, src := wd ws 1, dest := wd ws 2, alt := wd ws 3 }
    match firstFree (s.conns b) 0 32768 with
    | none => s.finish q op eParam 0 [reasonWord 18 0]
    | some n =>
      let why := s.connReason b l l k
      if why != 0 then s.finish q op eParam 0 [reasonWord why n]
      else ((s.setConn b n k).mirrorEntry 2 b n 4).finish q op stOk 0 [BitVec.ofNat 32 n]

/-- The connection XC_DISCONNECT names. -/
def State.discTarget (s : State) (ws : List Word) : Option Nat :=
  let l := s.bankConns s.bankOther
  if bit (wd ws 0) 31 then (l.find? fun e => e.2.dest == wd ws 1).map Prod.fst
  else (l.find? fun e => e.1 == fld (wd ws 0) 14 0).map Prod.fst

/-- XC_DISCONNECT. The item of reason 14 is 0 where no connection has the destination named
(DESIGN CHOICE, notes/assumptions/185.md). -/
def State.fxXcDisconnect (q : Req) (ws : List Word) (s : State) : State :=
  let op := 0x0404
  let byDest := bit (wd ws 0) 31
  if ws.length != (if byDest then 2 else 1) then s.finish q op eLength 0 []
  else if s.notActive then s.finish q op eNotActive 0 []
  else if !onlyBits (wd ws 0) (if byDest then 0x80000000 else 0x00007FFF) then s.finish q op eParam 0 []
  else if s.bankLocked then s.finish q op eEnabled 0 []
  else
    match s.discTarget ws with
    | none => s.finish q op eParam 0 [reasonWord 14 (if byDest then 0 else fld (wd ws 0) 14 0)]
    | some n =>
      ((s.setConn s.bankOther n { dest := 0, src := 0, ctl := 0, alt := 0 }).mirrorEntry 2 s.bankOther n 4).finish q op
        stOk 0 []

/-! ### The connections in force (R192, R199) -/

/-- A destination has switched to the new bank. -/
def State.hasSwitched (s : State) (d : Word) : Bool := s.swap.switched.contains d.toNat

/-- The bank whose entry a destination follows. -/
def State.bankFor (s : State) (d : Word) : Nat :=
  if s.swap.st = 2 && s.hasSwitched d then s.bankOther else s.bankUsed

/-- The connections that destinations follow now, with their banks: bank, number, entry. -/
def State.live (s : State) : List (Nat × Nat × Conn) :=
  let of (b : Nat) := (s.bankConns b).filterMap fun e => if s.bankFor e.2.dest = b then some (b, e.1, e.2) else none
  if s.swap.st = 2 then of s.bankUsed ++ of s.bankOther else of s.bankUsed

/-! ### Degrade windows (R217) -/

/-- The VC-4s of the VC-4 or VC-4-Xc that begins at VC-4 v of channel c: X of a connection from or to it. -/
def State.vcWidth (s : State) (c v : Nat) : Nat :=
  let l := s.live.flatMap fun e => [e.2.2.src, e.2.2.alt, e.2.2.dest]
  ((l.find? fun w => epKind w == 1 && epCh w == c && epV w == v).map epX).getD 1

/-- Bits of one frame at the layer that counts (R217): on a path layer the rate of the container at TTI_TRIB times the
frame period. -/
def State.frameBits (s : State) (c : Nat) : Nat :=
  if isSdh (s.client c) then
    (if s.pmPath c then 18792 * s.vcWidth c (s.crf c 10 23 17) else stmN (s.client c) * 19440)
  else if s.pmPath c then 122368 else 130560

/-- DEG_WINDOW_END: the window of dDEG or of dEXC is complete (R217, R218, R220). -/
def State.windowEnd (s : State) (c : Nat) (exc : Bool) : State :=
  let m := (s.ch c).mon
  let e := if exc then 3 + s.crf c 9 23 22 else s.degExp c
  let w := poissonW e (s.frameBits c)
  let p := if exc then m.exc else m.deg
  if s.framed c && s.crb c 9 31 && p.frames ≥ w then
    (s.modMon c fun m => if exc then { m with exc := m.exc.endWindow } else { m with deg := m.deg.endWindow }).syncDeg c
  else s

/-- R217. -/
def execDegWindowEnd (c : Nat) (exc : Bool) (s : State) : Out := .next (onCh c s (s.windowEnd c exc))

/-- The live connection with a number; a destination that has switched is found in the new bank. -/
def State.liveConn (s : State) (n : Nat) : Option (Nat × Conn) :=
  let a := s.conn s.bankOther n
  let k := s.conn s.bankUsed n
  if s.swap.st = 2 && epKind a.dest != 0 && s.hasSwitched a.dest then some (s.bankOther, a)
  else if epKind k.dest != 0 && s.bankFor k.dest = s.bankUsed then some (s.bankUsed, k)
  else none

/-! ### TBL_SWAP (R190, R191, R193, R200) -/

/-- SWAP_TIME in ns, with the upper seconds of device time as they stand now (R190). -/
def State.swapNs (s : State) (sec ns : Nat) : Nat := (s.time.sec / 2 ^ 32 * 2 ^ 32 + sec) * 1000000000 + ns

/-- SWAP_TIME of the armed swap in ns. -/
def State.swapAt (s : State) : Nat := s.swap.sec * 1000000000 + s.swap.ns

/-- Arm the swap whose fields stand: bits 47:32 of SWAP_TIME are those of device time now (R190). -/
def State.armSwap (s : State) : State :=
  { s with swap := { s.swap with st := 1, sec := s.time.sec / 2 ^ 32 * 2 ^ 32 + s.swap.sec % 2 ^ 32 } }

/-- A swap that disarms or is cancelled. -/
def State.disarm (s : State) : State := { s with swap := { s.swap with st := 0, copy := false, sec := 0, ns := 0 } }

/-- TBL_SWAP at receipt: rows 1 to 3 of R191; the validation takes time, and replies PENDING after 1 ms. One received
while the validation of another runs is refused as row 2 refuses it while one is armed
(DESIGN CHOICE, notes/assumptions/186.md). -/
def State.fxTblSwap (q : Req) (ws : List Word) (s : State) : State :=
  let op := 0x0203
  let w := wd ws 0
  let sec := (wd ws 1).toNat
  let ns := fld (wd ws 2) 29 0
  if ws.length != 3 then s.finish q op eLength 0 []
  else if s.notActive then s.finish q op eNotActive 0 []
  else if bit w 31 then
    if s.swap.st = 2 || s.swap.st = 3 then s.finish q op eParam 0 []
    else (if s.swap.st = 1 then s.disarm.mirror 1 mirrorCancel [] else s).finish q op stOk 0 []
  else if !onlyBits w 0xC00000FF || fld w 7 0 != 1 || fld (wd ws 2) 31 30 != 0 || ns ≥ 1000000000 then
    s.finish q op eParam 0 []
  else if s.swap.st != 0 || s.swap.validating.isSome then s.finish q op eParam 0 []
  else if s.swapNs sec ns > s.nowNs + 1000000000000 then s.finish q op eParam 0 []
  else
    ({ s with swap := { s.swap with copy := bit w 30, sec := sec, ns := ns, validating := some q } }).setPend
      { req := q, opcode := op, job := .swap, pending := s.wasPending q, dueAt := s.after 2000 }

/-- TBL_SWAP_VALIDATED: rows 4 and 5 of R191, and the arming (R200: alone, with UNSYNC, while the link is down). -/
def State.swapValidated (s : State) : State :=
  match s.swap.validating with
  | none => s
  | some q =>
    let s := { s with swap := { s.swap with validating := none } }
    match s.bankFail s.bankOther with
    | some w => s.finish q 0x0203 eParam 0 [w]
    | none =>
      if s.swapNs s.swap.sec s.swap.ns < s.nowNs + 250000 then s.finish q 0x0203 eTimePast 0 []
      else
        let s := s.armSwap
        let s := if s.paired && !s.twin.up then s.setUnsync true else s
        let s := s.mirror 1 mirrorSwap s.swapWords
        s.finish q 0x0203 stOk 0 []

/-- SWAP_TIME_REACHED (R192, R193). -/
def State.swapReached (s : State) : State :=
  if s.swap.st = 1 && s.swapAt ≤ s.nowNs then
    { s with swap := { s.swap with st := 2, switched := [], lines := [], endAt := s.after 500 } }
  else s

/-- No channel shows dDUP_LOSS for a member any more (R283). -/
def State.unmarkDup (s : State) (n m : Nat) : State :=
  s.each allCh fun t c =>
    if (t.ch c).dupMarks.contains (n, m) then
      t.modCh c fun h => { h with dupMarks := h.dupMarks.filter (· != (n, m)) }
    else t

/-- The monitor at the input of a remapper starts anew (R168, R187). -/
def State.restartE1 (s : State) (d : Word) : State :=
  if epKind d = 4 then
    { s with tribs := Store.mod {} s.tribs d.toNat fun t => { t with e1 := {}, e1Ais := false, e1Oof := false } }
  else s

/-- The dDUP_LOSS of a RED_IN member goes with it to the channel of its new source (R283). -/
def State.moveDup (s : State) (d src : Word) : State :=
  let e := (epStream d, epMember d)
  if epKind d = 5 && allCh.any fun c => (s.ch c).dupMarks.contains e then
    let s := s.unmarkDup e.1 e.2
    if epOnCh src then s.modCh (epCh src) fun h => { h with dupMarks := h.dupMarks ++ [e] } else s
  else s

/-- A RED_IN member whose connection changes starts at NONE, and leaves the channel it arrived on (R283, R304). -/
def State.memberNone (s : State) (d : Word) : State :=
  if epKind d = 5 then
    let none_ : Member := {}
    (s.unmarkDup (epStream d) (epMember d)).modRed (epStream d) fun r =>
      if epMember d = 0 then { r with a := none_ } else if epMember d = 1 then { r with b := none_ }
      else { r with c := none_ }
  else s

/-- The pointer generator of a destination restarts (R164, R169): NDF, and three frames without adjustment. -/
def State.restartPtr (s : State) (d : Word) : State :=
  if epKind d = 1 ∨ epKind d = 3 then
    s.modCh (epCh d) fun h => { h with tx := { h.tx with adjQuiet := Store.set 4 h.tx.adjQuiet d.toNat 4 } }
  else s

/-- The status of connection n restarts from zero (R187). -/
def State.restartTrib (s : State) (n : Nat) : State := ((s.setTbl 3 n 0 0).setTbl 3 n 1 0).setTbl 3 n 2 0

/-- The MSI byte of tributary slot j of a MUX line whose valid entries are those of bank b (R157). -/
def State.msiByte (s : State) (b c j : Nat) : Nat :=
  let odu4 := s.slotsOf c = 80
  match (List.range (s.slotsOf c)).find? fun i => bit (s.line b c i 0) 31 && (s.slotMask b c i).testBit j with
  | some i => (if odu4 then 128 else if fld (s.line b c i 0) 30 28 = 1 then 0 else 128) + i
  | none => if odu4 then 0 else 192

/-- The MSI that a MUX line sends and expects. -/
def State.msiOf (s : State) (b c : Nat) : List Byte :=
  (List.range (s.slotsOf c)).map fun j => BitVec.ofNat 8 (s.msiByte b c j)

/-- A difference of an accepted MSI affects the tributary of entry i: in a slot of its own, or in one where it appears.
-/
def State.msiHits (s : State) (b c i : Nat) (acc : List Byte) : Bool :=
  (List.range (s.slotsOf c)).any fun j =>
    let a := ((acc[j]?).getD 0).toNat
    let named := if s.slotsOf c = 80 then a = 128 + i else a != 192 && a % 64 = i
    a != s.msiByte b c j && ((s.slotMask b c i).testBit j || named)

/-- The endpoint word of the lower-order ODU with a TPN. -/
def oduEp (c tpn : Nat) : Word := BitVec.ofNat 32 (2 * 2 ^ 28 + c * 2 ^ 20 + tpn * 2 ^ 13)

/-- The bank whose line structure channel c follows: during a swap the new one from the line's own boundary (R170,
R192). -/
def State.lineBank (s : State) (c : Nat) : Nat :=
  if s.swap.st = 2 && s.swap.lines.contains c then s.bankOther else s.bankUsed

/-- MSI_MISMATCH of every tributary of a MUX line, by the structure that the line follows (R157, R170). -/
def State.msiJudge (s : State) (c : Nat) : State :=
  match (s.ch c).mon.msi.acc with
  | none => s
  | some acc =>
    let b := s.lineBank c
    s.each ((List.range (s.slotsOf c)).filter fun i => bit (s.line b c i 0) 31) fun t i =>
      let w := oduEp c (i + 1)
      { t with tribs := Store.mod {} t.tribs w.toNat fun k => { k with msi := t.msiHits b c i acc } }

/-- The line structure of channel c changes to the new bank: the MSI is sent and expected anew, and the tributaries with
another type or other slots start GMP afresh (R170, R192). -/
def State.switchLine (s : State) (c : Nat) : State :=
  if s.swap.st = 2 && !s.swap.lines.contains c then
    let old := s.bankUsed
    let new := s.bankOther
    let s := { s with swap := { s.swap with lines := c :: s.swap.lines } }
    if s.muxLine c then
      let moved := (List.range (s.slotsOf c)).filter fun i =>
        s.line old c i 0 != s.line new c i 0 || s.slotMask old c i != s.slotMask new c i
      (s.modCh c fun h => { h with tx := { h.tx with
        just := moved.foldl (fun m i => Store.set {} m (oduEp c (i + 1)).toNat {}) h.tx.just } }).msiJudge c
    else s
  else s

/-- A destination takes the selection that its protection group holds at this moment (R201). -/
def State.takeSel (s : State) (k : Conn) : State :=
  if s.pgEnabled k.pgroup then
    s.modPg k.pgroup fun g => { g with early := (k.dest.toNat, g.sel) :: g.early.filter fun e => e.1 != k.dest.toNat }
  else s

/-- The entry of a bank that names destination d. -/
def State.entryOf (s : State) (b : Nat) (d : Word) : Option (Nat × Conn) :=
  (s.bankConns b).find? fun e => e.2.dest == d

/-- Destination d changes from the old bank's entry to the new one's (R187, R192, R304). -/
def State.switchDest (s : State) (d : Word) : State :=
  if s.hasSwitched d then s
  else
    let old := s.entryOf s.bankUsed d
    let new := s.entryOf s.bankOther d
    let s := { s with swap := { s.swap with switched := d.toNat :: s.swap.switched } }
    if old == new then s
    else
      let s := match old with
        | some (n, _) => s.restartTrib n
        | none => s
      let s := match new with
        | some (n, k) => (s.restartTrib n).takeSel k
        | none => s
      let s := s.restartE1 d
      if (old.map fun e => (e.2.src, e.2.alt)) == (new.map fun e => (e.2.src, e.2.alt)) then s
      else (s.memberNone d).restartPtr d

/-- SWAP_DESTINATION_SWITCH: the first boundary of the destination of connection n at or after SWAP_TIME. -/
def State.swapSwitch (s : State) (n : Nat) : State :=
  if s.swap.st = 2 then
    let new := (s.conn s.bankOther n).dest
    let old := (s.conn s.bankUsed n).dest
    let s := if epKind new = 2 && s.muxLine (epCh new) then s.switchLine (epCh new) else s
    let s := if epKind new != 0 then s.switchDest new else s
    if epKind old != 0 && (s.entryOf s.bankOther old).isNone then s.switchDest old else s
  else s

/-- Every destination of either bank. -/
def State.allDests (s : State) : List Word :=
  ((s.bankConns s.bankUsed).map fun e => e.2.dest) ++ ((s.bankConns s.bankOther).map fun e => e.2.dest)

/-- SWAP_SWITCHING_END: 500 µs after SWAP_TIME every boundary has passed; ACTIVE_BANK toggles (R192, R199). -/
def State.swapEnd (s : State) : State :=
  if s.swap.st = 2 && s.due s.swap.endAt then
    let s := s.each (allCh.filter s.muxLine) State.switchLine
    let s := s.allDests.foldl State.switchDest s
    let s := { s with swap := { s.swap with
      st := if s.swap.copy then 3 else 0, bank := s.bankOther, endAt := none, switched := [], lines := [] } }
    s.event 0x07 0xFC 0xFF 0x10
  else s

/-- A table word of the cross-connect moved to bank b. -/
def bankKey (b k : Nat) : Nat := (k / 8388608 / 2 * 2 + b) * 8388608 + k % 8388608

/-- A key of the cross-connect tables in bank b. -/
def isXcKey (b k : Nat) : Bool := k / 8388608 == 2 + b || k / 8388608 == 4 + b

/-- Copy one bank into the other, with new parity (R194, R199). -/
def State.copyBank (s : State) : State :=
  let from_ := s.bankUsed
  let dst := s.bankOther
  let words := s.tables.filter fun e => isXcKey from_ e.1
  let t := Store.drop s.tables (isXcKey dst)
  { s with
    tables := words.foldl (fun m e => Store.set 0 m (bankKey dst e.1) e.2) t
    tblBad := s.tblBad.filter fun k => !isXcKey dst k }

/-- BANK_COPY_DONE. -/
def State.bankCopied (s : State) : State :=
  if s.swap.st = 3 then
    let s := s.copyBank
    ({ s with swap := { s.swap with st := 0, copy := false } }).event 0x07 0xFC 0xFF 0x20
  else s

/-! ### XC_STATE and R198 -/

/-- Remappers with an input in the bank in use (R195). -/
def State.remapUsed (s : State) : Nat :=
  ((s.bankConns s.bankUsed).filterMap fun e =>
    if epKind e.2.dest = 4 then some (epRemap e.2.dest) else none).eraseDups.length

/-- XC_STATE (R195). -/
def State.xcState (s : State) : Word :=
  BitVec.ofNat 32 (s.swap.st * 2 ^ 30 + s.swap.bank * 2 ^ 29 + b2n (s.rb 0x4018 22) * 2 ^ 28
    + s.remapUsed % 4096 * 2 ^ 16 + s.poolOf (s.bankConns s.bankUsed) % 65536)

/-- The banks that R198 and R459 look at: the one in use, and an armed one. -/
def State.banksInForce (s : State) : List Nat :=
  if s.swap.st = 1 ∨ s.swap.st = 2 then [s.bankUsed, s.bankOther] else [s.bankUsed]

/-- A bank in force names an endpoint on channel c. -/
def State.namedCh (s : State) (c : Nat) : Bool :=
  s.banksInForce.any fun b => (s.bankConns b).any fun e =>
    epIsOn e.2.dest c || epIsOn e.2.src c || epIsOn e.2.alt c

/-- R198: a bank in force names an endpoint that the CH_MODE of channel c does not provide, its structure included. A
connection whose two ends CH_MODE has made Ethernet clients still has both endpoints, and does not hold the channel back
(DESIGN CHOICE, notes/assumptions/187.md). -/
def State.unprovided (s : State) (c : Nat) : Bool :=
  s.banksInForce.any fun b => (s.bankConns b).any fun e =>
    let k := e.2
    let at_ (w : Word) := epIsOn w c && (s.epReason b w != 0 || s.slotsBad b w)
    at_ k.dest || at_ k.src || at_ k.alt

/-! ### The commands -/

/-- R190, R191, R200. -/
def execTblSwapValidated (s : State) : Out := .next (whileOn s s.swapValidated)
/-- R192, R193. -/
def execSwapTimeReached (s : State) : Out := .next (whileOn s s.swapReached)
/-- R187, R192, R201, R304. -/
def execSwapDestinationSwitch (conn : Nat) (s : State) : Out := .next (whileOn s (s.swapSwitch conn))
/-- R192, R195, R464. -/
def execSwapSwitchingEnd (s : State) : Out := .next (whileOn s s.swapEnd)
/-- R194, R199, R464. -/
def execBankCopyDone (s : State) : Out := .next (whileOn s s.bankCopied)

end Sys2Proof.Machine
end

