-- ==== Sys2Proof/Machine/Protection.lean ====
section
/-!
DEFINITION. Protection groups (08_protection_switching.md): conditions, requests and their evaluation, the APS bytes,
hold-off, WTR, exercise, overrides, the events, and the commands of the family.
-/
namespace Sys2Proof.Machine

/-! ### The layer and tributary of a trail trace (R119) -/

/-- TTI_TRIB as it acts: a VC-4 or a TPN beyond the line acts as 0 (DESIGN CHOICE, notes/assumptions/151.md). -/
def State.ttiTrib (s : State) (c : Nat) : Nat :=
  let n := s.crf c 10 23 17
  if isSdh (s.client c) then (if n < stmN (s.client c) then n else 0)
  else if s.muxLine c && n ≤ s.slotsOf c then n else 0

/-- TTI_LAYER as it acts: a layer that the line type has. -/
def State.ttiLayer (s : State) (c : Nat) : Nat :=
  let k := s.crf c 10 30 27
  if isSdh (s.client c) then (if k = 1 ∨ k = 2 then k else 0)
  else if isOtn (s.client c) then (if 3 ≤ k ∧ k ≤ 10 then k else 0)
  else 0

/-! ### The group entry (R239) -/

/-- LAYER. -/
def State.pgLayer (s : State) (p : Nat) : Nat := fld (s.tbl 4 p 0) 30 29
/-- ARCH: 1:1. -/
def State.pgArch (s : State) (p : Nat) : Bool := bit (s.tbl 4 p 0) 28
/-- BIDIR. -/
def State.pgBidir (s : State) (p : Nat) : Bool := bit (s.tbl 4 p 0) 27
/-- REVERT. -/
def State.pgRevert (s : State) (p : Nat) : Bool := bit (s.tbl 4 p 0) 26
/-- TCM_LEVEL. -/
def State.pgTcm (s : State) (p : Nat) : Nat := fld (s.tbl 4 p 0) 25 23
/-- HOLDOFF in µs. -/
def State.pgHold (s : State) (p : Nat) : Nat := 100000 * min 100 (fld (s.tbl 4 p 0) 22 16)
/-- WTR in µs. -/
def State.pgWtr (s : State) (p : Nat) : Nat := 1000000 * min 720 (fld (s.tbl 4 p 0) 9 0)
/-- WORK. -/
def State.pgWork (s : State) (p : Nat) : Word := s.tbl 4 p 1
/-- PROT. -/
def State.pgProt (s : State) (p : Nat) : Word := s.tbl 4 p 2

/-- The channel of a member: the low byte of an MSP member, the CHANNEL of an endpoint. -/
def State.pgCh (s : State) (p : Nat) (w : Word) : Nat := if s.pgLayer p = 0 then fld w 7 0 else epCh w

/-- Protection groups with PG_EN = 1. -/
def State.pgsOn (s : State) : List Nat := (List.range 96).filter s.pgEnabled

/-! ### The four conditions (R246) -/

/-- A channel's signal fail to protection (R75, R85, R198, R209, R213). -/
def State.chFail (s : State) (c : Nat) : Bool :=
  (s.crb c 8 30 && s.failDefs c) || !s.enabled c || s.testing c || s.chState c == stFaulted

/-- The state of the source at an endpoint. -/
def State.trib (s : State) (w : Word) : Trib := Store.get {} s.tribs w.toNat

/-- One of the tributary flags of R210 is set. -/
def Trib.failed (t : Trib) : Bool := t.ais || t.ptr == 2 || t.lom || t.uneq || t.msi || t.jcFail || t.e1Ais || t.e1Oof

/-- The endpoint word of VC-4 v of channel c. -/
def vc4Ep (c v : Nat) : Word := BitVec.ofNat 32 (2 ^ 28 + c * 2 ^ 20 + v * 2 ^ 14)

/-- The VC-4 that carries a low-order VC. -/
def State.vc4Trib (s : State) (w : Word) : Trib := if epKind w = 3 then s.trib (vc4Ep (epCh w) (epV w)) else {}

/-- LOM of an endpoint: that of the VC-4 whose H4 gives its multiframe (R87, R187). -/
def State.epLom (s : State) (w : Word) : Bool := epLo w != 0 && (s.vc4Trib w).lom

/-- SSF of an endpoint: its channel, or the VC-4 around it, has failed (R187, R209). -/
def State.epSsf (s : State) (w : Word) : Bool :=
  epOnCh w && (s.serverFail (epCh w) || { s.vc4Trib w with lom := false }.failed)

/-- AIS is received on an endpoint (R187); that of a line-level ODU shows as dAIS of its channel (R205).
(DEDUCED, notes/assumptions/130.md). -/
def State.epAis (s : State) (w : Word) : Bool :=
  (s.trib w).ais || (epKind w == 2 && epTpn w == 0 && s.def_ (epCh w) dAIS)

/-- The endpoint is in signal fail as a source (R210). -/
def State.epFail (s : State) (w : Word) : Bool := s.epSsf w || s.epLom w || (s.trib w).failed

/-- The tandem connection of an endpoint has failed at a level. -/
def State.tcmFail (s : State) (w : Word) (lvl : Nat) : Bool :=
  let of (m : Store Tcm) := (Store.get {} m lvl).failOf.isSome
  of (if epTpn w = 0 then (s.ch (epCh w)).mon.tcm else (s.trib w).tcm)
    || (s.crb (epCh w) 8 28 && s.def_ (epCh w) dTIM && s.ttiLayer (epCh w) == 4 + lvl && s.ttiTrib (epCh w) == epTpn w)

/-- CH_PROT of an MSP member disagrees with the group (R243). -/
def State.pgDisagrees (s : State) (p : Nat) (work : Bool) : Bool :=
  let c := fld (if work then s.pgWork p else s.pgProt p) 7 0
  s.pgLayer p == 0 && !(s.crf c 12 31 30 == (if work then 1 else 2) && s.crf c 12 29 23 == p)

/-- Signal fail of a member. -/
def State.pgSf (s : State) (p : Nat) (work : Bool) : Bool :=
  let w := if work then s.pgWork p else s.pgProt p
  if s.pgLayer p = 0 then s.chFail (fld w 7 0) || s.pgDisagrees p work
  else
    s.epFail w
      || (epTpn w = 0 && (s.chFail (epCh w)
            || (s.crb (epCh w) 8 28 && s.def_ (epCh w) dTIM && s.ttiLayer (epCh w) == 4 && s.ttiTrib (epCh w) == 0)))
      || (s.pgLayer p = 2 && s.tcmFail w (s.pgTcm p))

/-- Signal degrade of a member, which signal fail of the same member hides; a PM_LAYER of 2 or 3 acts as 0 on a line
(R216, R246). -/
def State.pgSd (s : State) (p : Nat) (work : Bool) : Bool :=
  let w := if work then s.pgWork p else s.pgProt p
  let c := s.pgCh p w
  !s.pgSf p work && s.def_ c dDEG && s.crb c 8 29
    && (if s.pgLayer p = 0 then s.crb c 9 31 && s.crf c 9 28 27 != 1 else true)

/-- One condition takes its value: hold-off starts with its onset, and ends nothing (R249, R264). -/
def Cond.see (k : Cond) (now : Bool) (hold owl : Nat) : Cond :=
  if now then
    if k.here then k
    else if hold = 0 then { k with here := true, req := true }
    else { k with here := true, hold := some (k.hold.getD (owl + hold)) }
  else { k with here := false, req := false }

/-- Read the condition of a group. -/
def Pg.cond (g : Pg) : PgCond → Cond
  | .sfW => g.sfW
  | .sfP => g.sfP
  | .sdW => g.sdW
  | .sdP => g.sdP

/-- Put the condition of a group. -/
def Pg.setCond (g : Pg) (k : PgCond) (v : Cond) : Pg :=
  match k with
  | .sfW => { g with sfW := v }
  | .sfP => { g with sfP := v }
  | .sdW => { g with sdW := v }
  | .sdP => { g with sdP := v }

/-! ### Requests (R247) -/

/-- The rank of a request as a number that grows with it; MS-P and MS-W are equal. -/
def rank (code : Nat) : Nat := if code = 5 then 6 else code

/-- The selection a request asks for; none leaves it as it is. -/
def selOf (code : Nat) : Option Bool :=
  if code = 3 then none
  else some (code = 10 || code = 9 || code = 7 || code = 6 || code = 4 || code = 1)

/-- The highest of the local requests, the exercise and the group's own states included (R248). -/
def Pg.localReq (g : Pg) : Nat :=
  let m (b : Bool) (n : Nat) := if b then n else 0
  let a := max (max (max g.override (m g.sfP.req 11)) (max (m g.sfW.req 9) (m g.sdP.req 8))) (m g.sdW.req 7)
  if rank g.manual > a then g.manual
  else max a (max (m g.wtrOn 4) (max (m g.exer.isSome 3) (m g.dnr 1)))

/-- The far end's APS takes part in the evaluation (R248, R252). -/
def State.apsUsable (s : State) (p : Nat) : Bool :=
  let g := s.pg p
  s.pgBidir p && !g.modeMis && !g.noResp && !g.unstable

/-- The accepted far-end request as the evaluation reads it: RR enters as NR. -/
def State.farReq (s : State) (p : Nat) : Nat :=
  let g := s.pg p
  if s.apsUsable p then (if g.farReq = 2 then 0 else g.farReq) else 0

/-! ### APS bytes (R251) -/

/-- The 4-bit request of K1 for a code. -/
def kReq (code : Nat) : Nat :=
  (([0, 1, 2, 4, 6, 8, 8, 11, 11, 13, 14, 13, 15] : List Nat)[code]?).getD 0

/-- The 4-bit request of ODU APS byte 1 for a code. -/
def oduReq (code : Nat) : Nat :=
  (([0, 1, 2, 4, 5, 6, 7, 9, 10, 11, 13, 14, 15] : List Nat)[code]?).getD 0

/-- The code of a received K1, where it is acceptable. -/
def kCode (k1 : Nat) : Option Nat :=
  let r := k1 / 16
  let ch := k1 % 16
  if ch > 1 then none
  else if r = 15 then some 12
  else if r = 14 then some 10
  else if r = 13 ∨ r = 12 then some (if ch = 1 then 9 else 11)
  else if r = 11 ∨ r = 10 then some (if ch = 1 then 7 else 8)
  else if r = 8 then some (if ch = 1 then 6 else 5)
  else if r = 6 then some 4 else if r = 4 then some 3 else if r = 2 then some 2
  else if r = 1 then some 1 else if r = 0 then some 0 else none

/-- The code of a received ODU APS byte 1 with requested signal `sig`, where it is acceptable. -/
def oduCode (b1 sig : Nat) : Option Nat :=
  if sig > 1 then none
  else (List.range 13).find? fun k => oduReq k == b1 / 16

/-- Byte i of a list, as a number. -/
def byteAt (l : List Byte) (i : Nat) : Nat := ((l[i]?).getD 0).toNat

/-- The code of received APS bytes of a group's layer. -/
def apsCode (msp : Bool) (l : List Byte) : Option Nat :=
  if msp then kCode (byteAt l 0) else oduCode (byteAt l 0) (byteAt l 1)

/-- The signal a sent request names. -/
def Pg.sentChan (g : Pg) : Nat :=
  if g.topRemote then b2n g.farWork
  else if g.top = 3 then g.exerBase
  else match selOf g.top with
    | some b => b2n b
    | none => 0

/-- The APS bytes a group sends: K1, K2 or the four APS/PCC bytes. K2 bits 6 to 8 without MS-RDI and MS-AIS. -/
def State.pgApsBytes (s : State) (p : Nat) : List Byte :=
  let g := s.pg p
  let code := if g.topRemote then 2 else g.top
  if s.pgLayer p = 0 then
    [BitVec.ofNat 8 (kReq code * 16 + g.sentChan),
      BitVec.ofNat 8 (b2n g.bridged * 16 + b2n (s.pgArch p) * 8 + (if s.pgBidir p then 5 else 4))]
  else
    [BitVec.ofNat 8 (oduReq code * 16 + 8 + b2n (s.pgArch p) * 4 + b2n (s.pgBidir p) * 2 + b2n (s.pgRevert p)),
      BitVec.ofNat 8 g.sentChan, BitVec.ofNat 8 (b2n g.bridged), 0]

/-! ### Events (R266) -/

/-- An item of a group takes a value; a suppressed change counts in CHATTER. -/
def State.pgItem (s : State) (p i v : Nat) : State :=
  let it := (s.hold (holdProt p)).item i
  let t := s.change (holdProt p) i v 10000
  if it.value != v && it.changed then t.countTbl 4 p 6 15 0 1 else t

/-- An occurrence of an item with a value: the value is kept modulo 4. -/
def State.pgOccur (s : State) (p i v : Nat) : State :=
  s.pgItem p i ((((s.hold (holdProt p)).item i).value / 4 + 1) * 4 + v)

/-- The code byte of an item: kind and value. -/
def pgCode (i v : Nat) : Nat :=
  if i = 0x10 then 0x10 + v % 2
  else if i = 0x20 then 0x20 + v % 16
  else if 0x30 ≤ i ∧ i < 0x38 then (if i % 2 = 1 then 0x30 else 0x40) + (i - 0x30) / 2
  else if i = 0x50 then 0x50
  else if i = 0x60 then 0x60 + v % 4
  else 0x70

/-- The events of one expiry in order of kind: set flags before cleared ones. -/
def pgOrder (l : List (Nat × Item)) : List (Nat × Item) :=
  let flag (e : Nat × Item) := 0x30 ≤ e.1 && e.1 < 0x38
  let at_ (p : Nat × Item → Bool) := l.filter p
  at_ (fun e => e.1 < 0x30) ++ at_ (fun e => flag e && e.2.value == 1) ++ at_ (fun e => flag e && e.2.value != 1)
    ++ at_ (fun e => e.1 ≥ 0x40)

/-- PROT_EVENT_HOLDOFF_EXPIRY. A flag's item number is 0x30 + 2 × its bit; its code follows its value. -/
def State.pgEvents (s : State) (p : Nat) : State :=
  let h := s.hold (holdProt p)
  if s.due h.at_ then
    let mk (e : Nat × Item) :=
      let code := if 0x30 ≤ e.1 ∧ e.1 < 0x38 then pgCode (e.1 + e.2.value % 2) 0 else pgCode e.1 e.2.value
      mkEvent e.2.suppressed 0x04 0xFF p code e.2.time
    ((pgOrder h.reports).foldl (fun t e => t.push (mk e)) s).modHold (holdProt p) fun _ => h.settled
  else s

/-- The flag in bit b of word 4 takes a value. -/
def State.pgFlag (s : State) (p b : Nat) (v : Bool) : State :=
  (s.modPg p fun g =>
    if b = 0 then { g with archMis := v } else if b = 1 then { g with modeMis := v }
    else if b = 2 then { g with noResp := v } else { g with unstable := v }).pgItem p (0x30 + 2 * b) (b2n v)

/-! ### Exercise (R256, R257) -/

/-- The group is claimed. -/
def State.pgClaimed (s : State) (p : Nat) : Bool := s.claimed fun k => k == .group p

/-- An exercise ends with an outcome: 0 answered, 1 no response, 2 abandoned. -/
def State.endExer (s : State) (p out : Nat) : State :=
  if (s.pg p).exer.isSome then
    let s := s.modPg p fun g => { g with exer := none }
    let s := if (s.pg p).override = 0 then s.release fun k => k == .group p else s
    let s := s.pgOccur p 0x60 out
    if out = 1 then (s.modPg p fun g => { g with exerFlag := true }).pgFlag p 2 true
    else if out = 0 && (s.pg p).exerFlag then (s.modPg p fun g => { g with exerFlag := false }).pgFlag p 2 false
    else s
  else s

/-! ### Mirrored state of a group (R260, R330) -/

/-- The state the holder mirrors: request and its origin, SELECT, BRIDGED, stored commands, the conditions that stand as
requests, the times left in µs, which stop as the group freezes (R263), and the last switch. -/
def State.pgMirror (s : State) (p : Nat) : List Word :=
  let g := s.pg p
  let left (t : Option Nat) : Word := BitVec.ofNat 32 (t.getD 0 - (g.frozenAt.getD s.owl))
  let t (k : Cond) := left k.hold
  [BitVec.ofNat 32 (b2n g.sel * 2 ^ 31 + b2n g.bridged * 2 ^ 30 + b2n g.topRemote * 2 ^ 29 + b2n g.dnr * 2 ^ 28
      + b2n g.wtrOn * 2 ^ 27 + b2n g.farWork * 2 ^ 26 + g.exerBase * 2 ^ 24 + b2n g.sfW.req * 2 ^ 23 + b2n g.sfP.req * 2 ^ 22
      + b2n g.sdW.req * 2 ^ 21 + b2n g.sdP.req * 2 ^ 20 + g.farReq * 2 ^ 16 + g.local_ * 2 ^ 12 + g.override * 2 ^ 8
      + g.manual * 2 ^ 4 + g.top),
    t g.sfW, t g.sfP, t g.sdW, t g.sdP, left g.wtrAt, BitVec.ofNat 32 g.lastSwitch, left g.exer]

/-- The claim of a group follows its stored override and its exercise (R256). -/
def State.pgClaim (s : State) (p : Nat) : State :=
  let want := (s.pg p).override != 0 || (s.pg p).exer.isSome
  if want && !s.pgClaimed p then s.claim (.group p)
  else if want then s else s.release fun k => k == .group p

/-- SELECT and the request in force as they changed from `g`: the count of switches and the items (R266). -/
def State.pgReport (s : State) (p : Nat) (g : Pg) : State :=
  let d := s.pg p
  let s := if d.sel != g.sel then (s.countTbl 4 p 6 31 16 1).pgItem p 0x10 (b2n d.sel) else s
  s.pgItem p 0x20 d.top

/-- Apply the mirrored state on the twin; a frozen group holds (R263). -/
def State.pgApply (s : State) (p : Nat) (ws : List Word) : State :=
  let w := wd ws 0
  let at_ (i : Nat) : Option Nat := if wd ws i = 0 then none else some (s.owl + (wd ws i).toNat)
  let cond (k : Cond) (i b : Nat) : Cond := { k with hold := at_ i, req := bit w b, here := bit w b }
  let g := s.pg p
  if g.frozen then s
  else
    let s := s.modPg p fun g => { g with
      sel := bit w 31, bridged := bit w 30, topRemote := bit w 29, dnr := bit w 28, wtrOn := bit w 27, farWork := bit w 26
      farReq := fld w 19 16, local_ := fld w 15 12, override := fld w 11 8, manual := fld w 7 4, top := fld w 3 0
      exerBase := fld w 24 24
      sfW := cond g.sfW 1 23, sfP := cond g.sfP 2 22, sdW := cond g.sdW 3 21, sdP := cond g.sdP 4 20
      wtrAt := at_ 5, lastSwitch := (wd ws 6).toNat, exer := at_ 7 }
    (s.pgClaim p).pgReport p g

/-! ### Evaluation (R248 to R252, R265) -/

/-- The disagreement fault of R243, which every twin raises, whether or not it decides. -/
def State.pgAgree (s : State) (p : Nat) : State :=
  let dis (s : State) (work was now : Bool) : State :=
    let c := fld (if work then s.pgWork p else s.pgProt p) 7 0
    if now && !was then s.levelOn { src := 8, group := some (c / 16), chan := some c }
    else if was && !now then s.levelOff 8 else s
  let dw := s.pgDisagrees p true
  let dp := s.pgDisagrees p false
  let s := dis s true (s.pg p).disW dw
  let s := dis s false (s.pg p).disP dp
  s.modPg p fun g => { g with disW := dw, disP := dp }

/-- Follow the conditions of both members (R246, R249). -/
def State.pgSample (s : State) (p : Nat) : State :=
  let h := s.pgHold p
  s.modPg p fun g => { g with
    sfW := g.sfW.see (s.pgSf p true) h s.owl
    sfP := g.sfP.see (s.pgSf p false) h s.owl
    sdW := g.sdW.see (s.pgSd p true) h s.owl
    sdP := g.sdP.see (s.pgSd p false) h s.owl }

/-- The mismatch flags that follow the accepted bytes, while SF-P is absent (R252). -/
def State.pgFlags (s : State) (p : Nat) : State :=
  let g := s.pg p
  if g.sfP.here then s
  else
    let s := match g.farArch with
      | some a => s.pgFlag p 0 (a != s.pgArch p)
      | none => s
    match g.farMode with
    | some a => s.pgFlag p 1 (a != s.pgBidir p)
    | none => s

/-- The far end has answered a request that selects protection (R252). -/
def State.pgAnswered (s : State) (p : Nat) : Bool :=
  let g := s.pg p
  g.farWork && (!s.pgArch p || g.farBridged)

/-- The request in force asks for protection. -/
def Pg.asks (g : Pg) : Bool := selOf g.top == some true

/-- NO_RESPONSE: its 50 ms run while the request in force selects protection without an answer (R252). -/
def State.pgNoResp (s : State) (p : Nat) : State :=
  let g := s.pg p
  if !s.pgBidir p then s
  else if g.asks && !s.pgAnswered p then
    s.modPg p fun g => { g with noRespAt := some (g.noRespAt.getD (s.owl + 50000)) }
  else
    let s := s.modPg p fun g => { g with noRespAt := none }
    if g.noResp && !g.exerFlag then s.pgFlag p 2 false else s

/-- WTR and DNR begin where the request in force was SF-W or SD-W and its condition has cleared (R250). -/
def State.pgRestore (s : State) (p : Nat) : State :=
  let g := s.pg p
  let gone := (g.top = 9 && !g.sfW.req) || (g.top = 7 && !g.sdW.req)
  if gone && !g.topRemote && g.sel && rank g.localReq < 5 && rank (s.farReq p) < 5 then
    if s.pgRevert p then
      if s.pgWtr p = 0 then s
      else s.modPg p fun g => { g with wtrOn := true, wtrAt := s.after (s.pgWtr p) }
    else s.modPg p fun g => { g with dnr := true }
  else s

/-- Requests that a higher one ends: a manual switch, WTR, an exercise, DNR (R250, R254, R257). The far end's LO, SF-P
and SD-P end DNR as the local ones do, its MS-W does not: only a stored MS-W does
(DESIGN CHOICE, notes/assumptions/182.md). -/
def State.pgSupersede (s : State) (p : Nat) : State :=
  let g := s.pg p
  let cond := { g with manual := 0, wtrOn := false, exer := none, dnr := false }.localReq
  let high := max cond (s.farReq p)
  let s := if g.manual != 0 && rank high > 6 then s.modPg p fun g => { g with manual := 0 } else s
  let high := max high (rank (s.pg p).manual)
  let s := if g.wtrOn && high > 4 then s.modPg p fun g => { g with wtrOn := false, wtrAt := none } else s
  let high := if (s.pg p).wtrOn then max high 4 else high
  let s := if g.exer.isSome && g.farReq = 2 then s.endExer p 0
    else if g.exer.isSome && high > 3 then s.endExer p 2 else s
  if g.dnr && (high = 12 || high = 11 || high = 8 || (s.pg p).manual = 5) then s.modPg p fun g => { g with dnr := false }
  else s

/-- The decision of R248 on a group's requests: `arch` is 1:1, `far` the request of the far end as the evaluation reads
it, `sec` the present second. -/
def Pg.decide (g : Pg) (arch : Bool) (far sec : Nat) : Pg :=
  let loc := g.localReq
  let remote := rank far > rank loc
  let top := if remote then far else loc
  let mis := arch && g.archMis
  let sel := if mis then false else (selOf top).getD g.sel
  let bridged := if !arch then true
    else if mis then false
    else (g.farWork && g.farReq != 3) || (!remote && selOf top == some true)
  { g with
    local_ := loc, top := top, topRemote := remote, sel := sel, bridged := bridged
    lastSwitch := if sel != g.sel then sec else g.lastSwitch }

/-- The decision of R248, and what it reports (DEDUCED, notes/assumptions/25.md). -/
def State.pgDecide (s : State) (p : Nat) : State :=
  let g := s.pg p
  let d := g.decide (s.pgArch p) (s.farReq p) s.time.sec
  (s.modPg p fun _ => d).pgReport p g

/-- A change of a group's mirrored state reaches the twin at once (R260, R330). -/
def State.pgTell (s t : State) (p : Nat) : State :=
  if t.pgMirror p == s.pgMirror p then t else t.mirror 2 p (t.pgMirror p)

/-- The engine evaluates a group (R248). It decides nothing on a twin that does not decide (R260), and holds a frozen
group (R263). -/
def State.pgEvaluate (s : State) (p : Nat) : State :=
  if s.pgEnabled p && s.running then
    let s := s.pgAgree p
    if (s.pg p).frozen || !s.pairActive then s
    else
      let t := ((s.pgSample p).pgFlags p).pgRestore p
      s.pgTell (((t.pgSupersede p).pgDecide p).pgNoResp p) p
  else s

/-! ### Timers -/

/-- PROT_HOLDOFF_EXPIRY: the condition becomes a request if it is present now (R249, R264). The timers of a twin that
does not decide are those of the mirror (R260). -/
def State.pgHoldExpiry (s : State) (p : Nat) (k : PgCond) : State :=
  let v := (s.pg p).cond k
  if s.pgEnabled p && !(s.pg p).frozen && s.pairActive && s.due v.hold then
    s.pgTell (s.modPg p fun g => g.setCond k { v with hold := none, req := v.here }) p
  else s

/-- WTR_EXPIRY (R250, R266). -/
def State.pgWtrExpiry (s : State) (p : Nat) : State :=
  if s.pgEnabled p && !(s.pg p).frozen && s.pairActive && (s.pg p).wtrOn && s.due (s.pg p).wtrAt then
    s.pgTell ((s.modPg p fun g => { g with wtrOn := false, wtrAt := none }).pgOccur p 0x50 0) p
  else s

/-- NO_RESPONSE_TIMER (R252). -/
def State.pgNoRespExpiry (s : State) (p : Nat) : State :=
  let g := s.pg p
  if s.pgEnabled p && !g.frozen && s.pairActive && s.due g.noRespAt && !g.sfP.here then
    (s.modPg p fun g => { g with noRespAt := none }).pgFlag p 2 true
  else s

/-- EXER_TIMEOUT (R257). -/
def State.pgExerExpiry (s : State) (p : Nat) : State :=
  if s.pgEnabled p && !(s.pg p).frozen && s.pairActive && s.due (s.pg p).exer then s.pgTell (s.endExer p 1) p else s

/-- A connection selects its ALT_SOURCE: the selection its group has applied, or the one it took at a swap (R201). -/
def Pg.altFor (g : Pg) (d : Word) : Bool := ((g.early.find? fun x => x.1 == d.toNat).map Prod.snd).getD g.applied

/-- SELECTION_BOUNDARY: the next row of the signal carries the selection; its destinations restart their pointers, and
a member of a stream takes its dDUP_LOSS along (R169, R258, R283). A group that was disabled returns to working so
(R242). -/
def State.pgBoundary (s : State) (p : Nat) : State :=
  let g := s.pg p
  if g.applied != g.sel || !g.early.isEmpty then
    let s := s.modPg p fun g => { g with applied := g.sel, early := [] }
    s.live.foldl (fun t e =>
      if e.2.2.pgroup = p && g.altFor e.2.2.dest != g.sel then
        (t.moveDup e.2.2.dest (if g.sel then e.2.2.alt else e.2.2.src)).restartPtr e.2.2.dest
      else t) s
  else s

/-- The source a connection selects (R186, R244). -/
def State.selectedSrc (s : State) (k : Conn) : Word := if (s.pg k.pgroup).altFor k.dest then k.alt else k.src

/-! ### Received APS bytes (R122, R251, R252) -/

/-- The group whose protection signal a line's K bytes, or an endpoint's APS bytes at a level, belong to. -/
def State.apsGroup (s : State) (f : Nat → Bool) : Option Nat := s.pgsOn.find? f

/-- The MSP group that channel c protects. -/
def State.mspOf (s : State) (c : Nat) : Option Nat :=
  s.apsGroup fun p => s.pgLayer p == 0 && fld (s.pgProt p) 7 0 == c && !s.pgDisagrees p false

/-- The APS level of an ODU group: the path, or the tandem connection of SNC/S (DEDUCED, notes/assumptions/26.md). -/
def State.pgApsLevel (s : State) (p : Nat) : Nat := if s.pgLayer p = 2 then s.pgTcm p else 0

/-- The ODU group that endpoint w protects, with its level. -/
def State.sncpOf (s : State) (w : Word) (lvl : Nat) : Option Nat :=
  s.apsGroup fun p => s.pgLayer p != 0 && s.pgProt p == w && s.pgApsLevel p == lvl

/-- A value is accepted: what it says replaces the far end's request (R251). -/
def State.apsAccept (s : State) (p : Nat) (l : List Byte) : State :=
  let msp := s.pgLayer p = 0
  let code := apsCode msp l
  let ok := code.isSome
  let changed := (s.pg p).farAcc != some l
  let k2 := byteAt l 1
  let s := s.modPg p fun g => { g with
    farAcc := some l
    farReq := code.getD 0
    farWork := ok && (if msp then byteAt l 0 % 16 == 1 else byteAt l 1 == 1)
    farBridged := if msp then k2 / 16 == 1 else byteAt l 2 == 1
    farArch := some (if msp then k2 / 8 % 2 == 1 else byteAt l 0 / 4 % 2 == 1)
    farMode := if msp then (if k2 % 8 = 5 then some true else if k2 % 8 = 4 then some false else g.farMode)
      else some (byteAt l 0 / 2 % 2 == 1) }
  let s := if changed && (s.pg p).exerFlag then
      (s.modPg p fun g => { g with exerFlag := false }).pgFlag p 2 false else s
  if ok && (s.pg p).unstable then s.pgFlag p 3 false else s

/-- One received occurrence of the APS bytes of a group. A twin that does not decide only counts them (R260). An
occurrence of an acceptable value that does not complete three identical ones counts toward the 12 of UNSTABLE
(DESIGN CHOICE, notes/assumptions/183.md). -/
def State.pgAps (s : State) (p : Nat) (l : List Byte) : State :=
  let g := s.pg p
  if g.frozen then s
  else
    let run := if g.farCand = some l then min 3 (g.farRun + 1) else 1
    let good := run = 3 && (apsCode (s.pgLayer p = 0) l).isSome
    let bad := if good then 0 else min 12 (g.badRun + 1)
    let s := s.modPg p fun g => { g with farCand := some l, farRun := run, badRun := bad }
    if !s.pairActive then s else
    let s := if run = 3 then s.apsAccept p l else s
    if bad = 12 && !g.sfP.here && !g.unstable then
      (s.modPg p fun g => { g with farReq := 0, farWork := false, farBridged := false }).pgFlag p 3 true
    else s

/-! ### APS_CMD (R253, R254, R256, R257) -/

/-- The highest request of a group but a manual switch, an exercise and the group's own states (R254). -/
def State.pgOthers (s : State) (p : Nat) : Nat :=
  max { s.pg p with manual := 0, exer := none, wtrOn := false, dnr := false }.localReq (s.farReq p)

/-- APS_CMD (DEDUCED, notes/assumptions/27.md). -/
def State.fxApsCmd (q : Req) (ws : List Word) (s : State) : State :=
  let op := 0x0501
  let w := wd ws 0
  let cmd := fld w 31 28
  let p := fld w 6 0
  let done (t : State) (r : Nat) := (s.pgTell t p).finish q op stOk 0 [BitVec.ofNat 32 r]
  if ws.length != 1 then s.finish q op eLength 0 []
  else if s.notActive then s.finish q op eNotActive 0 []
  else if !onlyBits w 0xF000007F || cmd > 3 || !s.pgEnabled p then s.finish q op eParam 0 []
  else if (s.pg p).frozen then done s 1
  else
    let g := s.pg p
    let high := s.pgOthers p
    if cmd = 0 then
      if g.manual = 0 && g.exer.isNone && !g.wtrOn then done s 2
      else
        let s := if g.exer.isSome then s.endExer p 2 else s
        done (s.modPg p fun g => { g with manual := 0, wtrOn := false, wtrAt := none }) 0
    else if cmd = 1 then
      if high > 6 then done s 1 else done (s.modPg p fun g => { g with manual := 6 }) 0
    else if cmd = 2 then
      if high > 6 then done s 1
      else if !g.sel && g.manual != 6 && !g.wtrOn then done s 2
      else done (s.modPg p fun g => { g with manual := 5, wtrOn := false, wtrAt := none, dnr := false }) 0
    else if !s.pgBidir p then done s 2
    else if s.pgClaimed p then s.finish q op eBusy 0 []
    else if max (rank high) (max (rank g.manual) (if g.wtrOn then 4 else 0)) > 3 then done s 1
    else
      done ((s.claim (.group p)).modPg p fun g => { g with
        exer := s.after 100000, exerBase := if g.topRemote then b2n g.farWork else b2n (selOf g.top == some true) }) 0

/-! ### PROT_OVR (R255, R256, R261) -/

/-- The accepted key write of PROT_OVR: its status, and the state it leaves (DEDUCED, notes/assumptions/132.md). -/
def State.ovrWrite (s : State) (w : Word) : Nat × State :=
  let ovr := fld w 31 28
  let p := fld w 6 0
  let was := s
  if s.notActive then (eNotActive, s)
  else if ovr > 2 || !s.pgEnabled p || (s.pg p).frozen then (eParam, s)
  else if ovr = 0 then
    let s := if (s.pg p).override != 0 then s.release fun k => k == .group p else s
    (stOk, was.pgTell (s.modPg p fun g => { g with override := 0 }) p)
  else if (s.pg p).override = 0 && s.pgClaimed p then (eBusy, s)
  else
    let s := if (s.pg p).override = 0 then s.claim (.group p) else s
    (stOk, was.pgTell (s.modPg p fun g => { g with override := if ovr = 1 then 12 else 10 }) p)

/-! ### Enabling and disabling a group (R237, R241, R242, R263) -/

/-- TCM_MON of an endpoint shows the level: of a connection it holds for its SOURCE and its ALT_SOURCE (R119, R185)
(DEDUCED, notes/assumptions/26.md). -/
def State.tcmMon (s : State) (w : Word) (lvl : Nat) : Bool :=
  if epTpn w = 0 then s.crb (epCh w) 10 (10 + lvl)
  else (s.bankConns s.bankUsed).any fun e => (e.2.src == w || e.2.alt == w) && bit e.2.ctl (9 + lvl)

/-- An MSP member: a provisioned SDH or SONET line that owns itself, whose CH_PROT holds the group. -/
def State.mspOk (s : State) (p : Nat) (w : Word) (role : Nat) : Bool :=
  let c := fld w 7 0
  onlyBits w 0xFF && c < 192 && s.sdhLine c && !s.isMember c && s.crf c 12 31 30 == role && s.crf c 12 29 23 == p

/-- Two groups name a common member. -/
def State.pgShares (s : State) (msp : Bool) (a b : Word) (r : Nat) : Bool :=
  let same (x y : Word) := if msp then fld x 7 0 == fld y 7 0 else x == y
  (s.pgLayer r == 0) == msp
    && (same a (s.pgWork r) || same a (s.pgProt r) || same b (s.pgWork r) || same b (s.pgProt r))

/-- The checks of R241 over the entry as it will stand. -/
def State.pgCheck (s : State) (p : Nat) (w0 w1 w2 : Word) : Bool :=
  let layer := fld w0 30 29
  let lvl := fld w0 25 23
  layer < 3 && (!bit w0 28 || (bit w0 27 && bit w0 26))
    && (if layer = 2 then 1 ≤ lvl && lvl ≤ 6 else lvl == 0)
    && w1 != w2
    && (if layer = 0 then
          s.mspOk p w1 1 && s.mspOk p w2 2 && s.client (fld w1 7 0) == s.client (fld w2 7 0)
            && s.crb (fld w1 7 0) 1 23 == s.crb (fld w2 7 0) 1 23
        else
          epKind w1 == 2 && epKind w2 == 2 && onlyBits w1 (epUsed w1) && onlyBits w2 (epUsed w2)
            && s.epReason s.bankUsed w1 == 0 && s.epReason s.bankUsed w2 == 0
            && s.epSig s.bankUsed w1 == s.epSig s.bankUsed w2
            && (layer = 1 || (s.tcmMon w1 lvl && s.tcmMon w2 lvl)))
    && !(s.pgsOn.any fun r => r != p && s.pgShares (layer = 0) w1 w2 r)

/-- A group without requests, timers and stored commands, working selected; what its destinations carry stands until the
next selection boundary (R242, R258). -/
def Pg.idle (g : Pg) : Pg := { applied := g.applied, early := g.early }

/-- A group whose PG_EN is set starts from nothing. -/
def State.pgEnable (s : State) (p : Nat) : State := s.modPg p Pg.idle

/-- A group whose PG_EN is cleared: working selected, timers stopped, stored commands discarded, status at 0 (R242); a
return to working counts in SWITCHES (R266) (DEDUCED, notes/assumptions/28.md). -/
def State.pgDisable (s : State) (p : Nat) : State :=
  let g := s.pg p
  let s := if g.disW then s.levelOff 8 else s
  let s := if g.disP then s.levelOff 8 else s
  let s := s.release fun k => k == .group p
  let s := if g.sel then s.countTbl 4 p 6 31 16 1 else s
  let s := (s.modPg p Pg.idle).modHold (holdProt p) fun _ => {}
  ((s.setTbl 4 p 4 0).setTbl 4 p 5 0).setTbl 4 p 7 0

/-- All copies of a member's CH_PROT differ: every group it belongs to freezes (R263). -/
def State.pgFreeze (s : State) (p : Nat) : State :=
  if s.pgEnabled p && !(s.pg p).frozen then
    (s.modPg p fun g => { g with frozen := true, frozenAt := some s.owl }).pgItem p 0x70 1
  else s

/-- The groups that name channel c as an MSP member. -/
def State.mspGroups (s : State) (c : Nat) : List Nat :=
  s.pgsOn.filter fun p => s.pgLayer p == 0 && (fld (s.pgWork p) 7 0 == c || fld (s.pgProt p) 7 0 == c)

/-- An enabled group names channel c (R459). -/
def State.pgNames (s : State) (c : Nat) : Bool :=
  s.pgsOn.any fun p => s.pgCh p (s.pgWork p) == c || s.pgCh p (s.pgProt p) == c

/-! ### Status words (R239, R240) -/

/-- Word 4. -/
def State.pgState (s : State) (p : Nat) : Word :=
  let g := s.pg p
  let run := g.sfW.hold.isSome || g.sfP.hold.isSome || g.sdW.hold.isSome || g.sdP.hold.isSome
  BitVec.ofNat 32 (b2n g.frozen * 2 ^ 31 + b2n g.sel * 2 ^ 30 + b2n g.bridged * 2 ^ 29 + g.local_ * 2 ^ 25
    + (if s.pgBidir p then g.farReq else 0) * 2 ^ 21 + g.top * 2 ^ 17 + b2n g.topRemote * 2 ^ 16 + b2n run * 2 ^ 15
    + b2n g.wtrOn * 2 ^ 14 + b2n (g.override != 0) * 2 ^ 13 + b2n g.exer.isSome * 2 ^ 12
    + b2n g.unstable * 8 + b2n g.noResp * 4 + b2n g.modeMis * 2 + b2n g.archMis)

/-- Word 5: the longest hold-off that is left, and WTR_LEFT. -/
def State.pgTimes (s : State) (p : Nat) : Word :=
  let g := s.pg p
  let h := max (max (s.left g.sfW.hold) (s.left g.sfP.hold)) (max (s.left g.sdW.hold) (s.left g.sdP.hold))
  BitVec.ofNat 32 (cdiv h 1000 % 65536 * 65536 + cdiv (s.left g.wtrAt) 1000000 % 65536)

/-- The status copies of a group at an OWL edge; the timers of a frozen one stand (R263). -/
def State.pgRefresh (s : State) (p : Nat) : State :=
  let s := if (s.pg p).frozen then s else s.setTbl 4 p 5 (s.pgTimes p)
  (s.setTbl 4 p 4 (s.pgState p)).setTbl 4 p 7 (BitVec.ofNat 32 (s.pg p).lastSwitch)

/-! ### A twin takes the lease (R262) -/

/-- Every group goes on from its mirrored state; an exercise in progress is abandoned. -/
def State.pgTakeover (s : State) : State := s.pgsOn.foldl (fun t p => (t.endExer p 2).pgEvaluate p) s

/-! ### The commands -/

/-- A command about a protection group the device has. -/
def onPg (p : Nat) (s t : State) : State := if p < 96 && s.clocked then t else s

/-- R246, R248. -/
def execProtectionEvaluation (p : Nat) (s : State) : Out := .next (onPg p s (s.pgEvaluate p))
/-- R249, R264. -/
def execProtHoldoffExpiry (p : Nat) (k : PgCond) (s : State) : Out := .next (onPg p s (s.pgHoldExpiry p k))
/-- R250, R266. -/
def execWtrExpiry (p : Nat) (s : State) : Out := .next (onPg p s (s.pgWtrExpiry p))
/-- R258, R169. -/
def execSelectionBoundary (p : Nat) (s : State) : Out := .next (onPg p s (s.pgBoundary p))
/-- R252. -/
def execNoResponseTimer (p : Nat) (s : State) : Out := .next (onPg p s (s.pgNoRespExpiry p))
/-- R257. -/
def execExerTimeout (p : Nat) (s : State) : Out := .next (onPg p s (s.pgExerExpiry p))
/-- R266. -/
def execProtEventHoldoffExpiry (p : Nat) (s : State) : Out := .next (owlOn s (if p < 96 then s.pgEvents p else s))

end Sys2Proof.Machine
end

