-- ==== Sys2Proof/Machine/Remap.lean ====
section
/-!
DEFINITION. The remappers (R166 to R168, R181, R187): a demapped E1 or DS1 goes to the monitor of its remapper, to the
snoop contexts on it, and to the low-order VCs that the remapper feeds.
-/
namespace Sys2Proof.Machine

/-- Change the state of an endpoint. -/
def State.modTrib (s : State) (w : Word) (f : Trib → Trib) : State :=
  { s with tribs := Store.mod {} s.tribs w.toNat f }

/-- The live connections whose selected source is an endpoint. -/
def State.connsOf (s : State) (w : Word) : List (Nat × Conn) :=
  (s.live.filter fun e => s.selectedSrc e.2.2 == w).map fun e => e.2

/-- Count in a word of the tributary status of every connection that an endpoint feeds. -/
def State.countTrib (s : State) (w : Word) (i hi lo n : Nat) : State :=
  if n = 0 then s else (s.connsOf w).foldl (fun t e => t.countTbl 3 e.1 i hi lo n) s

/-- The endpoint word of a remapper. -/
def remapEp (m : Nat) : Word := BitVec.ofNat 32 (4 * 2 ^ 28 + m)

/-- The connections by which an endpoint feeds remappers. -/
def State.remapsOf (s : State) (w : Word) : List (Nat × Conn) := (s.connsOf w).filter fun e => epKind e.2.dest == 4

/-- A 64-bit value of two table words. -/
def State.tbl64 (s : State) (t e w : Nat) : Nat := (s.tbl t e w).toNat * 2 ^ 32 + (s.tbl t e (w + 1)).toNat

/-- Profile p. -/
def State.profile (s : State) (p : Nat) : CrcAlg :=
  let w := s.tbl 7 p 0
  { width := fld w 31 26 + 1, refin := bit w 25, refout := bit w 24, poly := s.tbl64 7 p 1, init := s.tbl64 7 p 3
    xorout := s.tbl64 7 p 5 }

/-- The register of a snoop context after more bytes, from a value (R298, R299). -/
def CrcAlg.reg (a : CrcAlg) (r : Nat) (l : List Byte) : Nat := l.foldl a.byte r

/-- Put RUN of snoop context x. -/
def State.setRun (s : State) (x r : Nat) : State :=
  s.setTblWords 8 0 x 2 [BitVec.ofNat 32 (r / 2 ^ 32), BitVec.ofNat 32 r]

/-- A CONTINUOUS context runs over more bytes of its source; FRAMES counts 64-byte blocks (R299). -/
def State.snoopBytes (s : State) (x : Nat) (l : List Byte) : State :=
  let n := Store.get 0 s.snoopRest x + l.length
  let s := s.setRun x ((s.profile (fld (s.tbl 8 x 0) 27 24)).reg (s.tbl64 8 x 2) l)
  { s.countTbl 8 x 5 31 0 (n / 64) with snoopRest := Store.set 0 s.snoopRest x (n % 64) }

/-- The entries of table t that are enabled. -/
def State.enabledEntries (s : State) (t : Nat) : List Nat :=
  s.tables.filterMap fun e =>
    if e.1 / 8388608 = 2 * t ∧ e.1 % 128 = 0 ∧ bit e.2 31 ∧ !s.entryBad t 0 (e.1 / 128 % 65536) then
      some (e.1 / 128 % 65536)
    else none

/-- Every CONTINUOUS context on a source takes its bytes: a remapper, or the result of a stream. -/
def State.snoopOn (s : State) (red : Bool) (n : Nat) (l : List Byte) : State :=
  (s.enabledEntries 8).foldl (fun t x =>
    let w := t.tbl 8 x 0
    if fld w 30 28 = 0 && bit w 23 == red && fld w 22 12 = n then t.snoopBytes x l else t) s

/-- Bits at the input of the remapper of one connection: the monitor of R168, whose CRC-4 block errors the tributary
status counts, the snoop contexts (R299), whose bytes begin with the most significant bit (R289), and the stores
towards the outputs (R166). -/
def State.remapIn (ds1 : Bool) (bits : List Bool) (s : State) (e : Nat × Conn) : State :=
  let w := e.2.dest
  let t := s.trib w
  let r := t.e1.run ds1 t.e1Ais bits
  let all := t.e1.rest ++ bits
  let s := s.modTrib w fun t => { t with
    e1 := { r.1 with rest := all.drop (all.length / 8 * 8) }
    e1Ais := r.2.1, e1Oof := !ds1 && r.1.sync != 3 }
  let s := (s.countTbl 3 e.1 2 31 0 r.2.2).snoopOn false (epRemap w) ((pieces 8 all.length all).map byteOf)
  (s.connsOf w).foldl (fun u k =>
    if epKind k.2.dest = 3 then u.modTrib k.2.dest fun t => { t with out := t.out.put bits } else u) s

/-- Bits of an E1 or DS1 from an endpoint into every remapper that it feeds. -/
def State.remapFeed (s : State) (w : Word) (ds1 : Bool) (bits : List Bool) : State :=
  (s.remapsOf w).foldl (State.remapIn ds1 bits) s

/-- CRC-4 block errors that the bits of an endpoint show at a remapper; 0 where it feeds none (R168, R297). -/
def State.remapErrs (s : State) (w : Word) (bits : List Bool) : Nat :=
  match s.remapsOf w with
  | e :: _ => let t := s.trib e.2.dest; (t.e1.run false t.e1Ais bits).2.2
  | [] => 0

end Sys2Proof.Machine
end

