-- ==== Sys2Proof/Machine/Redundancy.lean ====
section
/-!
DEFINITION. The redundancy block (09_hitless_and_voting.md): admission, hitless selection, voting, IEEE 802.1CB
generation and recovery, the delay memory, and the commands of the family.
-/
namespace Sys2Proof.Machine

/-! ### Stream entries (R267, R269) -/

/-- EN. -/
def State.redOn (s : State) (n : Nat) : Bool := n < 2048 && s.entryOn 5 n

/-- The enabled streams. -/
def State.redsOn (s : State) : List Nat := s.enabledEntries 5

/-- The enabled FRER entries. -/
def State.frersOn (s : State) : List Nat := s.enabledEntries 6

/-- MAX_DELAY or VOTE_WAIT in µs; FINE counts in VOTE_RX streams only (R269). -/
def delayUs (w0 w1 : Word) : Nat :=
  fld w0 16 12 * (if fld w0 30 28 = 2 && bit w1 30 then 50 else 500)

/-- A role that uses the delay memory (R267). -/
def usesMem (role : Nat) : Bool := role == 0 || role == 2

/-! ### Rates and admission (R139, R272, R273, R290) -/

/-- The nominal rate of a SIGNAL in kbit/s. -/
def sigKbps (g n : Nat) : Nat := (containerOf g n).kbps

/-- Blocks per second of a voted SIGNAL (R290); 0 where it is not voted. -/
def blockRate (g n : Nat) : Nat :=
  if g = 9 then n * 2542400
  else (([296000, 0, 0, 0, 2430000, 4880000, 19600000, 0, 0, 0, 96000, 6000, 4000, 4000, 3016] : List Nat)[g]?).getD 0

/-- Data blocks of one frame of a voted SIGNAL, Bf (R289, R290). -/
def blocksOf (g : Nat) : Nat :=
  (([37, 0, 0, 0, 239, 239, 239, 0, 0, 239, 12, 3, 2, 1, 1] : List Nat)[g]?).getD 1

/-- The modulus of BSEQ (R289). -/
def bseqMod (g : Nat) : Nat := let b := max 1 (blocksOf g); b * (65536 / b)

/-- The longest VOTE_WAIT in µs, in whole steps (R290). -/
def longestWait (g n step : Nat) : Nat :=
  let us := if g = 4 then 6500 else if g = 5 then 3000 else if g = 6 then 500
    else if g = 9 then (if n = 0 then 0 else 6440 / n) else 8000
  us / step * step

/-- The least CARRIER_M of a voted ODU (R290). -/
def leastCarrier (g n : Nat) : Nat :=
  if g = 4 then 2 else if g = 5 then 3 else if g = 6 then 9 else if g = 9 then cdiv (239 * n) 217 else 0

/-- Granules of one member's window: rate in bit/s, window in µs. -/
def granulesOf (bps us : Nat) : Nat := cdiv (bps * us) 32768000000

/-- Granules of a stream (R273). -/
def redGranules (w0 w1 : Word) : Nat :=
  let role := fld w0 30 28
  let g := fld w0 27 24
  let n := fld w0 23 17
  let win := delayUs w0 w1 + 1000
  if role = 0 then 2 * granulesOf (sigKbps g n * 1000) win
  else if role = 2 then 3 * granulesOf (560 * blockRate g n) win
  else 0

/-- The memory bandwidth of a stream in MB/s, rounded up (R273, R510). -/
def redMbps (w0 : Word) : Nat :=
  let role := fld w0 30 28
  let g := fld w0 27 24
  let n := fld w0 23 17
  if role = 0 then cdiv (3 * sigKbps g n) 8000
  else if role = 2 then cdiv (6 * 560 * blockRate g n) 8000000
  else 0

/-- A sum over the enabled streams other than one. -/
def State.redSum (s : State) (skip : Nat) (f : Word → Word → Nat) : Nat :=
  (s.redsOn.filter (· != skip)).foldl (fun n e => n + f (s.tbl 5 e 0) (s.tbl 5 e 1)) 0

/-- Kilobits per second of streams of a role. -/
def roleKbps (role : Nat) (w0 _w1 : Word) : Nat :=
  if fld w0 30 28 = role then sigKbps (fld w0 27 24) (fld w0 23 17) else 0

/-- One for each stream of a role. -/
def roleCount (role : Nat) (w0 _w1 : Word) : Nat := if fld w0 30 28 = role then 1 else 0

/-- Limit 7: the signal suits the role, CARRIER_M and the profile suit the signal (R267, R288, R290). -/
def State.redLimit7 (s : State) (w0 : Word) : Bool :=
  let role := fld w0 30 28
  let g := fld w0 27 24
  let n := fld w0 23 17
  let flexOk := g != 9 || (1 ≤ n && n ≤ 80)
  if role ≤ 1 then g ≤ 9 && flexOk
  else if role ≤ 3 then
    blockRate g (max n 1) != 0 && g ≤ 14 && (g != 9 || (1 ≤ n && n ≤ 72))
      && leastCarrier g n ≤ fld w0 6 0 && fld (s.tbl 7 (fld w0 11 8) 0) 31 26 ≤ 31
  else (g ≤ 3 || g = 9) && flexOk

/-- Limit 6: VOTE_WAIT; a MAX_DELAY or VOTE_WAIT of 0 or above 16 steps fails as well.
(DEDUCED, notes/assumptions/31.md). -/
def redLimit6 (w0 w1 : Word) : Bool :=
  let role := fld w0 30 28
  let k := fld w0 16 12
  if usesMem role then
    (1 ≤ k && k ≤ 16)
      && (role != 2 || delayUs w0 w1 ≤ longestWait (fld w0 27 24) (fld w0 23 17) (if bit w1 30 then 50 else 500))
  else true

/-- The first limit of R272 that a stream breaks with it included; 0 where it is admitted. -/
def State.redAdmit (s : State) (n : Nat) (w0 w1 : Word) : Nat :=
  let all (f : Word → Word → Nat) := s.redSum n f + f w0 w1
  firstReason [
    (1, all (roleKbps 0) > 1600000000 || all (roleKbps 1) > 1600000000),
    (2, all (roleKbps 2) > 100000000 || all (roleKbps 3) > 100000000),
    (3, all (roleCount 2) > 1024 || all (roleCount 3) > 1024),
    (4, all redGranules > 1048576),
    (5, all (fun a _ => redMbps a) > 700000),
    (6, !redLimit6 w0 w1),
    (7, !s.redLimit7 w0)]

/-! ### Members and their sources -/

/-- Member m. -/
def Red.member (r : Red) (m : Nat) : Member := if m = 0 then r.a else if m = 1 then r.b else r.c

/-- Put member m. -/
def Red.setMember (r : Red) (m : Nat) (x : Member) : Red :=
  if m = 0 then { r with a := x } else if m = 1 then { r with b := x } else { r with c := x }

/-- The endpoint word of a member, or of the result as member 3. -/
def redEp (n m : Nat) : Word := BitVec.ofNat 32 (5 * 2 ^ 28 + n * 512 + m * 128)

/-- The source that feeds destination d now; none where its entry failed its parity (R199). -/
def State.feeder (s : State) (d : Word) : Option Word :=
  (s.live.find? fun e => e.2.2.dest == d && !s.entryBad 2 e.1 e.2.1).map fun e => s.selectedSrc e.2.2

/-- The delay memory answers. -/
def State.memActive (s : State) : Bool := s.rf 0x7080 31 30 == 2 && !s.faults.levels.contains 17

/-- The result of a stream that plays out is in signal fail (R270, R281, R294). -/
def State.playFail (s : State) (n : Nat) : Bool := (s.red n).outMaint || !(s.red n).sched

/-- A TX stream carries maintenance for reasons of its own: it is skewed, or the twin has not aligned its numbers
(R331, R333). -/
def State.txHeld (s : State) (n : Nat) : Bool :=
  (s.red n).skewed || (s.paired && (s.twinRole == 1 || s.twinRole == 2))

/-- A source is in signal fail, as a destination sees it (R167, R210, R270, R281, R294). The flags of the monitor at a
remapper's input count as those of R210 do (DEDUCED, notes/assumptions/188.md). The first number bounds the remappers
and streams that are followed. -/
def State.srcFailN (s : State) : Nat → Word → Bool
  | 0, _ => true
  | k + 1, w =>
    let fed (d : Word) : Bool := match s.feeder d with
      | some x => s.srcFailN k x
      | none => true
    if epKind w = 0 then true
    else if epKind w = 4 then
      let d := w &&& 0xF00007FF
      fed d || (s.trib d).e1Ais || (s.trib d).e1Oof
    else if epKind w = 5 then
      let n := epStream w
      let r := s.redRole n
      if !s.redOn n then true
      else if usesMem r then s.playFail n
      else if r = 4 then fed (redEp n 0) && fed (redEp n 1)
      else fed (redEp n 0) || (r != 5 && s.txHeld n)
    else s.epFail w

/-- A source is in signal fail. -/
def State.srcFail (s : State) (w : Word) : Bool := s.srcFailN 6 w

/-- Server signal fail of a selected source: of the result of a stream, where it emits maintenance or its stream is
disabled (R270, R281, R294). -/
def State.srcSsf (s : State) (w : Word) : Bool := if epKind w = 5 then s.srcFail w else s.epSsf w

/-- The carrier of a voted signal shows 0x8A (R290); one whose C2 or payload type has not been accepted yet counts as
one that does (DESIGN CHOICE, notes/assumptions/189.md). -/
def State.carrierOk (s : State) (w : Word) : Bool := (s.trib w).label.acc.getD 0x8A == 0x8A

/-- The member is fed, its source is not in signal fail, and it is a carrier where the role takes one. -/
def State.memberUp (s : State) (n m : Nat) : Bool :=
  match s.feeder (redEp n m) with
  | some w => !s.srcFail w && (s.redRole n != 2 || s.carrierOk w)
  | none => false

/-- The channel a member arrives on. -/
def State.memberCh (s : State) (n m : Nat) : Option Nat :=
  (s.feeder (redEp n m)).bind fun w => if epOnCh w then some (epCh w) else none

/-- The members of a role. -/
def State.members (s : State) (n : Nat) : List Nat := List.range (roleMembers (s.redRole n))

/-! ### Sequence numbers -/

/-- Modulus of a stream's numbers: PSEQ of a VC-4 or an ODU, or BSEQ (R276, R289). -/
def State.redMod (s : State) (n : Nat) : Nat :=
  let g := fld (s.redWord n) 27 24
  if s.redRole n ≥ 2 then bseqMod g else if g ≤ 3 then 256 else 65536

/-- How far b lies ahead of a, modulo md; md / 2 and more means behind. -/
def ahead (md a b : Nat) : Nat := (b + md - a % md) % md

/-- The check delay K in frames (R277). -/
def State.redK (s : State) (n : Nat) : Nat := if fld (s.redWord n) 27 24 ≤ 3 then 1 else 2

/-- Frames or blocks of a stream in a span of µs. -/
def State.redSpan (s : State) (n us : Nat) : Nat :=
  let g := fld (s.redWord n) 27 24
  let k := fld (s.redWord n) 23 17
  if s.redRole n ≥ 2 then blockRate g k * us / 1000000
  else if g ≤ 3 then us / 125
  else sigKbps g k * us / 122368000

/-- The nominal period of a stream's frames or blocks in fs (R290, R331). -/
def State.redPeriod (s : State) (n : Nat) : Nat :=
  let g := fld (s.redWord n) 27 24
  let k := fld (s.redWord n) 23 17
  if s.redRole n ≥ 2 then 1000000000000000 / blockRate g k
  else if g ≤ 3 then 125000000000
  else 122368 * 1000000000000 / sigKbps g k

/-- The present OWL edge in fs. -/
def State.nowFs (s : State) : Nat := s.owl * 1000000000

/-- The window W of R273 in frames or blocks (DEDUCED, notes/assumptions/29.md). -/
def State.redWindow (s : State) (n : Nat) : Nat :=
  s.redSpan n (delayUs (s.tbl 5 n 0) (s.tbl 5 n 1) + 1000)

/-! ### A member's state (R276, R282, R283, R291) -/

/-- DUP_SET in µs (R271). -/
def State.dupSet (s : State) (c : Nat) : Nat := 10000 * max 1 (s.crf c 13 29 26)

/-- A member takes a state: 0 NONE, 1 HUNT, 2 ALIGNED, 3 WINDOW; the dDUP_LOSS times follow. -/
def State.memberTo (s : State) (n m st : Nat) : State :=
  let set := match s.memberCh n m with
    | some c => s.after (s.dupSet c)
    | none => none
  let s := s.modRed n fun r =>
    let x := r.member m
    if x.st = st then r
    else
      let x := { x with st := st, outside := if st = 3 then x.outside else 0 }
      let x :=
        if st = 2 then { x with lossAt := none, clearAt := s.after 10000, alignedAt := some s.owl }
        else if st = 0 then { x with lossAt := none, clearAt := none, run := 0, bad := 0, last := none }
        else { x with lossAt := if x.lossAt.isSome then x.lossAt else set, clearAt := none }
      r.setMember m x
  let any := (s.members n).any fun k => ((s.red n).member k).st == 2
  s.modRed n fun r => { r with
    firstAligned := if any then (if r.firstAligned.isSome then r.firstAligned else some s.owl) else none
    noneSince := if any then none else if r.noneSince.isSome then r.noneSince else s.after 1000000 }

/-- Count a discarded, late or sequence-errored frame or block (DEDUCED, notes/assumptions/30.md). -/
def State.redLate (s : State) (n : Nat) : State := s.countTbl 5 n 7 31 0 1

/-- Keep a frame or block of a member. -/
def State.keep (s : State) (n m : Nat) (h : Held) : State :=
  let cap := s.redWindow n + 2
  s.modRed n fun r =>
    let x := r.member m
    let l := (x.held.filter fun y => y.seq != h.seq) ++ [h]
    r.setMember m { x with held := l.drop (l.length - cap) }

/-- The play-out time of number q, as far ahead of the next one as it lies (R278). -/
def State.playTime (s : State) (n q : Nat) : Nat :=
  let r := s.red n
  r.playAt + ahead (s.redMod n) r.next q * r.period

/-- A frame or block numbered q that arrives now lies outside the bounds of R282: after its play-out time less k
periods, or earlier than W before it; a block arrives before its emission (R292). -/
def State.outsideWin (s : State) (n q k : Nat) : Bool :=
  let r := s.red n
  let md := s.redMod n
  let t := s.playTime n q
  let w := (delayUs (s.tbl 5 n 0) (s.tbl 5 n 1) + 1000) * 1000000000
  r.sched && (ahead md r.next q ≥ md / 2 || t < s.nowFs + k * r.period + b2n (k == 0) || s.nowFs + w < t)

/-- One frame or block that lies outside: counted once, and the third in a row makes the member WINDOW. -/
def State.windowMiss (s : State) (n m : Nat) (counted : Bool) : State :=
  let s := (if counted then s else s.redLate n).modRed n fun r =>
    let x := r.member m
    r.setMember m { x with outside := min 3 (x.outside + 1) }
  if ((s.red n).member m).outside = 3 then s.memberTo n m 3 else s

/-- One frame or block inside: a member in WINDOW is ALIGNED again. -/
def State.windowHit (s : State) (n m : Nat) : State :=
  (s.modRed n fun r => r.setMember m { r.member m with outside := 0 }).memberTo n m 2

/-- The time constant of the schedule's loop in fs: 1 ÷ (2π × 1 Hz). -/
def loopFs : Nat := 159154943091895

/-- A frame or block of a member arrives: the next one in order on an ALIGNED member moves the period of the schedule
through a first-order loop of 1 Hz, which steps no phase (R279) (DESIGN CHOICE, notes/assumptions/190.md). -/
def State.arrival (s : State) (n m : Nat) (inOrder : Bool) : State :=
  s.modRed n fun r =>
    let x := r.member m
    let d : Int := ((s.owl - x.lastAt) * 1000000000 : Nat)
    let p : Int := r.period
    let r := r.setMember m { x with lastAt := s.owl }
    if r.sched && x.st == 2 && inOrder then { r with period := (p + (d - p) * p / loopFs).toNat } else r

/-! ### Hitless members and play-out (R276 to R282) -/

/-- A frame while the member hunts: three in sequence lock it. -/
def State.hlHunt (s : State) (n m q : Nat) : State :=
  let x := (s.red n).member m
  let run := if x.last.map (fun l => (l + 1) % s.redMod n) = some q then x.run + 1 else 1
  let s := (s.arrival n m false).modRed n fun r => r.setMember m { r.member m with last := some q, run := run, bad := 0 }
  if run ≥ 3 then s.memberTo n m 2 else s

/-- A frame of an aligned member: the expected number, or a sequence error. -/
def State.hlFrame (s : State) (n m : Nat) (f : MemberFrame) : State :=
  let md := s.redMod n
  let x := (s.red n).member m
  let want := (x.last.getD 0 + 1) % md
  let err := f.pseq % md != want
  let bad := if err then x.bad + 1 else 0
  let s := if err then s.redLate n else s
  let s := (s.arrival n m true).modRed n fun r => r.setMember m { r.member m with last := some want, bad := bad }
  if bad ≥ 3 then
    (s.modRed n fun r => r.setMember m { r.member m with last := some (f.pseq % md), run := 1, bad := 0 }).memberTo n m 1
  else if s.outsideWin n want (s.redK n) then s.windowMiss n m err
  else (s.windowHit n m).keep n m
    { seq := want, clean := f.parityOk && !err, valid := true, data := f.data, at_ := s.owl }

/-- HITLESS_MEMBER_FRAME. -/
def State.hlMember (s : State) (n m : Nat) (f : MemberFrame) : State :=
  if s.redOn n && s.redRole n = 0 && m < 2 then
    if !s.memberUp n m then s.memberTo n m 0
    else if !s.memActive then s
    else
      let s := if ((s.red n).member m).st = 0 then s.memberTo n m 1 else s
      if ((s.red n).member m).st = 1 then s.hlHunt n m (f.pseq % s.redMod n) else s.hlFrame n m f
  else s

/-- The aligned member whose frames arrive first. -/
def State.earliest (s : State) (n : Nat) : Option Nat :=
  (s.members n).foldl (fun best m =>
    let x := (s.red n).member m
    if x.st != 2 then best
    else match best with
      | none => some m
      | some k =>
        let d := ahead (s.redMod n) (((s.red n).member k).last.getD 0) (x.last.getD 0)
        if 0 < d && d < s.redMod n / 2 then some m else some k) none

/-- Members not in signal fail. -/
def State.upMembers (s : State) (n : Nat) : List Nat := (s.members n).filter (s.memberUp n)

/-- How long after its arrival on the earliest member a frame or block plays out, in fs: MAX_DELAY and K, or VOTE_WAIT
(R278, R292). -/
def State.playDelay (s : State) (n : Nat) : Nat :=
  delayUs (s.tbl 5 n 0) (s.tbl 5 n 1) * 1000000000 + (if s.redRole n = 2 then 0 else s.redK n * s.redPeriod n)

/-- The first number whose play-out time has not passed, by member m, with that time. -/
def State.firstPlay (s : State) (n m : Nat) : Nat × Nat :=
  let x := (s.red n).member m
  let t (at_ : Nat) := at_ * 1000000000 + s.playDelay n
  match x.held.find? fun h => s.nowFs < t h.at_ with
  | some h => (h.seq, t h.at_)
  | none => ((x.last.getD 0 + 1) % s.redMod n, t x.lastAt + s.redPeriod n)

/-- What a member holds from number q on. -/
def Member.from_ (x : Member) (md q : Nat) : Member := { x with held := x.held.filter fun h => ahead md q h.seq < md / 2 }

/-- SCHEDULE_SET (R278, R292): every member that is not in signal fail is ALIGNED, or 50 ms have passed since the
first was; the first number played out is the first whose time has not passed, and those before it are dropped. -/
def State.schedSet (s : State) (n : Nat) : State :=
  let r := s.red n
  if s.redOn n && usesMem (s.redRole n) && !r.sched then
    match s.earliest n with
    | none => s
    | some m =>
      let late := match r.firstAligned with
        | some t => t + 50000 ≤ s.owl
        | none => false
      if late || (s.upMembers n).all (fun k => (r.member k).st == 2) then
        let q := s.firstPlay n m
        let md := s.redMod n
        s.modRed n fun r => { r with
          sched := true, next := q.1, playAt := q.2, period := s.redPeriod n, frame := [], frameBad := true
          a := r.a.from_ md q.1, b := r.b.from_ md q.1, c := r.c.from_ md q.1 }
      else s
  else s

/-- The schedule is discarded, and what was kept for it (R279). -/
def State.schedDrop (s : State) (n : Nat) : State :=
  s.modRed n fun r => { r with
    sched := false, noneSince := none, outMaint := true, playAt := 0, period := 0
    a := { r.a with held := [] }, b := { r.b with held := [] }, c := { r.c with held := [] } }

/-- SCHEDULE_DISCARD: no member has been ALIGNED for 1 s. -/
def State.schedDiscard (s : State) (n : Nat) : State :=
  if s.redOn n && (s.red n).sched && s.due (s.red n).noneSince then s.schedDrop n else s

/-- The play-out time of the next frame or block falls in this OWL cycle, or has passed (R278, R292). -/
def State.playDue (s : State) (n : Nat) : Bool := (s.red n).sched && (s.red n).playAt < s.nowFs + 1000000000

/-- REALIGN (R269, R279). -/
def State.redRealign (s : State) (n : Nat) : State :=
  if s.redOn n && usesMem (s.redRole n) then s.schedDrop n else s

/-- The copy of number q that a member holds. -/
def Member.copy (x : Member) (q : Nat) : Option Held := x.held.find? fun h => h.seq == q

/-- The rank of a member's copy of frame q (R280). -/
def Member.rankOf (x : Member) (q : Nat) : Nat :=
  match x.copy q with
  | some h => if !h.usable then 0 else if h.clean then 2 else 1
  | none => 0

/-- Forget number q. -/
def Member.forget (x : Member) (q : Nat) : Member := { x with held := x.held.filter fun h => h.seq != q }

/-- The frame or block of number q has been emitted; the schedule goes on by its period (R279). -/
def Red.played (r : Red) (md q : Nat) : Red :=
  { r with a := r.a.forget q, b := r.b.forget q, c := r.c.forget q, next := (q + 1) % md, playAt := r.playAt + r.period }

/-- The bytes of one frame of a SIGNAL (R289, R290); of an E1 or DS1, those of a block. -/
def frameBytes (g : Nat) : Nat :=
  (([2349, 9396, 37584, 150336, 15296, 15296, 15296, 15296, 15296, 15296, 765, 140, 104] : List Nat)[g]?).getD 64

/-- The maintenance frame of a SIGNAL. -/
def maintFrame (g : Nat) : List Byte := List.replicate (frameBytes g) 0xFF

/-- HITLESS_PLAYOUT, at the play-out time of the next frame (R278, R280, R281). A copy that the memory does not read
without an uncorrectable error is unusable: the DELAY_MEMORY_SCRUB row that names it goes before (R303). -/
def State.hlPlay (s : State) (n : Nat) : State :=
  let r := s.red n
  if s.redOn n && s.redRole n = 0 && s.playDue n then
    let q := r.next
    let ra := if s.memActive then r.a.rankOf q else 0
    let rb := if s.memActive then r.b.rankOf q else 0
    let sel := if ra = rb && r.current.isSome then r.current.getD 0 else if ra ≥ rb then 0 else 1
    let rk := if sel = 0 then ra else rb
    let s := s.modRed n fun r => r.played (s.redMod n) q
    if rk = 0 then
      (s.countTbl 5 n 6 31 0 1).modRed n fun r => { r with outMaint := true, out := maintFrame (s.redSig n).1 }
    else
      let data := match (r.member sel).copy q with
        | some h => h.data
        | none => []
      let s := s.modRed n fun x => { x with outMaint := false, out := data, current := some sel }
      let s := if r.current != some sel then s.countTbl 5 n 4 31 0 1 else s
      if rk = 1 then s.countTbl 5 n 5 31 0 1 else s
  else s

/-- DUP_LOSS_TIMER_EXPIRY: dDUP_LOSS of the channel follows its members' times (R283), which stand while the bit is held
(DEDUCED, notes/assumptions/143.md). -/
def State.dupExpiry (s : State) (c n m : Nat) : State :=
  if s.redOn n && s.redRole n = 0 && s.memberCh n m = some c && !s.defHeld c dDUP then
    let x := (s.red n).member m
    let s := if s.due x.lossAt then
        (s.modCh c fun h => { h with dupMarks := if h.dupMarks.contains (n, m) then h.dupMarks else h.dupMarks ++ [(n, m)] }).modRed
          n fun r => r.setMember m { r.member m with lossAt := none }
      else if s.due x.clearAt then
        (s.modCh c fun h => { h with dupMarks := h.dupMarks.filter (· != (n, m)) }).modRed
          n fun r => r.setMember m { r.member m with clearAt := none }
      else s
    s.setDef c dDUP (!(s.ch c).dupMarks.isEmpty)
  else s

/-! ### Check profiles (R298) -/

/-- The profile of a voting stream. -/
def State.redAlg (s : State) (n : Nat) : CrcAlg := s.profile (fld (s.redWord n) 11 8)

/-- CHECK over 64 data bytes and BSEQ (R288). -/
def State.voteCheck (s : State) (n : Nat) (data : List Byte) (q : Nat) : Nat :=
  (s.redAlg n).run (data ++ [BitVec.ofNat 8 (q / 256), BitVec.ofNat 8 q])

/-- 64 bytes of one value. -/
def block64 (b : Byte) : List Byte := List.replicate 64 b

/-- What a received slot holds: a valid data block, a valid idle block, or neither. -/
def State.slotKind (s : State) (n : Nat) (b : VoteBlock) : Nat :=
  let v := s.voteCheck n b.data b.bseq
  if b.check.toNat = v then 1
  else if b.data = block64 0 && b.check.toNat = v ^^^ (2 ^ (s.redAlg n).width - 1) then 2
  else 0

/-! ### The voter (R291 to R295) -/

/-- One slot while the member hunts: three data blocks in sequence lock it, and the third is judged by its time. -/
def State.voteHunt (s : State) (n m : Nat) (b : VoteBlock) : State :=
  let x := (s.red n).member m
  if s.slotKind n b = 1 then
    let run := if x.last.map (fun l => (l + 1) % s.redMod n) = some b.bseq then x.run + 1 else 1
    let s := (s.arrival n m false).modRed n fun r =>
      r.setMember m { r.member m with last := some b.bseq, run := run, bad := 0 }
    if run < 3 then s
    else if s.outsideWin n b.bseq 0 then (s.memberTo n m 2).windowMiss n m false
    else
      (s.memberTo n m 2).keep n m { seq := b.bseq, clean := true, valid := true, data := b.data, at_ := s.owl }
  else if s.slotKind n b = 2 then s
  else s.modRed n fun r => r.setMember m { r.member m with run := 0, last := none }

/-- One slot of an aligned member. -/
def State.voteSlot (s : State) (n m : Nat) (b : VoteBlock) : State :=
  let md := s.redMod n
  let x := (s.red n).member m
  let k := s.slotKind n b
  let want := (x.last.getD 0 + 1) % md
  let bad := if k = 0 then x.bad + 1 else 0
  let s := s.modRed n fun r => r.setMember m { r.member m with bad := bad }
  if bad ≥ 16 then
    (s.modRed n fun r => r.setMember m { r.member m with run := 0, last := none, bad := 0 }).memberTo n m 1
  else if k = 2 then s
  else if k = 1 || b.bseq = want then
    let have_ := (x.copy b.bseq).any (·.valid)
    let s := (s.arrival n m (b.bseq == want)).modRed n fun r => r.setMember m { r.member m with last := some b.bseq }
    if s.outsideWin n b.bseq 0 then s.windowMiss n m false
    else if k = 0 && have_ then s.windowHit n m
    else (s.windowHit n m).keep n m { seq := b.bseq, clean := k = 1, valid := k = 1, data := b.data, at_ := s.owl }
  else s

/-- VOTE_MEMBER_BLOCK. -/
def State.voteMember (s : State) (n m : Nat) (b : VoteBlock) : State :=
  if s.redOn n && s.redRole n = 2 && m < 3 then
    if !s.memberUp n m then s.memberTo n m 0
    else if !s.memActive then s
    else
      let b := { b with bseq := b.bseq % 65536 }
      let s := if ((s.red n).member m).st = 0 then s.memberTo n m 1 else s
      if ((s.red n).member m).st = 1 then s.voteHunt n m b else s.voteSlot n m b
  else s

/-- A member of the decision: its number and its block. -/
abbrev Ballot := List (Nat × Held)

/-- Members whose data equals `d`. -/
def Ballot.with_ (l : Ballot) (d : List Byte) : Ballot := l.filter fun e => e.2.data == d

/-- The data on which at least two agree. -/
def Ballot.agreed (l : Ballot) : Option (List Byte) :=
  (l.find? fun e => (Ballot.with_ l e.2.data).length ≥ 2).map fun e => e.2.data

/-- The outcome of one block (R293): the data emitted, whether DISAGREE counts, and the members marked. -/
structure Verdict where
  data : Option (List Byte)
  disagree : Bool
  marked : List Nat
  deriving DecidableEq, Repr

/-- The table of R293. -/
def verdict (strict : Bool) (pres : Ballot) : Verdict :=
  let ok : Ballot := pres.filter fun e => e.2.valid
  let all := pres.map Prod.fst
  let maint : Verdict := { data := none, disagree := false, marked := [] }
  if pres.length = 3 then
    if ok.length ≥ 2 then
      match Ballot.agreed ok with
      | some d =>
        let off := (ok.filter fun e => e.2.data != d).map Prod.fst
        { data := some d, disagree := !off.isEmpty, marked := off }
      | none => { data := none, disagree := true, marked := all }
    else
      match ok with
      | [e] => { data := if strict then none else some e.2.data, disagree := true, marked := all.filter (· != e.1) }
      | _ => maint
  else if pres.length = 2 && ok.length = 2 then
    match Ballot.agreed ok with
    | some d => { data := some d, disagree := false, marked := [] }
    | none => { data := none, disagree := true, marked := all }
  else maint

/-- Invalid members whose data agrees with a valid one. -/
def checkOnly (pres : Ballot) : Nat :=
  (pres.filter fun e => !e.2.valid && pres.any fun f => f.2.valid && f.2.data == e.2.data).length

/-- dVOTE_DIS of the channel a marked member lies on (R295). -/
def State.markDis (n : Nat) (s : State) (m : Nat) : State :=
  match s.memberCh n m with
  | some c =>
    (s.modCh c fun h => { h with voteMark := s.after (10000 * max 1 (s.crf c 13 25 22)) }).setDef c dVDIS true
  | none => s

/-- One block of the result (R294): a framed signal leaves frame by frame without its padding, and as AIS where any
block of the frame was maintenance or had no place in the schedule. -/
def Red.voted (r : Red) (g q : Nat) (data : Option (List Byte)) : Red :=
  let b := max 1 (blocksOf g)
  let first := q % b == 0
  let bad := data.isNone || (!first && r.frameBad)
  let all := (if first then [] else r.frame) ++ data.getD (block64 0xFF)
  if q % b = b - 1 then
    { r with
      frame := [], frameBad := false, outMaint := bad
      out := if bad then maintFrame g else all.take (frameBytes g) }
  else { r with frame := all, frameBad := bad }

/-- VOTE_EMIT at the moment of the next block (R292 to R294): a member is present with the block it held ALIGNED and in
time. -/
def State.voteEmit (s : State) (n : Nat) : State :=
  let r := s.red n
  if s.redOn n && s.redRole n = 2 && s.playDue n then
    let q := r.next
    let pres : Ballot := (s.members n).filterMap fun m =>
      let x := r.member m
      if s.memActive then
        match x.copy q with
        | some h => if h.usable then some (m, h) else none
        | none => none
      else none
    let v := verdict (bit (s.redWord n) 7) pres
    let s := s.modRed n fun r => (r.played (s.redMod n) q).voted (fld (s.redWord n) 27 24) q v.data
    let s := if v.data.isNone then s.countTbl 5 n 6 31 0 1 else s
    let s := if v.disagree then s.countTbl 5 n 4 31 0 1 else s
    v.marked.foldl (State.markDis n) (s.countTbl 5 n 5 31 0 (checkOnly pres))
  else s

/-- VOTE_DIS_CLEAR_TIMER; the time stands while the bit is held (DEDUCED, notes/assumptions/143.md). -/
def State.voteClear (s : State) (c : Nat) : State :=
  if s.due (s.ch c).voteMark && !s.defHeld c dVDIS then (s.modCh c fun h => { h with voteMark := none }).setDef c dVDIS false else s

/-- The result of a TX stream carries maintenance. -/
def State.txMaint (s : State) (n : Nat) : Bool := !s.memberUp n 0 || s.txHeld n

/-- Slots and payload bytes of one frame of the carrier of a voted SIGNAL (R290). -/
def carrierSlots (g : Nat) : Nat × Nat :=
  if g = 0 then (133, 9360) else if g = 10 then (33, 2340) else if g ≥ 11 then (10, 756) else (217, 15232)

/-- The BSEQ of the first block of the frame that begins at or after q (R289). -/
def frameStartAt (g q : Nat) : Nat := let b := max 1 (blocksOf g); cdiv q b * b % bseqMod g

/-- A slot goes into the carrier: its frames hold whole slots and pad bytes of 0x00 (R290). -/
def Red.intoCarrier (r : Red) (g : Nat) (slot : List Byte) : Red :=
  let k := carrierSlots g
  let l := r.slots ++ slot
  if l.length ≥ 70 * k.1 then { r with slots := [], carrier := l ++ List.replicate (k.2 - 70 * k.1) 0 }
  else { r with slots := l }

/-- VOTE_TX_SLOT: the next data block when one is ready, an idle block otherwise (R288 to R290). The first block of a
frame takes the next number that is 0 modulo Bf, and none is ready before it (R289). The complement of CHECK in an idle
block covers the WIDTH bits of the profile (DESIGN CHOICE, notes/assumptions/191.md). -/
def State.voteTx (s : State) (n : Nat) (data : Option VoteData) : State :=
  if s.redOn n && s.redRole n = 3 then
    let g := fld (s.redWord n) 27 24
    let at_ := (s.red n).outSeq
    let data := data.filter fun x => x.first || frameStartAt g at_ != at_
    let q := if data.any (·.first) then frameStartAt g at_ else at_
    let full := 2 ^ (s.redAlg n).width - 1
    let d := match data with
      | some l => (l.data ++ block64 0).take 64
      | none => block64 0
    let v := if data.isSome then s.voteCheck n d q else s.voteCheck n d q ^^^ full
    let out := d ++ [BitVec.ofNat 8 (q / 256), BitVec.ofNat 8 q] ++ wordBytes (BitVec.ofNat 32 v)
    s.modRed n fun r => { r.intoCarrier g out with
      out := out, outMaint := s.txMaint n, outSeq := if data.isSome then (q + 1) % s.redMod n else q
      startAt := if data.isSome then some (q, s.nowNs) else r.startAt }
  else s

/-! ### IEEE 802.1CB (R284 to R287) -/

/-- The enabled entry of a function for a stream and a VID. -/
def State.frerEntry (s : State) (n vid : Nat) (gen : Bool) : Option Nat :=
  s.frersOn.find? fun e =>
    let w := s.tbl 6 e 0
    fld w 26 16 == n && fld w 11 0 == vid && bit w 30 == gen

/-- RESET_MS in µs. -/
def State.frerReset (s : State) (e : Nat) : Option Nat := s.after (1000 * max 1 (fld (s.tbl 6 e 1) 31 16))

/-- A frame leaves a FRER stream, mapped into GFP-F (R285); it keeps the payload FCS it came with
(DESIGN CHOICE, notes/assumptions/192.md). -/
def State.frerOut (s : State) (n : Nat) (f : FrerFrame) : State :=
  s.modRed n fun r =>
    let z := gfpFrame r.scrOut 0 1 f.pfi (f.bytes ++ fcsBytes f.fcs)
    { r with frerOut := r.frerOut ++ [f], scrOut := z.2, gfp := z.1 }

/-- A frame of a member container as its GFP-F delineation gives it (R150, R285): none outside SYNC, none that is no
client data frame, fails its payload FCS or is too long. -/
def State.frerDemap (s : State) (n m : Nat) (f : FrerFrame) : State × Option FrerFrame :=
  match f.gfp with
  | none => (s, some f)
  | some g =>
    let x := (s.red n).member m
    let st := gfpNext x.gfp g.core
    let z := descr43 x.scr g.area
    let s := s.modRed n fun r => r.setMember m { r.member m with gfp := st, scr := z.2 }
    let h := gfpHead z.1
    let e := h.frame
    (s, if x.gfp == .sync && st == .sync && h.client && e.2 && e.1.len ≤ 9600 then
        some { bytes := e.1.payload, fcs := e.1.fcs, pfi := h.pfi }
      else none)

/-- A frame with six bytes of R-TAG put in, its FCS recomputed (R287). -/
def frerInsert (f : FrerFrame) (q : Nat) : FrerFrame :=
  let o := rtagAt f.bytes
  let l := f.bytes.take o ++ [0xF1, 0xC1, 0, 0, BitVec.ofNat 8 (q / 256), BitVec.ofNat 8 q] ++ f.bytes.drop o
  { f with bytes := l, fcs := fcsOf l, gfp := none }

/-- A frame without its R-TAG, its FCS recomputed (R287). -/
def frerStrip (f : FrerFrame) : FrerFrame :=
  if f.rtag.isSome then
    let o := rtagAt f.bytes
    let l := f.bytes.take o ++ f.bytes.drop (o + 6)
    { f with bytes := l, fcs := fcsOf l, gfp := none }
  else f

/-- A recovered frame passes: counted, its R-TAG removed under STRIP, the reset time restarted. -/
def State.frerPass (s : State) (n e : Nat) (f : FrerFrame) : State :=
  let f := if bit (s.tbl 6 e 0) 29 then frerStrip f else f
  ((s.countTbl 6 e 2 31 0 1).modFrer e fun x => { x with resetAt := s.frerReset e }).frerOut n f

/-- Shift a history of a length by d places, the newest first. -/
def shiftHist (l : List Bool) (len d : Nat) : List Bool :=
  ((true :: List.replicate (min (d - 1) len) false) ++ l).take len

/-- The vector recovery algorithm (R284, R287) (PRESUMED, notes/assumptions/32.md). -/
def State.frerRecover (s : State) (n e : Nat) (f : FrerFrame) (q : Nat) : State :=
  let x := s.frer e
  let len := fld (s.tbl 6 e 1) 5 0 + 1
  if x.takeAny then
    (s.modFrer e fun x => { x with takeAny := false, recovSeq := q, history := [true] }).frerPass n e f
  else
    let d := (q + 65536 - x.recovSeq) % 65536
    if d = 0 || d ≥ 65536 - (len - 1) then
      let back := (65536 - d) % 65536
      if (x.history[back]?).getD false then s.countTbl 6 e 3 31 0 1
      else
        let h := (x.history ++ List.replicate len false).take len
        ((s.modFrer e fun x => { x with history := h.set back true }).countTbl 6 e 4 31 0 1).frerPass n e f
    else if d < len then
      let s := if d != 1 then s.countTbl 6 e 4 31 0 1 else s
      (s.modFrer e fun x => { x with recovSeq := q, history := shiftHist x.history len d }).frerPass n e f
    else s.countTbl 6 e 5 31 0 1

/-- FRER_RX_FRAME. A copy whose FCS fails is no good copy: it is discarded (DEDUCED, notes/assumptions/166.md); a member
in signal fail delivers none. -/
def State.frerRx (s : State) (n m : Nat) (f : FrerFrame) : State :=
  if s.redOn n && s.redRole n = 4 && m < 2 && s.memberUp n m then
    match s.frerDemap n m f with
    | (s, none) => s
    | (s, some f) =>
      if f.fcs != fcsOf f.bytes then s
      else match s.frerEntry n f.vid false with
        | none => if m = 0 then s.frerOut n f else s
        | some e =>
          match f.rtag with
          | none => if bit (s.tbl 6 e 0) 28 then s.frerPass n e f else s.countTbl 6 e 3 31 0 1
          | some q => s.frerRecover n e f (q % 65536)
  else s

/-- The R-TAG of a number goes into a frame (R287); a frame that grows too long is dropped. -/
def State.frerTag (s : State) (n e : Nat) (f : FrerFrame) (q : Nat) : State :=
  if f.len + 6 > 9600 then s.countTbl 6 e 3 31 0 1
  else
    ((s.countTbl 6 e 2 31 0 1).setTbl 6 e 5 (setFld (s.tbl 6 e 5) 15 0 ((q + 1) % 65536))).frerOut n
      (frerInsert f q)

/-- A frame that a FRER_TX stream takes (R287, R331, R333). A frame dropped for its length takes no number
(DESIGN CHOICE, notes/assumptions/193.md). -/
def State.frerSend (s : State) (n : Nat) (f : FrerFrame) : State :=
  let follows := s.paired && s.twinRole != 0 && s.twinRole != 4
  if follows && (!s.twin.up || s.twinRole == 1 || s.twinRole == 2) then s
  else
    match s.frerEntry n f.vid true with
    | none => s.frerOut n f
    | some e =>
      if follows then s.modFrer e fun x => { x with waiting := x.waiting ++ [(f, s.owl + 60)] }
      else
        let q := (s.frer e).nextSeq
        let s := if f.len + 6 > 9600 then s else s.modFrer e fun x => { x with nextSeq := (q + 1) % 65536 }
        let s := s.frerTag n e f q
        if s.holder && s.twin.up && !s.faults.safe then
          s.linkSend 0x13 [BitVec.ofNat 32 n, BitVec.ofNat 32 f.vid, BitVec.ofNat 32 q, f.fcs]
        else s

/-- FRER_TX_FRAME (R285, R287, R331, R333). -/
def State.frerTx (s : State) (n : Nat) (f : FrerFrame) : State :=
  if s.redOn n && s.redRole n = 5 then
    match s.frerDemap n 0 f with
    | (s, none) => s
    | (s, some f) => s.frerSend n f
  else s

/-- FRER_RESET_TIMER: RESET_MS with no frame passed. -/
def State.frerResetExpiry (s : State) (e : Nat) : State :=
  if s.due (s.frer e).resetAt then s.modFrer e fun x => { x with takeAny := true, history := [], resetAt := none } else s

/-- Take one waiting frame with an FCS out of a list. -/
def takeFcs (fcs : Word) : List (FrerFrame × Nat) → Option ((FrerFrame × Nat) × List (FrerFrame × Nat))
  | [] => none
  | x :: r => if x.1.fcs = fcs then some (x, r) else (takeFcs fcs r).map fun y => (y.1, x :: y.2)

/-- The holder's number for a frame arrives (R331). -/
def State.frerSeq (s : State) (n vid q : Nat) (fcs : Word) : State :=
  match s.frerEntry n vid true with
  | none => s
  | some e =>
    match takeFcs fcs (s.frer e).waiting with
    | none => s.modFrer e fun x => { x with nextSeq := (q + 1) % 65536 }
    | some ((f, _), rest) =>
      (s.modFrer e fun x => { x with waiting := rest, nextSeq := (q + 1) % 65536 }).frerTag n e f (q % 65536)

/-- 60 µs have passed without a number: the frame is dropped and counted (R331). -/
def State.frerTimeout (s : State) (n vid : Nat) (fcs : Word) : State :=
  match s.frerEntry n vid true with
  | none => s
  | some e =>
    match takeFcs fcs (s.frer e).waiting with
    | none => s
    | some ((_, t), rest) =>
      if t ≤ s.owl then (s.modFrer e fun x => { x with waiting := rest }).countTbl 6 e 3 31 0 1 else s

/-! ### The delay memory (R274, R303) -/

/-- Enabled streams that use the memory. -/
def State.memStreams (s : State) : Nat := (s.redsOn.filter fun n => usesMem (s.redRole n)).length

/-- The memory starts to leave, or to return to, self-refresh as the number of its streams changes. -/
def State.memFollow (s : State) : State :=
  let st := s.rf 0x7080 31 30
  if s.memStreams = 0 then
    if st = 0 then s else { s with memSleep := if s.memSleep.isSome then s.memSleep else s.after 10000 }
  else
    let s := { s with memSleep := none }
    if st = 0 then { s.setRf 0x7080 31 30 1 with memWake := s.after 200 } else s

/-- DELAY_MEMORY_READY: the memory leaves self-refresh, or fails to (source 17). -/
def State.memReady (s : State) (ok : Bool) : State :=
  if s.rf 0x7080 31 30 = 1 then
    if ok then
      let s := if s.memWake.isNone then s.levelOff 17 else s
      { s.setRf 0x7080 31 30 2 with memWake := none }
    else if s.memWake.isSome then { s.levelOn { src := 17 } with memWake := none }
    else s
  else s

/-- DELAY_MEMORY_SELF_REFRESH: 10 ms after the last stream was disabled. -/
def State.memRest (s : State) : State :=
  if s.due s.memSleep && s.memStreams = 0 then { s.setRf 0x7080 31 30 0 with memSleep := none, memWake := none } else s

/-- The frame or block that an uncorrectable error falls in becomes unusable for its member. -/
def State.memSpoil (s : State) (e : MemErr) : State :=
  s.modRed e.stream fun r =>
    let x := r.member e.member
    r.setMember e.member { x with held := x.held.map fun h => if h.seq = e.seq then { h with usable := false } else h }

/-- DELAY_MEMORY_SCRUB: the errors that reads of the memory, the scrub's or a play-out's, corrected, and those they
could not (R303) (DEDUCED, notes/assumptions/33.md). -/
def State.memScrub (s : State) (corrected : Nat) (bad : List MemErr) : State :=
  if s.rf 0x7080 31 30 = 2 then
    let s := s.count 0x70A0 31 0 corrected
    let s := bad.foldl State.memSpoil (s.count 0x70A4 31 0 bad.length)
    if bad.isEmpty || s.owl < s.memNoteTill then s
    else { s.fault 16 with memNoteTill := s.owl + 1000 }
  else s

/-! ### Enabling and disabling streams (R270) -/

/-- A stream whose EN goes to 1 starts from nothing; a TX counter goes on, that of a VOTE_TX stream at the start of a
frame (R289). -/
def State.redEnable (s : State) (n : Nat) : State :=
  let g := fld (s.redWord n) 27 24
  (s.modRed n fun r => { ({} : Red) with
    outSeq := if s.redRole n = 3 then frameStartAt g (r.outSeq % bseqMod g) else r.outSeq }).memFollow

/-- dDUP_LOSS and dVOTE_DIS of a channel show the marks of its members, where they are not held (R283, R295). -/
def State.redDefs (s : State) (c : Nat) : State :=
  (s.setDef c dDUP (!(s.ch c).dupMarks.isEmpty)).setDef c dVDIS (s.ch c).voteMark.isSome

/-- A stream whose EN goes to 0: memory released, its members' dDUP_LOSS ends, the result is in signal fail,
no member has a state and no granule is taken (R269, R270). -/
def State.redDisable (s : State) (n : Nat) : State :=
  let s := s.each allCh fun t c =>
    let l := (t.ch c).dupMarks
    if l.any (fun e => e.1 == n) then
      t.modCh c fun h => { h with dupMarks := l.filter fun e => e.1 != n }
    else t
  let s := ((s.modRed n fun r => { ({} : Red) with outSeq := r.outSeq }).memFollow).each (s.chans.map Prod.fst) State.redDefs
  (s.setTbl 5 n 2 0x03000000).setTbl 5 n 3 0

/-- An enabled FRER entry starts its recovery afresh; generation goes on. -/
def State.frerEnable (s : State) (e : Nat) : State :=
  s.modFrer e fun x => { ({} : Frer) with nextSeq := x.nextSeq }

/-! ### Status words (R269) -/

/-- DIFF_US: the delay of the latest aligned member behind the earliest, between the arrivals of one number. -/
def State.diffUs (s : State) (n : Nat) : Nat :=
  match s.earliest n with
  | none => 0
  | some m =>
    let x := (s.red n).member m
    (s.members n).foldl (fun d k =>
      let y := (s.red n).member k
      let lag := ahead (s.redMod n) (y.last.getD 0) (x.last.getD 0)
      if y.st = 2 then max d (min 0xFFFF (y.lastAt + lag * s.redPeriod n / 1000000000 - x.lastAt)) else d) 0

/-- The status copies of a stream at an OWL edge; a member whose source has failed is NONE. SEL shows 3 while
maintenance frames are emitted (DESIGN CHOICE, notes/assumptions/194.md). -/
def State.redRefresh (s : State) (n : Nat) : State :=
  let s := (s.members n).foldl (fun t m => if t.redOn n && !t.memberUp n m then t.memberTo n m 0 else t) s
  let r := s.red n
  let on := s.redOn n
  let sel := if on && s.redRole n = 0 && !r.outMaint then r.current.getD 3 else 3
  let w2 := if on then r.a.st * 2 ^ 30 + r.b.st * 2 ^ 28 + r.c.st * 2 ^ 26 + sel * 2 ^ 24 + s.diffUs n else 0x03000000
  (s.setTbl 5 n 2 (BitVec.ofNat 32 w2)).setTbl 5 n 3
    (BitVec.ofNat 32 (if on then redGranules (s.tbl 5 n 0) (s.tbl 5 n 1) else 0))

/-! ### The commands -/

/-- The result of a stream that has played out a frame, or a block of an E1 or DS1: the snoop contexts on it, and the
remappers that a voted E1 or DS1 feeds (R166, R181, R289). -/
def State.snoopResult (s t : State) (n : Nat) : State :=
  if s.redOn n && (t.red n).next != (s.red n).next && (t.red n).frame.isEmpty then
    let t := t.snoopOn true n (t.red n).out
    let g := (s.redSig n).1
    if g = 13 ∨ g = 14 then t.remapFeed (redEp n 3) (g == 14) ((t.red n).out.flatMap bitsMsb) else t
  else t

/-- A command about a stream the block has. -/
def onRed (n : Nat) (s t : State) : State := if n < 2048 && s.alive then t else s

/-- R274. -/
def execDelayMemoryReady (ok : Bool) (s : State) : Out := .next (whileOn s (s.memReady ok))
/-- R274. -/
def execDelayMemorySelfRefresh (s : State) : Out := .next (whileOn s s.memRest)
/-- R276, R282. -/
def execHitlessMemberFrame (st m : Nat) (f : MemberFrame) (s : State) : Out := .next (onRed st s (s.hlMember st m f))
/-- R278, R292. -/
def execScheduleSet (st : Nat) (s : State) : Out := .next (onRed st s (s.schedSet st))
/-- R279. -/
def execScheduleDiscard (st : Nat) (s : State) : Out := .next (onRed st s (s.schedDiscard st))
/-- R280, R281, R299. -/
def execHitlessPlayout (st : Nat) (s : State) : Out := .next (onRed st s (State.snoopResult s (s.hlPlay st) st))
/-- R283. -/
def execDupLossTimerExpiry (c st m : Nat) (s : State) : Out := .next (onCh c s (s.dupExpiry c st m))
/-- R291. -/
def execVoteMemberBlock (st m : Nat) (b : VoteBlock) (s : State) : Out := .next (onRed st s (s.voteMember st m b))
/-- R292 to R295, R299. -/
def execVoteEmit (st : Nat) (s : State) : Out := .next (onRed st s (State.snoopResult s (s.voteEmit st) st))
/-- R295. -/
def execVoteDisClearTimer (c : Nat) (s : State) : Out := .next (onCh c s (s.voteClear c))
/-- R288 to R290. -/
def execVoteTxSlot (st : Nat) (data : Option VoteData) (s : State) : Out := .next (onRed st s (s.voteTx st data))
/-- R284 to R287. -/
def execFrerRxFrame (st m : Nat) (f : FrerFrame) (s : State) : Out := .next (onRed st s (s.frerRx st m f))
/-- R285, R287, R331. -/
def execFrerTxFrame (st : Nat) (f : FrerFrame) (s : State) : Out := .next (onRed st s (s.frerTx st f))
/-- R287. -/
def execFrerResetTimer (e : Nat) (s : State) : Out := .next (onRed e s (s.frerResetExpiry e))
/-- R303. -/
def execDelayMemoryScrub (corrected : Nat) (uncorrectable : List MemErr) (s : State) : Out :=
  .next (whileOn s (s.memScrub corrected uncorrectable))

end Sys2Proof.Machine
end

