-- ==== Sys2Proof/Machine/Refs.lean ====
section
/-!
DEFINITION. Reference selection and clock clean-up (12_reference_clocks.md): the candidates, their qualification, the
selector, the DCO steer, the reference history and the events.
-/
namespace Sys2Proof.Machine

/-! ### Candidates (R385 to R391) -/

/-- Candidate n. -/
def State.cand (s : State) (n : Nat) : Cand := Store.get {} s.refs.cands n

/-- Change candidate n. -/
def State.modCand (s : State) (n : Nat) (f : Cand → Cand) : State :=
  s.modRefs fun r => { r with cands := Store.mod {} r.cands n f }

/-- NOMINAL_PPT. -/
def State.nominal (s : State) : Int := sword (s.reg 0x202C)

/-- The half of LR_CFGm that holds the slot of candidate n (4 to 11): its low bit. -/
def slotLow (n : Nat) : Nat := 16 * (n % 2)

/-- LR_CFGm of candidate n. -/
def slotReg (n : Nat) : Nat := 0x2010 + 4 * ((n - 4) / 2)

/-- CHANNEL of the slot of candidate n. -/
def State.slotCh (s : State) (n : Nat) : Nat := s.rf (slotReg n) (slotLow n + 7) (slotLow n)

/-- R389: the candidate is enabled. -/
def State.candEnabled (s : State) (n : Nat) : Bool :=
  if n < 4 then s.rf 0x200C (4 * n + 1) (4 * n) != 0
  else if n < 12 then s.rb (slotReg n) (slotLow n + 15)
  else n == 12 && s.paired && s.rb 0x4000 29

/-- R388: what TWREF needs besides its enable. -/
def State.twrefSeen (s : State) : Bool :=
  s.twin.up && (match s.twin.refInfoAt with | some t => decide (s.owl ≤ t + 3000) | none => false)
    && s.twin.refInfoSel != 12 && s.twin.refInfoSel != 15

/-- R389: the edges of the candidate are seen, as far as the device's own state shows it. -/
def State.candSeen (s : State) (n : Nat) : Bool :=
  if n < 4 then true
  else if n < 12 then
    let c := s.slotCh n
    s.chState (s.owner c) != stAsleep && s.chState (s.owner c) != stWaking && !s.def_ c dLOS
  else s.twrefSeen

/-- R391: the do-not-use rule holds the slot back: the accepted S1 that the overhead memory shows (R124). -/
def State.dnu (s : State) (n : Nat) : Bool :=
  4 ≤ n && n < 12 && s.rb (slotReg n) (slotLow n + 14)
    && isSdh (s.client (s.slotCh n)) && fld (s.tbl 0x11 (64 * s.slotCh n + 3) 4) 27 24 == 15

/-- QUAL_WIN as it acts, in ppb. -/
def State.qualWin (s : State) : Nat := 10 * max 10 (min 15000 (s.rf 0x2008 15 0))

/-- Measurements that qualify: ten in each second of QUAL_TIME. -/
def State.qualRuns (s : State) : Nat := 10 * max 1 (s.rf 0x2008 31 24)

/-- Measurements that disqualify. -/
def State.disqRuns (s : State) : Nat := max 1 (s.rf 0x2008 23 16)

/-! ### Events (R412): kinds 2 and 3 of a candidate; kinds 1 and 4 to 7 of the selector, timer 15 -/

/-- An occurrence of a kind, with its value. -/
def State.refOccur (s : State) (n kind v : Nat) : State :=
  s.change (holdRef n) kind ((((s.hold (holdRef n)).item kind).value / 16 + 1) * 16 + v) 10000

/-- The selection changes: kind 1, an item with a value of its own. -/
def State.selEvent (s : State) : State := s.change (holdRef 15) 1 (15 - s.refs.selected) 10000

/-- REF_EVENT_HOLDOFF_EXPIRY. -/
def State.refExpiry (s : State) (n : Nat) : State :=
  s.expireHold (holdRef n) fun k i =>
    mkEvent i.suppressed 0x05 0xFE (if n = 15 then 0xFF else n)
      (k * 16 + if k = 1 then 15 - i.value else i.value % 16) i.time

/-! ### Selection (R393 to R398) -/

/-- REF_EN. -/
def State.refEn (s : State) : Bool := s.rb 0x2000 31

/-- MANUAL as it acts: 12 and 14 act as 15. -/
def State.manual (s : State) : Nat := let m := s.rf 0x2000 29 26; if m = 12 ∨ m = 14 then 15 else m

/-- WTR in µs. -/
def State.wtrUs (s : State) : Nat := 1000000 * min 900 (s.rf 0x2000 25 16)

/-- Candidate n is qualified. -/
def State.qualified (s : State) (n : Nat) : Bool := n < 13 && (s.cand n).qualified

/-- restore_ok(m). -/
def State.restoreOk (s : State) (m : Nat) : Bool := s.qualified m && (s.cand m).since + s.wtrUs ≤ s.owl

/-- Entry k of REF_PRIO, 1 to 8. -/
def State.prioEntry (s : State) (k : Nat) : Nat := s.rf 0x2004 (35 - 4 * k) (32 - 4 * k)

/-- The list up to the entry that ends it. -/
def State.prio (s : State) : List Nat := (((List.range 8).map fun k => s.prioEntry (k + 1)).takeWhile (· < 12))

/-- The target of R393. -/
def State.refTarget (s : State) : Nat :=
  let r := s.refs
  let m := s.manual
  if !s.refEn then 15
  else if r.frozen then (if r.selected < 13 && !s.qualified r.selected then 15 else r.selected)
  else if (s.twinRole == 2 || s.twinRole == 3) && s.qualified 12 then 12
  else if m == 13 then (if r.softOut then 15 else 13)
  else if m ≤ 11 && s.restoreOk m then m
  else if s.qualified r.selected && r.selected != 12 then r.selected
  else ((s.prio.find? fun n => s.qualified n && (n != m || s.restoreOk m))).getD 15

/-- The longest steer either way under the clamp of R399. -/
def State.clampSteer (s : State) (x : Int) : Int :=
  max (-150000000 - s.nominal) (min (150000000 - s.nominal) x)

/-- The steer takes a value; CLAMPED tells whether the clamp limits it (R399). -/
def State.setSteer (s : State) (x : Int) : State :=
  let cl := s.clampSteer x != x
  let s := if s.refs.clamped != cl then s.refOccur 15 5 (b2n cl) else s
  s.modRefs fun r => { r with steer := s.clampSteer x, clamped := cl }

/-- An evaluation (R393): a monitored target starts a switch (R396); SOFT and free run take effect without one (R397,
R398). Free run is the one change that a frozen selector makes (R403). -/
def State.refEvaluate (s : State) : State :=
  let t := s.refTarget
  let r := s.refs
  let m := s.manual
  if r.state = 1 && s.refEn then s.modRefs fun r => { r with pend := m ≤ 11 && m != r.selected && s.restoreOk m && !r.frozen }
  else if t = r.selected then s.modRefs fun r => { r with pend := false }
  else
    let st := if t = 15 then 0 else if t = 13 then 4 else 1
    let s := (s.modRefs fun r => { r with selected := t, state := st, pend := false, lockAt := none }).selEvent
    if t = 13 then s.setSteer s.refs.softWord else s

/-- A candidate loses its qualification. -/
def State.disqualify (s : State) (n why : Nat) : State :=
  if s.qualified n then
    ((s.modCand n fun k => { k with qualified := false, inRun := 0, outRun := 0 }).refOccur n 3 why).refEvaluate
  else s.modCand n fun k => { k with inRun := 0, outRun := 0 }

/-- The offset register of candidate n while it is inactive. -/
def noOffset : Word := 0x80000000

/-- A candidate is no longer active. -/
def State.refLost (s : State) (n : Nat) : State :=
  ((s.modCand n fun k => { k with active := false }).setReg (0x2040 + 4 * n) noOffset).disqualify n 1

/-- REF_ACTIVITY_LOSS: a REFIN that has stopped toggling, or a candidate whose conditions no longer hold. -/
def State.refActivityLoss (s : State) (n : Nat) : State :=
  if n < 13 && (s.cand n).active && (n < 4 || !s.candSeen n || !s.candEnabled n) then s.refLost n else s

/-- A slot or an input changes: its qualification restarts (R402). -/
def State.refRestart (s : State) (n : Nat) : State :=
  let s := s.disqualify n 1
  if s.candEnabled n then s else s.refLost n

/-- The accepted SSM of channel c may hold back the slots that name it (R391). -/
def State.refSsm (s : State) (c : Nat) : State :=
  s.each [4, 5, 6, 7, 8, 9, 10, 11] fun t n =>
    if t.slotCh n == c && t.dnu n then t.disqualify n 2 else t

/-! ### Measurement (R390, R391) -/

/-- One measurement of an active candidate, in ppb. -/
def State.refRun (s : State) (n : Nat) (ppb : Int) : State :=
  let inside : Bool := -(s.qualWin : Int) ≤ ppb && ppb ≤ s.qualWin
  let s := s.modCand n fun k => { k with
    inRun := if inside then min 2550 (k.inRun + 1) else 0
    outRun := if inside then 0 else min 255 (k.outRun + 1)
    sum := k.sum + ppb, samples := k.samples + 1 }
  let k := s.cand n
  if s.dnu n then s.disqualify n 2
  else if !k.qualified && k.inRun ≥ s.qualRuns then
    ((s.modCand n fun k => { k with qualified := true, since := s.owl, outRun := 0 }).refOccur n 2 0).refEvaluate
  else if k.qualified && k.outRun ≥ s.disqRuns then s.disqualify n 0
  else s

/-- The measured offset of a candidate against the master oscillator, in ppt: the recovered twin clock is corrected by
the twin's REF_INFO (R319). -/
def State.corrected (s : State) (n : Nat) (ppt : Int) : Int := if n = 12 then ppt + s.twin.refInfoPpt else ppt

/-- The result for one candidate (DEDUCED, notes/assumptions/48.md). -/
def State.refMeasure (s : State) (n : Nat) (ppt : Int) : State :=
  if n < 13 then
    if s.candEnabled n && s.candSeen n then
      let ppb := (s.corrected n ppt - s.nominal) / 1000
      ((s.modCand n fun k => { k with active := true }).setReg (0x2040 + 4 * n) (satSigned ppb)).refRun n ppb
    else s.refLost n
  else s

/-- REF_FREQ_MEASURE: every 100 ms (DEDUCED, notes/assumptions/51.md). -/
def State.refFreqMeasure (s : State) (l : List (Nat × Int)) : State :=
  if s.running && s.refs.measured + 100000 ≤ s.owl then
    let s := s.modRefs fun r => { r with measured := s.owl, sum := r.sum + (r.steer + s.nominal), samples := r.samples + 1 }
    l.foldl (fun t e => t.refMeasure e.1 e.2) s
  else s

/-! ### The end of a switch, lock, restoration, SOFT (R395 to R398) -/

/-- TCLK is within 0.05 ppm of the reference it follows (R396). -/
def State.refNear (s : State) : Bool :=
  let w := s.reg (0x2040 + 4 * s.refs.selected)
  w != noOffset && (s.refs.steer - sword w * 1000).natAbs ≤ 50000

/-- REF_SWITCH_END: build-out is complete; the evaluation at its end may start another switch. -/
def State.refSwitchEnd (s : State) : State :=
  if s.refs.state = 1 then
    (s.modRefs fun r => { r with state := 2, lockAt := s.after 1000000 }).refEvaluate
  else s

/-- The loop bandwidth of a candidate in tenths of a Hz (R385). -/
def loopBw (n : Nat) : Int := if n < 4 then 1 else if n < 12 then 10 else 400

/-- The proportional gain of the loop per µs, 2π × bandwidth, over 10^13. -/
def loopGain (n : Nat) : Int := 6283185 * loopBw n

/-- The unit of `Refs.integ`: four times the square of the gain's denominator. -/
def loopUnit : Int := 4 * 10 ^ 26

/-- The weight of the phase beside `Refs.integ`. -/
def loopScale : Int := 4 * 10 ^ 13

/-- REF_LOCK_REACHED: TCLK has been within 0.05 ppm of the reference for 1 s. -/
def State.refLock (s : State) : State :=
  if s.refs.state = 2 && s.refNear && s.due s.refs.lockAt then
    (s.modRefs fun r => { r with state := 3, lockAt := none, phase := 0, integ := r.steer * loopUnit }).refOccur
      15 4 s.refs.selected
  else s

/-- REF_WTR_EXPIRY: the manual choice has run its WTR. -/
def State.refWtr (s : State) : State := if s.manual ≤ 11 && s.restoreOk s.manual then s.refEvaluate else s

/-- SOFT_TIMEOUT: SOFT_TO seconds without a DCO_SET. -/
def State.softTimeout (s : State) : State :=
  if s.refs.state = 4 && s.rf 0x2000 15 8 != 0 && s.due s.refs.softAt then
    ((s.modRefs fun r => { r with softOut := true, softAt := none }).refOccur 15 7 0).refEvaluate
  else s

/-! ### The copies of REF_SEL_CFG (R403) and its writes -/

/-- The three copies all differ. -/
def State.refFreeze (s : State) : State :=
  if s.refs.frozen then s else (s.modRefs fun r => { r with frozen := true }).refOccur 15 6 0

/-- REF_SEL_CFG has changed from `old`: REF_EN set ends the frozen state; REF_EN clear is free run; a change is
evaluated. The silence of SOFT is timed from the choice of SOFT. -/
def State.refSelChanged (s : State) (old : Word) : State :=
  let s := if s.refEn && !bit old 31 then s.modRefs fun r => { r with frozen := false } else s
  let s := s.modRefs fun r => { r with
    softOut := if s.manual = 13 then r.softOut else false
    softAt := if s.manual = 13 && s.rf 0x2000 15 8 != 0 then s.after (1000000 * s.rf 0x2000 15 8) else none
    state := if s.refEn then r.state else if r.state = 1 then 2 else r.state }
  s.refEvaluate

/-- NOMINAL_PPT takes a value (R400): the offsets follow at once; except in SOFT, TCLK does not step. -/
def State.setNominal (s : State) (w : Word) : State :=
  let d := sword w - s.nominal
  let s := s.setReg 0x202C w
  let s := s.each (List.range 13) fun t n =>
    if (t.cand n).active then t.setReg (0x2040 + 4 * n) (satSigned (sword (t.reg (0x2040 + 4 * n)) - d / 1000)) else t
  if s.refs.state = 4 then s.setSteer s.refs.softWord else s.setSteer (s.refs.steer - d)

/-! ### The loop at an OWL edge (R396, R397, R399) -/

/-- x moves toward y by at most d. -/
def toward (x y : Int) (d : Nat) : Int := if x < y then min y (x + d) else max y (x - d)

/-- The second of R396 runs anew from every OWL edge at which TCLK lies outside 0.05 ppm. -/
def State.refLockRun (s : State) : State :=
  if s.refs.state = 2 && !s.refNear then s.modRefs fun r => { r with lockAt := s.after 1000000 } else s

/-- The steer moves toward `y` by at most 0.5 ppm/s. The half ppt of each µs falls on every other OWL edge (DEDUCED,
notes/assumptions/47.md). -/
def State.pull (s : State) (y : Int) : State := if s.owl % 2 = 0 then s.setSteer (toward s.refs.steer y 1) else s

/-- One µs of the loop on a reference that TCLK is locked to: a loop of second order with the bandwidth of R385, which
follows a drift without a lag (R410) (DESIGN CHOICE, notes/assumptions/200.md). -/
def State.refLoop (s : State) (ref : Int) : State :=
  let g := loopGain s.refs.selected
  let s := s.modRefs fun r =>
    let ph := r.phase + (ref - r.steer)
    { r with phase := ph, integ := r.integ + g * g * ph }
  s.pull ((s.refs.integ + loopScale * g * s.refs.phase) / loopUnit)

/-- The steer one µs later: 2 ppm/s in free run; toward the reference at 0.5 ppm/s until TCLK is locked, then by the
loop (R396, R397). -/
def State.refSlew (s : State) : State :=
  let r := s.refs
  if r.state = 0 then (if r.steer = 0 && !r.clamped then s else s.setSteer (toward r.steer 0 2))
  else if r.state = 2 || r.state = 3 then
    let w := s.reg (0x2040 + 4 * r.selected)
    if w = noOffset then s
    else if r.state = 2 then s.pull (sword w * 1000)
    else s.refLoop (sword w * 1000)
  else s

/-- A line slot, or TWREF, is active while its conditions hold, which State itself shows (R389). -/
def State.refActive (s : State) (n : Nat) : State :=
  let on := s.candEnabled n && s.candSeen n
  if on == (s.cand n).active then s
  else if on then s.modCand n fun k => { k with active := true }
  else s.refLost n

/-- Seconds until the manual choice may be restored. -/
def State.wtrLeft (s : State) : Nat :=
  let m := s.manual
  if m ≤ 11 && s.qualified m then cdiv ((s.cand m).since + s.wtrUs - s.owl) 1000000 else 0

/-- REF_STATUS, REF_QUAL and DCO_NOW at an OWL edge. -/
def State.refShow (s : State) : State :=
  let r := s.refs
  let mask (p : Cand → Bool) := (List.range 13).foldl (fun n i => if p (s.cand i) then n + 2 ^ i else n) 0
  ((s.setReg 0x2020 (BitVec.ofNat 32 (r.state * 2 ^ 29 + b2n r.frozen * 2 ^ 28 + b2n (r.selected == 12) * 2 ^ 27
    + b2n r.clamped * 2 ^ 26 + b2n r.pend * 2 ^ 25 + r.selected * 2 ^ 20 + s.wtrLeft % 1024))).setReg 0x2024
    (BitVec.ofNat 32 (mask (·.active) * 65536 + mask (·.qualified)))).setReg 0x2028 (ofSigned r.steer)

/-- The selector at an OWL edge. The role SAFE, which the collector enters, ends a selection of TWREF here (R388,
R393). -/
def State.refTick (s : State) : State :=
  let s := if s.running then s.each (List.range' 4 9) State.refActive else s
  let s := if s.twinRole == 6 && s.refs.selected == 12 then s.refEvaluate else s
  s.refSlew.refLockRun.refShow

/-! ### The history (R411) -/

/-- The mean of a sum over samples, in the unit of the sum. -/
def meanOf (sum : Int) (n : Nat) : Int := if n = 0 then 0 else sum / (n : Int)

/-- The words of second `sec` in every row. -/
def State.refHistory (s : State) (sec : Nat) : State :=
  let s := s.each (List.range 13) fun t n =>
    let k := t.cand n
    (t.setTbl 0x20 n (sec % 128) (if k.samples = 0 then noOffset else satSigned (meanOf k.sum k.samples))).modCand n
      fun k => { k with sum := 0, samples := 0 }
  (s.setTbl 0x20 13 (sec % 128)
    (satSigned ((if s.refs.samples = 0 then s.refs.steer + s.nominal else meanOf s.refs.sum s.refs.samples) / 1000))).modRefs
    fun r => { r with sum := 0, samples := 0 }

/-! ### Firmware commands (R404) -/

/-- REF_SELECT (DEDUCED, notes/assumptions/50.md). -/
def State.fxRefSelect (q : Req) (ws : List Word) (s : State) : State :=
  let op := 0x0601
  let w := wd ws 0
  let m := w.toNat
  if ws.length != 1 then s.finish q op eLength 0 []
  else if s.notActive then s.finish q op eNotActive 0 []
  else if 15 < m || m = 12 || m = 14 || !s.refEn then s.finish q op eParam 0 []
  else
    let busy := s.refs.state = 1
    let old := s.reg 0x2000
    let s := (s.setRf 0x2000 29 26 m).trpAgree 0x2000
    let s := if fld old 29 26 = m then s.refEvaluate else s.refSelChanged old
    let res := if s.refs.frozen then 3 else if s.refs.selected = m || m = 15 then 0
      else if m ≤ 11 && !s.restoreOk m then 1 else if busy then 2 else 1
    s.finish q op stOk 0 [BitVec.ofNat 32 res]

/-- DCO_SET. -/
def State.fxDcoSet (q : Req) (ws : List Word) (s : State) : State :=
  let op := 0x0602
  if ws.length != 1 then s.finish q op eLength 0 []
  else if s.manual != 13 then s.finish q op eParam 0 []
  else
    let x := sword (wd ws 0)
    let s := s.modRefs fun r => { r with
      softWord := s.clampSteer x, softOut := false
      softAt := if s.rf 0x2000 15 8 != 0 then s.after (1000000 * s.rf 0x2000 15 8) else none }
    let s := s.refEvaluate
    let s := if s.refs.state = 4 then s.setSteer x else s
    s.finish q op stOk 0 [ofSigned s.refs.softWord]

/-! ### The commands -/

/-- R389, R391, R393. -/
def execRefActivityLoss (n : Nat) (s : State) : Out := .next (whileClk s (s.refActivityLoss n))
/-- R390, R391. -/
def execRefFreqMeasure (offsets : List (Nat × Int)) (s : State) : Out := .next (whileOn s (s.refFreqMeasure offsets))
/-- R396, R409. -/
def execRefSwitchEnd (s : State) : Out := .next (whileClk s s.refSwitchEnd)
/-- R396. -/
def execRefLockReached (s : State) : Out := .next (whileClk s s.refLock)
/-- R395, R409. -/
def execRefWtrExpiry (s : State) : Out := .next (whileClk s s.refWtr)
/-- R397, R398. -/
def execSoftTimeout (s : State) : Out := .next (whileClk s s.softTimeout)
/-- R412. -/
def execRefEventHoldoffExpiry (n : Nat) (s : State) : Out := .next (owlOn s (if n < 16 then s.refExpiry n else s))

end Sys2Proof.Machine
end

