-- ==== Sys2Proof/Machine/Time.lean ====
section
/-!
DEFINITION. Device time (13_time_and_stamps.md): its advance, stamps and stamp queues, snapshots (R229 to R231), PPS
inputs and outputs, triggers, the step arming and the commands that change rate and offset. TIME_STEP, whose effects
reach other chapters, is in Steps.lean.
-/
namespace Sys2Proof.Machine

/-! ### The advance of device time (R413, R414, R425) -/

/-- One second in units of 2^-48 ns. -/
def secUnits : Nat := 1000000000 * 2 ^ 48

/-- TIME_RATE_PPT. -/
def State.timeRate (s : State) : Int := sword (s.reg 0x3018)

/-- SLEW_PPT. -/
def State.slewPpt (s : State) : Int := if s.time.slew > 0 then 50000000 else if s.time.slew < 0 then -50000000 else 0

/-- The increment of one TCLK edge in units of 2^-48 ns, with a slew in ppt (R414) (DEDUCED,
notes/assumptions/44.md). -/
def State.timeInc (s : State) (ppt : Int) : Nat :=
  ((16 * 2 ^ 48 * (1000000000000 + s.timeRate + ppt)) / 10000000000000).toNat

/-- One TCLK edge in the unit of `Clock.tclk`. -/
def tclkEdge : Nat := 1000000000000

/-- What TCLK advances in one OWL cycle: 625 edges at nominal frequency, steered by the DCO (R25, R399). -/
def State.tclkInc (s : State) : Nat := (625 * (1000000000000 + s.nominal + s.refs.steer)).toNat

/-- The whole TCLK edges of the next OWL cycle (DEDUCED, notes/assumptions/43.md). -/
def State.tclkEdges (s : State) : Nat := (s.time.tclk + s.tclkInc) / tclkEdge - s.time.tclk / tclkEdge

/-- Add to the counter, with the carry into the seconds field. -/
def Clock.add (t : Clock) (n : Nat) : Clock :=
  let u := t.sub + n
  { t with sec := (t.sec + u / secUnits) % 2 ^ 48, sub := u % secUnits }

/-- Whole ns of correction that is left, away from 0 (SLEW_NS) (DEDUCED, notes/assumptions/45.md). -/
def slewNs (fs : Int) : Int := if fs ≥ 0 then (fs + 999999) / 1000000 else -((-fs + 999999) / 1000000)

/-- Put SLEW_NS and SLEWING. -/
def State.showSlew (s : State) : State :=
  (s.setReg 0x302C (ofSigned (slewNs s.time.slew))).setRb 0x3000 29 (s.time.slew != 0)

/-- The first of n edges at which the slew still acts: 80 fs of it go at each (R425). -/
def State.slewEdges (s : State) (n : Nat) : Nat := min n (cdiv s.time.slew.natAbs 80)

/-- One OWL cycle of TCLK: the counter advances, at its slewed rate until the edge at which the slew ends. -/
def State.timeTick (s : State) : State :=
  let n := s.tclkEdges
  let k := s.slewEdges n
  let s := { s with time := { s.time.add (k * s.timeInc s.slewPpt + (n - k) * s.timeInc 0) with
    tclk := s.time.tclk + s.tclkInc, slew := toward s.time.slew 0 (80 * n) } }
  if s.rb 0x3000 29 then s.showSlew else s

/-! ### Events of the class TIME (R437) -/

/-- A time event that is not a stamp queue's. -/
def State.timeEvent (s : State) (code : Nat) : State := s.event 0x06 0xFD 0xFF code

/-! ### Stamps (R427 to R434) -/

/-- Device time in units of 2^-16 ns. -/
def State.time16 (s : State) : Nat := s.time.sec * (1000000000 * 65536) + s.time.sub / 2 ^ 32

/-- RX_ADJ or TX_ADJ of a channel in units of 2^-16 ns. -/
def State.tsAdj (s : State) (c : Nat) (tx : Bool) : Int :=
  signed 9 (if tx then s.crf c 15 8 0 else s.crf c 15 17 9) * 65536 / 100

/-- A stamp of channel c taken now, in units of 2^-16 ns; every stamp point of R427 is compensated to the balls.
(DESIGN CHOICE, notes/assumptions/46.md). -/
def State.stampAt (s : State) (c : Nat) (tx : Bool) : Nat := ((s.time16 : Int) + s.tsAdj c tx).toNat

/-- The whole nanoseconds below one second of a stamp. -/
def stampNs (v : Nat) : Nat := v / 65536 % 1000000000

/-- The seconds of a stamp. -/
def stampSec (v : Nat) : Nat := v / (1000000000 * 65536)

/-- The queue entry of a stamp (R433). -/
def mkStamp (kind msg c id v now : Nat) : Stamp :=
  { w0 := BitVec.ofNat 32 (2 ^ 31 + kind * 2 ^ 28 + msg % 8 * 2 ^ 24 + c * 2 ^ 16 + id % 65536)
    w1 := BitVec.ofNat 32 (stampSec v), w2 := BitVec.ofNat 32 (stampNs v)
    w3 := BitVec.ofNat 32 (stampSec v / 2 ^ 32 % 65536 * 65536 + v % 65536), at_ := now }

/-- TS_Q_STATg. -/
def tsqReg (g : Nat) : Nat := 0x3080 + 4 * g

/-- Put the stamp queue of a group; DEPTH follows. -/
def State.setStamps (s : State) (g : Nat) (l : List Stamp) : State :=
  (s.modGrp g fun x => { x with stamps := l }).setRf (tsqReg g) 21 16 l.length

/-- Push a stamp into its group's queue of 32 (R434). -/
def State.pushStamp (s : State) (c : Nat) (e : Stamp) : State :=
  let g := c / 16
  let l := (s.grp g).stamps
  if l.length < 32 then
    let s := s.setStamps g (l ++ [e])
    if l.isEmpty then s.event 0x06 g c 0x01 else s
  else
    let was := s.rb (tsqReg g) 31
    let s := (s.count (tsqReg g) 15 0 1).setRb (tsqReg g) 31 true
    if was then s else s.event 0x06 g 0xFF 0x02

/-- TS_EN of a channel that owns itself. -/
def State.tsEn (s : State) (c : Nat) : Bool := s.crb c 15 31 && !s.isMember c

/-- FS_EN as it acts, in a direction (R429): LINE roles on OTN and SDH lines. -/
def State.fsOn (s : State) (c : Nat) (tx : Bool) : Bool :=
  s.tsEn c && s.crb c 15 24 && s.framed c && s.role c == 0
    && (let d := s.crf c 15 23 22; d == 3 || d == (if tx then 2 else 1))

/-- Of the frame starts in a direction: the eligible ones, and the stamped ones. -/
def Capture.starts (k : Capture) (tx : Bool) : Nat × Nat := if tx then (k.stampTx, k.idTx) else (k.stampRx, k.idRx)

/-- Put the counts of the frame starts in a direction. -/
def Capture.setStarts (k : Capture) (tx : Bool) (n : Nat × Nat) : Capture :=
  if tx then { k with stampTx := n.1, idTx := n.2 } else { k with stampRx := n.1, idRx := n.2 }

/-- An eligible frame start: one frame in 2^FS_DIV is stamped, with the number of those stamped before it (R429, R431,
R433) (DESIGN CHOICE, notes/assumptions/197.md). -/
def State.frameStart (s : State) (c : Nat) (tx : Bool) : State :=
  if s.fsOn c tx then
    let n := (s.ch c).cap.starts tx
    let hit := n.1 % 2 ^ s.crf c 15 21 18 = 0
    let s := s.modCh c fun h => { h with cap := h.cap.setStarts tx (n.1 + 1, if hit then n.2 + 1 else n.2) }
    if hit then s.pushStamp c (mkStamp (if tx then 2 else 1) 0 c n.2 (s.stampAt c tx) s.owl) else s
  else s

/-- The four words of an entry. -/
def Stamp.words (e : Stamp) : List Word := [e.w0, e.w1, e.w2, e.w3]

/-- Take up to n entries from the queues of a list of groups, in order. -/
def State.popStamps (s : State) : List Nat → Nat → List Stamp × State
  | [], _ => ([], s)
  | g :: r, n =>
    let l := (s.grp g).stamps
    let t := if l.isEmpty || n = 0 then s else s.setStamps g (l.drop n)
    let rest := t.popStamps r (n - l.length)
    (l.take n ++ rest.1, rest.2)

/-- TS_POP (R420, R434). -/
def State.fxTsPop (q : Req) (ws : List Word) (s : State) : State :=
  let op := 0x0702
  let w := wd ws 0
  let g := fld w 31 24
  let m := fld w 7 0
  if ws.length != 1 then s.finish q op eLength 0 []
  else if !onlyBits w 0xFF0000FF || (g ≥ 12 && g != 0xFF) then s.finish q op eParam 0 []
  else
    let r := s.popStamps (if g = 0xFF then List.range 12 else [g]) (if m = 0 ∨ m > 64 then 64 else m)
    let body := r.1.foldl (fun l e => l ++ e.words) []
    r.2.finish q op stOk 0 (BitVec.ofNat 32 r.1.length :: (if r.1.isEmpty then [0, 0, 0, 0] else body))

/-- A step of device time: stamps of the last µs may carry the time of either side (R433). -/
def State.markNearStep (s : State) : State :=
  s.each (List.range 12) fun t g =>
    if (t.grp g).stamps.isEmpty then t
    else t.modGrp g fun x => { x with
      stamps := x.stamps.map fun e => if s.owl ≤ e.at_ + 1 then { e with w0 := setBit e.w0 27 true } else e }

/-! ### Snapshots and the clearing of counters (R229 to R231) -/

/-- The entries of the queue counter table that hold a word. -/
def State.cntQueues (s : State) : List Nat :=
  ((s.tables.filter fun e => e.1 / 8388608 == 2 * 0x1E).map fun e => e.1 / 128 % 65536).eraseDups

/-- One holding word of a channel takes its counter's half. -/
def State.holdWord (c : Nat) (s : State) (i : Nat) : State :=
  let v := (s.ch c).cnt.val (i / 2)
  s.setReg (chReg c (18 + i)) (BitVec.ofNat 32 (if i % 2 = 0 then v else v / 2 ^ 32 % 65536))

/-- The holding words of a channel take its counters. -/
def State.holdCh (s : State) (c : Nat) : State := s.each (List.range 8) (State.holdWord c)

/-- The holding words of a queue take its counters. -/
def State.holdQueue (s : State) (e : Nat) : State := s.setTblWords 0x1E 0 e 8 (s.tblWords 0x1E 0 e 0 8)

/-- Clear the live counters of a queue. -/
def State.clearQueue (s : State) (e : Nat) : State := s.setTblWords 0x1E 0 e 0 [0, 0, 0, 0, 0, 0, 0, 0]

/-- One snapshot, at one instant. -/
def State.snapshot (s : State) (clear : Bool) : State :=
  let s := s.each allCh State.holdCh
  let s := s.each s.cntQueues State.holdQueue
  let s := if clear then (s.each allCh State.clearCnt).each s.cntQueues State.clearQueue else s
  let s := (s.setReg 0x8004 (BitVec.ofNat 32 s.time.sec)).setReg 0x8008 (BitVec.ofNat 32 s.ns)
  s.setReg 0x8000 (s.reg 0x8000 + 1)

/-- SNAPSHOT. -/
def State.fxSnapshot (q : Req) (ws : List Word) (s : State) : State :=
  let op := 0x0301
  if ws.length != 1 then s.finish q op eLength 0 []
  else if !onlyBits (wd ws 0) 1 then s.finish q op eParam 0 []
  else
    let s := s.snapshot (bit (wd ws 0) 0)
    s.finish q op stOk 0 [s.reg 0x8000, s.reg 0x8004, s.reg 0x8008]

/-- Clear the counters of a channel and of its queues. -/
def State.clearAllOf (s : State) (c : Nat) : State :=
  (s.clearCnt c).each (s.cntQueues.filter fun e => e / 8 == c) State.clearQueue

/-- Every counter of the device: the channel counters, the counter fields of every register, the counter words of every
table (R231); word 5 of a generation entry shows its next sequence number (R286). -/
def State.clearEvery (s : State) : State :=
  let s := s.each allCh State.clearCnt
  let s := s.each (s.regs.map Prod.fst) fun t a =>
    match regInfo (decodeAddr a).1 with
    | some r => t.setReg a (r.cnt.foldl (fun w f => setFld w f.1 f.2 0) (t.reg a))
    | none => t
  s.each (s.tables.map Prod.fst) fun t k =>
    let n := k / 8388608 / 2
    let e := k / 128 % 65536
    let seq := n == 6 && k % 128 == 5 && bit (t.tbl 6 e 0) 30
    let more := n == 0x11 && e % 64 == 3 && k % 128 == 3 || n == 0x12 && k % 128 == 1
    if (tblCnt n (k % 128) || more) && k / 8388608 % 2 = 0 && !seq then t.setTbl n e (k % 128) 0 else t

/-- CNT_CLEAR. -/
def State.fxCntClear (q : Req) (ws : List Word) (s : State) : State :=
  let op := 0x0302
  let w := wd ws 0
  if ws.length != 1 then s.finish q op eLength 0 []
  else if bit w 31 then
    if !onlyBits w 0x800000FF then s.finish q op eParam 0 []
    else s.clearEvery.finish q op stOk 0 []
  else if fld w 7 0 ≥ 192 || !onlyBits w 0xFF then s.finish q op eParam 0 []
  else (s.clearAllOf (fld w 7 0)).finish q op stOk 0 []

/-! ### TIME_LATCH (R418, R419) -/

/-- Copy device time into TIME_RD_*. -/
def State.timeLatch (s : State) : State :=
  (((s.setReg 0x3008 (BitVec.ofNat 32 (s.time.sec / 2 ^ 32 % 65536))).setReg 0x300C (BitVec.ofNat 32 s.time.sec)).setReg
    0x3010 (BitVec.ofNat 32 s.ns)).setReg 0x3014 (BitVec.ofNat 32 (s.time.sub / 2 ^ 32 % 65536))

/-! ### PPS inputs (R435) -/

/-- 0.9 s of TCLK time. -/
def ppsGap : Nat := 562500000 * tclkEdge

/-- PPS_IN_EDGE: the marking edge of POLn is accepted, or rejected within 0.9 s of the last. -/
def State.ppsIn (s : State) (n : Nat) (rising : Bool) : State :=
  let en := s.rb 0x3030 (31 - 2 * n)
  let pol := s.rb 0x3030 (30 - 2 * n)
  if n < 2 && en && rising != pol && s.clocked then
    let ok : Bool := match Store.get none s.time.ppsLast n with
      | some t => decide (t + ppsGap ≤ s.time.tclk)
      | none => true
    if ok then
      let s := { s with time := { s.time with ppsLast := Store.set none s.time.ppsLast n (some s.time.tclk) } }
      let s := s.setReg (0x3034 + 8 * n) (BitVec.ofNat 32 s.time.sec)
      let s := s.setReg (0x3038 + 8 * n) (BitVec.ofNat 32 (2 ^ 31 + s.ns))
      (s.count 0x3044 (31 - 16 * n) (24 - 16 * n) 1).timeEvent (0x10 + n)
    else (s.count 0x3044 (23 - 16 * n) (16 - 16 * n) 1).setRb 0x3028 (29 - n) true
  else s

/-- A PPS capture that is switched on accepts its first edge. -/
def State.ppsArm (s : State) (n : Nat) : State :=
  { s with time := { s.time with ppsLast := Store.set none s.time.ppsLast n none } }

/-! ### PPS outputs (R406, R407) -/

/-- A shared output is driven (R407). -/
def State.sharedDriven (s : State) : Bool := !s.paired || s.twinRole == 4

/-! #### Clock outputs (R405 to R407) -/

/-- One second of TCLK in the unit of `Clock.tclk`. -/
def tclkSecond : Nat := 625000000 * tclkEdge

/-- Clock output n. -/
def State.clkPin (s : State) (n : Nat) : ClkPin := Store.get {} s.refs.outs n

/-- A whole period of clock output n ends at, or next after, this moment. -/
def State.clkBoundary (s : State) (n : Nat) : Nat :=
  let hz := max 1 (s.rf (0x2090 + 4 * n) 27 0)
  let p := s.clkPin n
  p.since + cdiv (cdiv ((s.time.tclk - p.since) * hz) tclkSecond * tclkSecond) hz

/-- Clock output n is driven at all: SHARED outputs only while the device acts (R407). -/
def State.clkDriven (s : State) (n : Nat) : Bool := !s.rb (0x2080 + 4 * n) 30 || s.sharedDriven

/-- Clock output n starts at a whole period and stops at the end of one; it releases at once where it is no longer
driven (R406, R407). -/
def State.clkSync (s : State) (n : Nat) : State :=
  let a := 0x2080 + 4 * n
  let p := s.clkPin n
  let put (q : ClkPin) : State := s.modRefs fun r => { r with outs := Store.set {} r.outs n q }
  if s.rb a 31 && s.clkDriven n && !(s.rb a 29 && s.refs.state = 0) then
    if p.onAt.isSome then s else put { p with onAt := some (s.clkBoundary n), offAt := none }
  else if p.onAt.isNone then s
  else
    let ran := p.onAt.any (· ≤ s.time.tclk)
    put { p with onAt := none, offAt := if ran && s.clkDriven n then some (s.clkBoundary n) else none }

/-- EN of clock output n is set: its periods count from here. -/
def State.clkStart (s : State) (n : Nat) : State :=
  s.modRefs fun r => { r with outs := Store.set {} r.outs n { since := s.time.tclk } }

/-- PPS_OUT n is driven: a SHARED output only while the device acts (R407). -/
def State.ppsDriven (s : State) (n : Nat) : Bool := !s.rb (0x20A0 + 4 * n) 30 || s.sharedDriven

/-- PPS_OUT n marks seconds: it is enabled and driven. -/
def State.ppsOutOn (s : State) (n : Nat) : Bool := n < 2 && s.rb (0x20A0 + 4 * n) 31 && s.ppsDriven n

/-- Device time less OFFSET_NS, in ns. -/
def State.ppsPos (s : State) (n : Nat) : Int := (s.nowNs : Int) - signed 20 (s.rf (0x20A0 + 4 * n) 19 0)

/-- PPS_OUT_EDGE: within one OWL cycle after a whole second of device time plus OFFSET_NS, once for each second. The
pulse lasts WIDTH_MS (DEDUCED, notes/assumptions/52.md). -/
def State.ppsOutEdge (s : State) (n : Nat) : State :=
  let p := s.ppsPos n
  let k := p / 1000000000
  if s.ppsOutOn n && s.clocked && p % 1000000000 < 1002 && Store.get none s.time.ppsMark n != some k then
    let w := max 1 (min 500 (s.rf (0x20A0 + 4 * n) 28 20))
    { s with
      ppsOut := s.ppsOut ++ [n]
      time := { s.time with
        ppsMark := Store.set none s.time.ppsMark n (some k)
        ppsEnd := Store.set none s.time.ppsEnd n (s.after (1000 * w)) } }
  else s

/-- Pulses that have lasted their width, or whose output is released. -/
def State.ppsTick (s : State) : State :=
  { s with time := { s.time with ppsEnd := s.time.ppsEnd.filter fun e => !s.due e.2 && s.ppsDriven e.1 } }

/-! ### Triggers (R436) -/

/-- TRIG_CTLn. -/
def trigCtl (n : Nat) : Nat := 0x3050 + 12 * n

/-- The time of trigger n in ns, with bits 47:32 of its seconds. -/
def State.trigNs (s : State) (n hi : Nat) : Nat :=
  (hi * 2 ^ 32 + (s.reg (trigCtl n - 8)).toNat) * 1000000000 + s.rf (trigCtl n - 4) 29 0

/-- A trigger disarms. -/
def State.trigOff (s : State) (n : Nat) : State := s.setRb (trigCtl n) 31 false

/-- ARM = 1 is written: the status, and the state it leaves. Device time counts with its fraction. -/
def State.trigArm (s : State) (n : Nat) : Nat × State :=
  let hi := s.time.sec / 2 ^ 32
  if s.trigNs n hi * 2 ^ 48 < s.time.sec * secUnits + s.time.sub + 10000 * 2 ^ 48 then (eTimePast, s.trigOff n)
  else (stOk, { s.setRb (trigCtl n) 31 true with time := { s.time with trigHi := Store.set 0 s.time.trigHi n hi } })

/-- TRIGGER_FIRE: device time has reached the trigger time. -/
def State.trigFire (s : State) (n : Nat) : State :=
  if n < 4 && s.rb (trigCtl n) 31 && s.trigNs n (Store.get 0 s.time.trigHi n) ≤ s.nowNs then
    let s := ((s.trigOff n).setRb (trigCtl n) 30 true).timeEvent (0x30 + n)
    let a := s.rf (trigCtl n) 29 28
    if a = 1 then s.snapshot false else if a = 2 then s.snapshot true else s
  else s

/-- Every armed trigger is cancelled (R417). -/
def State.trigCancel (s : State) : State := s.each [0, 1, 2, 3] State.trigOff

/-! ### Losing time (R39, R40, R417) -/

/-- Rate, slew and validity are lost. -/
def State.loseTime (s : State) : State :=
  (({ s with time := { s.time with slew := 0 } }.setReg 0x3018 0).setRb 0x3000 31 false).showSlew

/-! ### The step arming (R423) and the slew -/

/-- The accepted key write of STEP_REARM. -/
def State.stepRearm (s : State) (w : Word) : State :=
  let s := (s.setReg 0x3020 w).setRb 0x3000 30 (bit w 0)
  { s with time := { s.time with armTill := if bit w 0 then s.after 60000000 else none } }

/-- STEP_ARM_EXPIRY: 60 s without a step. -/
def State.stepArmExpiry (s : State) : State :=
  if s.due s.time.armTill then { s.setRb 0x3000 30 false with time := { s.time with armTill := none } } else s

/-- SLEW_DONE: the correction is applied. -/
def State.slewDone (s : State) : State := if s.time.slew = 0 then s.showSlew else s

/-! ### Firmware commands (R420, R424, R425) -/

/-- TIME_ADJ_RATE. -/
def State.fxTimeAdjRate (q : Req) (ws : List Word) (s : State) : State :=
  let op := 0x0604
  let x := sword (wd ws 0)
  if ws.length != 1 then s.finish q op eLength 0 []
  else if x < -100000000 || x > 100000000 then s.finish q op eParam 0 []
  else (s.setReg 0x3018 (wd ws 0)).finish q op stOk 0 [wd ws 0]

/-- JUMP_LIMIT_NS as it acts. -/
def State.jumpLimit (s : State) : Nat := max 1 (min 100000 (s.rf 0x301C 16 0))

/-- TIME_OFFSET_ADJ. -/
def State.fxTimeOffsetAdj (q : Req) (ws : List Word) (s : State) : State :=
  let op := 0x0605
  let x := sword (wd ws 0)
  let now := slewNs s.time.slew
  let lim : Int := s.jumpLimit
  if ws.length != 1 then s.finish q op eLength 0 []
  else if !s.timeValid then s.finish q op eParam 0 []
  else if -lim < x && x < lim && -lim < now + x && now + x < lim then
    let s := { s with time := { s.time with slew := s.time.slew + x * 1000000 } }.showSlew
    s.finish q op stOk 0 [s.reg 0x302C]
  else ((s.setRb 0x3028 31 true).timeEvent 0x20).finish q op eJump 0 []

/-! ### The end of a second (R223 to R226, R411) -/

/-- PM_SECOND_CLOSE: the nanoseconds field has carried. -/
def State.pmSecond (s : State) : State :=
  if s.time.sec = s.time.open_ then s
  else
    let sec := s.time.open_
    (s.refHistory sec).closeSecond false

/-! ### The commands -/

/-- R435. -/
def execPpsInEdge (n : Nat) (rising : Bool) (s : State) : Out := .next (whileOn s (s.ppsIn n rising))
/-- R406, R407. -/
def execPpsOutEdge (n : Nat) (s : State) : Out := .next (whileOn s (s.ppsOutEdge n))
/-- R436. -/
def execTriggerFire (n : Nat) (s : State) : Out := .next (whileOn s (s.trigFire n))
/-- R423. -/
def execStepArmExpiry (s : State) : Out := .next (whileOn s s.stepArmExpiry)
/-- R425. -/
def execSlewDone (s : State) : Out := .next (whileOn s s.slewDone)
/-- R223, R225, R411. -/
def execPmSecondClose (s : State) : Out := .next (whileOn s s.pmSecond)

end Sys2Proof.Machine
end

