-- ==== Sys2Proof/Machine/FramesRx.lean ====
section
/-!
DEFINITION. Received frames (R85 to R87, R104, R109, R120 to R128, R157, R158, R163, R168, R205, R210): the verifier,
the overhead monitors of a channel, the tributaries, frame capture and byte trace.
-/
namespace Sys2Proof.Machine

/-! ### The bytes of a frame, by position index (R112) -/

/-- The byte of a received frame at an index; one that is not listed is 0. -/
def rxByte (f : RxFrame) (i : Nat) : Byte := (byteFor f.oh i).getD 0

/-- The MFAS of a received frame. -/
def frameMfas (f : RxFrame) : Nat := (rxByte f 6).toNat

/-- The APS/PCC bytes. -/
def apsOf (l : List (Nat × Byte)) : List Byte := [52, 53, 54, 55].map fun i => (byteFor l i).getD 0

/-- The STAT of a tandem connection level. -/
def tcmStat (l : List (Nat × Byte)) (lvl : Nat) : Nat := ((byteFor l (tcmAt lvl + 2)).getD 0).toNat % 8

/-- The violations of a level. -/
def violAt (l : List (Nat × Nat)) (lvl : Nat) : Nat := ((l.find? fun e => e.1 == lvl).map Prod.snd).getD 0

/-- BEI of 1 to 8 in the third byte of SM, PM or a TCM; other values count nothing, 0b1011 is BIAE. -/
def beiFar (b : Byte) : Bool := 1 ≤ b.toNat / 16 && b.toNat / 16 ≤ 8

/-! ### Overhead memory (R124): table 0x11, 64 entries of 16 words per channel -/

/-- Read byte `o` of the overhead memory of channel c. -/
def State.ohByte (s : State) (c o : Nat) : Byte :=
  let sh := 8 * (3 - o % 4)
  BitVec.ofNat 8 (fld (s.tbl 0x11 (64 * c + o / 64) (o % 64 / 4)) (sh + 7) sh)

/-- Put byte `o` of the overhead memory of channel c. -/
def State.setOhByte (s : State) (c o : Nat) (b : Byte) : State :=
  let e := 64 * c + o / 64
  let w := o % 64 / 4
  let sh := 8 * (3 - o % 4)
  s.setTbl 0x11 e w (setFld (s.tbl 0x11 e w) (sh + 7) sh b.toNat)

/-- Put bytes from offset `o` onwards. -/
def State.setOhBytes (s : State) (c o : Nat) : List Byte → State
  | [] => s
  | b :: r => (s.setOhByte c o b).setOhBytes c (o + 1) r

/-- The n bytes from offset `o` onwards. -/
def State.ohBytes (s : State) (c o n : Nat) : List Byte := (List.range n).map fun i => s.ohByte c (o + i)

/-- Count in the 16-bit field [hi:lo] of word 3 of the capture block (0x0CC, 0x0CE).
(DEDUCED, notes/assumptions/66.md). -/
def State.countAps (s : State) (c hi lo : Nat) : State := s.countTbl 0x11 (64 * c + 3) 3 hi lo 1

/-! ### The verifier (R83, R85, R86) -/

/-- OOF_N as it acts. -/
def State.oofN (s : State) (c : Nat) : Nat := let n := s.crf c 3 31 28; if n < 2 then 5 else n

/-- One alignment word at the expected position, while the channel keeps an alignment. -/
def State.verify (s : State) (c : Nat) (ok : Bool) : State :=
  let n := (s.ch c).frm.errs
  if ok then
    let s := s.modFrm c fun f => { f with errs := 0 }
    if s.chState c == stOofHold then s.toState c stInFrame else s
  else if s.chState c == stInFrame then (s.modFrm c fun f => { f with errs := 1 }).toState c stOofHold
  else if n + 1 ≥ s.oofN c then s.outOfFrame c false
  else s.modFrm c fun f => { f with errs := n + 1 }

/-! ### OTN multiframe (R87, R205 bit 3) -/

/-- One MFAS (DEDUCED, notes/assumptions/81.md). -/
def Framer.mfasStep (f : Framer) (v : Nat) : Framer :=
  let inSeq := match f.mfas with
    | some p => (p + 1) % 256 == v % 256
    | none => true
  let first := f.mfas.isNone
  let f := { f with mfas := some (v % 256) }
  if first then f
  else if f.mfOut then
    let g := if inSeq then f.mfGood + 1 else 0
    if g ≥ 2 then { f with mfOut := false, mfGood := 0, mfBad := 0 } else { f with mfGood := g }
  else
    let b := if inSeq then 0 else f.mfBad + 1
    if b ≥ 5 then { f with mfOut := true, mfBad := 0, mfGood := 0 } else { f with mfBad := b }

/-- The MFAS of one frame; the 3 ms towards a change of dLOM run while the multiframe disagrees with it. A verifier
with no timer running starts in multiframe when dLOM is clear. -/
def State.rxMfas (s : State) (c v : Nat) : State :=
  if isOtn (s.client c) && s.crb c 3 20 then
    let quiet := (s.ch c).frm.mfas.isNone && !s.def_ c dLOM && (s.ch c).mon.lomAt.isNone
    let s := s.modFrm c fun f => { f with mfOut := f.mfOut && !quiet }.mfasStep v
    let out := (s.ch c).frm.mfOut
    s.modMon c fun m => { m with
      lomAt := if out != s.def_ c dLOM then some (m.lomAt.getD (s.owl + 3000)) else none }
  else s

/-! ### Maintenance signals and back-reports (R205 bits 4, 5, 11, 12) -/

/-- K2 bits 6 to 8 of an SDH frame; on a CBR channel only AIS is judged (R144). -/
def State.rxSdhMaint (s : State) (c : Nat) (k2 : Byte) : State :=
  let v := k2.toNat % 8
  let m := (s.ch c).mon
  let a := m.ais.step 3 3 (s.def_ c dAIS) (v == 7)
  let r := m.rdi.step 5 5 (s.def_ c dRDI) (v == 6)
  let s := (s.modMon c fun m => { m with ais := a.1 }).setDef c dAIS a.2
  if s.role c == 0 then (s.modMon c fun m => { m with rdi := r.1 }).setDef c dRDI r.2 else s

/-- PM STAT and SM BDI of an OTU frame; the IAE of SM is kept for BIAE. -/
def State.rxOtnMaint (s : State) (c : Nat) (f : RxFrame) : State :=
  let m := (s.ch c).mon
  let stat := (rxByte f 43).toNat % 8
  let sm := (rxByte f 9).toNat
  let a := m.ais.step 3 3 (s.def_ c dAIS) (stat == 7)
  let l := m.lck.step 3 3 (s.def_ c dLCK) (stat == 5)
  let o := m.oci.step 3 3 (s.def_ c dOCI) (stat == 6)
  let r := m.rdi.step 5 5 (s.def_ c dRDI) (sm / 8 % 2 == 1)
  let s := s.modCh c fun h => { h with
    mon := { h.mon with ais := a.1, lck := l.1, oci := o.1, rdi := r.1 }
    tx := { h.tx with iae := h.tx.iae.filter (· != 0) ++ (if sm / 4 % 2 = 1 then [0] else []) } }
  (((s.setDef c dAIS a.2).setDef c dLCK l.2).setDef c dOCI o.2).setDef c dRDI r.2

/-- One STAT of a tandem connection: loss, AIS, LCK or OCI in three consecutive frames is its failure, and three other
ones in a row end it (R246). -/
def Tcm.step (t : Tcm) (stat : Nat) : Tcm :=
  let run := if t.cand = stat then min 3 (t.run + 1) else 1
  let clr := if t.failOf = some stat then 0 else min 3 (t.clr + 1)
  let bad : Bool := stat = 0 || stat = 5 || stat = 6 || stat = 7
  { cand := stat, run := run, clr := clr
    failOf := if bad && run ≥ 3 then some stat else if clr ≥ 3 then none else t.failOf }

/-- The tandem connections that TCM_MON names (R119); STAT 0b010 shows an incoming alignment error. -/
def State.rxTcm (s : State) (c : Nat) (f : RxFrame) : State :=
  s.each ((List.range 7).drop 1) fun t lvl =>
    if t.crb c 10 (10 + lvl) then
      let stat := tcmStat f.oh lvl
      t.modCh c fun h => { h with
        mon := { h.mon with tcm := Store.mod {} h.mon.tcm lvl fun k => k.step stat }
        tx := { h.tx with reiTcm := Store.mod 0 h.tx.reiTcm lvl (· + violAt f.bipTcm lvl)
                          iae := h.tx.iae.filter (· != lvl) ++ (if stat = 2 then [lvl] else []) } }
    else t

/-! ### APS bytes (R122) and S1 (R123) -/

/-- The APS bytes of one frame of the level that APS_SRC selects. -/
def State.rxAps (s : State) (c : Nat) (l : List Byte) : State :=
  let e := 64 * c + 3
  let a := (s.ch c).mon.aps.step 3 l
  let was := (s.ch c).mon.aps
  let cur := wd (packWords l) 0
  let s := s.modMon c fun m => { m with aps := a.1 }
  let lost := was.cand.isSome && was.cand != some l && was.run < 3 && was.cand != was.acc
  let s := if lost then s.countAps c 15 0 else s
  let s := s.setTbl 0x11 e 1 cur
  if a.2 && s.tbl 0x11 e 0 != cur then
    let s := (s.setTbl 0x11 e 0 cur).countAps c 31 16
    if s.crf c 11 26 25 = 2 then s.modCh c fun h => { h with cap := { h.cap with trigSeen := true } } else s
  else s

/-- APS_SRC selects the bytes of this frame: K1 and K2, or one level of a line-level ODU. -/
def State.apsShown (s : State) (c mfas : Nat) : Bool :=
  let k := s.crf c 11 24 21
  if isSdh (s.client c) then k == 1 else 2 ≤ k && k ≤ 9 && mfas % 8 == k - 2

/-- S1 of one frame. -/
def State.rxS1 (s : State) (c : Nat) (v : Byte) : State :=
  let a := (s.ch c).mon.s1.step 8 v
  let e := 64 * c + 3
  let s := s.modMon c fun m => { m with s1 := a.1 }
  let w := setFld (s.tbl 0x11 e 4) 23 16 v.toNat
  let s := s.setTbl 0x11 e 4 (if a.2 then setFld w 31 24 v.toNat else w)
  if a.2 then s.refSsm c else s

/-! ### Trail trace (R119 to R121) -/

/-- The bytes that are compared: first and number. -/
def State.ttiSpan (s : State) (c : Nat) : Nat × Nat :=
  if isSdh (s.client c) then (if s.crb c 10 26 then (0, 62) else (1, 15))
  else
    let m := s.crf c 10 25 24
    if m = 0 then (0, 16) else if m = 1 then (16, 16) else if m = 2 then (0, 32) else (0, 64)

/-- The accepted trace agrees with the expected one in the compared bytes. -/
def State.ttiMatch (s : State) (c : Nat) : Bool :=
  let z := s.ttiSpan c
  s.ohBytes c z.1 z.2 == s.ohBytes c (0x40 + z.1) z.2

/-- CRC-7 of a 16-byte trace: x^7 + x^3 + 1. -/
def algCrc7 : CrcAlg := { width := 7, refin := false, refout := false, poly := 0x09, init := 0, xorout := 0 }

/-- One byte of a 16-byte trace: the byte with bit 1 set ends the 16 bytes before it, and carries their CRC-7. -/
def trace16In (buf : List Byte) (b : Byte) : List Byte × Option (List Byte × Bool) :=
  if b.toNat ≥ 128 then
    ([b], if buf.isEmpty then none
          else some (buf, buf.length == 16 && algCrc7.run ((buf.headD 0 &&& 0x80) :: buf.drop 1) == b.toNat % 128))
  else (if buf.isEmpty then [] else (buf ++ [b]).take 17, none)

/-- One byte of a 64-byte trace, which ends in CR LF; 64 bytes without them are no trace. -/
def trace64In (buf : List Byte) (b : Byte) : List Byte × Option (List Byte × Bool) :=
  let l := buf ++ [b]
  if l.drop (l.length - 2) = [0x0D, 0x0A] then ([], some (l, l.length == 64))
  else if l.length ≥ 64 then (l.drop 1, some (l, false)) else (l, none)

/-- One byte of an OTN trace, at position MFAS mod 64; one out of order cuts the trace, which is then not complete. -/
def traceOtnIn (buf : List Byte) (m : Nat) (b : Byte) : List Byte × Option (List Byte × Bool) :=
  if m % 64 = buf.length then
    (if buf.length = 63 then ([], some (buf ++ [b], true)) else (buf ++ [b], none))
  else (if m % 64 = 0 then [b] else [], some (buf, false))

/-- One complete trace: acceptance at the third, then dTIM (R120, R205 bit 6) (DEDUCED, notes/assumptions/19.md). -/
def State.rxTrace (s : State) (c : Nat) (l : List Byte) (ok : Bool) : State :=
  if !ok then s.modMon c fun m => { m with trace := { m.trace with cand := none, run := 0 } }
  else
    let a := (s.ch c).mon.trace.step 3 l
    let s := s.modMon c fun m => { m with trace := a.1, traceEver := m.traceEver || a.2 }
    if a.2 then
      let s := s.setOhBytes c 0 (l.take 64 ++ List.replicate (64 - l.length) 0)
      if s.crb c 10 31 && s.ttiLayer c != 0 then s.setDef c dTIM (!s.ttiMatch c) else s
    else s

/-- One byte of the trace that the channel compares. -/
def State.rxTraceByte (s : State) (c mfas : Nat) (b : Byte) : State :=
  let buf := (s.ch c).mon.traceBuf
  let r := if isOtn (s.client c) then traceOtnIn buf mfas b
    else if s.crb c 10 26 then trace64In buf b else trace16In buf b
  let s := s.modMon c fun m => { m with traceBuf := r.1 }
  match r.2 with
  | some (l, ok) => s.rxTrace c l ok
  | none => s

/-- The index that holds the byte of the selected trace in the channel's own frames. -/
def State.traceIndex (s : State) (c : Nat) : Option Nat :=
  let k := s.ttiLayer c
  let n := s.ttiTrib c
  if k = 1 then some 6 else if k = 2 then some (128 + 9 * n) else if k = 3 then some 7
  else if k = 0 ∨ n != 0 then none
  else if k = 4 then some 41 else some (tcmAt (k - 4))

/-- A byte of the trace that the channel compares. Until a trace has been accepted the accepted area is compared as it
stands (R121). -/
def State.traceSeen (s : State) (c mfas : Nat) (b : Byte) : State :=
  let s := s.rxTraceByte c mfas b
  if s.crb c 10 31 && !(s.ch c).mon.traceEver then s.setDef c dTIM (!s.ttiMatch c) else s

/-- The trace byte of one frame. -/
def State.rxTraceOf (s : State) (c : Nat) (f : RxFrame) : State :=
  match s.traceIndex c with
  | some i => s.traceSeen c (frameMfas f) (rxByte f i)
  | none => s

/-! ### Payload type and MSI (R143, R157, R205 bit 7) -/

/-- The payload type, or the C2 of ETH_GFP_VC, that the channel expects. -/
def State.expectedType (s : State) (c : Nat) : Option Nat :=
  if isOtn (s.client c) then (if s.muxLine c then some 0x21 else none) else (s.mapping c).map (·.ptype)

/-- One payload type: PSI is accepted after 3 identical multiframes, C2 after 5 identical frames. An unequipped C2 is
no mismatch (DEDUCED, notes/assumptions/82.md). -/
def State.rxPtype (s : State) (c v : Nat) : State :=
  let vc := isEth (s.client c) && s.role c == 5
  let a := (s.ch c).mon.ptype.step (if vc then 5 else 3) v
  let s := s.modMon c fun m => { m with ptype := a.1 }
  match s.expectedType c with
  | some e => if a.2 then s.setDef c dPLM (v != e && !(vc && v == 0)) else s
  | none => s

/-- One MSI of a MUX line. -/
def State.rxMsi (s : State) (c : Nat) (l : List Byte) : State :=
  let a := (s.ch c).mon.msi.step 3 l
  let s := s.modMon c fun m => { m with msi := a.1 }
  if a.2 then s.msiJudge c else s

/-! ### Tributaries (R145, R158, R163, R165, R168, R187, R210) -/

/-- The values of the pointer of an endpoint (R163). -/
def ptrRange (w : Word) : Nat :=
  if epKind w = 3 then (if epLo w = 0 then 765 else if epLo w = 1 then 140 else 104) else 783

/-- What a pointer says to the interpreter: a value with its new-data flag, an increment or decrement, all ones, or
none of the valid forms. -/
inductive Pointer where
  | value (v : Nat) (ndf : Bool)
  | inc
  | dec
  | allOnes
  | invalid
  deriving DecidableEq, Repr

/-- A pointer against the accepted value: three of the four NDF bits decide the new-data flag, three of the five I or D
bits an adjustment. -/
def ptrRead (cur : Option Nat) (w : Nat) : Pointer :=
  let v := w % 1024
  let n := popcount 4 (w / 4096 % 16 ^^^ 9)
  if w % 65536 = 65535 then .allOnes
  else if n ≤ 1 then .value v true
  else if n = 2 then .invalid
  else
    match cur with
    | some u =>
      let i := popcount 10 ((v ^^^ u) &&& 0x2AA)
      let d := popcount 10 ((v ^^^ u) &&& 0x155)
      if i ≥ 3 ∧ d < 3 then .inc else if d ≥ 3 ∧ i < 3 then .dec else .value v false
    | none => .value v false

/-- A pointer of none of the valid forms, at this moment. -/
def Trib.badPtr (t : Trib) : Trib :=
  let n := min 8 (t.badRun + 1)
  { t with badRun := n, ptr := if n ≥ 8 then 2 else t.ptr }

/-- A pointer value becomes the accepted one (PRESUMED, notes/assumptions/80.md). -/
def Trib.takePtr (t : Trib) (v : Nat) : Trib := { t with cur := some v, ptr := 0, badRun := 0 }

/-- An adjustment, where the last one lies more than three frames or multiframes back. -/
def Trib.adjust (t : Trib) (range : Nat) (up : Bool) : Trib :=
  match t.cur with
  | some v =>
    if t.ptr = 0 && t.sinceAdj > 3 then
      { t with cur := some (if up then (v + 1) % range else (v + range - 1) % range), sinceAdj := 0, badRun := 0 }
    else t.badPtr
  | none => t.badPtr

/-- One pointer into the interpreter of R163. Every value without new data counts towards three identical ones, also one
that reads as an adjustment. -/
def Trib.pointer (t : Trib) (range w : Nat) : Trib :=
  let v := w % 1024
  let p := ptrRead t.cur w
  let plain := decide (v < range) && (match p with | .value _ ndf => !ndf | .inc => true | .dec => true | _ => false)
  let t := { t with
    sinceAdj := min 255 (t.sinceAdj + 1), onesRun := if p = Pointer.allOnes then min 3 (t.onesRun + 1) else 0
    cand := v, candRun := if plain then (if t.candRun > 0 && t.cand = v then min 3 (t.candRun + 1) else 1) else 0 }
  match p with
  | .allOnes => { t with badRun := 0, ptr := if t.onesRun ≥ 3 then 1 else t.ptr }
  | .invalid => t.badPtr
  | .value _ true => if v < range then { t with candRun := 1 }.takePtr v else t.badPtr
  | .value _ false =>
    if plain && t.ptr = 0 && t.cur = some v then { t with badRun := 0 }
    else if t.candRun ≥ 3 then t.takePtr v else t.badPtr
  | .inc => if t.candRun ≥ 3 then t.takePtr v else t.adjust range true
  | .dec => if t.candRun ≥ 3 then t.takePtr v else t.adjust range false

/-- The signal label of a VC: C2, or bits 5 to 7 of V5. -/
def labelOf (f : RxFrame) (r : TribRx) : Option Nat :=
  if epKind r.ep = 1 then (byteFor f.oh (128 + 9 * epV r.ep + 2)).map BitVec.toNat
  else if epLo r.ep = 0 then (byteFor r.oh 2).map BitVec.toNat
  else (byteFor r.oh 0).map fun b => b.toNat / 2 % 8

/-- One H4 of a VC-4: its two low bits count the low-order multiframe (R87, R210). -/
def Trib.h4Step (t : Trib) (now : Nat) (b : Byte) : Trib :=
  let v := b.toNat % 4
  let ok : Bool := match t.h4 with
    | some p => (p + 1) % 4 == v
    | none => true
  let bad := if ok then 0 else min 3 (t.h4Bad + 1)
  let run : Bool := if t.lom then ok else bad ≥ 3
  { t with h4 := some v, h4Bad := bad, lomAt := if run then some (t.lomAt.getD (now + 1000)) else none }

/-- Pointer, H4 and signal label of a VC. The pointer of a TU-12 or TU-11 is read in the multiframe that H4 gives. -/
def State.rxVc (s : State) (f : RxFrame) (r : TribRx) : State :=
  let t := s.trib r.ep
  let ptr := if epKind r.ep = 3 && s.epLom r.ep then none else r.ptr
  let moved : Bool := match ptr with
    | some w => (t.pointer (ptrRange r.ep) w).sinceAdj = 0
    | none => false
  let s := match ptr with
    | some w => s.modTrib r.ep fun t =>
        let a := t.aisRun.step 3 3 t.ais (w % 65536 == 65535)
        { t.pointer (ptrRange r.ep) w with aisRun := a.1, ais := a.2 }
    | none => s
  let s := (s.countTrib r.ep 1 15 0 (b2n moved)).modTrib r.ep fun t => { t with
    rei := t.rei + r.bip, oh := if r.oh.isEmpty then t.oh else r.oh }
  let s := match byteFor f.oh (128 + 9 * epV r.ep + 5) with
    | some b => if epKind r.ep = 1 then s.modTrib r.ep fun t => t.h4Step s.owl b else s
    | none => s
  match labelOf f r with
  | some v => s.modTrib r.ep fun t =>
      let a := t.label.step 5 v
      { t with label := a.1, uneq := if a.2 then v == 0 else t.uneq }
  | none => s

/-- A lower-order ODU of the channel is adapted by AMP: an ODU1 in an ODU2 (R155, R159). -/
def State.byAmp (s : State) (w : Word) : Bool :=
  s.slotsOf (epCh w) == 8 && s.muxSig (s.lineBank (epCh w)) (epCh w) (epTpn w - 1) == some (5, 0)

/-- STAT and the justification control of a lower-order ODU. -/
def State.rxLoOdu (s : State) (r : TribRx) : State :=
  let s := match byteFor r.oh 43 with
    | some b => s.modTrib r.ep fun t =>
        let v := b.toNat % 8
        let a := t.aisRun.step 3 3 t.ais (v == 7)
        let u := t.stat.step 3 3 t.uneq (v == 5 || v == 6)
        { t with aisRun := a.1, ais := a.2, stat := u.1, uneq := u.2, rei := t.rei + r.bip, oh := r.oh }
    | none => s
  let s := match r.ptype with
    | some v => s.modTrib r.ep fun t => { t with label := (t.label.step 3 v).1 }
    | none => s
  if r.jc.isEmpty then s
  else if s.byAmp r.ep then s.modTrib r.ep fun t => { t with amp := ampDecode r.jc }
  else
    let g := gmpCm (s.trib r.ep).cm r.jc
    (s.modTrib r.ep fun t =>
      let n := if g.2 then 0 else min 2 (t.jcRun + 1)
      { t with cm := g.1, jcRun := n, jcFail := n ≥ 2 }).countTrib r.ep 1 31 16 (b2n (!g.2))

/-- The E1 or DS1 that a low-order VC carries, into the remappers that it feeds (R165, R168), with FIXED_SEL 5 (R297).
-/
def State.rxE1 (s : State) (r : TribRx) : State :=
  if epKind r.ep = 3 && epLo r.ep != 0 && !r.bits.isEmpty then
    let ds1 := epLo r.ep == 2
    let bits := demapBits ds1 r.ctl r.bits
    let n := if ds1 then 0 else s.remapErrs r.ep bits
    let s := if s.crf (epCh r.ep) 26 31 28 = 5 then s.count (chReg (epCh r.ep) 26) 15 0 n else s
    s.remapFeed r.ep ds1 bits
  else s

/-- Tandem connections and APS bytes of a lower-order ODU. -/
def State.rxOduMon (s : State) (r : TribRx) : State :=
  if r.oh.isEmpty then s
  else
    let w := r.ep
    let s := s.each ((List.range 7).drop 1) fun t lvl =>
      if t.tcmMon w lvl then
        let stat := tcmStat r.oh lvl
        t.modTrib w fun k => { k with
          tcm := Store.mod {} k.tcm lvl fun x => x.step stat
          reiTcm := Store.mod 0 k.reiTcm lvl (· + violAt r.bipTcm lvl)
          iae := k.iae.filter (· != lvl) ++ (if stat = 2 then [lvl] else []) }
      else t
    match byteFor r.oh 6 with
    | some m =>
      (match s.sncpOf w (m.toNat % 8) with
       | some p => s.pgAps p (apsOf r.oh)
       | none => s)
    | none => s

/-- The trace byte of a lower-order ODU that TTI_TRIB selects (R119). -/
def State.rxLoTrace (s : State) (c : Nat) (r : TribRx) : State :=
  let k := s.ttiLayer c
  if 4 ≤ k && s.ttiTrib c != 0 && epTpn r.ep == s.ttiTrib c then
    match byteFor r.oh 6, byteFor r.oh (if k = 4 then 41 else tcmAt (k - 4)) with
    | some m, some b => s.traceSeen c m.toNat b
    | _, _ => s
  else s

/-- What one frame shows of one tributary of the channel. -/
def State.rxTrib (c : Nat) (f : RxFrame) (s : State) (r : TribRx) : State :=
  if !epIsOn r.ep c then s
  else if epKind r.ep = 2 then ((s.rxLoOdu r).rxOduMon r).rxLoTrace c r
  else (s.rxVc f r).rxE1 r

/-- The structured VC-4s of an SDH line, by the bank in use. -/
def State.structured (s : State) (c : Nat) : List Nat :=
  if s.sdhLine c then (List.range (stmN (s.client c))).filter fun v => s.vc4Mode (s.lineBank c) c v == 2 else []

/-- dLOM and dPLM of an SDH line follow its structured VC-4s (R205 bits 3 and 7). -/
def State.syncVc4 (s : State) (c : Nat) : State :=
  if s.sdhLine c then
    let l := (s.structured c).map fun v => s.trib (vc4Ep c v)
    let plm := l.any fun t => match t.label.acc with
      | some v => v != 2 && v != 0
      | none => false
    (s.setDef c dLOM (l.any (·.lom))).setDef c dPLM plm
  else s

/-- DLOM_TIMER_EXPIRY: OTN, 3 ms out of or in multiframe; SDH, 1 ms of a VC-4's H4 out of or in sequence. While dOOF is
set nothing changes (R206). -/
def State.dlomExpiry (s : State) (c : Nat) : State :=
  if s.def_ c dOOF then s
  else if isOtn (s.client c) then
    if s.due (s.ch c).mon.lomAt && !s.defHeld c dLOM then
      ((s.modMon c fun m => { m with lomAt := none }).setDef c dLOM (s.ch c).frm.mfOut).syncSsf c
    else s
  else
    ((s.structured c).foldl (fun t v =>
      let w := vc4Ep c v
      if t.due (t.trib w).lomAt then t.modTrib w fun k => { k with lom := !k.lom, lomAt := none, h4Bad := 0 }
      else t) s).syncVc4 c

/-! ### Counters (R217, R221) -/

/-- The frame carries errors that the far end counted, at the layer that PM_LAYER selects (R221). -/
def State.farErr (s : State) (c : Nat) (f : RxFrame) : Bool :=
  if isOtn (s.client c) then beiFar (rxByte f (if s.pmPath c then 43 else 9))
  else s.role c == 0 && (if s.pmPath c then (rxByte f (131 + 9 * s.ttiTrib c)).toNat ≥ 16 else rxByte f 81 != 0)

/-- The counts of one frame received in frame. -/
def State.rxCount (s : State) (c : Nat) (f : RxFrame) : State :=
  let viol := if s.pmPath c then f.bipPath else f.bip
  let otn := isOtn (s.client c)
  let s := (s.countCh c 0 (b2n (viol != 0))).countCh c 1 (b2n (s.farErr c f))
  let s := if otn then (s.countCh c 2 f.corr).countCh c 3 f.uncorr else s
  let s := s.modMon c fun m => { m with deg := m.deg.frame viol false, exc := m.exc.frame viol false }
  s.modCh c fun h => { h with tx := { h.tx with rei := h.tx.rei + f.bip, reiPath := h.tx.reiPath + f.bipPath } }

/-! ### Frame capture and byte trace (R126 to R128) -/

/-- Change the captures of channel c. -/
def State.modCap (s : State) (c : Nat) (f : Capture → Capture) : State := s.modCh c fun h => { h with cap := f h.cap }

/-- CAPT_ARM takes effect while CAPT_EN is 1. -/
def State.captArm (s : State) (c : Nat) : State :=
  if s.crb c 11 27 then
    s.modCap c fun k => { k with running := true, frames := 0, trigSeen := s.crf c 11 26 25 = 0 || s.crf c 11 26 25 = 3 }
  else s

/-- TRACE_ARM takes effect while CAPT_EN is 1. -/
def State.traceArm (s : State) (c : Nat) : State :=
  if s.crb c 11 27 then s.modCap c fun k => { k with traceRun := true, samples := 0, skip := 0 } else s

/-- Bytes that one of them fills. -/
def State.captSize (s : State) (c : Nat) : Nat :=
  if isEth (s.client c) then 8 else if isOtn (s.client c) then 64 else 896

/-- The bytes of one frame in index order; a position that is not listed reads 0. -/
def ohRow (l : List (Nat × Byte)) (n : Nat) : List Byte :=
  (List.range n).map fun i => ((l.find? fun e => e.1 == i).map Prod.snd).getD 0

/-- One received frame into the capture that is armed, has its trigger and finds CAPT_DONE 0. -/
def State.capture (s : State) (c : Nat) (f : RxFrame) : State :=
  let k := (s.ch c).cap
  if k.running && k.trigSeen && !s.crb c 11 29 && k.frames < s.captLen c
      && (k.frames > 0 || !isOtn (s.client c) || frameMfas f % 32 == 0) then
    (s.setOhBytes c (0x600 + s.captSize c * k.frames) (ohRow f.oh (s.captSize c))).modCap c fun k =>
      { k with frames := k.frames + 1 }
  else s

/-- One received frame into the byte trace that is armed and finds TRACE_DONE 0. -/
def State.byteTrace (s : State) (c : Nat) (f : RxFrame) : State :=
  let k := (s.ch c).cap
  if k.traceRun && !s.crb c 11 28 && k.samples < 512
      && (k.samples > 0 || !isOtn (s.client c) || frameMfas f % 256 == 0) then
    let pos := s.crf c 11 20 11
    let s := if k.skip = 0 then
        (s.setOhByte c (0xE00 + k.samples) (((f.oh.find? fun e => e.1 == pos).map Prod.snd).getD 0)).modCap c fun k =>
          { k with samples := k.samples + 1 }
      else s
    s.modCap c fun k => { k with skip := (k.skip + 1) % 2 ^ s.crf c 11 10 8 }
  else s

/-- FRAME_CAPTURE_DONE. -/
def State.captureDone (s : State) (c : Nat) : State :=
  let k := (s.ch c).cap
  if k.running && k.frames ≥ s.captLen c then
    (s.setCrb c 11 29 true).modCap c fun k => { k with running := false, trigSeen := false, frames := 0 }
  else s

/-- BYTE_TRACE_DONE. -/
def State.traceDone (s : State) (c : Nat) : State :=
  let k := (s.ch c).cap
  if k.traceRun && k.samples ≥ 512 then
    (s.setCrb c 11 28 true).modCap c fun k => { k with traceRun := false, samples := 0, skip := 0 }
  else s

/-! ### RECEIVED_FRAME -/

/-- The J0 of one frame: a frame start is stamped where it is the marker of a 16-byte trace, which the 16 bytes before
it and their CRC-7 show (R120, R431) (DEDUCED, notes/assumptions/196.md). -/
def State.rxJ0 (s : State) (c : Nat) (b : Byte) : State :=
  let r := trace16In (s.ch c).cap.j0 b
  let s := s.modCh c fun h => { h with cap := { h.cap with j0 := r.1 } }
  if r.2.any (·.2) then s.frameStart c false else s

/-- The overhead of one frame of an SDH line. -/
def State.rxSdh (s : State) (c : Nat) (f : RxFrame) : State :=
  let s := s.rxSdhMaint c (rxByte f 42)
  if s.role c == 0 then
    let s := if s.apsShown c 0 then s.rxAps c [rxByte f 39, rxByte f 42, 0, 0] else s
    let s := match s.mspOf c with
      | some p => s.pgAps p [rxByte f 39, rxByte f 42]
      | none => s
    (s.rxS1 c (rxByte f 72)).rxJ0 c (rxByte f 6)
  else s

/-- The overhead of one frame of an OTN line. -/
def State.rxOtn (s : State) (c : Nat) (f : RxFrame) : State :=
  let s := ((s.rxMfas c (frameMfas f)).rxOtnMaint c f).rxTcm c f
  let s := if s.apsShown c (frameMfas f) then s.rxAps c (apsOf f.oh) else s
  let s := match s.sncpOf (oduEp c 0) ((frameMfas f) % 8) with
    | some p => s.pgAps p (apsOf f.oh)
    | none => s
  let s := match f.msi with
    | some l => if s.muxLine c then s.rxMsi c l else s
    | none => s
  if frameMfas f % 256 = 0 then s.frameStart c false else s

/-- A frame received on the held alignment. A capture records it where its trigger came before (R127); its overhead is
kept for the positions that pass through the fabric (R110). -/
def State.rxInFrame (s : State) (c : Nat) (f : RxFrame) : State :=
  let r := lineFrame (s.client c) (s.role c == 0) (s.ch c).frm.par f
  let f := r.1
  let s := (s.capture c f).byteTrace c f
  let s := if isSdh (s.client c) then s.rxSdh c f else s.rxOtn c f
  let s := if s.role c == 0 then s.rxTraceOf c f else s
  let s := match f.ptype with
    | some v => s.rxPtype c v
    | none => s
  let s := (f.tribs.foldl (State.rxTrib c f) s).syncVc4 c
  (((s.rxCount c f).syncSsf c).modMon c fun m => { m with oh := f.oh }).modFrm c fun k => { k with par := r.2 }

/-- A frame received while dOOF is set. -/
def State.rxOutOfFrame (s : State) (c : Nat) (f : RxFrame) : State :=
  let s := s.modMon c fun m => { m with deg := m.deg.frame 0 true, exc := m.exc.frame 0 true }
  s.byteTrace c (looseFrame (s.client c) f)

/-- One ordered set of a 1000BASE-X client with its own auto-negotiation, ETH_GFP_VC (R52, R148): K28.5 first, then
D21.5 or D2.2 and a configuration word, or an idle. Three equal words that are not 0 are an ability, three with the
acknowledge bit an acknowledgement; the link timer of 10 ms runs after it and again before three idles bring the link.
(PRESUMED, notes/assumptions/161.md). -/
def anTake (a : AutoNeg) (now : Nat) (l : List (Nat × Byte)) : AutoNeg :=
  let g (i : Nat) : Nat := ((byteFor l i).getD 0).toNat
  let out : Bool := match a.timer with | some t => t ≤ now | none => true
  if g 0 != 0xBC then a
  else if g 1 = 0xB5 ∨ g 1 = 0x42 then
    let w := g 2 + 256 * g 3
    let same := a.word % 2 ^ 14 = w % 2 ^ 14 ∧ (a.st = 0 ∨ a.word = w)
    let a := { a with word := w, run := if same then min 3 (a.run + 1) else 1 }
    if w = 0 then { a with st := 0, timer := none }
    else if a.st = 0 ∧ a.run ≥ 3 then { a with st := 1, run := 0 }
    else if a.st = 1 ∧ a.run ≥ 3 ∧ w / 2 ^ 14 % 2 = 1 then { a with st := 2, run := 0, timer := some (now + 10000) }
    else if a.st = 2 ∧ out then { a with st := 3, run := 0, timer := some (now + 10000) }
    else if a.st = 4 ∧ a.run ≥ 3 then { a with st := 0, run := 0 }
    else a
  else
    let a := { a with run := if a.st = 3 then min 3 (a.run + 1) else 0 }
    if a.st = 2 ∧ out then { a with st := 3, timer := some (now + 10000) }
    else if a.st = 3 ∧ out ∧ a.run ≥ 3 then { a with st := 4, timer := none } else a

/-- The base page that the device sends: full duplex, no pause, with the acknowledgement once an ability is seen. -/
def anPage (a : AutoNeg) : Nat := 0x0020 + (if a.st = 0 then 0 else 0x4000)

/-- 25GBASE-R with RS-FEC, by CH_MODE (R52). -/
def State.fecOn (s : State) (c : Nat) : Bool := s.crb c 1 22

/-- Words received on a BASE-R client, or on one that is carried bit by bit, towards its mapper or PCS; what its PCS and
RS-FEC count (R131, R147, R149, R221). -/
def State.rxCodes (s : State) (c : Nat) (l : List (List Bool)) : State :=
  if (isBaseR (s.client c) || s.role c == 3) && !l.isEmpty then
    let r := codedIn (s.client c) (s.fecOn c) (s.ch c).coded l
    (((s.modCh c fun h => { h with coded := r.coded }).countCh c 0 r.blocks).countCh c 2 r.corr).countCh c 3 r.unc
  else s

/-- A frame with what the symbols of its lanes give: the bytes of a framed line, its logical lanes in the order of their
numbers, or the words of an Ethernet client (R49, R51, R64, R104, R106). -/
def State.rxLanes (s : State) (c : Nat) (f : RxFrame) : RxFrame × State :=
  if f.lanes.isEmpty then (f, s)
  else
    let r := s.lanesIn c f.lanes
    if s.framed c then
      let bits := (byOrder (s.ch c).frm.order r.1).flatten
      ({ f with raw := (pieces 8 bits.length bits).map byteOf }, r.2)
    else
      let n := wordLen (s.client c) (s.fecOn c)
      let words := r.1.map fun l => pieces n l.length l
      ({ f with codes := inTurn (words.headD []).length words }, r.2)

/-- What a receive side does with a frame. -/
def State.rxTaken (s : State) (c : Nat) (f : RxFrame) : State :=
  if s.framed c then
    let s := if s.aligned c then s.verify c (fasOk (s.verifyLen c) f.fas) else s
    if s.aligned c then s.rxInFrame c f else s.rxOutOfFrame c f
  else if isEth (s.client c) && s.chState c == stInFrame then
    let s := match f.ptype with
      | some v => s.rxPtype c v
      | none => s
    let s := s.rxCodes c f.codes
    if f.oh.isEmpty then s
    else
      let s := s.capture c f
      if s.client c = 0x20 && s.role c == 5 then s.modCh c fun h => { h with an := anTake h.an s.owl f.oh } else s
  else s

/-- RECEIVED_FRAME. -/
def State.rxFrame (s : State) (c : Nat) (f : RxFrame) : State :=
  if !s.enabled c || s.isMember c || s.chState c == stFaulted || (s.lane c).rxAsleep || s.checking c then s
  else
    let r := s.rxLanes c f
    r.2.rxTaken c r.1

/-! ### The commands -/

/-- R85 to R87, R109, R120 to R128, R157, R163, R205, R210, R217, R221, R431, R460. -/
def execReceivedFrame (c : Nat) (f : RxFrame) (s : State) : Out := .next (onCh c s (s.rxFrame c f))
/-- R205 bit 3, R210. -/
def execDlomTimerExpiry (c : Nat) (s : State) : Out := .next (onCh c s (s.dlomExpiry c))
/-- R127. -/
def execFrameCaptureDone (c : Nat) (s : State) : Out := .next (onCh c s (s.captureDone c))
/-- R128. -/
def execByteTraceDone (c : Nat) (s : State) : Out := .next (onCh c s (s.traceDone c))

end Sys2Proof.Machine
end

