-- ==== Sys2Proof/Machine/Packets.lean ====
section
/-!
DEFINITION. The packet units of GFP-F clients (11_packet_clients.md) with the GFP-F mapper and demapper (R150 to R154):
classification, policing, admission, the scheduler, shapers, gate lists, guard bands, time-aligned forwarding, samples.
-/
namespace Sys2Proof.Machine

/-- The packet units of channel c. -/
def State.pkt (s : State) (c : Nat) : Packet := (s.ch c).pkt

/-- Change the packet units of channel c. -/
def State.modPkt (s : State) (c : Nat) (f : Packet → Packet) : State := s.modCh c fun h => { h with pkt := f h.pkt }

/-- PKT_EN. -/
def State.pktEn (s : State) (c : Nat) : Bool := s.crb c 14 31

/-- WIRE_ADJ. -/
def State.wireAdj (s : State) (c : Nat) : Nat := s.crf c 14 22 16

/-- GUAR_CELLS while PKT_EN is 1. -/
def State.guarCells (s : State) (c : Nat) : Nat := if s.pktEn c then s.crf c 14 15 0 else 0

/-- The mac rate of a client code in Gbit/s (R372). -/
def macRate (code : Nat) : Nat :=
  if code = 0x20 then 1 else if code = 0x21 then 10 else if code = 0x22 then 25 else if code = 0x23 then 50 else 100

/-- A frame is dropped: it counts as a dropped frame of the channel (R221, R352). -/
def State.dropped (s : State) (c : Nat) : State := s.countCh c 3 1

/-- An error of fixed check unit `sel` on channel c (R297). -/
def State.fixedErr (s : State) (c sel n : Nat) : State :=
  if s.crf c 26 31 28 = sel then s.count (chReg c 26) 15 0 n else s

/-- Add to a 48-bit counter of two table words, low word first; it wraps. -/
def State.add48 (s : State) (t e w n : Nat) : State :=
  let v := ((s.tbl t e (w + 1)).toNat * 2 ^ 32 + (s.tbl t e w).toNat + n) % 2 ^ 48
  s.setTblWords t 0 e w [BitVec.ofNat 32 v, BitVec.ofNat 32 (v / 2 ^ 32)]

/-- The queue number of queue q of channel c. -/
def qNum (c q : Nat) : Nat := 8 * c + q

/-- A frame discarded by R347, R373 or R377. -/
def State.dropOther (s : State) (c q : Nat) : State := (s.add48 0x1E (qNum c q) 6 1).dropped c

/-! ### The buffer (R359, R382) -/

/-- The cells of a frame of L bytes. -/
def cellsOf (l : Nat) : Nat := (l + 16 + 255) / 256

/-- Queue q. -/
def Packet.queue (p : Packet) (q : Nat) : EQueue := Store.get {} p.queues q

/-- Change queue q. -/
def Packet.modQueue (p : Packet) (q : Nat) (f : EQueue → EQueue) : Packet :=
  { p with queues := Store.mod {} p.queues q f }

/-- Every frame that holds cells, with its queue. -/
def Packet.frames (p : Packet) : List (QFrame × Nat) :=
  p.busy.toList ++ p.queues.foldl (fun l e => l ++ e.2.frames.map fun f => (f, e.1)) []

/-- Cells in use of the frames that satisfy p. -/
def Packet.cells (p : Packet) (f : QFrame × Nat → Bool) : Nat :=
  (p.frames.filter f).foldl (fun n x => n + x.1.cells) 0

/-- The depth of queue q: the cells its frames hold. -/
def Packet.depth (p : Packet) (q : Nat) : Nat := p.cells fun x => x.2 == q

/-- Cells in use over the device of the frames that satisfy p. -/
def State.bufCells (s : State) (f : QFrame → Bool) : Nat :=
  s.chans.foldl (fun n e => n + e.2.pkt.cells fun x => f x.1) 0

/-- Free cells of the shared pool. -/
def State.sharedFree (s : State) : Nat := 262144 - s.rf 0x7010 17 0 - s.bufCells fun f => !f.guar

/-- PKT_BUF_USED, PKT_SHARED_FREE and PKT_SHARED_MIN follow the buffer. -/
def State.bufSync (s : State) : State :=
  let n := s.sharedFree
  ((s.setReg 0x7004 (BitVec.ofNat 32 (s.bufCells fun _ => true))).setReg 0x7008 (BitVec.ofNat 32 n)).setReg 0x700C
    (BitVec.ofNat 32 (min n (s.rf 0x700C 18 0)))

/-- R359: a frame of L bytes is admitted to queue q in reserved cells (true), in shared cells (false), or not. -/
def State.admission (s : State) (c q l : Nat) : Option Bool :=
  let n := cellsOf l
  let p := s.pkt c
  let qmax := min 262144 (fld (s.tbl 0x1B (qNum c q) 0) 18 0)
  if qmax < p.depth q + n then none
  else if p.cells (fun _ => true) + n ≤ s.guarCells c then some true
  else if n ≤ s.sharedFree then some false
  else none

/-! ### Classification and policing (R349 to R355) -/

/-- VID, PCP and DEI of a frame (R349). -/
def State.tagOf (s : State) (c : Nat) (l : List Byte) : Nat × Nat × Bool :=
  (firstTag l).getD (0, s.crf c 14 26 24, false)

/-- The first enabled rule of the channel that matches (R350). -/
def State.ruleOf (s : State) (c vid pcp : Nat) : Option Nat :=
  (s.enabledEntries 0x18).find? fun e =>
    let w := s.tbl 0x18 e 0
    fld w 27 20 == c && (bit w 28 || fld w 11 0 == vid) && bit w (12 + pcp)

/-- The buckets of policer p, refilled up to now, in 1/8,000 byte: CIR in kbit/s fills CIR of them in a µs.
(DEDUCED, notes/assumptions/56.md). -/
def State.refilled (s : State) (p : Nat) : Policer :=
  let k := Store.get {} s.policers p
  let dt := s.owl - k.at_
  { tc := min (8000 * fld (s.tbl 0x19 p 3) 23 0) (k.tc + (s.tbl 0x19 p 1).toNat * dt)
    tp := min (8000 * fld (s.tbl 0x19 p 4) 23 0) (k.tp + (s.tbl 0x19 p 2).toNat * dt), at_ := s.owl }

/-- Put the buckets of a policer. -/
def State.setPolicer (s : State) (p : Nat) (k : Policer) : State :=
  { s with policers := Store.set {} s.policers p k }

/-- Both buckets full (R355, R356). -/
def State.fillPolicer (s : State) (p : Nat) : State :=
  s.setPolicer p { tc := 8000 * fld (s.tbl 0x19 p 3) 23 0, tp := 8000 * fld (s.tbl 0x19 p 4) 23 0, at_ := s.owl }

/-- The colour of a frame: 0 green, 1 yellow, 2 red (R353). A disabled policer passes it green. -/
def State.police (s : State) (p l : Nat) (dei : Bool) : Nat × State :=
  if s.entryOn 0x19 p then
    let k := s.refilled p
    let b := 8000 * l
    let col := if k.tp < b then 2 else if (bit (s.tbl 0x19 p 0) 30 && dei) || k.tc < b then 1 else 0
    let k := { k with tp := if col = 2 then k.tp else k.tp - b, tc := if col = 0 then k.tc - b else k.tc }
    (col, (s.setPolicer p k).countTbl 0x19 p (5 + col) 31 0 1)
  else (0, s)

/-- TC and TP as a read of the entry finds them. -/
def State.showPolicer (s : State) (p : Nat) : State :=
  if s.entryOn 0x19 p then
    let k := s.refilled p
    s.setTblWords 0x19 0 p 8 [BitVec.ofNat 32 (k.tc / 8000), BitVec.ofNat 32 (k.tp / 8000)]
  else s

/-! ### Snoop contexts on frames (R299) -/

/-- The enabled contexts of a mode that take a frame of the channel, in order (DEDUCED, notes/assumptions/59.md). -/
def State.snoops (s : State) (mode c : Nat) (l : List Byte) : List Nat :=
  (s.enabledEntries 8).filter fun x =>
    let w := s.tbl 8 x 1
    fld (s.tbl 8 x 0) 30 28 == mode && fld w 31 24 == c
      && (!bit w 12 || (match firstTag l with | some t => t.1 == fld w 11 0 | none => false))

/-- A context's profile and the bytes of its check. -/
def State.snoopAlg (s : State) (x : Nat) : CrcAlg × Nat :=
  let a := s.profile (fld (s.tbl 8 x 0) 27 24)
  (a, cdiv a.width 8)

/-- FRAME_APPEND contexts extend the frame, the last change before its FCS. -/
def State.snoopAppend (s : State) : List Nat → List Byte → List Byte × State
  | [], l => (l, s)
  | x :: r, l =>
    let a := s.snoopAlg x
    let s := (s.setRun x (a.1.reg a.1.init l)).countTbl 8 x 5 31 0 1
    s.snoopAppend r (l ++ numBytes a.2 (a.1.run l))

/-- FRAME_CHECK contexts strip what they check, the last one appended first: the bytes stripped, and whether every
check holds. -/
def State.snoopCheck (s : State) : List Nat → List Byte → Nat × Bool × State
  | [], _ => (0, true, s)
  | x :: r, l =>
    let a := s.snoopAlg x
    let body := l.take (l.length - a.2)
    let s := (s.setRun x (a.1.reg a.1.init body)).countTbl 8 x 5 31 0 1
    if l.drop (l.length - a.2) = numBytes a.2 (a.1.run body) then
      let z := s.snoopCheck r body
      (a.2 + z.1, z.2)
    else (a.2, false, s.countTbl 8 x 4 31 0 1)

/-! ### Ingress (R151, R348) -/

/-- The bytes the rate-adaptation store holds at most. -/
def mapperStore : Nat := 24576

/-- A recognised IEEE 1588 event message (R429, R430). -/
def State.recognised (s : State) (c : Nat) (l : List Byte) : Option PtpMsg :=
  if s.tsEn c && s.crb c 15 30 then ptpOf l (s.crf c 15 29 28) else none

/-- Steps 6 and 7: room in the store of R151, then a GFP frame of its bytes (R150). -/
def State.toStore (s : State) (c : Nat) (m : Mapped) (l : List Byte) : State :=
  if (s.pkt c).fifo.foldl (· + ·) 0 + m.len ≤ mapperStore then
    let z := gfpFrame (s.pkt c).scrOut 0 1 (s.crb c 1 6) (l ++ fcsBytes (fcsOf l))
    { s.modPkt c fun p => { p with fifo := p.fifo ++ [m.len], scrOut := z.2 } with
      mapped := s.mapped ++ [{ m with gfp := z.1 }] }
  else s.dropped c

/-- The bytes of step 5 before the check values: DEI, the tag of R375, the stamp of R432. -/
def State.edited (s : State) (c : Nat) (l : List Byte) (dei : Option Bool) (taf : Bool) : List Byte :=
  let v := s.stampAt c false
  let l := match dei with
    | some y => setDei l y
    | none => l
  let l := if taf then tafInsert l (stampSec v) (stampNs v) else l
  match s.recognised c l with
  | some m => if s.crb c 15 27 then ptpInsert l m (stampNs v) else l
  | none => l

/-- Steps 5 to 7 for a frame that passes (DEDUCED, notes/assumptions/59.md). -/
def State.ingressPass (s : State) (c : Nat) (f : EthFrame) (dei : Option Bool) (taf : Bool) : State :=
  let v := s.stampAt c false
  let z := s.snoopAppend (s.snoops 1 c f.payload) (s.edited c f.payload dei taf)
  let s := z.2
  let len := z.1.length + 4
  if len > 9600 then s.dropped c
  else s.toStore c
    { ch := c, len := len, dei := dei, taf := if taf then some (stampSec v % 65536, stampNs v) else none
      rxNs := if (s.recognised c f.payload).isSome && s.crb c 15 27 then some (stampNs v) else none } z.1

/-- Steps 2 to 4 on a channel with PKT_EN. -/
def State.classify (s : State) (c : Nat) (f : EthFrame) : State :=
  let t := s.tagOf c f.payload
  match s.ruleOf c t.1 t.2.1 with
  | none =>
    let s := s.countTbl 0x1C c 8 31 0 1
    if s.crb c 14 27 then s.dropped c else s.ingressPass c f none false
  | some e =>
    let s := s.countTbl 0x18 e 2 31 0 1
    let w0 := s.tbl 0x18 e 0
    let w1 := s.tbl 0x18 e 1
    let sdu := fld w1 30 17
    let mark (y : Bool) : Option Bool := if s.crb c 14 28 && tagged f.payload then some y else none
    if fld w0 30 29 = 2 then s.dropped c
    else if sdu != 0 && f.len > sdu then (s.countTbl 0x1C c 7 31 0 1).dropped c
    else if fld w0 30 29 = 0 then
      let r := s.police (fld w1 11 0) f.len t.2.2
      if r.1 = 2 then r.2.dropped c else r.2.ingressPass c f (mark (r.1 == 1)) (bit w1 31)
    else s.ingressPass c f none (bit w1 31)

/-- ETH_INGRESS_FRAME: what the PCS and the FEC counted (R221); on a GFP-F client the checks of R151, then R348. -/
def State.ethIngress (s : State) (c : Nat) (f : EthFrame) : State :=
  if isEth (s.client c) && s.enabled c && !s.isMember c && s.chState c == stInFrame then
    let s := (s.countCh c 0 f.badBlocks).countCh c 2 f.corr
    if s.gfpRole c then
      let s := if f.fcsOk then s else s.fixedErr c 1 1
      if f.len < 64 || f.len > 9600 || !f.fcsOk then s.dropped c
      else if s.pktEn c then s.classify c f
      else s.ingressPass c f none false
    else s.countCh c 3 f.uncorr
  else s

/-- The ODUflex of a client leaves on a line whose slots are those of an ODU2 (R139, R155). -/
def State.flexInOdu2 (s : State) (c : Nat) : Bool :=
  s.live.any fun e => s.selectedSrc e.2.2 == oduEp c 0 && epKind e.2.2.dest == 2 && s.client (epCh e.2.2.dest) == 0x10

/-- The container's payload rate in kbit/s (R139, R154). -/
def State.mapRate (s : State) (c : Nat) : Nat :=
  if s.role c = 4 then (containerOf 9 (s.crf c 1 15 9) !(s.flexInOdu2 c)).payload
  else (containerOf (s.crf c 1 8 7) 0).payload

/-- The store empties into the container: a frame of L bytes takes L + 8 bytes of it (R154). `n` is in 1/8,000 byte.
(DEDUCED, notes/assumptions/60.md). -/
def drainStore : List Nat → Nat → List Nat × Nat
  | [], _ => ([], 0)
  | l :: r, n => if (l + 8) * 8000 ≤ n then drainStore r (n - (l + 8) * 8000) else (l :: r, n)

/-- One OWL cycle of the mapper of channel c, with the fill of its store (R235). -/
def State.mapTick (s : State) (c : Nat) : State :=
  let p := s.pkt c
  if p.fifo.isEmpty then s
  else
    let d := drainStore p.fifo (p.spent + s.mapRate c)
    (s.modPkt c fun p => { p with fifo := d.1, spent := d.2 }).watermark c
      ((d.1.foldl (· + ·) 0) * 256 / mapperStore)

/-! ### Gate lists (R367 to R371) -/

/-- The list's entries cut at the cycle, the last one kept to its end: gates and duration. -/
def cutSegs : Nat → List (Nat × Nat) → List (Nat × Nat)
  | _, [] => []
  | 0, _ => []
  | n, [(g, _)] => [(g, n)]
  | n, (g, i) :: r => if n ≤ i then [(g, n)] else (g, i) :: cutSegs (n - i) r

/-- The segments of a list that lies in bank b of channel c. -/
def State.segs (s : State) (c b : Nat) (l : GateList) : List (Nat × Nat) :=
  cutSegs l.cycle ((List.range l.len).map fun e =>
    (fld (s.tbl 0x1D (128 * c + 64 * b + e) 0) 7 0, (s.tbl 0x1D (128 * c + 64 * b + e) 1).toNat))

/-- The entry in force at an offset, counted from k, with its gates. -/
def segAt : List (Nat × Nat) → Nat → Nat → Nat × Nat
  | [], _, k => (k, 255)
  | [(g, _)], _, k => (k, g)
  | (g, i) :: r, o, k => if o < i then (k, g) else segAt r (o - i) (k + 1)

/-- The offset of R369 in a list (DEDUCED, notes/assumptions/57.md). -/
def GateList.offset (l : GateList) (now : Nat) : Nat := (((now : Int) - l.at_) % (max 1 l.cycle : Nat)).toNat

/-- Entry and gates of the list in force; all open before any list. -/
def State.gateEntry (s : State) (c : Nat) : Nat × Nat :=
  match (s.pkt c).running with
  | some l => segAt (s.segs c (s.pkt c).bank l) (l.offset s.nowNs) 0
  | none => (0, 255)

/-- GATE_EN acts. -/
def State.gated (s : State) (c : Nat) : Bool := s.pktEn c && s.crb c 14 30

/-- The gates in force now. -/
def State.gatesNow (s : State) (c : Nat) : Nat := if s.gated c then (s.gateEntry c).2 else 255

/-- What remains of segments from an offset on. -/
def segsFrom : List (Nat × Nat) → Nat → List (Nat × Nat)
  | [], _ => []
  | (g, i) :: r, o => if o < i then (g, i - o) :: r else segsFrom r (o - i)

/-- How long gate q stays open from the start of segments. -/
def openRun (q : Nat) : List (Nat × Nat) → Nat
  | [] => 0
  | (g, i) :: r => if g.testBit q then i + openRun q r else 0

/-- How long gate q stays open in a list from an offset on; none for ever. -/
def openFor (q : Nat) (l : List (Nat × Nat)) (o : Nat) : Option Nat :=
  if l.all fun e => e.1.testBit q then none else some (openRun q (segsFrom l o ++ l))

/-- The longest unbroken open time of gate q; none where it never closes (R373). -/
def openLongest (q : Nat) (l : List (Nat × Nat)) : Option Nat :=
  if l.all fun e => e.1.testBit q then none
  else some ((List.range l.length).foldl (fun m i => max m (openRun q (l.drop i ++ l))) 0)

/-- R372: how long gate q stays open from now on, across an armed list's activation. -/
def State.openTime (s : State) (c q : Nat) : Option Nat :=
  let p := s.pkt c
  let now := s.nowNs
  let cur := match p.running with
    | some l => openFor q (s.segs c p.bank l) (l.offset now)
    | none => none
  match p.armed with
  | none => cur
  | some a =>
    let d := a.at_ - now
    let next := (openFor q (s.segs c (1 - p.bank) a) 0).map (d + ·)
    match cur with
    | some x => if x < d then some x else next
    | none => next

/-- Wire time in units of 1/r ns: 8 bits a byte at r Gbit/s. -/
def State.wireBits (s : State) (c l : Nat) : Nat := (l + s.wireAdj c) * 8

/-- The wire time of a frame fits a time in ns; none is unlimited. -/
def State.fits (s : State) (c l : Nat) (t : Option Nat) : Bool :=
  match t with
  | none => true
  | some n => s.wireBits c l ≤ n * macRate (s.client c)

/-- GATE_LIST_ACTIVATION: device time has reached the activation time (R369, R371). -/
def State.gateActivate (s : State) (c : Nat) : State :=
  match (s.pkt c).armed with
  | some a =>
    if a.at_ ≤ s.nowNs then
      let s := s.modPkt c fun p => { p with running := some a, armed := none, bank := 1 - p.bank }
      if s.crb c 17 31 then s.event 0x03 (c / 16) c 0x30 else s
    else s
  | none => s

/-- The gates as they are applied: a frame still being sent as its gate closes counts in OVERRUN, where no guard-band
engine prevents it (R374). -/
def State.gateApply (s : State) (c : Nat) : State :=
  let p := s.pkt c
  let g := s.gatesNow c
  let overrun := match p.busy with
    | some (_, q) => p.gbEngine.isNone && p.gates.testBit q && !g.testBit q
    | none => false
  let s := s.modPkt c fun p => { p with entry := (s.gateEntry c).1, gates := g }
  if overrun then s.countTbl 0x1C c 5 31 0 1 else s

/-- GATE_STAT as a read finds it (R370). -/
def State.gateStat (s : State) (c : Nat) : Word :=
  let p := s.pkt c
  BitVec.ofNat 32 (b2n p.armed.isSome * 2 ^ 31 + p.bank * 2 ^ 30 + b2n p.running.isSome * 2 ^ 29
    + (p.gbEngine.getD 31) * 2 ^ 24 + (s.gateEntry c).1 * 2 ^ 16 + s.gatesNow c)

/-! ### Shapers (R364 to R366) -/

/-- A bucket refilled up to now, at a rate in kbit/s, capped at its burst in bytes. -/
def State.bucket (s : State) (e : EQueue) (rate burst : Nat) : Int :=
  min (8000 * burst : Nat) (e.tokens + (rate * (s.owl - e.tokAt) : Nat))

/-- The tokens of the shaper of queue q; none where it is disabled. -/
def State.queueTokens (s : State) (c q : Nat) : Option Int :=
  let e := qNum c q
  if s.entryOn 0x1B e then
    some (s.bucket ((s.pkt c).queue q) (s.tbl 0x1B e 1).toNat (fld (s.tbl 0x1B e 2) 23 0))
  else none

/-- The tokens of the port shaper; none where it is disabled. -/
def State.portTokens (s : State) (c : Nat) : Option Int :=
  if s.entryOn 0x1C c then
    some (s.bucket (s.pkt c).port (s.tbl 0x1C c 1).toNat (fld (s.tbl 0x1C c 2) 23 0))
  else none

/-- A shaper that is disabled, or holds 0 or more tokens, lets a frame start. -/
def mayStart (t : Option Int) : Bool :=
  match t with
  | some x => decide (0 ≤ x)
  | none => true

/-- Reset the bucket of a queue's shaper by its mode. -/
def State.resetQueue (s : State) (c q : Nat) : State :=
  let e := qNum c q
  let v : Int := if bit (s.tbl 0x1B e 0) 30 then (8000 * fld (s.tbl 0x1B e 2) 23 0 : Nat) else 0
  s.modPkt c fun p => p.modQueue q fun x => { x with tokens := v, tokAt := s.owl }

/-- Reset the bucket of the port shaper by its mode. -/
def State.resetPort (s : State) (c : Nat) : State :=
  let v : Int := if bit (s.tbl 0x1C c 0) 30 then (8000 * fld (s.tbl 0x1C c 2) 23 0 : Nat) else 0
  s.modPkt c fun p => { p with port := { p.port with tokens := v, tokAt := s.owl } }

/-- TOKENS of a queue and of a port as a read finds them: whole bytes, rounded down. -/
def State.showQueue (s : State) (e : Nat) : State :=
  match s.queueTokens (e / 8) (e % 8) with
  | some t => s.setTbl 0x1B e 9 (ofSigned (t / 8000))
  | none => s

/-- GATE_STAT and TOKENS of a port entry. -/
def State.showPort (s : State) (c : Nat) : State :=
  let s := s.setTbl 0x1C c 3 (s.gateStat c)
  match s.portTokens c with
  | some t => s.setTbl 0x1C c 4 (ofSigned (t / 8000))
  | none => s

/-! ### Egress (R152, R357 to R359, R375 to R377) -/

/-- The enabled egress flow of a channel and VID (R357). -/
def State.flowOf (s : State) (c vid : Nat) : Option Nat :=
  (s.enabledEntries 0x1A).find? fun e => fld (s.tbl 0x1A e 0) 23 16 == c && fld (s.tbl 0x1A e 0) 11 0 == vid

/-- The queue of PCP_QMAP. -/
def State.qmap (s : State) (c pcp : Nat) : Nat := fld (s.tbl 0x1C c 0) (3 * pcp + 2) (3 * pcp)

/-- The carried stamp in ns: the seconds nearest to the device's own with the tag's low 16 bits (R376). -/
def State.carried (s : State) (sec16 ns : Nat) : Nat :=
  (((s.time.sec : Int) + signed 16 (sec16 + 65536 - s.time.sec % 65536)) * 1000000000 + ns).toNat

/-- The launch time of a frame on a flow, or none where the stamp check drops it (R376). -/
def State.launchOf (s : State) (e : Nat) (taf : Option (Nat × Nat)) : Option Nat :=
  let d := fld (s.tbl 0x1A e 1) 26 0
  let stamp := if bit (s.tbl 0x1A e 0) 29 then taf.map fun t => s.carried t.1 t.2 else some s.nowNs
  match stamp with
  | some v => if v + d > s.nowNs + d + 1000000 then none else some (v + d)
  | none => none

/-- Steps 2 to 5 for the bytes of a frame: its time-aligned forwarding tag goes, it joins its queue, or is dropped. -/
def State.enqueue (s : State) (c : Nat) (l : List Byte) : State :=
  let z := tafStrip l
  let len := z.1.length + 4
  let t := s.tagOf c z.1
  let flow := if s.pktEn c then s.flowOf c t.1 else none
  let q := if !s.pktEn c then 0 else match flow with
    | some e => fld (s.tbl 0x1A e 0) 26 24
    | none => s.qmap c t.2.1
  let taf := match flow with
    | some e => if bit (s.tbl 0x1A e 0) 30 then some e else none
    | none => none
  let late := match taf with
    | some e => (s.launchOf e z.2).isNone
    | none => false
  if late then (s.countTbl 0x1A (taf.getD 0) 6 31 0 1).dropped c
  else
    match s.admission c q len with
    | none => (s.add48 0x1E (qNum c q) 4 1).dropped c
    | some guar =>
      let x : QFrame := { len := len, cells := cellsOf len, guar := guar, at_ := s.owl
                          launch := taf.bind fun e => s.launchOf e z.2, flow := taf, bytes := z.1 }
      (s.modPkt c fun p => p.modQueue q fun k => { k with frames := k.frames ++ [x] }).bufSync

/-- A CSF frame or a client frame sets or clears dCSF, and its 300 ms (R205 bit 18). -/
def State.csfSeen (s : State) (c : Nat) (on : Bool) : State :=
  (s.setDef c dCSF on).modMon c fun m => { m with csfAt := if on then s.after 300000 else none }

/-- Delineation of channel c at a core header: dLFD follows SYNC; a cHEC error is counted, corrected or not. -/
def State.delineate (s : State) (c core : Nat) : State :=
  let was := (s.ch c).mon.gfp
  let g := gfpNext was core
  let err : Bool := match coreRead (was == .sync) core with
    | some (_, fixed) => fixed
    | none => was != .hunt
  let s := if err then s.fixedErr c 3 1 else s
  (s.modMon c fun m => { m with gfp := g }).setDef c dLFD (g != .sync)

/-- The header of a GFP frame, after the payload descrambler. -/
def State.gfpRead (s : State) (c : Nat) (f : EthFrame) : GfpHead :=
  gfpHead (descr43 (s.pkt c).scrIn (f.typ ++ f.payload)).1

/-- The history that a GFP frame leaves in the payload descrambler. -/
def State.gfpTake (s : State) (c : Nat) (f : EthFrame) : State :=
  s.modPkt c fun p => { p with scrIn := (descr43 p.scrIn (f.typ ++ f.payload)).2 }

/-- GFP_EGRESS_FRAME: a frame of the delineated container (R150, R152, R348) (DEDUCED, notes/assumptions/58.md). -/
def State.gfpEgress (s : State) (c : Nat) (f : EthFrame) : State :=
  if s.gfpRole c && s.enabled c && !s.isMember c && (s.ch c).mon.gfp == .sync && (s.grp (c / 16)).clk then
    let h := s.gfpRead c f
    let s := s.delineate c f.core
    if (s.ch c).mon.gfp != .sync then s
    else
      let s := s.gfpTake c f
      if h.csf then s.csfSeen c true
      else if !h.client then s.dropped c
      else
        let g := h.frame
        let s := if g.1.fcsOk then s else s.fixedErr c 2 1
        if (s.crb c 1 6 && !h.pfi) || !g.2 || !g.1.fcsOk || g.1.len > 9600 then s.dropped c
        else
          let s := s.csfSeen c false
          let z := s.snoopCheck (s.snoops 2 c g.1.payload).reverse g.1.payload
          let s := z.2.2
          if z.2.1 then s.enqueue c (g.1.payload.take (g.1.payload.length - z.1)) else s.dropped c
  else s

/-! ### The scheduler (R360 to R366, R372 to R379) -/

/-- LATE_SLACK of a flow entry. -/
def State.slack (s : State) (e : Nat) : Nat := fld (s.tbl 0x1A e 2) 15 0

/-- A time-aligned frame is late: device time has passed T plus LATE_SLACK. -/
def State.isLate (s : State) (f : QFrame) : Bool :=
  match f.launch with
  | some t => t + s.slack (f.flow.getD 0) < s.nowNs
  | none => false

/-- A head frame too long for any window of its gate (R373). -/
def State.oversize (s : State) (c q : Nat) (f : QFrame) : Bool :=
  (s.pkt c).gbEngine.isSome && s.gated c
    && (match (s.pkt c).running with
        | some l => !s.fits c f.len (openLongest q (s.segs c (s.pkt c).bank l))
        | none => false)

/-- Discard the frames that cannot stay at the head of queue q: oversize, or late under LATE_POL = DROP. -/
def State.purge (s : State) (c q : Nat) : List QFrame → List QFrame × State
  | [] => ([], s)
  | f :: r =>
    if s.oversize c q f then ((s.countTbl 0x1C c 6 31 0 1).dropOther c q).purge c q r
    else if s.isLate f && !bit (s.tbl 0x1A (f.flow.getD 0) 0) 28 then
      ((s.countTbl 0x1A (f.flow.getD 0) 5 31 0 1).dropOther c q).purge c q r
    else (f :: r, s)

/-- Discard at the head of queue q; its cells return (DEDUCED, notes/assumptions/55.md). -/
def State.purgeQueue (c : Nat) (s : State) (q : Nat) : State :=
  let l := ((s.pkt c).queue q).frames
  let r := s.purge c q l
  if r.1.length = l.length then s
  else (r.2.modPkt c fun p => p.modQueue q fun k => { k with frames := r.1 }).bufSync

/-- R360: queue q is eligible now. -/
def State.eligible (s : State) (c q : Nat) : Bool :=
  match ((s.pkt c).queue q).frames with
  | [] => false
  | f :: _ =>
    !s.pktEn c
      || ((s.gatesNow c).testBit q
          && ((s.pkt c).gbEngine.isNone || !s.gated c || s.fits c f.len (s.openTime c q))
          && mayStart (s.queueTokens c q)
          && (match f.launch with | some t => decide (t ≤ s.nowNs) | none => true))

/-- The correction of TX_MODE 2 and 3 on a message that carries its ingress nanoseconds (R432). -/
def State.corrOf (s : State) (c : Nat) (f : QFrame) : Option Nat :=
  match s.recognised c f.bytes with
  | some m =>
    if s.crf c 15 26 25 ≥ 2 then
      (ptpNs f.bytes m).map fun n => (stampNs (s.stampAt c true) + 1000000000 - n % 1000000000) % 1000000000
    else none
  | none => none

/-- The bytes of a frame as it leaves, with its FCS. -/
def State.leaving (s : State) (c : Nat) (f : QFrame) : List Byte :=
  let l := match s.recognised c f.bytes, s.corrOf c f with
    | some m, some n => ptpCorrect f.bytes m n
    | _, _ => f.bytes
  l ++ fcsBytes (fcsOf l)

/-- The head of queue q, with the rest behind it, becomes the frame being sent: both buckets pay for it; with PKT_EN =
0 there are no shapers (R345). -/
def State.takeHead (s : State) (c q : Nat) (f : QFrame) (r : List QFrame) : State :=
  let cost : Int := (8000 * (f.len + s.wireAdj c) : Nat)
  let qt := if s.pktEn c then s.queueTokens c q else none
  let pt := if s.pktEn c then s.portTokens c else none
  s.modPkt c fun p =>
    { p.modQueue q fun k => { k with
        frames := r
        tokens := (qt.map (· - cost)).getD k.tokens, tokAt := if qt.isSome then s.owl else k.tokAt } with
      busy := some (f, q)
      port := { p.port with tokens := (pt.map (· - cost)).getD p.port.tokens
                            tokAt := if pt.isSome then s.owl else p.port.tokAt }
      gates := s.gatesNow c }

/-- The counters of a frame that starts, and of its launch (R377). -/
def State.countStart (s : State) (c q : Nat) (f : QFrame) : State :=
  let s := (s.add48 0x1E (qNum c q) 0 1).add48 0x1E (qNum c q) 2 f.len
  match f.launch with
  | some _ => s.countTbl 0x1A (f.flow.getD 0) (if s.isLate f then 4 else 3) 31 0 1
  | none => s

/-- The stamp of an event message that starts (R428, R430). -/
def State.stampStart (s : State) (c : Nat) (f : QFrame) : State :=
  match s.recognised c f.bytes with
  | some m =>
    if s.crf c 15 26 25 % 2 = 1 then s.pushStamp c (mkStamp 0 m.typ c m.seq (s.stampAt c true) s.owl) else s
  | none => s

/-- The head frame of queue q starts. -/
def State.startFrame (s : State) (c q : Nat) : State :=
  match ((s.pkt c).queue q).frames with
  | [] => s
  | f :: r =>
    let s := (s.takeHead c q f r).countStart c q f
    State.stampStart
      { s with started := s.started ++ [{ ch := c, queue := q, len := f.len, corr := s.corrOf c f, bytes := s.leaving c f }] }
      c f

/-- SCHEDULER_DECISION: with the port idle, the highest eligible queue starts its head frame. -/
def State.schedule (s : State) (c : Nat) : State :=
  if s.gfpRole c && s.enabled c && (s.pkt c).busy.isNone && (s.grp (c / 16)).clk then
    let s := if s.pktEn c then s.each (List.range 8) (State.purgeQueue c) else s
    if s.pktEn c && !mayStart (s.portTokens c) then s
    else
      match [7, 6, 5, 4, 3, 2, 1, 0].find? (s.eligible c) with
      | some q => s.startFrame c q
      | none => s
  else s

/-- EGRESS_FRAME_END: the last byte leaves, the cells return, the port is idle (DEDUCED, notes/assumptions/54.md). -/
def State.frameEnd (s : State) (c : Nat) : State :=
  if (s.pkt c).busy.isSome then ((s.modPkt c fun p => { p with busy := none }).bufSync).checkStop (c / 16) else s

/-- TAF_LATE: the head of queue q has become late (R377). -/
def State.tafLate (s : State) (c q : Nat) : State := if q < 8 && s.pktEn c then State.purgeQueue c s q else s

/-! ### Sampling (R380, R381) -/

/-- PERIOD_US as it acts. -/
def State.samplePeriod (s : State) : Nat := max 125 (min 1000000 (s.rf 0x7000 19 0))

/-- The queues that hold a frame or show a level. -/
def State.sampled (s : State) : List Nat :=
  let held (e : Nat × Chan) : List Nat :=
    (e.2.pkt.queues.map fun k => qNum e.1 k.1) ++ e.2.pkt.busy.toList.map fun b => qNum e.1 b.2
  let shown := (s.tables.filter fun e => e.1 / 8388608 == 2 * 0x1B).map fun e => e.1 / 128 % 65536
  (s.chans.foldl (fun l e => l ++ held e) [] ++ shown).eraseDups

/-- One watermark: a sample at or above it after one below sets its flag and raises an event. -/
def State.queueMark (s : State) (e lvl was now flag code : Nat) : State :=
  if lvl != 0 && was < lvl && lvl ≤ now then
    let s := s.setTbl 0x1B e 5 (setBit (s.tbl 0x1B e 5) flag true)
    if s.crb (e / 8) 17 31 then s.event 0x03 (e / 128) (e / 8) (code + e % 8) else s
  else s

/-- One queue is sampled (DEDUCED, notes/assumptions/53.md). -/
def State.sampleQueue (s : State) (e : Nat) : State :=
  let p := s.pkt (e / 8)
  let d := p.depth (e % 8)
  let h := match (p.queue (e % 8)).frames with
    | f :: _ => min 0xFFFFFF (s.owl - f.at_)
    | [] => 0
  let d0 := fld (s.tbl 0x1B e 5) 18 0
  let h0 := fld (s.tbl 0x1B e 6) 23 0
  let s := (s.setTbl 0x1B e 5 (setFld (s.tbl 0x1B e 5) 18 0 d)).setTblWords 0x1B 0 e 6
    [BitVec.ofNat 32 h, BitVec.ofNat 32 (max d (fld (s.tbl 0x1B e 7) 18 0)), BitVec.ofNat 32 (max h (fld (s.tbl 0x1B e 8) 23 0))]
  (s.queueMark e (fld (s.tbl 0x1B e 3) 18 0) d0 d 31 0x18).queueMark e (fld (s.tbl 0x1B e 4) 23 0) h0 h 30 0x20

/-- QUEUE_SAMPLE: at a device time that is a multiple of the period, once for each. -/
def State.queueSample (s : State) : State :=
  let k := s.nowNs / 1000 / s.samplePeriod * s.samplePeriod
  if s.clocked && k != s.sampledAt then ({ s with sampledAt := k }).each s.sampled State.sampleQueue else s

/-! ### PKT_EN (R344 to R347) and the guard-band engines -/

/-- The lowest free guard-band engine. -/
def State.freeEngine (s : State) : Option Nat :=
  (List.range 16).find? fun n => !s.chans.any fun e => e.2.pkt.gbEngine == some n

/-- A setting of PKT_EN that has no effect. -/
def State.pktRefuse (s : State) (c : Nat) : Nat × State := (eParam, s.flagIgnored (.chan c 14))

/-- PKT_EN goes from 0 to 1, with the other fields as they stand: the status, and the state it leaves. -/
def State.pktEnable (s : State) (c : Nat) : Nat × State :=
  let eng := if s.crb c 14 29 then s.freeEngine else none
  let sum := s.rf 0x7010 17 0 + s.crf c 14 15 0
  if !s.gfpRole c || s.isMember c || (s.crb c 14 29 && eng.isNone) || sum > 196608 then s.pktRefuse c
  else
    let s := (s.setCrb c 14 31 true).setReg 0x7010 (BitVec.ofNat 32 sum)
    (stOk, ((s.modPkt c fun p => { p with gbEngine := eng }).bufSync).gateApply c)

/-- Discard the frames of queue q. -/
def State.flushQueue (c : Nat) (s : State) (q : Nat) : State :=
  let l := ((s.pkt c).queue q).frames
  (l.foldl (fun t _ => t.dropOther c q) s).modPkt c fun p => p.modQueue q fun k => { k with frames := [] }

/-- PKT_EN goes from 1 to 0: the engine is released and the queued frames are discarded. -/
def State.pktDisable (s : State) (c : Nat) : State :=
  let s := s.each (List.range 8) (State.flushQueue c)
  let s := s.setReg 0x7010 (BitVec.ofNat 32 (s.rf 0x7010 17 0 - s.guarCells c))
  let s := (s.setCrb c 14 31 false).modPkt c fun p => { p with gbEngine := none }
  (s.gateApply c).bufSync

/-! ### CSF and delineation (R150, R153, R205) -/

/-- CSF_TIMER: the mapper's CSF frame, one every 100 ms while the client has failed (R153); it goes through the payload
scrambler in its turn (R150) (DEDUCED, notes/assumptions/61.md). -/
def State.csfTimer (s : State) (c : Nat) : State :=
  let m := (s.ch c).mon
  if s.gfpRole c && s.enabled c && !s.isMember c && s.crb c 1 5 && s.clientFailed c then
    if m.csfSend.isNone || s.due m.csfSend then
      let upi := if s.def_ c dLOS then 1 else 2
      let z := gfpFrame (s.pkt c).scrOut 4 upi false []
      let s := s.modCh c fun h => { h with
        mon := { h.mon with csfSend := s.after 100000 }
        tx := { h.tx with csfUpi := some upi }
        pkt := { h.pkt with scrOut := z.2 } }
      { s with mapped := s.mapped ++ [{ ch := c, len := 0, gfp := z.1 }] }
    else s
  else s.modCh c fun h => { h with mon := { h.mon with csfSend := none }, tx := { h.tx with csfUpi := none } }

/-- DCSF_TIMER_EXPIRY: no CSF frame for 300 ms. -/
def State.dcsfExpiry (s : State) (c : Nat) : State :=
  if s.due (s.ch c).mon.csfAt && !s.defHeld c dCSF then s.csfSeen c false else s

/-- GFP_DELINEATION_CHANGE: a core header where one is expected. -/
def State.delineation (s : State) (c core : Nat) : State :=
  if s.gfpRole c && s.enabled c && !s.isMember c then s.delineate c core else s

/-- What the mapper sends while no client or CSF frame is ready: idle frames (R150). -/
def State.gfpFill (s : State) (c : Nat) : List Byte := if (s.pkt c).fifo.isEmpty then gfpIdle else []

/-! ### Firmware commands (R356, R366, R368) -/

/-- POLICER_SET. -/
def State.fxPolicerSet (q : Req) (ws : List Word) (s : State) : State :=
  let op := 0x0405
  let p := (wd ws 0).toNat
  let bad (b : Word) : Bool := b.toNat < 9600 || b.toNat > 16777215
  if ws.length != 5 then s.finish q op eLength 0 []
  else if p ≥ 4096 || !bit (s.tbl 0x19 p 0) 31 || (wd ws 2).toNat < (wd ws 1).toNat || (wd ws 2).toNat > 100000000
      || bad (wd ws 3) || bad (wd ws 4) then s.finish q op eParam 0 []
  else ((s.setTblWords 0x19 0 p 1 (ws.drop 1)).fillPolicer p).finish q op stOk 0 []

/-- SHAPER_SET. -/
def State.fxShaperSet (q : Req) (ws : List Word) (s : State) : State :=
  let op := 0x0406
  let w := wd ws 0
  let c := fld w 23 16
  let port := bit w 31
  let t := if port then 0x1C else 0x1B
  let e := if port then c else qNum c (fld w 2 0)
  let rate := (wd ws 1).toNat
  let burst := (wd ws 2).toNat
  if ws.length != 3 then s.finish q op eLength 0 []
  else if c ≥ 192 || !onlyBits w 0xC0FF0007 || !bit (s.tbl t e 0) 31 || rate = 0 || rate > 100000000 || burst = 0
      || burst > 16777215 then s.finish q op eParam 0 []
  else
    let s := (s.setTbl t e 0 (setBit (s.tbl t e 0) 30 (bit w 30))).setTblWords t 0 e 1 (ws.drop 1)
    (if port then s.resetPort c else s.resetQueue c (fld w 2 0)).finish q op stOk 0 []

/-- An entry of the inactive bank lies outside R367. -/
def State.badInterval (s : State) (c e : Nat) : Bool :=
  let i := (s.tbl 0x1D (128 * c + 64 * (1 - (s.pkt c).bank) + e) 1).toNat
  i < 64 || i > 1000000000

/-- GATE_ARM (DEDUCED, notes/assumptions/62.md). -/
def State.fxGateArm (q : Req) (ws : List Word) (s : State) : State :=
  let op := 0x0407
  let w := wd ws 0
  let c := fld w 23 16
  let len := fld w 5 0 + 1
  let cyc := (wd ws 3).toNat
  let at_ := (s.time.sec / 2 ^ 32 * 2 ^ 32 + (wd ws 1).toNat) * 1000000000 + (wd ws 2).toNat
  if ws.length != 4 then s.finish q op eLength 0 []
  else if c ≥ 192 || !onlyBits w 0x80FF003F then s.finish q op eParam 0 []
  else if bit w 31 && !s.gfpRole c then s.finish q op eParam 0 []
  else if bit w 31 then (s.modPkt c fun p => { p with armed := none }).finish q op stOk 0 []
  else if (wd ws 2).toNat > 999999999 then s.finish q op eParam 0 []
  else if at_ < s.nowNs + 100000 then s.finish q op eTimePast 0 []
  else if at_ > s.nowNs + 1000000000000 || (s.pkt c).armed.isSome || (List.range len).any (s.badInterval c)
      || cyc < 1000 || cyc > 1000000000 || !s.gfpRole c then s.finish q op eParam 0 []
  else (s.modPkt c fun p => { p with armed := some { at_ := at_, cycle := cyc, len := len } }).finish q op stOk 0 []

/-- Every armed list is cancelled (R371). -/
def State.gateCancel (s : State) : State :=
  s.each ((s.chans.filter fun e => e.2.pkt.armed.isSome).map Prod.fst) fun t c =>
    t.modPkt c fun p => { p with armed := none }

/-! ### The commands -/

/-- R151, R348 to R354, R375, R432. -/
def execEthIngressFrame (c : Nat) (f : EthFrame) (s : State) : Out := .next (onCh c s (s.ethIngress c f))
/-- R152, R348, R357 to R359, R376. -/
def execGfpEgressFrame (c : Nat) (f : EthFrame) (s : State) : Out := .next (onCh c s (s.gfpEgress c f))
/-- R360 to R365, R372, R373, R377 to R379, R432. -/
def execSchedulerDecision (c : Nat) (s : State) : Out := .next (onCh c s (s.schedule c))
/-- R359. -/
def execEgressFrameEnd (c : Nat) (s : State) : Out := .next (onCh c s (s.frameEnd c))
/-- R377. -/
def execTafLate (c qn : Nat) (s : State) : Out := .next (onCh c s (s.tafLate c qn))
/-- R369, R374. -/
def execGateEntryChange (c : Nat) (s : State) : Out := .next (onGrpClk c s (s.gateApply c))
/-- R369, R371. -/
def execGateListActivation (c : Nat) (s : State) : Out := .next (onGrpClk c s ((s.gateActivate c).gateApply c))
/-- R380, R381. -/
def execQueueSample (s : State) : Out := .next (whileOn s s.queueSample)
/-- R153. -/
def execCsfTimer (c : Nat) (s : State) : Out := .next (onGrpClk c s (s.csfTimer c))
/-- R205. -/
def execDcsfTimerExpiry (c : Nat) (s : State) : Out := .next (onGrpClk c s (s.dcsfExpiry c))
/-- R150, R205. -/
def execGfpDelineationChange (c : Nat) (core : Nat) (s : State) : Out := .next (onGrpClk c s (s.delineation c core))

end Sys2Proof.Machine
end

