-- ==== Sys2Proof/Machine/FramesTx.lean ====
section
/-!
DEFINITION. Transmitted frames (R110 to R119, R121, R125, R129, R130, R132 to R134, R143 to R145, R157 to R159, R164 to
R167, R170, R182, R188, R199, R208, R211, R212, R245, R251, R275, R431, R524): what each destination sends, the owner of
every overhead byte, the data communication streams, parity, justification, the pointer generators.
-/
namespace Sys2Proof.Machine

/-! ### What a destination sends (R188, R199, R208 to R211, R245) -/

/-- A channel whose container is a client's: CBR and Ethernet roles. -/
def State.clientCh (s : State) (c : Nat) : Bool := isEth (s.client c) || (isSdh (s.client c) && s.role c != 0)

/-- The replacement that the mapper of an Ethernet client sends while its client has failed (R143). -/
def State.replacement (s : State) (c : Nat) : Nat := ((s.mapping c).map (·.repl)).getD 4

/-- What an endpoint on a channel shows: 0 its signal, 1 signal fail or a substituted container, otherwise the mapper's
replacement. An Ethernet client that has failed sends the replacement, unless it is FAULTED or disabled (R208, R209,
R214); an STM-N client whose lane sleeps is replaced by generic AIS, one with defects by R208 (R143)
(DEDUCED, notes/assumptions/175.md). -/
def State.chanState (s : State) (w : Word) : Nat :=
  let c := epCh w
  if isEth (s.client c) && s.enabled c && s.chState c != stFaulted then
    (if s.substitutes c || (s.lane c).rxAsleep then s.replacement c else 0)
  else if s.epFail w || s.substitutes c then 1
  else if s.clientCh c && (s.lane c).rxAsleep then s.replacement c
  else 0

/-- What a source shows. A remapper without its source sends a signal of its own (R167); the result of a HITLESS_TX
stream shows what its member does. -/
def State.srcState (s : State) (w : Word) : Nat :=
  let n := epStream w
  if epKind w = 4 then 0
  else if epKind w = 5 then
    (if s.redRole n = 1 && s.redOn n && !s.txHeld n then
        (match s.feeder (redEp n 0) with
         | some x => s.chanState x
         | none => 1)
      else if s.srcFail w then 1 else 0)
  else s.chanState w

/-- A structure entry that a destination's position rests on failed its parity (R199): of a VC-4-Xc that of any of its
VC-4s. -/
def State.structEntryBad (s : State) (d : Word) : Bool :=
  let c := epCh d
  let b := s.lineBank c
  let bad (v : Nat) : Bool := s.entryBad 1 b (80 * c + v)
  if epKind d = 1 then s.sdhLine c && (List.range (epX d)).any fun i => bad (epV d + i)
  else if epKind d = 3 then s.sdhLine c && bad (epV d)
  else epKind d == 2 && epTpn d != 0 && bad (epTpn d - 1)

/-- A 1:1 bridge leg whose group does not bridge (R245). -/
def State.legIdle (s : State) (d : Word) : Bool :=
  s.pgsOn.any fun p => s.pgArch p && !(s.pg p).bridged
    && (if s.pgLayer p = 0 then epIsOn d (fld (s.pgProt p) 7 0) else d == s.pgProt p)

/-- The live connection of a destination: bank, number, entry. -/
def State.connTo (s : State) (d : Word) : Option (Nat × Nat × Conn) := s.live.find? fun e => e.2.2.dest == d

/-- What a destination sends: 0 its source, 1 the maintenance signal of its container type, 2 unequipped or OCI, 3 to 6
the mapper's replacement. -/
def State.destState (s : State) (d : Word) : Nat :=
  if s.structEntryBad d then 1
  else match s.connTo d with
  | none => 2
  | some (b, n, k) =>
    if s.entryBad 2 b n then 1
    else if s.legIdle d then 2
    else s.srcState (s.selectedSrc k)

/-- The container at channel c's own fabric port: what a WHOLE line or a client channel sends. -/
def State.portEp (s : State) (c : Nat) : Word :=
  if s.role c = 5 && isEth (s.client c) then BitVec.ofNat 32 (2 ^ 28 + c * 2 ^ 20 + s.crf c 1 8 7 * 2 ^ 12) else oduEp c 0

/-- The endpoint word of a low-order VC. -/
def loEp (c v i lo : Nat) : Word := BitVec.ofNat 32 (3 * 2 ^ 28 + c * 2 ^ 20 + v * 2 ^ 14 + i * 2 ^ 7 + lo * 2 ^ 5)

/-- The low-order positions of a structured VC-4. -/
def State.loPositions (s : State) (b c v : Nat) : List Word :=
  (List.range 3).foldl (fun l k =>
    l ++ if s.isTu3 b c v k then [loEp c v k 0]
      else (List.range 7).foldl (fun m j =>
        let t := 7 * k + j
        m ++ if s.isTu11 b c v t then (List.range 4).map fun i => loEp c v (4 * t + i) 2
          else (List.range 3).map fun i => loEp c v (3 * t + i) 1) []) []

/-- The destination positions of a provisioned channel, by the structure of the bank in use (R138, R188). -/
def State.positions (s : State) (c : Nat) : List Word :=
  let b := s.lineBank c
  if s.sdhLine c then
    let named := (s.live.map fun e => e.2.2.dest).filter fun d => epKind d == 1 && epCh d == c
    (List.range (stmN (s.client c))).foldl (fun l v =>
      l ++ if s.vc4Mode b c v = 2 then s.loPositions b c v
        else match named.find? fun d => epV d ≤ v && v < epV d + epX d with
          | some d => if epV d = v then [d] else []
          | none => [vc4Ep c v]) []
  else if s.muxLine c then
    ((List.range (s.slotsOf c)).filter fun i => bit (s.line b c i 0) 31).map fun i => oduEp c (i + 1)
  else [s.portEp c]

/-- A destination with frames or multiframes of its own inside the line's: a low-order VC or a lower-order ODU. -/
def isLow (d : Word) : Bool := epKind d == 3 || (epKind d == 2 && epTpn d != 0)

/-- The positions that do not carry their source, with what they send. A lower-order one changes only where its own
frame begins (R172, R215). -/
def State.destList (s : State) (c : Nat) (f : TxFrame) : List (Nat × Nat) :=
  let h := (s.ch c).tx
  (s.positions c).filterMap fun d =>
    let n := d.toNat
    let held := isLow d && h.begun.contains n && !(f.conts.any fun e => e.dest == n)
    let k := if held then ((h.dests.find? fun e => e.1 == n).map Prod.snd).getD 0 else s.destState d
    if k = 0 then none else some (n, k)

/-- The lower-order positions whose own frame has begun. -/
def State.begunList (s : State) (c : Nat) (f : TxFrame) : List Nat :=
  ((s.positions c).filter isLow).filterMap fun d =>
    if (s.ch c).tx.begun.contains d.toNat || f.conts.any fun e => e.dest == d.toNat then some d.toNat else none

/-- What position d of the last frame sends. -/
def Tx.at_ (h : Tx) (d : Word) : Nat := ((h.dests.find? fun e => e.1 == d.toNat).map Prod.snd).getD 0

/-! ### Back-reports (R212) -/

/-- dTIM at a layer with TIM_ACT. -/
def State.timAt (s : State) (c layer : Nat) : Bool := s.crb c 8 28 && s.def_ c dTIM && s.ttiLayer c == layer

/-- MS-RDI. -/
def State.msRdi (s : State) (c : Nat) : Bool :=
  s.crb c 8 31 && (s.losAny c || s.def_ c dLOF || s.def_ c dAIS || s.timAt c 1)

/-- The endpoint word of the VC-4 or VC-4-Xc that begins at VC-4 v of channel c. -/
def State.vc4Word (s : State) (c v : Nat) : Word :=
  ((s.live.flatMap fun e => [e.2.2.src, e.2.2.alt, e.2.2.dest]).find? fun w =>
    epKind w == 1 && epCh w == c && epV w == v).getD (vc4Ep c v)

/-- The RDI of G1 of VC-4 v. -/
def State.hpRdi (s : State) (c v : Nat) : Bool :=
  let t := s.trib (s.vc4Word c v)
  s.crb c 8 31 && (t.ais || t.ptr == 2 || t.uneq || (s.timAt c 2 && s.ttiTrib c == v))

/-- The condition of SM BDI. -/
def State.smFail (s : State) (c : Nat) : Bool :=
  s.losAny c || s.def_ c dLOF || s.def_ c dLOM || s.timAt c 3

/-- SM BDI. -/
def State.smBdi (s : State) (c : Nat) : Bool := s.crb c 8 31 && s.smFail c

/-- PM BDI. -/
def State.pmBdi (s : State) (c : Nat) : Bool :=
  s.crb c 8 31 && (s.smFail c || s.def_ c dAIS || s.def_ c dLCK || s.def_ c dOCI || s.timAt c 4)

/-! ### The insertion map (R110, R112, R115, R116, R129) -/

/-- A source that the device makes itself: a client's container, a voting carrier, the container of a FRER stream (R116,
R129, R285, R290). -/
def State.madeHere (s : State) (w : Word) : Bool :=
  (epOnCh w && s.clientCh (epCh w)) || (epKind w == 5 && 3 ≤ s.redRole (epStream w)) || epKind w == 4

/-- The source that destination d selects now. -/
def State.srcOf (s : State) (d : Word) : Option Word := (s.connTo d).map fun e => s.selectedSrc e.2.2

/-- The source whose container destination d carries: through a HITLESS_TX stream that of its member (R267). -/
def State.contOf (s : State) (d : Word) : Option Word :=
  match s.srcOf d with
  | some w => if epKind w = 5 && s.redRole (epStream w) = 1 then s.feeder (redEp (epStream w) 0) else some w
  | none => none

/-- The destination word of VC-4 v: its own, or that of the VC-4-Xc around it. -/
def State.vc4Dest (s : State) (c v : Nat) : Word :=
  ((s.live.map fun e => e.2.2.dest).find? fun d =>
    epKind d == 1 && epCh d == c && epV d ≤ v && v < epV d + epX d).getD (vc4Ep c v)

/-- The VC-4 position v of channel c is terminated: it carries the low-order pool or a mapped client (R116). -/
def State.termVc4 (s : State) (c v : Nat) : Bool :=
  s.vc4Mode (s.lineBank c) c v == 2 || (s.contOf (s.vc4Dest c v)).any s.madeHere

/-- The line-level ODU of channel c is terminated (R129). -/
def State.termOdu (s : State) (c : Nat) : Bool := s.muxLine c || (s.contOf (oduEp c 0)).any s.madeHere

/-- VC-4 v is not the first of a VC-4-Xc (R112). -/
def State.innerVc4 (s : State) (c v : Nat) : Bool :=
  s.live.any fun e => let d := e.2.2.dest
    epKind d == 1 && epCh d == c && epV d < v && v < epV d + epX d

/-- The TCM level whose bytes hold OTN index i, and which of its three bytes; 0 elsewhere. -/
def tcmOf (i : Nat) : Nat × Nat :=
  if 20 ≤ i ∧ i ≤ 28 then (6 - (i - 20) / 3, (i - 20) % 3)
  else if 32 ≤ i ∧ i ≤ 40 then (3 - (i - 32) / 3, (i - 32) % 3)
  else (0, 0)

/-- TCM_GEN of a level. -/
def State.tcmGen (s : State) (c lvl : Nat) : Bool := s.crb c 10 (4 + lvl)

/-- The default source of a position and the sources it allows: section and line overhead of SDH (R115). -/
def sohRule (i : Nat) : Nat × List Nat :=
  if i ≤ 5 ∨ i = 9 ∨ (27 ≤ i ∧ i ≤ 38) ∨ i = 81 then (0, [0])
  else if i = 6 ∨ i = 39 ∨ i = 42 then (0, [0, 1])
  else if i = 18 ∨ i = 21 ∨ i = 24 ∨ (45 ≤ i ∧ i ≤ 69 ∧ i % 3 = 0) then (1, [1, 2])
  else if i ≤ 80 then (1, [1])
  else (0, [0])

/-- Higher-order path overhead (R116). -/
def pohRule (term lo : Bool) (row : Nat) : Nat × List Nat :=
  let p (d : Nat) := if term then d else 3
  if row = 0 ∨ row = 2 then (p 0, [0, 1, 3])
  else if row = 1 then (0, [0])
  else if row = 3 then (p 0, [0, 3])
  else if row = 5 then (p (if lo then 0 else 1), [0, 1, 3])
  else (p 1, [1, 3])

/-- OTN overhead (R129). -/
def otnRule (term gen : Bool) (i : Nat) : Nat × List Nat :=
  if i ≤ 9 ∨ i = 14 ∨ i = 15 ∨ i = 30 ∨ i = 31 ∨ i = 46 ∨ i = 47 ∨ i = 62 ∨ i = 63 then (0, [0])
  else if i = 10 ∨ i = 11 then (1, [1, 2])
  else if i = 18 ∨ i = 19 ∨ i = 44 ∨ i = 45 then (1, [1, 3])
  else if (tcmOf i).1 != 0 then (if gen then 0 else 3, [0, 1, 3])
  else if i = 29 then (if term then 1 else 3, [1, 3])
  else if 41 ≤ i ∧ i ≤ 43 then (if term then 0 else 3, [0, 3])
  else if 48 ≤ i ∧ i ≤ 51 then (1, [1, 2, 3])
  else if 52 ≤ i ∧ i ≤ 55 then (0, [0, 1, 3])
  else if i ≤ 61 then (1, [1])
  else (0, [0])

/-- The rule of a position of a channel. Reserved indices, and those of a channel that is no line, act as GEN. -/
def State.ohRule (s : State) (c i : Nat) : Nat × List Nat :=
  if s.sdhLine c then
    if i < 128 then sohRule i
    else
      let v := (i - 128) / 9
      if v < stmN (s.client c) && !s.innerVc4 c v then
        pohRule (s.termVc4 c v) (s.vc4Mode (s.lineBank c) c v == 2) ((i - 128) % 9)
      else (0, [0])
  else if isOtn (s.client c) then otnRule (s.termOdu c) (s.tcmGen c (tcmOf i).1) i
  else (0, [0])

/-- A word of the insertion map has been written since reset; the mark stands in bank 1 of the table. -/
def State.insWritten (s : State) (c i : Nat) : Bool := s.tblB 0x11 1 (64 * c + 4 + i / 256) (i % 256 / 16) == 1

/-- The code of index i as a read shows it: the code written, or the default. -/
def State.insCode (s : State) (c i : Nat) : Nat :=
  if s.insWritten c i then (s.ohByte c (0x100 + i / 4)).toNat / 4 ^ (i % 4) % 4 else (s.ohRule c i).1

/-- The source that acts at index i (DEDUCED, notes/assumptions/70.md). -/
def State.insActs (s : State) (c i : Nat) : Nat :=
  let r := s.ohRule c i
  let k := s.insCode c i
  if r.2.contains k then k else r.1

/-- The FIXED value of index i. -/
def State.fixedByte (s : State) (c i : Nat) : Byte := s.ohByte c (0x200 + i)

/-! ### Data communication streams (R133, R134) -/

/-- The buffers of a stream. -/
def State.stream (s : State) (slot : Nat) : DccStream := Store.get {} s.streams slot

/-- Change the buffers of a stream. -/
def State.modStream (s : State) (slot : Nat) (f : DccStream → DccStream) : State :=
  { s with streams := Store.mod {} s.streams slot f }

/-- The indices that a stream type owns, in transmission order. -/
def streamPos (typ : Nat) : List Nat :=
  if typ = 0 then [18, 21, 24] else if typ = 1 then [45, 48, 51, 54, 57, 60, 63, 66, 69]
  else if typ = 2 then [10, 11] else if typ = 3 then [48, 49] else if typ = 4 then [50, 51]
  else if typ = 5 then [48, 49, 50, 51] else []

/-- The type exists on the channel's line. -/
def State.streamFits (s : State) (c typ : Nat) : Bool :=
  if typ ≤ 1 then s.sdhLine c else typ ≤ 5 && isOtn (s.client c)

/-- The word of a stream. -/
def State.streamWord (s : State) (slot : Nat) : Word := s.tbl 0x12 slot 0

/-- The enabled streams of channel c. -/
def State.streamsOf (s : State) (c : Nat) : List Nat :=
  (List.range 64).filter fun n => s.entryOn 0x12 n && fld (s.streamWord n) 23 16 == c
    && s.streamFits c (fld (s.streamWord n) 15 12)

/-- Zero-bit insertion after five ones. -/
def stuff : Nat → List Bool → List Bool
  | _, [] => []
  | k, b :: r => if b then (if k = 4 then true :: false :: stuff 0 r else true :: stuff (k + 1) r) else false :: stuff 0 r

/-- The flag 0x7E. -/
def flagBits : List Bool := [false, true, true, true, true, true, true, false]

/-- FCS-16 of ISO/IEC 13239. -/
def algFcs16 : CrcAlg := { width := 16, refin := true, refout := true, poly := 0x1021, init := 0xFFFF, xorout := 0xFFFF }

/-- The bits of one HDLC frame between two flags; octets and the FCS go least significant bit first.
(PRESUMED, notes/assumptions/65.md). -/
def hdlcBits (fcs32 : Bool) (l : List Byte) : List Bool :=
  let body := l.foldl (fun m b => m ++ lowBits b.toNat 8) []
  let fcs := if fcs32 then lowBits (algCrc32.run l) 32 else lowBits (algFcs16.run l) 16
  flagBits ++ stuff 0 (body ++ fcs) ++ flagBits

/-- The bits that follow when a stream has sent those it holds: its next frame, flags, or in raw mode the free byte.
What it was sending is sent then. -/
def DccStream.next (d : DccStream) (mode : Nat) (free : Byte) : DccStream × Bool :=
  let d := { d with sending := none, sent := d.sent ++ d.sending.toList }
  match d.tx with
  | (l, q) :: r =>
    ({ d with tx := r
              sending := q
              bits := d.bits ++ if mode = 2 then l.foldl (fun m b => m ++ bitsMsb b) [] else hdlcBits (mode == 1) l }, false)
  | [] => if mode = 2 then ({ d with bits := d.bits ++ bitsMsb free }, true) else ({ d with bits := d.bits ++ flagBits }, false)

/-- Fill a stream to n bits, with fuel; free bytes are numbered from k. -/
def DccStream.fill (mode n : Nat) : Nat → Nat → DccStream → DccStream × Nat
  | 0, k, d => (d, k)
  | f + 1, k, d =>
    if d.bits.length ≥ n then (d, k)
    else
      let r := d.next mode (BitVec.ofNat 8 (Config.free k).toNat)
      DccStream.fill mode n f (if r.2 then k + 1 else k) r.1

/-- The bytes that a stream sends in one frame at its indices; a command of the stream whose last reply they end is no
longer outstanding (R450) (DESIGN CHOICE, notes/assumptions/71.md). -/
def State.pullStream (s : State) (slot : Nat) : List (Nat × Byte) × State :=
  let w := s.streamWord slot
  let pos := streamPos (fld w 15 12)
  let n := 8 * pos.length
  let r := DccStream.fill (fld w 26 24) n (n + 1) s.freeCtr (s.stream slot)
  let out := (List.range pos.length).map fun i => ((pos[i]?).getD 0, byteOf ((r.1.bits.drop (8 * i)).take 8))
  let s := { s.modStream slot fun _ => { r.1 with bits := r.1.bits.drop n, sent := [] } with freeCtr := r.2 }
  (out, r.1.sent.foldl State.settle s)

/-- The bytes of all streams of a channel. -/
def State.pullAll (s : State) : List Nat → List (Nat × Byte) × State
  | [] => ([], s)
  | n :: r =>
    let a := s.pullStream n
    let b := a.2.pullAll r
    (a.1 ++ b.1, b.2)

/-! ### The transmit trace (R121, R125) -/

/-- A 16-byte trace of fifteen characters, with its CRC-7 in the first byte. -/
def trace16 (l : List Byte) : List Byte :=
  let z := 0x80 :: (l ++ List.replicate (15 - l.length) 0)
  BitVec.ofNat 8 (0x80 + algCrc7.run z) :: z.drop 1

/-- Bytes of a trace multiframe on the line. -/
def State.traceLen (s : State) (c : Nat) : Nat := if isSdh (s.client c) && !s.crb c 10 26 then 16 else 64

/-- The transmit-trace area as it is latched. -/
def State.traceArea (s : State) (c : Nat) : List Byte :=
  if isSdh (s.client c) && !s.crb c 10 26 then trace16 (s.ohBytes c 0x81 15) else s.ohBytes c 0x80 64

/-- The trace of TTI_LAYER is that of a lower-order ODU. -/
def State.traceLow (s : State) (c : Nat) : Bool := 4 ≤ s.ttiLayer c && s.ttiTrib c != 0

/-- The latch at the start of a trace multiframe, and the position of this frame in it. -/
def State.latchTrace (s : State) (c mfas : Nat) : State :=
  let i := if isOtn (s.client c) then mfas % 64 else (s.ch c).tx.traceIdx % s.traceLen c
  s.modCh c fun h => { h with tx := { h.tx with
    traceIdx := i, traceLatch := if i = 0 && !s.traceLow c then s.traceArea c else h.tx.traceLatch } }

/-- The latch of the trace of a lower-order ODU whose own trace multiframe begins. -/
def State.latchLow (s : State) (c : Nat) (f : TxFrame) : State :=
  if s.traceLow c && f.conts.any (fun k => k.dest == (oduEp c (s.ttiTrib c)).toNat && k.mfas % 64 == 0) then
    s.modCh c fun h => { h with tx := { h.tx with traceLatch := s.traceArea c } }
  else s

/-- The trace byte of this frame; none before the first latch. -/
def State.traceByte (s : State) (c : Nat) : Option Byte := ((s.ch c).tx.traceLatch)[(s.ch c).tx.traceIdx]?

/-- A byte of the all-zero trace of J1. -/
def nulTrace (i : Nat) : Byte := ((trace16 [])[i % 16]?).getD 0

/-! ### Maintenance of the whole channel (R85, R211, R524) -/

/-- The maintenance signal of the frame: 1 MS-AIS, 2 ODU-AIS, 3 ODU-OCI. -/
def State.txMaintOf (s : State) (c : Nat) : Nat :=
  if isSdh (s.client c) then
    if s.maintAll c then 1
    else if s.role c != 0 && (let k := s.destState (s.portEp c); k == 1 || k == 2) then 1
    else 0
  else if isOtn (s.client c) then
    if s.maintAll c then 2
    else if s.muxLine c then 0
    else
      let k := s.destState (oduEp c 0)
      if k = 1 then 2 else if k = 2 then 3 else 0
  else 0

/-- Low-power idle is enabled on a client that has it, and the port has nothing to send (R36, R52)
(DESIGN CHOICE, notes/assumptions/153.md). -/
def State.lpIdle (s : State) (c : Nat) : Bool :=
  let k := s.client c
  s.crb c 0 27 && (k == 0x21 || k == 0x22 || k == 0x24) && s.gfpRole c && (s.pkt c).busy.isNone
    && (s.pkt c).queues.all fun e => e.2.frames.isEmpty

/-- What an Ethernet transmitter sends (R132, R148, R211): on a client with sequence ordered sets 1 local fault and 2
remote fault, on 1000BASE-X 4 configuration ordered sets with an all-zero base page and 6 those of its auto-
negotiation; otherwise 5 low-power idle, 3 idles, 0 frames and idles. -/
def State.txEth (s : State) (c : Nat) : Nat :=
  let k := s.destState (s.portEp c)
  let fail := k = 1 || k = 2 || (s.gfpRole c && (s.def_ c dCSF || s.def_ c dLFD))
  let x := s.client c == 0x20
  if s.maintAll c || (fail && s.crb c 8 25) then (if x then 4 else 1)
  else if x && s.role c == 5 && !(s.ch c).an.linked then 6
  else if !x && s.def_ c dLF then 2
  else if fail then 3
  else if s.lpIdle c then 5
  else 0

/-! ### Protection bytes (R111, R251) -/

/-- K1 and K2 of an SDH line: the engine's on a member of a group, FIXED or 0 otherwise; bits 6 to 8 of K2 carry
MS-RDI while it is back-reported (R115) (DESIGN CHOICE, notes/assumptions/159.md). -/
def State.txK (s : State) (c : Nat) : Byte × Byte :=
  let rdi := s.msRdi c
  let put (k2 : Byte) : Byte := if rdi then BitVec.ofNat 8 (k2.toNat / 8 * 8 + 6) else k2
  match s.mspOf c with
  | some p => let l := s.pgApsBytes p; ((l[0]?).getD 0, put ((l[1]?).getD 0))
  | none =>
    let own := !(s.mspGroups c).isEmpty
    let b (i : Nat) : Byte := if !own && s.insActs c i = 1 then s.fixedByte c i else 0
    (b 39, put (b 42))

/-- The APS/PCC bytes of an ODU at a level, where it is a member of a group there: the group's on the protection member,
those of an unprotected signal on the working one (R111, R251). -/
def State.apsOf (s : State) (w : Word) (lvl : Nat) : Option (List Byte) :=
  match s.sncpOf w lvl with
  | some p => some (s.pgApsBytes p)
  | none =>
    if s.pgsOn.any fun p => s.pgLayer p != 0 && s.pgWork p == w && s.pgApsLevel p == lvl then some [0, 0, 0, 0] else none

/-- The APS/PCC bytes of this frame's level of the line-level ODU. -/
def State.oduAps (s : State) (c mfas : Nat) : Option (List Byte) := s.apsOf (oduEp c 0) (mfas % 8)

/-! ### PSEQ (R275) -/

/-- The HITLESS_TX stream whose result a destination carries. -/
def State.pseqOf (s : State) (d : Word) : Option Nat :=
  match s.connTo d with
  | some e => if e.2.2.typ = 12 && s.redRole (epStream e.2.2.src) = 1 && s.redOn (epStream e.2.2.src)
      then some (epStream e.2.2.src) else none
  | none => none

/-- The number of the frame of destination d that begins: every destination of a stream carries the numbers of the one
counter, which the first of them to begin a frame moves on (R22, R275) (DEDUCED, notes/assumptions/67.md). -/
def State.pseq (s : State) (n : Nat) (d : Word) : Nat :=
  let r := s.red n
  match Store.get none r.outBy d.toNat with
  | some k => if (r.outSeq + 65536 - k) % 65536 ≤ 1 then k else r.outSeq
  | none => r.outSeq

/-- One frame of each destination in a list has taken its number. -/
def State.pseqStep (s : State) (l : List Word) : State :=
  l.foldl (fun t d => match t.pseqOf d with
    | some n =>
      let k := t.pseq n d
      t.modRed n fun r => { r with
        outBy := Store.set none r.outBy d.toNat (some ((k + 1) % 65536))
        outSeq := if k = r.outSeq then (k + 1) % 65536 else r.outSeq
        startAt := if k = r.outSeq then some (k, t.nowNs) else r.startAt }
    | none => t) s

/-- Byte k of PSEQ, 0 the upper one. -/
def State.pseqByte (s : State) (n : Nat) (d : Word) (k : Nat) : Byte :=
  BitVec.ofNat 8 (if k = 0 then s.pseq n d / 256 else s.pseq n d)

/-! ### The content of a position (R110) -/

/-- Offset of an ODU overhead index in the frame of the ODU, row by row. -/
def oduOff (i : Nat) : Nat := i / 16 * 3824 + i % 16

/-- Offset of an overhead position in the frame of a SIGNAL, row by row: an index of R112 for an ODU, a row of the path
overhead for a VC. -/
def sigOff (g i : Nat) : Nat :=
  if g ≤ 3 then i * 261 * vcX g else if g ≤ 9 then oduOff i
  else if g = 10 then i * 85 else if g = 11 then i * 35 else i * 26

/-- The byte that a source received at position i of its container; none where the source received none. The result of
a stream that plays out holds its whole frame (DEDUCED, notes/assumptions/154.md). -/
def State.passByte (s : State) (w : Word) (i : Nat) : Option Byte :=
  let c := epCh w
  if epKind w = 1 then (if s.sdhLine c then byteFor (s.ch c).mon.oh (128 + 9 * epV w + i) else none)
  else if epKind w = 2 then
    (if epTpn w != 0 then byteFor (s.trib w).oh i
     else if isOtn (s.client c) then byteFor (s.ch c).mon.oh i else none)
  else if epKind w = 3 then byteFor (s.trib w).oh i
  else if epKind w = 5 && usesMem (s.redRole (epStream w)) then
    (s.red (epStream w)).out[sigOff (s.redSig (epStream w)).1 i]?
  else none

/-- The byte that destination d passes from the source it selects. -/
def State.passTo (s : State) (d : Word) (i : Nat) : Option Byte := (s.contOf d).bind fun w => s.passByte w i

/-! ### Parity (R115, R116, R129) -/

/-- The exclusive or of the first n bytes of the SDH scrambler (R104). -/
def scrXor (n : Nat) : Byte := xorAll (scrBytes [7, 6] n)

/-- Even parity over the odd and over the even bits: BIP-2. -/
def bip2 (x : Byte) : Nat := popcount 8 (x.toNat &&& 0xAA) % 2 * 2 + popcount 8 (x.toNat &&& 0x55) % 2

/-! ### Justification (R145, R146, R158, R159, R170) -/

/-- What GMP adapts of the client in the ODU at destination d: words of a server multiframe, rate of the client,
capacity, tolerance (PRESUMED, notes/assumptions/149.md). -/
def State.clientGmp (s : State) (d : Word) : Option (Nat × Nat × Nat × Nat) :=
  (s.contOf d).bind fun w =>
    if epOnCh w && isEth (s.client (epCh w)) && s.role (epCh w) == 3 then
      some (if s.client (epCh w) = 0x20 then (15232, codedKbps 0x20, (containerOf 4 0).payload, 120)
        else (190, codedKbps 0x24, (containerOf 8 0).payload, 120))
    else none

/-- The same of a lower-order ODU in its server. -/
def State.serverGmp (s : State) (d : Word) : Option (Nat × Nat × Nat × Nat) :=
  let c := epCh d
  let odu4 := s.slotsOf c == 80
  let n := popcount 96 (s.slotMask (s.lineBank c) c (epTpn d - 1))
  (s.muxSig (s.lineBank c) c (epTpn d - 1)).bind fun (g, k) =>
    if n = 0 then none
    else
      let x := containerOf g k odu4
      some (if odu4 then 15200 else 15232, x.kbps, n * (if odu4 then 1301709 else 1249410), x.ppm.getD 20 + 20)

/-- Nominal Cm, and the bounds within which Cm can justify. -/
def cmRange : Option (Nat × Nat × Nat × Nat) → Nat × Nat × Nat
  | some (words, kbps, cap, ppm) => (words * kbps / cap, cmBounds words kbps cap ppm)
  | none => (0, 0, 15232)

/-- The client in the ODU at destination d is adapted by AMP (R143, R145). -/
def State.clientAmp (s : State) (d : Word) : Bool :=
  (s.contOf d).any fun w => epOnCh w && (s.mapping (epCh w)).any fun m => m.method == .amp

/-- Where the justification of an ODU's client stands: with the ODU itself where it leaves whole, apart from that of the
ODU in its server otherwise. -/
def justKey (client : Bool) (d : Word) : Nat := if client && epTpn d != 0 then d.toNat + 2 ^ 32 else d.toNat

/-- The fill that a client's mapper shows (R171). -/
def State.mapFilled (s : State) (d : Word) (fill : Nat) : State :=
  match s.contOf d with
  | some w => if epOnCh w && s.clientCh (epCh w) then s.modCh (epCh w) fun h => { h with mapFill := fill } else s
  | none => s

/-- One multiframe of a mapper: AMP decides by the fill; GMP announces Cm, the nominal one in the first multiframe of a
lower-order ODU, and saturates at its bounds (R171). -/
def State.mapStep (c : Nat) (s : State) (m : MapTx) : State :=
  let d := BitVec.ofNat 32 m.dest
  if epKind d != 2 || epCh d != c then s
  else
    let cl := m.client || epTpn d == 0
    let k := justKey cl d
    let was := Store.get {} (s.ch c).tx.just k
    let r := cmRange (if cl then s.clientGmp d else s.serverGmp d)
    let cm := if was = {} && !cl then r.1 else max r.2.1 (min r.2.2 m.cm)
    let j : Justify := if (if cl then s.clientAmp d else s.byAmp d) then { amp := ampDecide m.fill, cnd := 1 }
      else { cm := cm, was := if was = {} then cm else was.cm, cnd := m.cnd }
    let s := if cl then s.mapFilled d m.fill else s
    s.modCh c fun h => { h with tx := { h.tx with just := Store.set {} h.tx.just k j } }

/-- The tributary slot whose overhead a frame of a MUX line carries: MFAS mod 8, or the frame's number mod 80, which is
the OMFI (PRESUMED, notes/assumptions/149.md). -/
def State.slotNow (s : State) (c mfas : Nat) : Nat := if s.slotsOf c = 8 then mfas % 8 else (s.ch c).tx.count % 80

/-- The lower-order ODU in a tributary slot. -/
def State.oduIn (s : State) (c j : Nat) : Option Word :=
  ((List.range (s.slotsOf c)).find? fun i =>
    bit (s.line (s.lineBank c) c i 0) 31 && (s.slotMask (s.lineBank c) c i).testBit j).map fun i => oduEp c (i + 1)

/-- A justification control byte: JC1 to JC3 at indices 15, 31, 47, JC4 to JC6 at 14, 30, 46, and the negative
opportunity at 63, which holds data under a negative decision. -/
def Justify.byte (j : Justify) (amp : Bool) (i : Nat) : Option Byte :=
  let k := i / 16
  if amp then
    (if i = 63 then (if j.amp < 0 then none else some 0) else if i % 16 = 15 then some (ampJc j.amp) else some 0)
  else if i = 63 then some 0
  else if i % 16 = 15 then (gmpJc j.was j.cm)[k]?
  else (gmpCnd j.cnd)[k]?

/-- A client that its ODU carries without justification: by BMP (R146), or frame by frame in GFP-F or voting slots. -/
def State.noJust (s : State) (d : Word) : Bool :=
  (s.contOf d).any fun w => epKind w == 5 || (epOnCh w && (s.isBmp (epCh w) || s.gfpRole (epCh w)))

/-- The OPU justification control of an ODU that a mapper of channel c fills. -/
def State.clientJc (s : State) (d : Word) (i : Nat) : Option Byte :=
  if s.noJust d then some 0
  else (Store.get {} (s.ch (epCh d)).tx.just (justKey true d)).byte (s.clientAmp d) i

/-- The OPU justification control of a frame of a terminated ODU. -/
def State.genJc (s : State) (c mfas i : Nat) : Option Byte :=
  if s.muxLine c then
    let j := s.slotNow c mfas
    if i = 63 && s.slotsOf c = 80 then some (BitVec.ofNat 8 j)
    else match s.oduIn c j with
      | some d => (Store.get {} (s.ch c).tx.just d.toNat).byte (s.byAmp d) i
      | none => some 0
  else s.clientJc (oduEp c 0) i

/-- The payload type of an ODU that a mapper fills (R143, R290). -/
def State.ptypeOf (s : State) (d : Word) : Option Nat :=
  (s.contOf d).bind fun w =>
    if epKind w = 5 then some (if s.redRole (epStream w) = 3 then 0x8A else 0x05) else s.expectedType (epCh w)

/-! ### Overhead bytes of a frame -/

/-- Bits of an error count, as BEI carries it; an incoming alignment error goes before (PRESUMED,
notes/assumptions/155.md). -/
def bei (iae : Bool) (n : Nat) : Nat := if iae then 0xB0 else min 8 n * 16

/-- C2 of a VC by the mapping that makes it (R116, R143, R205, R290). -/
def State.genC2 (s : State) (c v : Nat) : Option Byte :=
  if s.vc4Mode (s.lineBank c) c v = 2 then some 0x02
  else match s.contOf (s.vc4Dest c v) with
    | some w => if epKind w = 5 && s.redRole (epStream w) = 3 then some 0x8A
        else if s.termVc4 c v then some 0x1B else none
    | none => none

/-- The two SS bits of a pointer: 0b00 in SONET mode, 0b10 otherwise; a TU-12 or TU-11 carries its size (R118)
(PRESUMED, notes/assumptions/156.md). -/
def State.ssBits (s : State) (d : Word) : Nat :=
  if epKind d = 3 && epLo d = 1 then 2 else if epKind d = 3 && epLo d = 2 then 3
  else if s.crb (epCh d) 1 23 then 0 else 2

/-- The nine pointer bytes of AU v: those of its container, or the concatenation indication (R112, R115) (PRESUMED,
notes/assumptions/152.md). -/
def State.auBytes (s : State) (c v : Nat) : List Byte :=
  let d := s.vc4Dest c v
  let h := (s.ch c).tx
  let y : Byte := BitVec.ofNat 8 (0x93 + 4 * s.ssBits d)
  if h.at_ d = 1 then List.replicate 9 0xFF
  else if s.innerVc4 c v then [y, y, y, 0xFF, 0xFF, 0xFF, 0, 0, 0]
  else
    let w := ((h.ptrWord.find? fun e => e.1 == d.toNat).map Prod.snd).getD
      (let p := 0x6000 + s.ssBits d * 1024 + Store.get 0 h.ptrVal d.toNat
       [BitVec.ofNat 8 (p / 256), BitVec.ofNat 8 p, 0, 0, 0])
    [w.getD 0 0, y, y, w.getD 1 0, 0xFF, 0xFF, w.getD 2 0, w.getD 3 0, w.getD 4 0]

/-- M1: the violations since it was last sent (R115). -/
def State.genM1 (s : State) (c : Nat) : Byte :=
  BitVec.ofNat 8 (min (min 255 (24 * stmN (s.client c))) (s.ch c).tx.rei)

/-- What the device computes at an SDH index; none where the spec gives no value: parity before a first frame, the GEN
of a C2 that no mapping gives. -/
def State.genSdh (s : State) (c i : Nat) : Option Byte :=
  let h := (s.ch c).tx
  if i < 3 then some 0xF6
  else if i < 6 then some 0x28
  else if i = 6 then (if s.ttiLayer c = 1 then s.traceByte c else some 0x01)
  else if i = 9 then h.b1
  else if 27 ≤ i ∧ i ≤ 35 then (s.auBytes c 0)[i - 27]?
  else if 36 ≤ i ∧ i ≤ 38 then h.b2[(i - 36) * stmN (s.client c)]?
  else if i = 39 then some (s.txK c).1
  else if i = 42 then some (s.txK c).2
  else if i = 81 then some (s.genM1 c)
  else if i < 128 then none
  else
    let v := (i - 128) / 9
    let row := (i - 128) % 9
    if s.innerVc4 c v then some 0
    else if row = 0 then
      (if s.ttiLayer c = 2 && s.ttiTrib c == v then s.traceByte c
       else some (if s.termVc4 c v then nulTrace h.traceIdx else 0))
    else if row = 1 then Store.get none h.b3 v
    else if row = 2 then s.genC2 c v
    else if row = 3 then some (BitVec.ofNat 8 (bei false (s.trib (s.vc4Word c v)).rei + b2n (s.hpRdi c v) * 8))
    else if row = 5 then some (BitVec.ofNat 8 (0xFC + h.count % 4))
    else none

/-- One overhead byte of an SDH line, by the owners of R111. -/
def State.sdhByte (s : State) (c : Nat) (host : List (Nat × Byte)) (i : Nat) : Option Byte :=
  let h := (s.ch c).tx
  let k := s.insActs c i
  if i < 128 then
    let acts : Option Byte := if k = 0 then s.genSdh c i else if k = 1 then some (s.fixedByte c i) else none
    if i ≥ 27 && h.maint = 1 then some 0xFF
    else if i = 39 then some (s.txK c).1
    else if i = 42 then some (s.txK c).2
    else (byteFor host i).orElse fun _ => acts
  else
    let v := (i - 128) / 9
    let row := (i - 128) % 9
    let d := s.vc4Dest c v
    let free := s.vc4Mode (s.lineBank c) c v != 2
    let acts : Option Byte := if k = 0 then s.genSdh c i else if k = 1 then some (s.fixedByte c i) else s.passTo d row
    if h.maint = 1 || s.structEntryBad d || (!free && s.structEntryBad (vc4Ep c v)) || (free && h.at_ d == 1) then some 0xFF
    else if free && h.at_ d = 2 then (if row = 1 then s.genSdh c i else some 0)
    else if row = 6 then
      (match s.pseqOf d with
       | some n => some (s.pseqByte n d 1)
       | none => acts)
    else acts

/-- The PSI byte of a frame: the payload type, and the MSI of a MUX line (R157).
(DEDUCED, notes/assumptions/69.md). -/
def State.psiByte (s : State) (c mfas : Nat) : Option Byte :=
  let m := mfas % 256
  if s.muxLine c then
    if m = 0 then some 0x21
    else if 2 ≤ m ∧ m < 2 + s.slotsOf c then some (BitVec.ofNat 8 (s.msiByte (s.lineBank c) c (m - 2)))
    else some 0
  else if m != 0 then some 0
  else (s.ptypeOf (oduEp c 0)).map (BitVec.ofNat 8 ·)

/-- The three bytes of a generated TCM (R130): BEI, BIAE and BDI come from the monitor of the level, where it is set.
(DESIGN CHOICE, notes/assumptions/157.md). -/
def tcmBytes (trace : Option Byte) (bip : Option Byte) (mon iae bdi : Bool) (viol : Nat) : List (Option Byte) :=
  [trace, bip, some (BitVec.ofNat 8 ((if mon then bei iae viol + b2n bdi * 8 else 0) + 1))]

/-- A generated TCM of the line-level ODU. -/
def State.genTcm (s : State) (c lvl : Nat) : List (Option Byte) :=
  let h := (s.ch c).tx
  tcmBytes (if s.ttiLayer c = 4 + lvl && s.ttiTrib c == 0 then s.traceByte c else some 0) h.bip[1]?
    (s.crb c 10 (10 + lvl)) (h.iae.contains lvl)
    (s.crb c 8 31 && (Store.get {} (s.ch c).mon.tcm lvl).failOf.isSome) (Store.get 0 h.reiTcm lvl)

/-- The indices of the OPU overhead. -/
def opuOh : List Nat := [14, 15, 30, 31, 46, 47, 62, 63]

/-- What the device computes at an OTN index; of a switched ODU the OPU overhead goes through with its payload. -/
def State.genOtn (s : State) (c mfas i : Nat) : Option Byte :=
  let h := (s.ch c).tx
  let t := tcmOf i
  if i < 3 then some 0xF6
  else if i < 6 then some 0x28
  else if i = 6 then some (BitVec.ofNat 8 mfas)
  else if i = 7 then (if s.ttiLayer c = 3 then s.traceByte c else some 0)
  else if i = 8 ∨ i = 42 then h.bip[1]?
  else if i = 9 then some (BitVec.ofNat 8 (bei (h.iae.contains 0) h.rei + b2n (s.smBdi c) * 8))
  else if t.1 != 0 then ((s.genTcm c t.1)[t.2]?).join
  else if i = 41 then (if s.ttiLayer c = 4 && s.ttiTrib c == 0 then s.traceByte c else some 0)
  else if i = 43 then some (BitVec.ofNat 8 (bei false h.reiPath + b2n (s.pmBdi c) * 8 + 1))
  else if 52 ≤ i ∧ i ≤ 55 then some 0
  else if opuOh.contains i then
    (if !s.termOdu c then s.passTo (oduEp c 0) i else if i = 62 then s.psiByte c mfas else s.genJc c mfas i)
  else none

/-- One overhead byte of an OTU line, by the owners of R111. ODU-AIS spares the OTU overhead and FTFL, ODU-OCI the OTU
overhead (PRESUMED, notes/assumptions/64.md). -/
def State.otnByte (s : State) (c : Nat) (f : TxFrame) (host : List (Nat × Byte)) (i : Nat) : Option Byte :=
  let k := s.insActs c i
  let acts : Option Byte :=
    if k = 0 then s.genOtn c f.mfas i
    else if k = 1 then some (s.fixedByte c i)
    else if k = 2 then none
    else s.passTo (oduEp c 0) i
  let m := (s.ch c).tx.maint
  if i < 14 then (byteFor host i).orElse fun _ => acts
  else if m = 2 && i != 29 then some 0xFF
  else if m = 3 then some 0x66
  else if 52 ≤ i ∧ i ≤ 55 then
    (match s.oduAps c f.mfas with
     | some l => l[i - 52]?
     | none => acts)
  else if i = 44 ∨ i = 45 then
    (match s.pseqOf (oduEp c 0) with
     | some n => some (s.pseqByte n (oduEp c 0) (i - 44))
     | none => acts)
  else (byteFor host i).orElse fun _ => acts

/-- The indices of a line. -/
def State.indices (s : State) (c : Nat) : List Nat :=
  if s.sdhLine c then List.range 82 ++ (List.range (9 * stmN (s.client c))).map (128 + ·)
  else if isOtn (s.client c) then List.range 64 else []

/-- The overhead bytes of a frame by index; a byte that the spec leaves open is a free value, numbered from the counter
that stands (DESIGN CHOICE, notes/assumptions/63.md). -/
def State.sentBytes (s : State) (c : Nat) (f : TxFrame) (host : List (Nat × Byte)) : List (Nat × Byte) :=
  (s.indices c).map fun i =>
    (i, (if s.sdhLine c then s.sdhByte c host i else s.otnByte c f host i).getD
      (BitVec.ofNat 8 (Config.free (s.freeCtr + i)).toNat))

/-- Byte i of the section overhead of STM-1 number v + 1 of a frame whose indexed bytes are known (R113). -/
def State.sohByte (s : State) (c : Nat) (sent : List (Nat × Byte)) (i v : Nat) : Byte :=
  let n := stmN (s.client c)
  let h := (s.ch c).tx
  if i ≥ 27 && h.maint = 1 then 0xFF
  else if isM1 n i v then (byteFor sent 81).getD 0
  else if v = 0 then (byteFor sent i).getD 0
  else if i < 3 then 0xF6
  else if i < 6 then 0x28
  else if 27 ≤ i ∧ i ≤ 35 then (s.auBytes c v).getD (i - 27) 0
  else if 36 ≤ i ∧ i ≤ 38 then h.b2.getD ((i - 36) * n + v) 0
  else 0

/-- The section overhead of a frame in the order sent: row by row, byte-interleaved. -/
def State.sohAll (s : State) (c : Nat) (sent : List (Nat × Byte)) : List Byte :=
  (List.range 81).flatMap fun i => (List.range (stmN (s.client c))).map fun v => s.sohByte c sent i v

/-- The parity that the frames after this one carry: B1 over the scrambled frame, B2 over all but the first three rows
of the section overhead, B3 of every VC-4; the BIP-8 of the OPU. -/
def State.txParity (s : State) (c : Nat) (f : TxFrame) : State :=
  let h := (s.ch c).tx
  let n := stmN (s.client c)
  if s.sdhLine c then
    let b3 := (List.range n).foldl (fun m v =>
      let data := ((f.conts.find? fun e => e.dest == (s.vc4Dest c v).toNat).map ContTx.data).getD []
      let poh := (List.range 9).map fun r => (byteFor h.sent (128 + 9 * v + r)).getD 0
      Store.set none m v (some (xorAll data ^^^ xorAll poh))) h.b3
    s.modCh c fun k => { k with tx := { k.tx with
      b1 := some (xorAll h.section_ ^^^ xorAll f.area ^^^ scrXor (2421 * n % 127))
      b2 := xorClasses (3 * n) (h.section_.drop (27 * n) ++ f.area), b3 := b3 } }
  else
    let opu := opuOh.map fun i => (byteFor h.sent i).getD 0
    s.modCh c fun k => { k with tx := { k.tx with bip := (xorAll f.area ^^^ xorAll opu) :: h.bip.take 1 } }

/-! ### Lower-order tributaries (R114, R130, R165 to R167, R182, R185) -/

/-- TCM_GEN of a lower-order ODU's connection. -/
def State.loTcmGen (s : State) (d : Word) (lvl : Nat) : Bool := (s.connTo d).any fun e => bit e.2.2.ctl (3 + lvl)

/-- The trace byte of a lower-order ODU at layer k. -/
def State.loTrace (s : State) (d : Word) (k mfas : Nat) : Option Byte :=
  let c := epCh d
  if s.ttiLayer c = k && s.ttiTrib c == epTpn d then (s.ch c).tx.traceLatch[mfas % 64]? else some 0

/-- One overhead byte of a lower-order ODU: maintenance, the protection engine, PSEQ, a generated TCM, and what the
mapper generates where it terminates the ODU, the OPU overhead included (R114, R143, R145, R157); otherwise the byte is
passed (DEDUCED, notes/assumptions/158.md). -/
def State.loOduByte (s : State) (d : Word) (mfas i : Nat) : Option Byte :=
  let c := epCh d
  let h := (s.ch c).tx
  let t := s.trib d
  let made := (s.contOf d).any s.madeHere
  let bip := (Store.get [] h.loBip d.toNat)[1]?
  let lvl := (tcmOf i).1
  let rest : Option Byte := if made then some 0 else s.passTo d i
  if h.at_ d = 1 then (if i = 29 then rest else some 0xFF)
  else if h.at_ d = 2 then some 0x66
  else if 52 ≤ i ∧ i ≤ 55 then
    (match s.apsOf d (mfas % 8) with
     | some l => l[i - 52]?
     | none => rest)
  else if i = 44 ∨ i = 45 then
    (match s.pseqOf d with
     | some n => some (s.pseqByte n d (i - 44))
     | none => rest)
  else if lvl != 0 && s.loTcmGen d lvl then
    ((tcmBytes (s.loTrace d (4 + lvl) mfas) bip (s.tcmMon d lvl) (t.iae.contains lvl)
      (s.crb c 8 31 && (Store.get {} t.tcm lvl).failOf.isSome) (Store.get 0 t.reiTcm lvl))[(tcmOf i).2]?).join
  else if made && i = 62 then (if mfas % 256 = 0 then (s.ptypeOf d).map (BitVec.ofNat 8 ·) else some 0)
  else if made && opuOh.contains i then s.clientJc d i
  else if made && i = 41 then s.loTrace d 4 mfas
  else if made && i = 42 then bip
  else if made && i = 43 then some (BitVec.ofNat 8 (bei false t.rei + b2n (s.crb c 8 31 && s.epFail d) * 8 + 1))
  else rest

/-- One overhead byte of a low-order VC: TU-AIS, unequipped, generated by a remapper or for a voting carrier, or passed
(R182, R188, R290) (PRESUMED, notes/assumptions/172.md). -/
def State.loVcByte (s : State) (d : Word) (i : Nat) : Option Byte :=
  let h := (s.ch (epCh d)).tx
  let made := (s.contOf d).any s.madeHere
  let vc3 := epLo d == 0
  let bip := (Store.get [] h.loBip d.toNat)[0]?
  let label := if h.at_ d = 2 then 0 else if vc3 then 0x8A else 2
  if h.at_ d = 1 then some 0xFF
  else if made || h.at_ d == 2 then
    (if vc3 then (if i = 1 then bip else if i = 2 then some (BitVec.ofNat 8 label) else some 0)
     else if i = 0 then bip.map fun x => BitVec.ofNat 8 (bip2 x * 64 + label * 2) else some 0)
  else s.passTo d i

/-- The indices of the overhead of a lower-order tributary. -/
def loIndices (d : Word) : List Nat :=
  if epKind d = 2 then [14, 15] ++ (List.range 14).map (18 + ·) ++ (List.range 32).map (32 + ·)
  else if epLo d = 0 then List.range 9 else List.range 4

/-- The overhead of the lower-order tributaries that begin; a byte that the spec leaves open is not listed. -/
def State.loSent (s : State) (c : Nat) (f : TxFrame) : List (Nat × List (Nat × Byte)) :=
  f.conts.filterMap fun k =>
    let d := BitVec.ofNat 32 k.dest
    if isLow d && epCh d == c then
      some (k.dest, (loIndices d).filterMap fun i =>
        (if epKind d = 2 then s.loOduByte d k.mfas i else s.loVcByte d i).map fun b => (i, b))
    else none

/-- A lower-order tributary has begun: its parity for the frames that follow, its reports sent, and a multiframe out of
the remapper that feeds it; where that changes between its source and AIS, the pointer starts anew (R164, R167). -/
def State.loBegun (c : Nat) (s : State) (k : ContTx) : State :=
  let d := BitVec.ofNat 32 k.dest
  if isLow d && epCh d == c then
    let poh := ((((s.ch c).tx.lo.find? fun e => e.1 == k.dest).map Prod.snd).getD []).map Prod.snd
    let x := xorAll k.data ^^^ (if epKind d = 3 then xorAll poh else 0)
    let fed := epKind d == 3 && (s.srcOf d).any fun w => epKind w == 4
    let was := (s.trib d).out.ais
    let lost := (s.srcOf d).any s.srcFail
    let s := s.modCh c fun h => { h with tx := { h.tx with
      loBip := Store.mod [] h.tx.loBip k.dest fun l => x :: l.take 1 } }
    let s := s.modTrib d fun t => { t with
      rei := if epKind d = 2 then 0 else t.rei, reiTcm := []
      out := if fed then t.out.take (epLo d == 2) lost else t.out }
    if (s.trib d).out.ais != was then
      s.modCh c fun h => { h with tx := { h.tx with adjQuiet := Store.set 4 h.tx.adjQuiet k.dest 4 } }
    else s
  else s

/-! ### Pointer generators (R164, R169) -/

/-- The pointer of one destination whose frame or multiframe begins: what it does, and the frames it then keeps quiet.
-/
def ptrStep (quiet fill : Nat) : Option Int × Nat :=
  if quiet ≥ 4 then (some 0, 3)
  else if quiet > 0 then (none, quiet - 1)
  else if fill < 2 then (some 1, 3)
  else if fill > 6 then (some (-1), 3)
  else (none, 0)

/-- The pointer bytes of a frame for a move from a value: new data, an increment or decrement with its bits inverted, or
the value alone; three bytes for H3 follow. -/
def ptrBytes (ss old new : Nat) (move : Option Int) (neg : List Byte) : List Byte :=
  let w := match move with
    | some 0 => 0x9000 + ss * 1024 + new
    | some 1 => 0x6000 + ss * 1024 + (old ^^^ 0x2AA)
    | some _ => 0x6000 + ss * 1024 + (old ^^^ 0x155)
    | none => 0x6000 + ss * 1024 + old
  [BitVec.ofNat 8 (w / 256), BitVec.ofNat 8 w]
    ++ (if move = some (-1) then (neg ++ [0, 0, 0]).take 3 else [0, 0, 0])

/-- The pointer of one destination of a frame. -/
def Tx.pointer (t : Tx) (ss : Nat) (p : PtrTx) : Tx :=
  let d := BitVec.ofNat 32 p.dest
  let range := ptrRange d
  let r := ptrStep (Store.get 4 t.adjQuiet p.dest) p.fill
  let old := Store.get 0 t.ptrVal p.dest
  let new := match r.1 with
    | some 0 => p.start % range
    | some 1 => (old + 1) % range
    | some _ => (old + range - 1) % range
    | none => old
  { t with
    adjQuiet := Store.set 4 t.adjQuiet p.dest r.2, ptrVal := Store.set 0 t.ptrVal p.dest new
    ptrMove := match r.1 with | some m => t.ptrMove ++ [(p.dest, m)] | none => t.ptrMove
    ptrWord := t.ptrWord ++ [(p.dest, if t.at_ d = 1 then [0xFF, 0xFF, 0xFF, 0xFF, 0xFF]
      else ptrBytes ss old new r.1 p.neg)] }

/-- The pointers of a frame. -/
def State.pointers (c : Nat) (s : State) (p : PtrTx) : State :=
  let d := BitVec.ofNat 32 p.dest
  if epIsOn d c && epKind d != 2 then
    s.modCh c fun h => { h with tx := h.tx.pointer (s.ssBits d) p }
  else s

/-! ### TRANSMITTED_FRAME -/

/-- Change what channel c sends. -/
def State.modTx (s : State) (c : Nat) (f : Tx → Tx) : State := s.modCh c fun h => { h with tx := f h.tx }

/-- A parity error in a live connection of the channel, or of one that ends in a remapper or a stream: S2, and its
destination sends maintenance (R199) (DEDUCED, notes/assumptions/129.md). -/
def State.xcParity (c : Nat) (s : State) (n : Nat) : State :=
  match s.live.find? fun e => e.2.1 == n && (epIsOn e.2.2.dest c || !epOnCh e.2.2.dest) && !s.entryBad 2 e.1 n with
  | some e =>
    let on := epOnCh e.2.2.dest
    { s with tblBad := s.tblBad ++ [tblKey 2 e.1 n 0] }.report
      { src := 7, group := if on then some (c / 16) else none, chan := if on then some c else none
        acc := { access := 1, addr := 2 * 65536 + n } }
  | none => s

/-- A parity error in structure entry i of the channel, in the bank it follows. -/
def State.structParity (c : Nat) (s : State) (i : Nat) : State :=
  let b := s.lineBank c
  let e := 80 * c + i
  if i < 80 && !s.entryBad 1 b e then
    { s with tblBad := s.tblBad ++ [tblKey 1 b e 0] }.report
      { src := 7, group := some (c / 16), chan := some c, acc := { access := 1, addr := 65536 + e } }
  else s

/-- APS bytes now being transmitted (R124). -/
def State.showAps (s : State) (c mfas : Nat) : State :=
  if s.apsShown c mfas then
    let g (i : Nat) : Byte := (byteFor (s.ch c).tx.sent i).getD 0
    let w := if isSdh (s.client c) then word4 (g 39) (g 42) 0 0 else word4 (g 52) (g 53) (g 54) (g 55)
    s.setTbl 0x11 (64 * c + 3) 2 w
  else s

/-- The destinations of the channel whose container frame is in this frame. -/
def State.framesIn (s : State) (c : Nat) (f : TxFrame) : List Word :=
  if s.sdhLine c then (s.positions c).filter fun d => epKind d == 1
  else if s.muxLine c then (s.positions c).filter fun d => f.conts.any fun e => e.dest == d.toNat
  else [oduEp c 0]

/-- The line structure changes at the first frame or multiframe start after the swap (R170, R192). -/
def State.lineSwap (s : State) (c mfas : Nat) : State :=
  if s.sdhLine c || (s.muxLine c && s.slotNow c mfas == 0) then s.switchLine c else s

/-- What a frame of a line is made of: the states of its positions, its justification and its pointers. -/
def State.txBegin (s : State) (c : Nat) (f : TxFrame) : State :=
  let s := ((s.lineSwap c f.mfas).latchTrace c f.mfas).latchLow c f
  let s := s.modTx c fun t => { t with
    maint := s.txMaintOf c, dests := s.destList c f, begun := s.begunList c f, ptrMove := [], ptrWord := [] }
  f.ptrs.foldl (State.pointers c) (f.maps.foldl (State.mapStep c) s)

/-- The bytes of a frame of a line; a stream goes on under a maintenance signal (DESIGN CHOICE,
notes/assumptions/71.md) (DESIGN CHOICE, notes/assumptions/174.md). -/
def State.txBytes (s : State) (c : Nat) (f : TxFrame) : State :=
  let h := s.pullAll (s.streamsOf c)
  let s := h.2
  let out := s.sentBytes c f h.1
  let s := s.modTx c fun t => { t with
    sent := out, section_ := if s.sdhLine c then s.sohAll c out else [], lo := s.loSent c f }
  let s := s.modTx c fun t => { t with
    line := lineOut (s.client c) t.count (if s.sdhLine c then t.section_ else out.map Prod.snd) f.area }
  let bits := (s.ch c).tx.line.flatMap bitsMsb
  let m := subLanes (s.client c)
  let s := s.lanesOut c (if m = 1 then [bits] else pieces 6528 m bits)
  { s with freeCtr := s.freeCtr + 1024 }

/-- What each container that begins carries between client frames where a GFP-F mapper fills it (R150, R153, R285). -/
def State.gfpOf (s : State) (c : Nat) (f : TxFrame) : List (Nat × List Byte) :=
  f.conts.filterMap fun k =>
    let d := BitVec.ofNat 32 k.dest
    (s.contOf d).bind fun w =>
      if !epIsOn d c then none
      else if epOnCh w && s.gfpRole (epCh w) then some (k.dest, s.gfpFill (epCh w))
      else if epKind w = 5 && 4 ≤ s.redRole (epStream w) then some (k.dest, gfpIdle)
      else none

/-- Overhead bytes before each row of a container's data. -/
def rowsOf (heads : List (List Byte)) (data : List Byte) : List Byte :=
  let n := data.length / heads.length
  heads.zipIdx.flatMap fun e => e.1 ++ (data.drop (e.2 * n)).take n

/-- The bytes of the container of destination d in a frame, row by row. -/
def State.contBytes (s : State) (c : Nat) (f : TxFrame) (d : Word) : List Byte :=
  let h := (s.ch c).tx
  let k := (f.conts.find? fun e => e.dest == d.toNat).getD { dest := d.toNat, mfas := f.mfas, data := f.area }
  let lo := ((h.lo.find? fun e => e.1 == d.toNat).map Prod.snd).getD []
  let fas : List Byte := [0xF6, 0xF6, 0xF6, 0x28, 0x28, 0x28, BitVec.ofNat 8 k.mfas, 0, 0, 0, 0, 0, 0, 0]
  let at_ (i : Nat) : Byte := (byteFor (if isLow d then lo else h.sent) i).getD 0
  if epKind d = 1 then
    rowsOf ((List.range 9).map fun r => at_ (128 + 9 * epV d + r) :: List.replicate (epX d - 1) 0) k.data
  else if epKind d = 2 then
    rowsOf ((List.range 4).map fun r => (List.range 16).map fun i => if r = 0 ∧ i < 14 then fas.getD i 0 else at_ (16 * r + i))
      k.data
  else rowsOf ((List.range (if epLo d = 0 then 9 else 4)).map fun r => [at_ r]) k.data

/-- The destination that shows the result of a stream: the first that selects it. -/
def State.firstOut (s : State) (n : Nat) : Option Word :=
  (s.live.find? fun e => s.selectedSrc e.2.2 == redEp n 3).map fun e => e.2.2.dest

/-- The snoop contexts on the result of a TX or FRER stream run over its container as its first destination begins it
(R299) (DEDUCED, notes/assumptions/195.md). -/
def State.txSnoop (c : Nat) (f : TxFrame) (s : State) (d : Word) : State :=
  match s.srcOf d with
  | some w =>
    let n := epStream w
    if epKind w = 5 && s.redOn n && !usesMem (s.redRole n) && s.firstOut n == some d then
      s.snoopOn true n (s.contBytes c f d)
    else s
  | none => s

/-- A frame of a line. -/
def State.txLine (s : State) (c : Nat) (f : TxFrame) : State :=
  let s := (s.txBegin c f).txBytes c f
  let marker := isSdh (s.client c) && s.ttiLayer c == 1 && !s.crb c 10 26 && s.insActs c 6 == 0 && (s.ch c).tx.traceIdx == 0
  let s := f.conts.foldl (State.loBegun c) (s.txParity c f)
  let s := (s.modTx c fun t => { t with rei := 0, reiPath := 0, reiTcm := [], count := t.count + 1 }).showAps c f.mfas
  let s := (List.range (stmN (s.client c))).foldl (fun t v => t.modTrib (t.vc4Word c v) fun k => { k with rei := 0 }) s
  let l := s.framesIn c f
  let lows := (f.conts.map fun k => (BitVec.ofNat 32 k.dest : Word)).filter fun d => epKind d == 3 && epCh d == c
  let s := (l ++ lows).foldl (State.txSnoop c f) s
  let s := s.pseqStep l
  let s := if marker || (isOtn (s.client c) && f.mfas % 256 == 0) then s.frameStart c true else s
  s.modTx c fun t => { t with traceIdx := (t.traceIdx + 1) % s.traceLen c, gfp := s.gfpOf c f }

/-- The justification that the demapper of a CBR channel takes from the ODU it receives (R145). -/
def State.demapJust (s : State) (c : Nat) : Int :=
  match s.contOf (s.portEp c) with
  | some w => if s.role c = 1 then ampDecode ([15, 31, 47].map fun i => (s.passByte w i).getD 0) else 0
  | none => 0

/-- The words that an Ethernet client sends, through its PCS and RS-FEC to its lanes (R131, R147, R149, R211); a failed
1000BASE-X client sends the ordered sets of `Tx.eth` alone. -/
def State.txCodes (s : State) (c : Nat) (f : TxFrame) : State :=
  let eth := (s.ch c).tx.eth
  let code := s.client c
  if isBaseR code || (s.role c == 3 && eth == 0) then
    let words := if isBaseR code then f.words.map (ethBlock eth) else f.words
    let r := dealOut (subLanes code) (codedOut code (s.fecOn c) (s.ch c).coded words)
    (s.modCh c fun h => { h with coded := r.1 }).lanesOut c r.2
  else s

/-- TRANSMITTED_FRAME. A generator or a far-end loopback has a lane, except in the safe state, and the others of a bond
send on (R75, R524); a lane without swing sends nothing (R31, R56, R63). -/
def State.txFrame (s : State) (c : Nat) (f : TxFrame) : State :=
  if !s.provisioned c || s.isMember c || !s.swings c || (s.bond c).all s.laneTaken then s
  else
    let s := f.structFail.foldl (State.structParity c) (f.parityFail.foldl (State.xcParity c) s)
    if isEth (s.client c) then
      (s.modCh c fun h => { h with
        tx := { h.tx with eth := s.txEth c, dests := s.destList c f, page := anPage h.an } }).txCodes c f
    else if s.role c != 0 then
      s.modTx c fun t => { t with
        maint := s.txMaintOf c, dests := s.destList c f, sent := []
        just := Store.set {} t.just 0 { amp := s.demapJust c } }
    else s.txLine c f

/-! ### The commands -/

/-- R110 to R121, R125, R129, R134, R164, R188, R199, R211, R212, R245, R251, R275, R431, R524. -/
def execTransmittedFrame (c : Nat) (f : TxFrame) (s : State) : Out := .next (onCh c s (s.txFrame c f))

end Sys2Proof.Machine
end

