-- ==== Sys2Proof/Machine/Dcc.lean ====
section
/-!
DEFINITION. Data communication streams as the host sees them (R133 to R136), the mapper store slip of R171 and the
return of a BMP line's clock (R146).
-/
namespace Sys2Proof.Machine

/-! ### Reception (R134, R135) -/

/-- The bytes that a direction of a stream buffers at most. -/
def streamBuf : Nat := 4096

/-- Bytes waiting in a receive buffer. -/
def DccStream.rxLen (d : DccStream) : Nat := d.rx.foldl (fun n f => n + f.2.length) 0

/-- Bytes waiting in a transmit buffer (DEDUCED, notes/assumptions/72.md). -/
def DccStream.txLen (d : DccStream) : Nat := d.tx.foldl (fun n f => n + f.1.length) 0

/-- MODE of a stream. -/
def State.streamMode (s : State) (slot : Nat) : Nat := fld (s.streamWord slot) 26 24

/-- A stream that is enabled on a line of its type. -/
def State.streamOn (s : State) (slot : Nat) : Bool :=
  let w := s.streamWord slot
  slot < 64 && s.entryOn 0x12 slot && s.streamFits (fld w 23 16) (fld w 15 12)

/-- A frame, or raw bytes, join the receive buffer; a first one raises the overhead event. -/
def State.streamTake (s : State) (slot : Nat) (l : List Byte) : State :=
  let d := s.stream slot
  let c := fld (s.streamWord slot) 23 16
  let rx := if s.streamMode slot = 2 then
      (match d.rx with
       | [] => [(s.owl, l)]
       | f :: r => (f.1, f.2 ++ l) :: r)
    else d.rx ++ [(s.owl, l)]
  let s := s.modStream slot fun d => { d with rx := rx }
  if d.rx.isEmpty then s.event 0x08 (c / 16) c slot else s

/-- DCC_FRAME_RECEIVED on a stream that is no command source.
(DEDUCED, notes/assumptions/73.md; DEDUCED, notes/assumptions/74.md). -/
def State.dccRx (s : State) (slot : Nat) (l : List Byte) (fcsOk : Bool) : State :=
  let w := s.streamWord slot
  let c := fld w 23 16
  if s.streamOn slot && !bit w 30 && s.enabled c && s.aligned c && !l.isEmpty then
    if !fcsOk && s.streamMode slot != 2 then s.countTbl 0x12 slot 1 15 0 1
    else if (s.streamMode slot != 2 && l.length > 4000) || (s.stream slot).rxLen + l.length > streamBuf then
      s.countTbl 0x12 slot 1 31 16 1
    else s.streamTake slot l
  else s

/-! ### DCC_WR and DCC_RD (R135) -/

/-- DCC_WR. -/
def State.fxDccWr (q : Req) (ws : List Word) (s : State) : State :=
  let op := 0x0907
  let w := wd ws 0
  let n := fld w 15 0
  let slot := fld w 31 24
  if ws.length < 2 || ws.length > 1001 then s.finish q op eLength 0 []
  else if 1 ≤ n && n ≤ 4000 && ws.length != 1 + cdiv n 4 then s.finish q op eLength 0 []
  else if n = 0 || n > 4000 || !onlyBits w 0xFF00FFFF || !s.streamOn slot then s.finish q op eParam 0 []
  else
    let free := streamBuf - (s.stream slot).txLen
    if n > free then s.finish q op eLength 0 [BitVec.ofNat 32 free]
    else
      (s.modStream slot fun d => { d with tx := d.tx ++ [((unpackWords (ws.drop 1)).take n, none)] }).finish q op stOk 0 []

/-- The slot with the oldest waiting frame among a list; of two of one OWL cycle, the lower slot.
(DEDUCED, notes/assumptions/75.md). -/
def State.oldestRx (s : State) : List Nat → Option (Nat × Nat)
  | [] => none
  | n :: r =>
    match (s.stream n).rx, s.oldestRx r with
    | [], x => x
    | (t, _) :: _, none => some (n, t)
    | (t, _) :: _, some (m, u) => if t ≤ u then some (n, t) else some (m, u)

/-- One record: header word and the padded bytes. -/
def dccRecord (slot : Nat) (l : List Byte) : List Word := BitVec.ofNat 32 (slot * 2 ^ 24 + l.length) :: packWords l

/-- Take records while they fit `room` bytes; the first is always taken. -/
def State.dccTake (slots : List Nat) (top : Nat) : Nat → Nat → Bool → State → List Word × State
  | 0, _, _, s => ([], s)
  | fuel + 1, room, first, s =>
    match s.oldestRx slots with
    | none => ([], s)
    | some (n, _) =>
      match (s.stream n).rx with
      | [] => ([], s)
      | (t, l) :: r =>
        let k := if s.streamMode n = 2 then min l.length (top - 4) else l.length
        let size := 4 + (k + 3) / 4 * 4
        if first || size ≤ room then
          let z := (s.modStream n fun d => { d with rx := if k = l.length then r else (t, l.drop k) :: r }).dccTake
            slots top fuel (room - size) false
          (dccRecord n (l.take k) ++ z.1, z.2)
        else ([], s)

/-- DCC_RD. -/
def State.fxDccRd (q : Req) (ws : List Word) (s : State) : State :=
  let op := 0x0908
  let w := wd ws 0
  let slot := fld w 31 24
  let m := fld w 15 0
  let top := min (4 * maxCount q) (if m = 0 ∨ m > 4080 then 4080 else max 8 m)
  if ws.length != 1 then s.finish q op eLength 0 []
  else if !onlyBits w 0xFF00FFFF || (slot ≥ 64 && slot != 0xFF) then s.finish q op eParam 0 []
  else
    let r := s.dccTake (if slot = 0xFF then List.range 64 else [slot]) top 512 top true
    r.2.finish q op stOk 0 r.1

/-! ### Mapper stores (R171) and BMP clocks (R146) -/

/-- The low-order positions of line c that a remapper feeds and whose store has saturated. -/
def State.slippedOuts (s : State) (c : Nat) : List Word :=
  (s.live.map fun e => e.2.2.dest).filter fun d =>
    epKind d == 3 && epLo d != 0 && epCh d == c && ((s.srcOf d).any fun w => epKind w == 4)
      && (s.trib d).out.slips (epLo d == 2)

/-- The E1 and DS1 mappers of a line re-centre their stores (R171). -/
def State.remapSlip (s : State) (c : Nat) : State :=
  let l := s.slippedOuts c
  if l.isEmpty then s
  else (l.foldl (fun t d => t.modTrib d fun k => { k with out := k.out.recentre (epLo d == 2) }) s).slipped c

/-- MAPPER_STORE_SLIP: the store of a client's mapper re-centres (R171); a GFP-F mapper discards the frame that does
not fit; a BMP mapping never slips. -/
def State.mapperSlip (s : State) (c : Nat) : State :=
  if !s.enabled c || s.isMember c || s.isBmp c then s
  else if s.sdhLine c then s.remapSlip c
  else if !s.clientCh c then s
  else if s.gfpRole c then
    if (s.pkt c).fifo.isEmpty then s
    else (s.modPkt c fun p => { p with fifo := p.fifo.dropLast }).dropped c
  else (s.modCh c fun h => { h with mapFill := 4 }).slipped c

/-- The BMP client whose rate the transmit clock of line c follows: its ODU leaves whole on the line. -/
def State.bmpClient (s : State) (c : Nat) : Option Nat :=
  if isOtn (s.client c) && !s.muxLine c then
    match s.connTo (oduEp c 0) with
    | some e =>
      let w := s.selectedSrc e.2.2
      if epKind w = 2 && epTpn w = 0 && s.isBmp (epCh w) then some (epCh w) else none
    | none => none
  else none

/-- Lines that follow a client whose connection is gone return to TCLK. -/
def State.bmpEnd (s : State) : State :=
  s.each ((s.chans.filter fun e => e.2.lane.followsClient || e.2.lane.bmpReturn.isSome).map Prod.fst) fun t c =>
    if (t.bmpClient c).isNone then t.modLane c fun l => { l with followsClient := false, bmpReturn := none } else t

/-- Every line with a BMP client follows it, or falls back while it has failed. -/
def State.bmpTick (s : State) : State :=
  let s := s.bmpEnd
  s.live.foldl (fun t e =>
    let c := epCh e.2.2.dest
    if e.2.2.typ = 3 && epTpn e.2.2.dest = 0 then
      match t.bmpClient c with
      | some d => t.bmpFollow c d
      | none => t
    else t) s

/-- BMP_CLOCK_RETURN: 10 ms after the end of the client's failure the line follows it again. -/
def State.bmpBack (s : State) (c : Nat) : State :=
  if s.due (s.lane c).bmpReturn then
    match s.bmpClient c with
    | some d =>
      if s.clientFailed d || !s.enabled d then s.modLane c fun l => { l with bmpReturn := none }
      else s.modLane c fun l => { l with bmpReturn := none, followsClient := true }
    | none => s.modLane c fun l => { l with bmpReturn := none }
  else s

/-! ### The commands -/

/-- R134, R135. -/
def execDccFrameReceived (slot : Nat) (data : List Byte) (fcsOk : Bool) (s : State) : Out :=
  .next (whileOn s (s.dccRx slot data fcsOk))
/-- R171. -/
def execMapperStoreSlip (c : Nat) (s : State) : Out := .next (onCh c s (s.mapperSlip c))
/-- R146. -/
def execBmpClockReturn (c : Nat) (s : State) : Out := .next (onCh c s (s.bmpBack c))

end Sys2Proof.Machine
end

