-- ==== Sys2Proof/Machine/Steps.lean ====
section
/-!
DEFINITION. TIME_STEP (R420 to R422) with its effects on one-second records, swaps, gate lists and triggers (R193,
R225, R371, R436).
-/
namespace Sys2Proof.Machine

/-- Device time takes a new value: the second that is open closes short, and what waits for a time that has come goes
off at once. -/
def State.timeTo (s : State) (ns sub : Nat) : State :=
  let s := (s.pmSecond).markNearStep
  let s := s.refHistory s.time.open_
  let s := { s with time := { s.time with
    sec := ns / 1000000000, sub := ns % 1000000000 * 2 ^ 48 + sub, slew := 0, armTill := none } }
  let s := ((s.showSlew.setRb 0x3000 31 true).setRb 0x3000 30 false).closeSecond true
  let s := s.swapReached
  let s := s.each (allCh.filter fun c => (s.pkt c).armed.isSome) State.gateActivate
  let s := s.each (allCh.filter fun c => (s.pkt c).running.isSome) State.gateApply
  s.each [0, 1, 2, 3] State.trigFire

/-- The end of the seconds field in ns. -/
def timeEndNs : Nat := 2 ^ 48 * 1000000000

/-- A signed 64-bit value as two words, high word first. -/
def words64 (i : Int) : List Word :=
  let v := (BitVec.ofInt 64 i).toNat
  [BitVec.ofNat 32 (v / 2 ^ 32), BitVec.ofNat 32 v]

/-- TIME_STEP (DEDUCED, notes/assumptions/76.md). -/
def State.fxTimeStep (q : Req) (ws : List Word) (s : State) : State :=
  let op := 0x0603
  let w := wd ws 0
  let rel := bit w 31
  let now := s.nowNs
  let n : Int :=
    if rel then (now : Int) + signed 64 ((wd ws 1).toNat * 2 ^ 32 + (wd ws 2).toNat)
    else ((fld w 15 0 * 2 ^ 32 + (wd ws 1).toNat) * 1000000000 + (wd ws 2).toNat : Nat)
  if ws.length != 3 then s.finish q op eLength 0 []
  else if !onlyBits w (if rel then 0x80000000 else 0x0000FFFF) then s.finish q op eParam 0 []
  else if (!rel && (wd ws 2).toNat > 999999999) || n < 0 || n ≥ timeEndNs then s.finish q op eParam 0 []
  else if s.timeValid && (!s.rb 0x3000 30 || s.due s.time.armTill) then
    ((s.setRb 0x3028 30 true).timeEvent 0x21).finish q op eJump 0 []
  else
    (s.timeTo n.toNat (if rel then s.time.sub % 2 ^ 48 else 0)).finish q op stOk 0 (words64 (n - now))

end Sys2Proof.Machine
end

