-- ==== Sys2Proof/Machine/Twin.lean ====
section
/-!
DEFINITION. Twin pairing (10_twin_pairing.md): the link's reliable frames, the lease and its states, the pins, mirrored
state and its resynchronisation, sequence alignment, and the commands of the family.
-/
namespace Sys2Proof.Machine

/-! ### Roles and the lease's terms (R314, R323, R325) -/

/-- LEASE_LEN in use: the field, or the value held since the copies of LEASE_CFG all differed (R485). -/
def State.leaseN (s : State) : Nat := s.twin.lenHeld.getD (s.rf 0x4004 4 0)

/-- LEASE_LEN in µs (R312). -/
def State.leaseLen (s : State) : Nat := 1000 * (s.leaseN + 1)

/-- The lease end an acknowledged beat gives (R323). -/
def State.endAfter (s : State) (a : Nat) : Nat := a + 2000 + s.leaseLen - 20

/-- The claim point after a renewal's arrival (R325). -/
def State.claimAfter (s : State) (a : Nat) : Option Nat := some (a + s.leaseLen + 500)

/-- Put the epoch; TWIN_LINK shows its low half. -/
def State.setEpoch (s : State) (e : Nat) : State :=
  (s.modTwin fun t => { t with epoch := e % 2 ^ 32 }).setRf 0x401C 15 0 e

/-- SOLE takes a value (R324, R341). -/
def State.setSole (s : State) (v : Bool) : State :=
  if s.rb 0x4018 28 == v then s else (s.setRb 0x4018 28 v).twinEvent (if v then 0x20 else 0x21) 0xFF

/-- ROLE takes a value; `why` is the channel field of its event. -/
def State.setRole (s : State) (r why : Nat) : State :=
  if s.twinRole = r then s
  else
    let s := (s.setRf 0x4018 31 29 r).twinEvent (0x10 + r) why
    (if r = 4 then s else s.setSole false).refEvaluate

/-- The device stops holding or awaiting the lease. -/
def State.restLease (s : State) : State :=
  s.modTwin fun t => { t with leaseEnd := none, claimPoint := none, beatAt := none, claimRepeat := 0, bulk := false }

/-- Does R324 apply: LEASE_IN reads ABSENT, or TWF_IN shows the twin's safe state. -/
def State.soleCause (s : State) : Bool := s.rf 0x4018 26 25 == 1 || s.rf 0x4018 24 23 == 1

/-- Claim the lease with a reason (R318, R321, R325, R326): a new epoch, ACTIVE, the lease end of an acknowledged beat,
every group goes on and is evaluated (R262). -/
def State.claimLease (s : State) (why : Nat) : State :=
  let s := s.setEpoch (s.twin.epoch + 1)
  let s := s.count 0x4028 31 24 1
  let s := s.restLease.modTwin fun t => { t with
    leaseEnd := some (s.endAfter s.owl), beatAt := s.after 1000, beatTime := s.owl, claimRepeat := 3, claimReason := why
    seqSyncAt := s.after 10000, mirrorAt := s.after 10000 }
  let s := s.setRole 4 why
  let s := if why = 2 || why = 3 || s.soleCause then s.setSole true else s
  let s := s.linkSend 0x04 [BitVec.ofNat 32 s.twin.epoch, BitVec.ofNat 32 why]
  (s.mirror 4 0 [BitVec.ofNat 32 s.twin.epoch, s.reg 0x4004]).pgTakeover

/-- R324: claim SOLE, or hold SOLE; SOLE ends at a valid level with a healthy TWF_IN. -/
def State.checkSole (s : State) : State :=
  let r := s.twinRole
  if s.soleCause then
    if r = 1 || r = 3 || r = 5 then s.claimLease 2
    else if r = 4 then s.setSole true else s
  else if r = 4 && s.rb 0x4018 28 && s.twin.pinLevel.isSome && s.rf 0x4018 24 23 == 0 then
    (s.setSole false).modTwin fun t => { t with leaseEnd := some (s.endAfter t.beatTime) }
  else s

/-! ### The link comes up and goes down (R319, R333, R337) -/

/-- The words of HELLO (R318) (DEDUCED, notes/assumptions/34.md). -/
def Hello.words (h : Hello) : List Word :=
  [BitVec.ofNat 32 (b2n h.twinId), BitVec.ofNat 32 h.version, h.imageVer, BitVec.ofNat 32 h.epoch,
    BitVec.ofNat 32 h.role, BitVec.ofNat 32 h.leaseLen, BitVec.ofNat 32 (b2n h.prefer)]

/-- The words of the HELLO that the device sends. -/
def State.helloWords (s : State) : List Word :=
  Hello.words {
    twinId := s.rb 0x4018 20, version := 1, imageVer := s.reg (if s.rb 0x50B4 31 then 0x50D4 else 0x50D0)
    epoch := s.twin.epoch, role := s.twinRole, leaseLen := s.leaseN, prefer := s.rb 0x4000 30 }

/-- The job of a TWIN_FORWARD. -/
def isForward : Job → Bool
  | .forward _ => true
  | _ => false

/-- A command that was forwarded when the link went down completes (R338) (DEDUCED, notes/assumptions/37.md). -/
def State.dropForwards (s : State) : State :=
  (s.cmd.pend.filter fun p => isForward p.job).foldl (fun t p => t.finish p.req 0x0A02 eParam 0 []) s

/-- The replies that frames carry have left, or never will: their commands are no longer outstanding (R450). -/
def State.settleFrames (s : State) (l : List LinkFrame) : State := (l.filterMap (·.req)).foldl State.settle s

/-- The link goes down for a reason (R315, R319). -/
def State.linkDown (s : State) (why : Nat) : State :=
  if s.twin.up then
    let s := (s.settleFrames s.twin.unacked).modTwin fun t => { t with
      up := false, unacked := [], nextSeq := 1, rxSeq := 0, timeouts := 0, resendAt := none, ackAt := none
      refInfoSend := none, bulk := false, bulkHeld := [], refInfoAt := none, helloAt := s.after 1000 }
    let s := ((s.setRb 0x4018 27 false).setRb 0x401C 26 false).setRf 0x401C 23 16 why
    let s := s.dropForwards
    let s := ((s.twinOccur 0x02 why).setUnsync true)
    if s.twinRole = 2 then (s.setRole 1 0xFF).checkSole else s
  else (s.setRb 0x401C 26 false).setRf 0x401C 23 16 why

/-- Words a class-1 entry of a table mirrors (R330). -/
def mirrorWords (t : Nat) : Nat := if t = 7 then 7 else if t = 5 ∨ t = 6 then 2 else 4

/-- The entries of a table bank with a word that differs from its reset word. -/
def State.stored (s : State) (t b : Nat) : List Nat :=
  (s.tables.filterMap fun e => if e.1 / 8388608 = 2 * t + b then some (e.1 / 128 % 65536) else none).eraseDups

/-- The frames of a bulk resynchronisation, in the order of classes 4, 2, 3, 1 (R333). -/
def State.bulkFrames (s : State) : List (List Word) :=
  let f (cls obj : Nat) (ws : List Word) := mirrorHead cls obj 0 ws.length ++ ws
  let tbl (t b : Nat) := (s.stored t b).map fun e => f 1 (mirrorObj t (s.relBank t b) e) (s.tblWords t b e 0 (mirrorWords t))
  [f 4 0 [BitVec.ofNat 32 s.twin.epoch, s.reg 0x4004]]
    ++ (s.pgsOn.map fun p => f 2 p (s.pgMirror p))
    ++ ((s.redsOn.filter fun n => s.redRole n == 1 || s.redRole n == 3).map fun n =>
          f 3 n [BitVec.ofNat 32 (s.red n).outSeq])
    ++ (s.frersOn.map fun e => f 3 (65536 + e) [BitVec.ofNat 32 (s.frer e).nextSeq])
    ++ [f 1 mirrorLeaseCfg [s.reg 0x4004]]
    ++ tbl 4 0 ++ tbl 7 0 ++ tbl 5 0 ++ tbl 6 0 ++ tbl 8 0 ++ tbl 1 s.bankOther ++ tbl 2 s.bankOther
    ++ (if s.swap.st = 1 then [f 1 mirrorSwap s.swapWords] else [])

/-- The holder starts a bulk resynchronisation of its twin (DEDUCED, notes/assumptions/42.md). -/
def State.startBulk (s : State) : State :=
  if s.holder && s.twin.up && !s.twin.bulk && !s.faults.safe then
    let s := s.modTwin fun t => { t with bulk := true, resync := t.resync + 1 }
    s.bulkFrames.foldl (fun t ws => t.linkSend 0x11 (BitVec.ofNat 32 t.twin.resync :: ws)) s
  else s

/-- What is known of the twin from a frame with its role and epoch (R340). -/
def State.seeFar (s : State) (role epoch : Nat) : State :=
  s.modTwin fun t => { t with farRole := role, farEpoch := epoch, farAt := s.nowNs % 2 ^ 32 }

/-- The twin holds a higher epoch (R321): a holder stops acting; `lapsed` tells whether a LAPSED twin follows as
well, as it does for a renewal (R326). -/
def State.higherEpoch (s : State) (e : Nat) (renewal : Bool) : State :=
  if e > s.twin.epoch then
    let s := s.twinEvent 0x44 0xFF
    let r := s.twinRole
    if r = 5 && !renewal then s
    else
      let s := s.setEpoch e
      let next := if s.twin.up && s.rb 0x4018 22 then 2 else 3
      if r = 4 then (s.restLease.setRole next 0xFF).checkSole
      else if r = 1 && s.twin.up then s.setRole 2 0xFF
      else if r = 5 && s.twin.up then s.setRole 2 0xFF
      else s
  else s

/-- The election of R332. -/
def State.elected (s : State) (h : Hello) : Bool :=
  let mine := s.rb 0x4000 30
  if mine != h.prefer then mine else s.rf 0x4018 20 20 == 0

/-- The roles meet as the link comes up (R326, R332, R337). An elected twin claims beyond both epochs
(DEDUCED, notes/assumptions/167.md). -/
def State.meet (s : State) (h : Hello) : State :=
  let r := s.twinRole
  if h.role = 4 then
    if r = 4 then
      if h.epoch > s.twin.epoch then ((s.twinEvent 0x44 0xFF).restLease.setEpoch h.epoch).setRole 2 0xFF else s
    else if r = 1 || r = 3 then s.setRole 2 0xFF else s
  else if r = 1 then (if s.elected h then (s.setEpoch (max s.twin.epoch h.epoch)).claimLease 4 else s)
  else if r = 3 then s.setRole 2 0xFF
  else s

/-- A HELLO that arrived whole. -/
def State.helloTake (s : State) (h : Hello) : State :=
  if s.paired && s.rb 0x4000 31 && s.running then
    if b2n h.twinId = s.rf 0x4018 20 20 then
      let s := if s.twin.clash then s else (s.levelOn { src := 24 }).modTwin fun t => { t with clash := true }
      s.linkDown 4
    else
      let s := if s.twin.clash then (s.levelOff 24).modTwin fun t => { t with clash := false } else s
      if h.version != 1 then s.linkDown 5
      else
        let was := s.twin.up
        let s := (s.setRb 0x401C 26 true).seeFar h.role h.epoch
        let s := if was then s
          else
            let s := ((s.modTwin fun t => { t with
              up := true, unacked := [], nextSeq := 1, rxSeq := 0, timeouts := 0, refInfoSend := s.after 1000
              helloAt := s.after 100000 }).setRb 0x4018 27 true).twinOccur 0x01 0xFF
            s.meet h
        let s := if was && s.twinRole = 1 && h.role = 4 then s.setRole 2 0xFF else s
        if h.role = 2 then s.startBulk else s
  else s

/-- A frame arrives: all four lanes are locked and deskewed (R315, R319). -/
def State.lanesUp (s : State) : State := if s.rb 0x4000 31 && s.running then s.setRf 0x401C 31 27 0x1F else s

/-- TWIN_HELLO_RX. -/
def State.hello (s : State) (h : Hello) : State :=
  s.lanesUp.crcGate { typ := 0x01, seq := 0, words := Hello.words h } h.crc (s.lanesUp.helloTake h)

/-- TWIN_LANE_LOSS: block lock of a lane, or deskew (R319). -/
def State.laneLoss (s : State) (lane : Nat) (deskew : Bool) : State :=
  if lane < 4 && s.rb 0x4000 31 then
    let s := if deskew then s.setRb 0x401C 27 false else (s.setRb 0x401C (28 + lane) false).setRb 0x401C 27 false
    s.linkDown (if deskew then 2 else 1)
  else s

/-! ### Reliable frames (R318, R319) -/

/-- A frame that leaves, or leaves again, at an OWL edge. -/
def LinkFrame.resent (at_ : Nat) (f : LinkFrame) : LinkFrame := { f with sentAt := at_, req := none }

/-- RETRANSMIT_TIMEOUT: 10 µs without acknowledgement. -/
def State.retransmit (s : State) : State :=
  if s.twin.up && s.due s.twin.resendAt && !s.twin.unacked.isEmpty then
    if s.twin.timeouts ≥ 2 then s.linkDown 3
    else
      let l := s.twin.unacked.take linkWindow
      (s.modTwin fun t => { t with
        timeouts := t.timeouts + 1, resendAt := s.after 10, sent := t.sent ++ l
        unacked := l.map (LinkFrame.resent s.owl) ++ t.unacked.drop linkWindow }).count 0x4024 31 16 l.length
  else s

/-- How many of the unacknowledged frames a LINK_ACK covers: those up to its SEQ. -/
def ackCount (seq : Nat) : List LinkFrame → Nat → Nat
  | [], _ => 0
  | f :: r, k => if f.seq = seq then k + 1 else ackCount seq r (k + 1)

/-- LINK_ACK_RX. MAX_LAT keeps the highest age of a frame of mirrored state at its acknowledgement. The oldest frame
that still waits is resent 10 µs after it was sent itself. -/
def State.linkAck (s : State) (seq : Nat) : State :=
  if s.twin.up then
    let l := s.twin.unacked
    let n := ackCount seq l 0
    if n = 0 then s
    else
      let lat := ((l.take n).filter fun f => f.typ == 0x10 || f.typ == 0x11).foldl (fun m f => max m (s.owl - f.at_)) 0
      let rest := l.drop n
      let next := (rest.take linkWindow).drop (linkWindow - n)
      let fresh := next.map (LinkFrame.resent s.owl)
      let rest := rest.take (linkWindow - n) ++ fresh ++ rest.drop linkWindow
      let s := s.modTwin fun t => { t with
        unacked := rest, timeouts := 0, resendAt := rest.head?.map fun f => f.sentAt + 10
        sent := t.sent ++ fresh }
      let s := s.settleFrames next
      s.setRf 0x402C 31 16 (max (s.rf 0x402C 31 16) (min 0xFFFF lat))
  else s

/-- LINK_ACK_TIMER: the highest SEQ received in order, while a received frame is not acknowledged. -/
def State.linkAckTimer (s : State) : State :=
  if s.twin.up && s.due s.twin.ackAt then
    (s.modTwin fun t => { t with ackAt := none }).linkSend 0x30 [BitVec.ofNat 32 s.twin.rxSeq]
  else s

/-- Take a reliable frame: it counts only next in order; an acknowledgement follows within 2 µs. -/
def State.rxReliable (s : State) (seq : Nat) : Bool × State :=
  let t := s.twin
  let ack (t : Twin) := { t with ackAt := if t.ackAt.isSome then t.ackAt else s.after 2 }
  if !t.up then (false, s)
  else if seq = nextSeq t.rxSeq then (true, s.modTwin fun t => ack { t with rxSeq := seq })
  else (false, s.modTwin ack)

/-- HELLO_TIMER: every 1 ms until the pair forms, then every 100 ms. -/
def State.helloTimer (s : State) : State :=
  if s.paired && s.rb 0x4000 31 && s.due s.twin.helloAt then
    (s.linkSend 0x01 s.helloWords).modTwin fun t => { t with helloAt := s.after (if t.up then 100000 else 1000) }
  else s

/-! ### Renewals and claims (R321 to R326, R334, R343) -/

/-- Toggle LEASE_OUT, which stays low while the link is disabled (R320) (DEDUCED, notes/assumptions/41.md). -/
def State.toggle (s : State) : State :=
  if s.rb 0x4000 31 then s.modTwin fun t => { t with outP := !t.outP, outN := t.outP } else s

/-- A renewal arrives by link or pin: the standby's claim point moves (R325). -/
def State.renewed (s : State) : State :=
  if s.twinRole = 3 then s.modTwin fun t => { t with claimPoint := s.claimAfter s.owl } else s

/-- RENEW_RX. -/
def State.renewRx (s : State) (e k : Nat) : State :=
  if !s.paired || !s.twin.up then s
  else
    let s := s.seeFar 4 e
    let r := s.twinRole
    if r = 0 || r = 6 || e < s.twin.epoch then s
    else
      let s := s.higherEpoch e true
      let s := if s.twinRole = 1 then s.setRole 2 0xFF else s
      if s.twinRole = 4 then s
      else s.renewed.linkSend 0x03 [BitVec.ofNat 32 e, BitVec.ofNat 32 k]

/-- An acknowledged beat moves the lease end, never earlier (R322, R323). -/
def State.acked (s : State) (a : Nat) : State :=
  s.modTwin fun t => { t with leaseEnd := some (max (t.leaseEnd.getD 0) (s.endAfter a)) }

/-- ACK_RX. -/
def State.ackRx (s : State) (e k : Nat) : State :=
  if s.paired && s.twin.up then
    let s := s.seeFar s.twin.farRole e
    let d := ahead (2 ^ 32) (k % 2 ^ 32) s.twin.beat
    if s.holder && e = s.twin.epoch && d < 64 && 1000 * d ≤ s.twin.beatTime then s.acked (s.twin.beatTime - 1000 * d)
    else s
  else s

/-- A yield is over: its CLAIM has arrived, or none came (R334). -/
def State.yieldDone (s : State) (ok : Bool) : State :=
  let q := s.twin.yieldReq
  let s := (s.modTwin fun t => { t with yieldAt := none, yieldReq := none }).release fun c => c == .twinRole
  match q with
  | some r => s.finish r 0x0A03 (if ok then stOk else eParam) 0 []
  | none => s

/-- A beat of this very OWL cycle is taken back: no RENEW leaves and LEASE_OUT does not toggle (R343). -/
def State.unbeat (s : State) : State :=
  if s.holder && s.twin.sent.any (fun f => f.typ == 0x02 && f.at_ == s.owl) then
    (s.modTwin fun t => { t with beat := (t.beat + (2 ^ 32 - 1)) % 2 ^ 32, sent := t.sent.filter fun f => f.typ != 0x02 || f.at_ != s.owl }).toggle
  else s

/-- CLAIM_RX. -/
def State.claimRx (s : State) (e _why : Nat) : State :=
  if !s.paired || !s.twin.up then s
  else
    let s := s.seeFar 4 e
    let r := s.twinRole
    if r = 0 || r = 6 || e ≤ s.twin.epoch then s
    else
      let s := s.unbeat.higherEpoch e false
      let s := if s.twin.yieldAt.isSome then s.yieldDone true else s
      s.renewed

/-- YIELD_RX: the standby claims with reason 1. -/
def State.yieldRx (s : State) (e _k : Nat) : State :=
  if s.paired && s.twin.up then
    let s := s.seeFar 3 e
    if s.twinRole = 3 && e ≥ s.twin.epoch then
      ((if e > s.twin.epoch then s.twinEvent 0x44 0xFF else s).setEpoch e).claimLease 1
    else s
  else s

/-- LEASE_BEAT (R322). -/
def State.leaseBeat (s : State) : State :=
  if s.holder && s.due s.twin.beatAt then
    let s := s.modTwin fun t => { t with beat := (t.beat + 1) % 2 ^ 32, beatTime := s.owl, beatAt := s.after 1000 }
    let s := (s.linkSend 0x02 [BitVec.ofNat 32 s.twin.epoch, BitVec.ofNat 32 s.twin.beat]).toggle
    if s.twin.claimRepeat > 0 then
      (s.linkSend 0x04 [BitVec.ofNat 32 s.twin.epoch, BitVec.ofNat 32 s.twin.claimReason]).modTwin fun t =>
        { t with claimRepeat := t.claimRepeat - 1 }
    else s
  else s

/-- The OWL cycle of a time has passed, so that nothing recognised in that cycle can still move it (R325, R343)
(DEDUCED, notes/assumptions/168.md). -/
def State.passed (s : State) (t : Option Nat) : Bool :=
  match t with
  | some d => d < s.owl
  | none => false

/-- LEASE_END: without SOLE the holder lapses (R323, R326, R343). -/
def State.leaseOver (s : State) : State :=
  if s.holder && !s.rb 0x4018 28 && s.passed s.twin.leaseEnd then
    (((s.restLease.setRole 5 0xFF).count 0x4028 23 16 1).fault 20).checkSole
  else s

/-- A claim counts as a beat at time a: its lease end and the beats after it follow from a (R325). -/
def State.claimedAt (s : State) (a : Nat) : State :=
  s.modTwin fun t => { t with leaseEnd := some (s.endAfter a), beatAt := some (a + 1000), beatTime := a }

/-- LEASE_CLAIM_POINT (R325). -/
def State.claimDue (s : State) : State :=
  if s.paired && s.twinRole = 3 && s.passed s.twin.claimPoint then
    (s.claimLease 0).claimedAt (s.twin.claimPoint.getD s.owl)
  else s

/-- YIELD_CLAIM_TIMEOUT: no CLAIM reached the yielder within 1 ms (DEDUCED, notes/assumptions/38.md). -/
def State.yieldTimeout (s : State) : State := if s.due s.twin.yieldAt then s.yieldDone false else s

/-! ### The pins (R320, R322, R530) -/

/-- PINS takes a reading. -/
def State.setPins (s : State) (v : Nat) : State :=
  let was := s.rf 0x4018 26 25
  if was = v then s
  else
    let s := (s.setRf 0x4018 26 25 v).twinOccur 0x30 v
    let s := if v = 2 then s.levelOn { src := 21 } else s
    if was = 2 then s.levelOff 21 else s

/-- A toggle of LEASE_IN: an acknowledgement to the holder within 40 µs of its beat, a renewal to the other twin,
which answers with its own toggle. -/
def State.pinToggle (s : State) : State :=
  let r := s.twinRole
  if r = 4 then (if s.owl ≤ s.twin.beatTime + 40 then s.acked s.twin.beatTime else s)
  else if r = 0 || r = 6 then s
  else s.renewed.toggle

/-- LEASE_IN_CHANGE: the filtered level of the pair. -/
def State.leaseIn (s : State) (p n : Bool) : State :=
  if p == n then
    let s := s.modTwin fun t => { t with pinLevel := none, stillAt := none }
    (s.setPins (if p then 2 else 1)).checkSole
  else
    let was := s.twin.pinLevel
    let s := s.modTwin fun t => { t with pinLevel := some p, stillAt := s.after s.leaseLen }
    let s := s.setPins 0
    let s := if was.isSome && was != some p then s.pinToggle else s
    s.checkSole

/-- LEASE_IN_STILL: LEASE_LEN with no toggle. -/
def State.leaseStill (s : State) : State :=
  if s.due s.twin.stillAt && s.twin.pinLevel.isSome then (s.modTwin fun t => { t with stillAt := none }).setPins 3 else s

/-- TWF_IN_CHANGE (R530). -/
def State.twfIn (s : State) (p n : Bool) : State :=
  let v := if p == n then 2 else if p then 0 else 1
  let was := s.rf 0x4018 24 23
  if v = was then s
  else
    let s := (s.setRf 0x4018 24 23 v).twinOccur 0x31 v
    let s := if was = 1 then s.levelOff 23 else if was = 2 then s.levelOff 22 else s
    let s := if v = 1 then s.levelOn { src := 23 } else if v = 2 then s.levelOn { src := 22 } else s
    s.checkSole

/-! ### LEASE_CMD, TWIN_ROLE_CFG and TWIN_CTRL (R312, R313, R326, R332 to R336) -/

/-- The status that refuses a yield; OK where it may go on (R334). -/
def State.yieldStatus (s : State) : Nat :=
  if s.twinRole != 4 then eNotActive
  else if !s.twin.up || s.twin.farRole != 3 || s.rb 0x4018 22 then eParam
  else stOk

/-- The holder yields: it stops acting at once; the claim point counts from its last beat (R334). -/
def State.doYield (s : State) (q : Option Req) : State :=
  let s := s.linkSend 0x05 [BitVec.ofNat 32 s.twin.epoch, BitVec.ofNat 32 s.twin.beat]
  let last := s.twin.beatTime
  let s := s.restLease.setRole 3 0xFF
  (s.modTwin fun t => { t with yieldAt := s.after 1000, yieldReq := q, claimPoint := s.claimAfter last }).checkSole

/-- FORCE_SOLE (R335), also in PAIRING under an ID clash (R342) (DEDUCED, notes/assumptions/39.md). -/
def State.forceSole (s : State) : Nat × State :=
  let r := s.twinRole
  if r = 4 then (stOk, s.setSole true)
  else if r = 3 || r = 5 || (r = 1 && s.twin.clash) then (stOk, s.claimLease 3)
  else (eParam, s)

/-- The accepted key write of LEASE_CMD (R313). -/
def State.leaseCmdWrite (s : State) (w : Word) : Nat × State :=
  let k := fld w 31 28
  if k > 2 then (eParam, s)
  else if k = 0 then (stOk, s)
  else if k = 2 then s.forceSole
  else if s.yieldStatus != stOk then (s.yieldStatus, s)
  else (stOk, s.doYield none)

/-- The accepted key write of TWIN_ROLE_CFG (R310, R312); only a reset leaves SAFE (R326) (DEDUCED,
notes/assumptions/40.md). -/
def State.twinRoleWrite (s : State) (w : Word) : Nat × State :=
  if s.rb 0x4000 31 then (eEnabled, s)
  else if fld w 31 30 > 1 then (eParam, s)
  else if fld w 31 30 = 0 && s.twinRole != 6 then
    (stOk, (s.restLease.setRole 0 0xFF).modTwin fun t => { t with outP := false, outN := false })
  else (stOk, s)

/-- LINK_EN goes from 0 to 1 (R332): a paired device enters PAIRING and drives LEASE_OUT. A held LEASE_LEN ends when the
copies of LEASE_CFG agree (R485). -/
def State.linkEnable (s : State) : State :=
  let s := if s.trpBad.contains 0x4004 then s else s.modTwin fun t => { t with lenHeld := none }
  if s.paired then
    let s := s.modTwin fun t => { t with helloAt := s.after 1000, outP := true, outN := false }
    if s.twinRole = 0 then (s.setRole 1 0xFF).checkSole else s
  else s

/-- LINK_EN goes from 1 to 0 (R319, R320, R336). -/
def State.linkDisable (s : State) : State :=
  let s := s.linkDown 6
  let s := s.setRf 0x401C 31 26 0
  let s := if s.twin.clash then s.levelOff 24 else s
  s.modTwin fun t => { t with helloAt := none, outP := false, outN := false, clash := false }

/-! ### Mirrored state (R330, R333) -/

/-- A mirrored table entry is applied: enable bits act as they do on a write, but a group that a resynchronisation
enables keeps the state that came before its configuration (R333). -/
def State.applyEntry (s : State) (t b e off : Nat) (ws : List Word) : State :=
  let was := bit (s.tblB t b e 0) 31
  let s := s.setTblWords t b e off ws
  let s := { s with tblBad := s.tblBad.filter fun k => k / 128 != tblKey t b e 0 / 128 }
  let s := if t = 4 && off < 3 then s.trpAgree (pgScrub e) else s
  let now := bit (s.tblB t b e 0) 31
  if t = 4 then (if now && !was then (if s.twinRole = 2 then s else s.pgEnable e) else if was && !now then s.pgDisable e else s)
  else if t = 5 then (if now && !was then s.redEnable e else if was && !now then s.redDisable e else s)
  else if t = 6 then (if now && !was then s.frerEnable e else s)
  else s

/-- A mirrored swap: armed with the holder's SWAP_TIME, or cancelled (R200). -/
def State.applySwap (s : State) (obj : Nat) (ws : List Word) : State :=
  if obj = mirrorCancel then (if s.swap.st = 1 then s.disarm else s)
  else if s.swap.st = 0 then
    { s with swap := { s.swap with
      sec := (wd ws 0).toNat, ns := fld (wd ws 1) 29 0, copy := bit (wd ws 1) 30 } }.armSwap
  else s

/-- The holder's LEASE_CFG is stored; the copies of the register agree (R330, R485). -/
def State.mirrorLease (s : State) (w : Word) : State := (s.setReg 0x4004 (w &&& 0x1F)).trpAgree 0x4004

/-- Apply one MIRROR or BULK payload on a twin that follows (R330). -/
def State.applyMirror (s : State) (d : MirrorData) : State :=
  if d.cls = 1 then
    if d.obj = mirrorSwap ∨ d.obj = mirrorCancel then s.applySwap d.obj d.words
    else if d.obj = mirrorLeaseCfg then s.mirrorLease (wd d.words 0)
    else s.applyEntry (d.obj / 131072) (s.relBank (d.obj / 131072) (d.obj / 65536 % 2)) (d.obj % 65536) d.off d.words
  else if d.cls = 2 then (if s.pgEnabled d.obj || s.twinRole == 2 then s.pgApply d.obj d.words else s)
  else if d.cls = 3 then
    if d.obj < 65536 then s.modRed d.obj fun r => { r with outSeq := (wd d.words 0).toNat % 65536, outBy := [] }
    else s.modFrer (d.obj - 65536) fun x => { x with nextSeq := (wd d.words 0).toNat % 65536 }
  else if d.cls = 4 then (s.setEpoch (wd d.words 0).toNat).mirrorLease (wd d.words 1)
  else s

/-- A twin that takes mirrored state: SYNCING or STANDBY. -/
def State.follows (s : State) : Bool := s.paired && (s.twinRole == 2 || s.twinRole == 3)

/-- MIRROR_RX. -/
def State.mirrorRx (s : State) (seq : Nat) (d : MirrorData) : State :=
  s.crcGate { typ := 0x10, seq := seq, words := mirrorHead d.cls d.obj d.off d.words.length ++ d.words } d.crc
    (let r := s.rxReliable seq
     if r.1 && r.2.follows then r.2.applyMirror d else r.2)

/-- The pair configuration of a twin that is resynchronised is discarded (R337): the pair-level tables and the
inactive bank. -/
def State.discardPair (s : State) : State :=
  let s := s.pgsOn.foldl State.pgDisable s
  let s := if s.swap.st = 1 then s.disarm else s
  let gone (k : Nat) : Bool :=
    let t := k / 8388608
    t == 8 || t == 10 || t == 12 || t == 14 || t == 16 || isXcKey s.bankOther k
  let s := { s with
    tables := Store.drop s.tables fun k => gone k && !(k / 8388608 == 8 && k % 128 ≥ 6)
    tblBad := s.tblBad.filter fun k => !gone k, reds := [], frers := [] }
  s.memFollow

/-- The class that has come in full is applied (R333). -/
def State.bulkApply (s : State) : State :=
  s.twin.bulkHeld.foldl State.applyMirror (s.modTwin fun t => { t with bulkHeld := [] })

/-- One frame of a bulk resynchronisation that came in order; a class is applied once the next one begins. -/
def State.bulkTake (s : State) (n : Nat) (d : MirrorData) : State :=
  if s.paired && s.twinRole = 2 then
    let s := if n = s.twin.resync && s.twin.bulk then s
      else s.discardPair.modTwin fun t => { t with resync := n, bulk := true, bulkHeld := [] }
    let s := if s.twin.bulkHeld.any fun e => e.cls != d.cls then s.bulkApply else s
    s.modTwin fun t => { t with bulkHeld := t.bulkHeld ++ [d] }
  else s

/-- BULK_RX. -/
def State.bulkRx (s : State) (seq n : Nat) (d : MirrorData) : State :=
  s.crcGate { typ := 0x11, seq := seq
              words := BitVec.ofNat 32 n :: (mirrorHead d.cls d.obj d.off d.words.length ++ d.words) } d.crc
    (let r := s.rxReliable seq
     if r.1 then r.2.bulkTake n d else r.2)

/-- BULK_RESYNC_DONE: UNSYNC clears on both twins; the twin that followed is STANDBY, and its expiry count starts here
(DESIGN CHOICE, notes/assumptions/199.md). -/
def State.bulkDone (s : State) : State :=
  if s.paired && s.twin.up && s.twin.bulk then
    let s := (s.bulkApply.modTwin fun t => { t with bulk := false }).setUnsync false
    if s.twinRole = 2 then (s.setRole 3 0xFF).renewed.checkSole else s
  else s

/-- PROTECTION_TIMER_MIRROR: the groups' timers every 10 ms (R330). -/
def State.timerMirror (s : State) : State :=
  if s.holder && s.due s.twin.mirrorAt then
    let s := s.modTwin fun t => { t with mirrorAt := s.after 10000 }
    s.pgsOn.foldl (fun t p => t.mirror 2 p (t.pgMirror p)) s
  else s

/-! ### Sequence numbers (R318, R331) -/

/-- The streams whose counters the holder sends. -/
def State.txStreams (s : State) : List Nat := s.redsOn.filter fun n => s.redRole n == 1 || s.redRole n == 3

/-- The payloads of SEQ_SYNC: up to 32 entries each. -/
def chunk32 : Nat → List Word → List (List Word)
  | 0, _ => []
  | n + 1, l => if l.isEmpty then [] else l.take 128 :: chunk32 n (l.drop 128)

/-- SEQ_SYNC_TIMER: each TX stream once every 10 ms. -/
def State.seqSyncSend (s : State) : State :=
  if s.holder && s.twin.up && !s.faults.safe && s.due s.twin.seqSyncAt then
    let s := s.modTwin fun t => { t with seqSyncAt := s.after 10000 }
    let ws := s.txStreams.flatMap fun n =>
      let b := (s.red n).startAt.getD ((s.red n).outSeq, s.nowNs)
      SeqSync.words { stream := n, value := b.1, at_ := b.2 }
    (chunk32 64 ws).foldl (fun t l => t.linkSend 0x12 l) s
  else s

/-- A stream's counter takes part in SEQ_SKEW. -/
def State.skewFollow (s : State) : State :=
  let v := s.txStreams.any fun n => (s.red n).skewed
  if s.rb 0x4018 21 == v then s else (s.setRb 0x4018 21 v).twinOccur (if v then 0x42 else 0x43) 0xFF

/-- The modulus of a TX stream's counter: PSEQ or BSEQ (R275, R289). -/
def State.txMod (s : State) (n : Nat) : Nat := if s.redRole n = 1 then 65536 else s.redMod n

/-- The own frame or block start of a stream nearest to a device time in ns (R331): its number, and whether it lies
within a quarter of the period. -/
def State.nearStart (s : State) (n at_ : Nat) : Option (Nat × Bool) :=
  (s.red n).startAt.map fun b =>
    let p : Int := max 1 (s.redPeriod n : Nat)
    let d : Int := ((at_ : Int) - (b.2 : Int)) * 1000000
    let k : Int := (2 * d + p).fdiv (2 * p)
    (((b.1 : Int) + k).emod (s.txMod n : Nat) |>.toNat, 4 * (d - k * p).natAbs ≤ s.redPeriod n)

/-- The counter of a TX stream steps by n, wherever it is kept. -/
def Red.stepSeq (md n : Nat) (r : Red) : Red :=
  { r with
    outSeq := (r.outSeq + n) % md, startAt := r.startAt.map fun b => ((b.1 + n) % md, b.2)
    outBy := r.outBy.map fun e => (e.1, e.2.map fun k => (k + n) % md) }

/-- One entry of SEQ_SYNC. -/
def State.seqEntry (s : State) (e : SeqSync) : State :=
  if s.redOn e.stream && (s.redRole e.stream == 1 || s.redRole e.stream == 3) then
    let md := s.txMod e.stream
    match s.nearStart e.stream e.at_ with
    | some (own, true) =>
      let s := s.modRed e.stream fun r => { r with skewed := false }
      if own = e.value % md then s
      else (s.modRed e.stream (Red.stepSeq md (ahead md own (e.value % md)))).count 0x4028 15 0 1
    | _ => s.modRed e.stream fun r => { r with skewed := true }
  else s

/-- SEQ_SYNC_RX. -/
def State.seqSyncRx (s : State) (es : List SeqSync) : State :=
  if s.paired && s.twin.up && !s.holder then (es.foldl State.seqEntry s).skewFollow else s

/-- FRER_SEQ_RX. -/
def State.frerSeqRx (s : State) (n vid q : Nat) (fcs : Word) : State :=
  if s.paired && s.twin.up && !s.holder then s.frerSeq n vid q fcs else s

/-! ### REF_INFO (R315, R318) -/

/-- REF_INFO_RX: TWIN_TOFF is own device time minus the twin's (DEDUCED, notes/assumptions/49.md). -/
def State.refInfoRx (s : State) (ppt : Int) (sel sec ns : Nat) : State :=
  if s.paired && s.twin.up then
    let d : Int := (s.nowNs : Int) - ((sec * 1000000000 + ns : Nat) : Int)
    (s.modTwin fun t => { t with refInfoPpt := ppt, refInfoSel := sel, refInfoAt := some s.owl }).setReg 0x4020 (satSigned d)
  else s

/-- REF_INFO_TIMER: every 1 ms by each twin. -/
def State.refInfoSend (s : State) : State :=
  if s.paired && s.twin.up && s.due s.twin.refInfoSend then
    (s.modTwin fun t => { t with refInfoSend := s.after 1000 }).linkSend 0x14
      [ofSigned (s.refs.steer + s.nominal), BitVec.ofNat 32 s.refs.selected, BitVec.ofNat 32 s.time.sec, BitVec.ofNat 32 s.ns]
  else s

/-! ### Firmware commands (R334, R338, R340) -/

/-- TWIN_STATUS. -/
def State.fxTwinStatus (q : Req) (ws : List Word) (s : State) : State :=
  if !ws.isEmpty then s.finish q 0x0A01 eLength 0 []
  else
    s.finish q 0x0A01 stOk 0
      [s.reg 0x4018, s.reg 0x401C, s.reg 0x4020, BitVec.ofNat 32 s.twin.epoch, BitVec.ofNat 32 s.leaseN,
        BitVec.ofNat 32 s.twin.farRole, BitVec.ofNat 32 s.twin.farEpoch, BitVec.ofNat 32 s.twin.farAt]

/-- TWIN_FORWARD. -/
def State.fxTwinForward (q : Req) (ws : List Word) (s : State) : State :=
  if q.src = .twin then s.finish q 0x0A02 eDenied 0 []
  else if ws.length < 3 then s.finish q 0x0A02 eLength 0 []
  else if !s.twin.up then s.finish q 0x0A02 eParam 0 []
  else (s.linkSend 0x20 ws).pendOn q 0x0A02 (.forward (fld (wd ws 1) 31 16)) none

/-- LEASE_YIELD. -/
def State.fxLeaseYield (q : Req) (ws : List Word) (s : State) : State :=
  if !ws.isEmpty then s.finish q 0x0A03 eLength 0 []
  else if s.claimed (fun c => c == .twinRole) then s.finish q 0x0A03 eBusy 0 []
  else if s.yieldStatus != stOk then s.finish q 0x0A03 s.yieldStatus 0 []
  else
    let s := s.setPend { req := q, opcode := 0x0A03, job := .leaseYield, pending := s.wasPending q }
    (s.claim .twinRole).doYield (some q)

/-- LEASE_LEFT at an OWL edge (R314). -/
def State.leaseLeft (s : State) : Nat :=
  if s.twinRole = 4 then min 0xFFFF (s.left s.twin.leaseEnd)
  else if s.twinRole = 3 then min 0xFFFF (s.left s.twin.claimPoint) else 0

/-! ### The commands -/

/-- R318, R319, R326, R332, R337, R342. -/
def execTwinHelloRx (h : Hello) (s : State) : Out := .next (whileOn s (s.hello h))
/-- R319. -/
def execTwinLaneLoss (lane : Nat) (deskew : Bool) (s : State) : Out := .next (whileOn s (s.laneLoss lane deskew))
/-- R319. -/
def execRetransmitTimeout (s : State) : Out := .next (whileOn s s.retransmit)
/-- R318, R319. -/
def execLinkAckRx (seq : Checked Nat) (s : State) : Out :=
  .next (whileOn s (s.gotFrame 0x30 [BitVec.ofNat 32 seq.val] seq.crc (s.linkAck seq.val)))
/-- R318. -/
def execLinkAckTimer (s : State) : Out := .next (whileOn s s.linkAckTimer)
/-- R318. -/
def execHelloTimer (s : State) : Out := .next (whileOn s s.helloTimer)
/-- R321, R322, R325, R326. -/
def execRenewRx (epoch : Nat) (k : Checked Nat) (s : State) : Out :=
  .next (whileOn s (s.gotFrame 0x02 [BitVec.ofNat 32 epoch, BitVec.ofNat 32 k.val] k.crc (s.renewRx epoch k.val)))
/-- R322, R323. -/
def execAckRx (epoch : Nat) (k : Checked Nat) (s : State) : Out :=
  .next (whileOn s (s.gotFrame 0x03 [BitVec.ofNat 32 epoch, BitVec.ofNat 32 k.val] k.crc (s.ackRx epoch k.val)))
/-- R321, R326, R334. -/
def execClaimRx (epoch : Nat) (reason : Checked Nat) (s : State) : Out :=
  .next (whileOn s (s.gotFrame 0x04 [BitVec.ofNat 32 epoch, BitVec.ofNat 32 reason.val] reason.crc
    (s.claimRx epoch reason.val)))
/-- R326, R334. -/
def execYieldRx (epoch : Nat) (k : Checked Nat) (s : State) : Out :=
  .next (whileOn s (s.gotFrame 0x05 [BitVec.ofNat 32 epoch, BitVec.ofNat 32 k.val] k.crc (s.yieldRx epoch k.val)))
/-- R260, R330. -/
def execMirrorRx (seq : Nat) (d : MirrorData) (s : State) : Out := .next (whileOn s (s.mirrorRx seq d))
/-- R330, R333. -/
def execBulkRx (seq n : Nat) (d : MirrorData) (s : State) : Out := .next (whileOn s (s.bulkRx seq n d))
/-- R326, R333. -/
def execBulkResyncDone (s : State) : Out := .next (whileOn s s.bulkDone)
/-- R331. -/
def execSeqSyncRx (es : Checked (List SeqSync)) (s : State) : Out :=
  .next (whileOn s (s.gotFrame 0x12 (es.val.flatMap SeqSync.words) es.crc (s.seqSyncRx es.val)))
/-- R318, R331. -/
def execSeqSyncTimer (s : State) : Out := .next (whileOn s s.seqSyncSend)
/-- R331. -/
def execFrerSeqRx (st vid seq : Nat) (fcs : Checked Word) (s : State) : Out :=
  .next (whileOn s (s.gotFrame 0x13 [BitVec.ofNat 32 st, BitVec.ofNat 32 vid, BitVec.ofNat 32 seq, fcs.val] fcs.crc
    (s.frerSeqRx st vid seq fcs.val)))
/-- R331. -/
def execFrerSeqWaitTimeout (st vid : Nat) (fcs : Word) (s : State) : Out := .next (whileOn s (s.frerTimeout st vid fcs))
/-- R315, R318. -/
def execRefInfoRx (ppt : Int) (selected sec : Nat) (ns : Checked Nat) (s : State) : Out :=
  .next (whileOn s (s.gotFrame 0x14
    [ofSigned ppt, BitVec.ofNat 32 selected, BitVec.ofNat 32 sec, BitVec.ofNat 32 ns.val] ns.crc
    (s.refInfoRx ppt selected sec ns.val)))
/-- R318. -/
def execRefInfoTimer (s : State) : Out := .next (whileOn s s.refInfoSend)
/-- R322, R343. -/
def execLeaseBeat (s : State) : Out := .next (owlOn s s.leaseBeat)
/-- R40, R320, R322, R324. -/
def execLeaseInChange (p n : Bool) (s : State) : Out := .next (whileOn s ((s.deepWake false).leaseIn p n))
/-- R320. -/
def execLeaseInStill (s : State) : Out := .next (owlOn s s.leaseStill)
/-- R40, R324, R530. -/
def execTwfInChange (p n : Bool) (s : State) : Out := .next (whileOn s ((s.deepWake false).twfIn p n))
/-- R323, R326. -/
def execLeaseEnd (s : State) : Out := .next (owlOn s s.leaseOver)
/-- R325. -/
def execLeaseClaimPoint (s : State) : Out := .next (owlOn s s.claimDue)
/-- R334. -/
def execYieldClaimTimeout (s : State) : Out := .next (owlOn s s.yieldTimeout)
/-- R341. -/
def execTwinEventHoldoffExpiry (code : Nat) (s : State) : Out := .next (owlOn s (if code < 256 then s.twinHoldExpiry code else s))
/-- R330. -/
def execProtectionTimerMirror (s : State) : Out := .next (whileOn s s.timerMirror)

end Sys2Proof.Machine
end

