-- ==== Sys2Proof/Machine/Mgmt.lean ====
section
/-!
DEFINITION. The management subsystem (18_management_subsystem.md): flash, the boot header and NOMINAL_PPT copies (R554,
R565), images (R550 to R552, R560), updates (R555 to R558), the log (R546 to R549), sensors (R542 to R545) and the
Badger's wake, sleep, watchdog and restart (R38, R538 to R541).
-/
namespace Sys2Proof.Machine

/-! ### The flash -/

/-- A byte of the flash; an erased one is 0xFF (DESIGN CHOICE, notes/assumptions/4.md). -/
def State.flashByte (s : State) (a : Nat) : Byte := Store.get 0xFF s.mgmt.flash a

/-- The n bytes from an address. -/
def State.flashBytes (s : State) (a n : Nat) : List Byte := (List.range n).map fun i => s.flashByte (a + i)

/-- Four bytes as a number, most significant first. -/
def State.flashWord (s : State) (a : Nat) : Nat :=
  ((((s.flashByte a).toNat * 256 + (s.flashByte (a + 1)).toNat) * 256 + (s.flashByte (a + 2)).toNat) * 256)
    + (s.flashByte (a + 3)).toNat

/-- Program bytes: bits change from 1 to 0 only (R565). -/
def State.program (s : State) (a : Nat) : List Byte → State
  | [] => s
  | b :: r =>
    (s.modMgmt fun m => { m with flash := Store.set 0xFF m.flash a (s.flashByte a &&& b) }).program (a + 1) r

/-- Erase n bytes from an address. -/
def State.erase (s : State) (a n : Nat) : State :=
  s.modMgmt fun m => { m with flash := Store.drop m.flash fun k => a ≤ k && k < a + n }

/-- A flash sector in bytes. -/
def sector : Nat := 65536

/-- A job that keeps the flash controller busy. -/
def isFlashJob : Job → Bool
  | .erase _ _ => true
  | .program => true
  | .verify => true
  | .cfg _ _ => true
  | _ => false

/-- A job that erases: an image erase, and CFG_STORE ERASE and SAVE_NOMINAL. -/
def isErase : Job → Bool
  | .erase _ _ => true
  | .cfg a _ => a ≤ 1
  | _ => false

/-- A flash operation runs. -/
def State.flashBusy (s : State) : Bool := s.mgmt.headerNext.isSome || s.cmd.pend.any fun p => isFlashJob p.job

/-- MCLK stops once the Badger sleeps and the log engine and flash controller are idle (R538). -/
def State.mclkStop (s : State) : State :=
  let m := s.mgmt
  if !m.awake && m.readyAt.isNone && m.logBuf.isEmpty && !s.flashBusy then s.modMgmt fun m => { m with mclk := false }
  else s

/-- FLASH_STAT (R508) (DEDUCED, notes/assumptions/96.md). -/
def State.flashShow (s : State) : State :=
  let er := s.mgmt.headerNext.isSome || s.cmd.pend.any fun p => isErase p.job
  (s.setRb 0x50C0 31 s.flashBusy).setRb 0x50C0 30 er

/-- A flash operation has failed: FLASH_ERR and source 28 (R508, R513). -/
def State.flashFail (s : State) : State := (s.count 0x50C4 31 0 1).fault 28

/-! ### Two-copy records: the slot choice (R554) and NOMINAL_PPT (R565) -/

/-- The MAGIC of the copies at a base. -/
def copyMagic (hdr : Bool) : Nat := if hdr then 0x534C4348 else 0x4E505054

/-- The address of copy k. -/
def copyAddr (hdr : Bool) (k : Nat) : Nat := (if hdr then 0 else 0x1900000) + sector * k

/-- A copy is valid. -/
def State.copyOk (s : State) (hdr : Bool) (k : Nat) : Bool :=
  let a := copyAddr hdr k
  s.flashWord a == copyMagic hdr && (!hdr || (s.flashByte (a + 8)).toNat ≤ 1)
    && s.flashWord (a + 12) == (crc32c (s.flashBytes a 12)).toNat

/-- The SEQ of a copy. -/
def State.copySeq (s : State) (hdr : Bool) (k : Nat) : Nat := s.flashWord (copyAddr hdr k + 4)

/-- The copy that boot code uses: the valid one with the higher SEQ. -/
def State.copyUsed (s : State) (hdr : Bool) : Option Nat :=
  match s.copyOk hdr 0, s.copyOk hdr 1 with
  | true, true => some (if s.copySeq hdr 1 > s.copySeq hdr 0 then 1 else 0)
  | true, false => some 0
  | false, true => some 1
  | false, false => none

/-- The sector that a write of a copy takes: an invalid copy's, or the one with the lower SEQ. -/
def State.copyTarget (s : State) (hdr : Bool) : Nat :=
  match s.copyUsed hdr with
  | some k => 1 - k
  | none => 0

/-- Write a copy that holds a word (NEXT with three zero bytes, or VALUE). The other copy is not touched. -/
def State.writeCopy (s : State) (hdr : Bool) (w : Word) : State :=
  let k := s.copyTarget hdr
  let seq := if s.copyOk hdr (1 - k) then s.copySeq hdr (1 - k) + 1 else 0
  let body := wordBytes (BitVec.ofNat 32 (copyMagic hdr)) ++ wordBytes (BitVec.ofNat 32 seq) ++ wordBytes w
  (s.erase (copyAddr hdr k) sector).program (copyAddr hdr k) (withTrailer body)

/-- A write of a copy that failed leaves its sector without a valid copy (DEDUCED, notes/assumptions/94.md). -/
def State.spoilCopy (s : State) (hdr : Bool) : State := s.erase (copyAddr hdr (s.copyTarget hdr)) sector

/-! ### Images (R550 to R552, R560) -/

/-- The start of a slot (R553). -/
def slotBase (k : Nat) : Nat := 0x100000 + 0x800000 * k

/-- A header word of the image in slot k. -/
def State.imgWord (s : State) (k o : Nat) : Nat := s.flashWord (slotBase k + o)

/-- A header byte of the image in slot k. -/
def State.imgByte (s : State) (k o : Nat) : Nat := (s.flashByte (slotBase k + o)).toNat

/-- SECTIONS. -/
def State.imgSections (s : State) (k : Nat) : Nat := s.imgWord k 4 % 65536

/-- Entry i of the section table: TYPE, OFFSET, LENGTH. -/
def State.imgSection (s : State) (k i : Nat) : Nat × Nat × Nat :=
  (s.imgWord k (128 + 16 * i), s.imgWord k (132 + 16 * i), s.imgWord k (136 + 16 * i))

/-- The sections of an image. -/
def State.imgAll (s : State) (k : Nat) : List (Nat × Nat × Nat) :=
  (List.range (s.imgSections k)).map (s.imgSection k)

/-- The first section of a type: its offset and length. -/
def State.imgFind (s : State) (k t : Nat) : Option (Nat × Nat) :=
  ((s.imgAll k).find? fun e => e.1 == t).map Prod.snd

/-- An INIT pair names a CFG register that is neither KEY nor TRP (R551). -/
def initOk (a : Nat) : Bool :=
  a < 0x1000000 && a % 4 == 0
    && (match regInfo (decodeAddr a).1 with
        | some r => r.cfg != 0 && !r.key && !r.trp && !(decodeAddr a).2
        | none => false)

/-- No two sections overlap. -/
def disjointSecs : List (Nat × Nat × Nat) → Bool
  | [] => true
  | (_, o, n) :: r => r.all (fun e => o + n ≤ e.2.1 || e.2.1 + e.2.2 ≤ o) && disjointSecs r

/-- One section meets R551. -/
def State.sectionOk (s : State) (k len : Nat) (e : Nat × Nat × Nat) : Bool :=
  let (t, o, n) := e
  1 ≤ t && t ≤ 4 && o % 4 == 0 && 256 ≤ o && o + n + 64 ≤ len
    && (t != 1 || (4 ≤ n && n ≤ 655360)) && (t != 2 || n == 240)
    && (t != 3 || (n % 8 == 0 && n ≤ 4096 && (List.range (n / 8)).all fun i => initOk (s.imgWord k (o + 8 * i))))

/-- The header and sections meet R550 and R551. -/
def State.layoutOk (s : State) (k : Nat) : Bool :=
  let len := s.imgWord k 24
  let l := s.imgAll k
  let n := s.imgSections k
  let ofType (t : Nat) := (l.filter fun e => e.1 == t).length
  let zero (o m : Nat) := (s.flashBytes (slotBase k + o) m).all (· == 0)
  s.imgWord k 0 == 0x434F494E && s.imgWord k 4 / 65536 == 1 && 1 ≤ n && n ≤ 8 && s.imgWord k 8 != 0
    && s.imgByte k 12 ≤ 64 && zero 14 2 && len % 4 == 0 && 384 ≤ len && len ≤ 8388608 && zero 28 36
    && (List.range n).all (fun i => zero (140 + 16 * i) 4) && zero (128 + 16 * n) (128 - 16 * n)
    && l.all (s.sectionOk k len) && disjointSecs l && ofType 1 == 1 && ofType 2 == 1 && ofType 3 ≤ 1

/-- Word w of row r of the source protection table in an image. -/
def State.protWord (s : State) (k o r w : Nat) : Word := BitVec.ofNat 32 (s.imgWord k (o + 24 * r + 4 * w))

/-- SRC_PROT meets R560. -/
def State.srcProtOk (s : State) (k : Nat) : Bool :=
  match s.imgFind k 2 with
  | none => false
  | some (o, _) =>
    let w (r i : Nat) := s.protWord k o r i
    bit (w 0 0) 31 && bit (w 0 0) 0 && bit (w 0 0) 9 && bit (w 0 1) 0 && bit (w 0 1) 5
      && (List.range 10).all fun r =>
        onlyBits (w r 0) 0x800007FF && onlyBits (w r 1) 0x1FFFFF && onlyBits (w r 2) 0x1FFFFF
          && onlyBits (w r 3) 0x3FFFFF && onlyBits (w r 4) 0x1FFFFF && w r 5 == 0

/-- The key slot of an image is known and not revoked. -/
def State.keyOk (s : State) (k : Nat) : Bool :=
  let i := s.imgByte k 13
  i < 4 && sha256 (s.flashBytes (slotBase k + 64) 64) == Config.keyHash i && !Config.keyRevoked i

/-- The result code of R555 for the image in slot k, the lowest that applies; `written` counts the bytes written. -/
def State.imageResult (s : State) (k written : Nat) : Nat :=
  let len := s.imgWord k 24
  firstReason [
    (1, !s.layoutOk k || written < len),
    (2, s.imgWord k 16 != 0x00019256 || !(s.imgWord k 20).testBit Config.stepping.toNat),
    (3, !s.keyOk k),
    (4, !Config.ecdsaValid (s.flashBytes (slotBase k + 64) 64) (sha256 (s.flashBytes (slotBase k) (len - 64)))
          (s.flashBytes (slotBase k + len - 64) 64)),
    (5, s.imgByte k 12 < s.mgmt.otpFuses),
    (6, !s.srcProtOk k)]

/-- A slot takes or loses VALID and its version (R508). -/
def State.setSlot (s : State) (k : Nat) (valid : Bool) : State :=
  (s.setRb 0x50D8 (31 - k) valid).setReg (0x50D0 + 4 * k) (if valid then BitVec.ofNat 32 (s.imgWord k 8) else 0)

/-- VALID of a slot. -/
def State.slotValid (s : State) (k : Nat) : Bool := s.rb 0x50D8 (31 - k)

/-- The slot that runs. -/
def State.bootSlot (s : State) : Nat := s.rf 0x50B4 31 31

/-- Booted in recovery. -/
def State.inRecovery (s : State) : Bool := s.rb 0x50B4 30

/-! ### FW_WRITE (R555) -/

/-- An upload whose claim stands. -/
def State.uploading (s : State) : Option Upload :=
  if s.claimed (fun c => c == .flashUpload) then s.mgmt.upload else none

/-- FW_WRITE BEGIN (DEDUCED, notes/assumptions/97.md). -/
def State.fxFwBegin (q : Req) (ws : List Word) (s : State) : State :=
  let op := 0x0903
  let k := fld (wd ws 0) 0 0
  let len := (wd ws 1).toNat
  if ws.length != 2 then s.finish q op eLength 0 []
  else if !onlyBits (wd ws 0) 1 || len < 384 || len > 8388608 || len % 4 != 0 || (k = s.bootSlot && !s.inRecovery) then
    s.finish q op eParam 0 []
  else if s.claimed isFlash then s.finish q op eBusy 0 []
  else
    let s := ((s.claim .flashUpload).setSlot k false).modMgmt fun m => { m with
      upload := some { slot := k, len := len }, unfit := k :: m.unfit.filter (· != k) }
    let s := s.erase (slotBase k) (sector * cdiv len sector)
    (s.pendOn q op (.erase k len) none).flashShow

/-- FW_WRITE DATA (DEDUCED, notes/assumptions/91.md). -/
def State.fxFwData (q : Req) (ws : List Word) (s : State) : State :=
  let op := 0x0903
  let w := wd ws 0
  let n := fld w 11 0
  let off := (wd ws 1).toNat
  if ws.length < 3 || (1 ≤ n && n ≤ 4000 && ws.length != 2 + cdiv n 4) then s.finish q op eLength 0 []
  else if !onlyBits w 0xC0000FFF || fld w 31 30 != 1 || n = 0 || n > 4000 then s.finish q op eParam 0 []
  else
    match s.uploading with
    | none => s.finish q op eParam 0 []
    | some u =>
      if off != u.next || off + n > u.len then s.finish q op eParam 0 []
      else
        let s := s.program (slotBase u.slot + off) ((unpackWords (ws.drop 2)).take n)
        let s := s.modMgmt fun m => { m with upload := some { u with next := off + n } }
        (s.pendOn q op .program none).flashShow

/-- FW_WRITE END. -/
def State.fxFwEnd (q : Req) (ws : List Word) (s : State) : State :=
  let op := 0x0903
  if ws.length != 1 then s.finish q op eLength 0 []
  else if wd ws 0 != 0x80000000 || s.uploading.isNone || s.cmd.pend.any (fun p => p.job == .verify) then
    s.finish q op eParam 0 []
  else (s.pendOn q op .verify none).flashShow

/-- The upload and its claim end. -/
def State.endUpload (s : State) : State :=
  (s.release fun c => c == .flashUpload).modMgmt fun m => { m with upload := none }

/-- FW_WRITE ABORT. -/
def State.fxFwAbort (q : Req) (ws : List Word) (s : State) : State :=
  let op := 0x0903
  if ws.length != 1 then s.finish q op eLength 0 []
  else if wd ws 0 != 0xC0000000 then s.finish q op eParam 0 []
  else s.endUpload.finish q op stOk 0 []

/-- The end of a verification: its result, VALID and version, the record and the event.
(DEDUCED, notes/assumptions/90.md). -/
def State.verified (s : State) (ok : Bool) (q : Req) : State :=
  let u := s.uploading.getD { slot := 0, len := 0 }
  let res := if ok && s.uploading.isSome then (if u.next < u.len then 1 else s.imageResult u.slot u.next) else 1
  let s := if res = 0 then
      (s.setSlot u.slot true).modMgmt fun m => { m with unfit := m.unfit.filter (· != u.slot) }
    else s
  let s := s.logRec 0x07 false res (BitVec.ofNat 32 u.slot) (BitVec.ofNat 32 (s.imgWord u.slot 8))
  let s := s.mgmtEvent (if res = 0 then 0x30 else 0x31) 0xFF
  s.endUpload.finish q 0x0903 stOk res []

/-- A job of FW_WRITE. -/
def isUploadJob : Job → Bool
  | .erase _ _ => true
  | .program => true
  | .verify => true
  | _ => false

/-- FW_WRITE_COMPLETION: the flash controller ends the oldest operation of an upload. -/
def State.fwDone (s : State) (ok : Bool) : State :=
  match s.cmd.pend.find? fun p => isUploadJob p.job with
  | none => s
  | some p =>
    let s := if ok then s else s.flashFail
    let s := if p.job == .verify then s.verified ok p.req
      else s.finish p.req 0x0903 (if ok then stOk else eParam) 0 []
    let s := if isErase p.job && ok then s.modMgmt fun m => { m with upload := m.upload.map fun u => { u with erased := true } }
      else s
    s.flashShow.mclkStop

/-! ### FW_ACTIVATE, FW_ACT, REBOOT (R556 to R558) -/

/-- Choose a slot for the next boot: the status, and the state it leaves. -/
def State.chooseSlot (s : State) (k : Nat) : Nat × State :=
  if !s.slotValid k then (eParam, s)
  else if s.claimed isFlash then (eBusy, s)
  else
    let s := (s.claim .flashHeader).setRb 0x50D8 29 (k == 1)
    let s := (s.modMgmt fun m => { m with headerNext := some k }).flashShow
    (stOk, s.logRec 0x08 false k (s.reg (0x50D0 + 4 * k)) 0)

/-- FW_ACTIVATE, ACTION 0. -/
def State.fxFwChoose (q : Req) (ws : List Word) (s : State) : State :=
  let op := 0x0904
  if ws.length != 1 then s.finish q op eLength 0 []
  else if !onlyBits (wd ws 0) 1 then s.finish q op eParam 0 []
  else
    let r := s.chooseSlot (fld (wd ws 0) 0 0)
    r.2.finish q op r.1 0 []

/-- The slots whose image falls below the fuses lose VALID. -/
def State.rollSlot (s : State) (k : Nat) : State :=
  if s.slotValid k && s.imgByte k 12 < s.mgmt.otpFuses then s.setSlot k false else s

/-- FW_ACTIVATE, ACTION 1 (DEDUCED, notes/assumptions/98.md). -/
def State.fxFwCommit (q : Req) (ws : List Word) (s : State) : State :=
  let op := 0x0904
  let k := s.bootSlot
  let old := s.mgmt.otpFuses
  let new := s.imgByte k 12
  if ws.length != 1 then s.finish q op eLength 0 []
  else if wd ws 0 != 0x40000000 || s.inRecovery then s.finish q op eParam 0 []
  else if new ≤ old then s.finish q op stOk 0 []
  else
    let s := (s.modMgmt fun m => { m with otpFuses := new }).setReg 0x50DC (BitVec.ofNat 32 new)
    let s := (s.each [0, 1] State.rollSlot).setRb 0x50D8 29 (k == 1)
    let s := s.logRec 0x09 false new (BitVec.ofNat 32 (s.imgWord k 8)) (BitVec.ofNat 32 old)
    (s.mgmtEvent 0x32 0xFF).finish q op stOk 0 []

/-- The accepted key write of FW_ACT. -/
def State.fwAct (s : State) (w : Word) : Nat × State :=
  let a := fld w 31 30
  if a = 0 then (stOk, s) else if a = 3 then (eParam, s) else s.chooseSlot (a - 1)

/-- BOOT_HEADER_WRITTEN. -/
def State.headerDone (s : State) (ok : Bool) : State :=
  match s.mgmt.headerNext with
  | none => s
  | some k =>
    let s := if ok then s.writeCopy true (BitVec.ofNat 32 (k * 2 ^ 24)) else (s.spoilCopy true).flashFail
    ((s.modMgmt fun m => { m with headerNext := none }).release fun c => c == .flashHeader).flashShow.mclkStop

/-- REBOOT. -/
def State.fxReboot (q : Req) (ws : List Word) (s : State) : State :=
  let op := 0x0905
  if ws.length != 2 then s.finish q op eLength 0 []
  else if wd ws 0 != 0xA5 || wd ws 1 != 0xFFFFFF5A then s.finish q op eParam 0 []
  else if s.claimed fun c => c == .flashHeader then s.finish q op eBusy 0 []
  else (s.modMgmt fun m => { m with rebootAt := s.after 10000 }).finish q op stOk 0 []

/-! ### CFG_STORE (R565) -/

/-- A range of the host area. -/
def inHostArea (a n : Nat) : Bool := 0x1920000 ≤ a && a + n ≤ 0x2000000

/-- CFG_STORE SAVE_NOMINAL. -/
def State.fxCfgSave (q : Req) (ws : List Word) (s : State) : State :=
  let op := 0x0909
  if ws.length != 1 then s.finish q op eLength 0 []
  else if wd ws 0 != 0 then s.finish q op eParam 0 []
  else if s.claimed isFlash then s.finish q op eBusy 0 []
  else ((s.claim .flashCfg).pendOn q op (.cfg 0 (s.reg 0x202C).toNat) none).flashShow

/-- CFG_STORE ERASE. -/
def State.fxCfgErase (q : Req) (ws : List Word) (s : State) : State :=
  let op := 0x0909
  let a := (wd ws 1).toNat
  if ws.length != 2 then s.finish q op eLength 0 []
  else if wd ws 0 != 0x10000000 || a % sector != 0 || !inHostArea a sector then s.finish q op eParam 0 []
  else if s.claimed isFlash then s.finish q op eBusy 0 []
  else (((s.claim .flashCfg).erase a sector).pendOn q op (.cfg 1 a) none).flashShow

/-- CFG_STORE PROGRAM. -/
def State.fxCfgProgram (q : Req) (ws : List Word) (s : State) : State :=
  let op := 0x0909
  let w := wd ws 0
  let n := fld w 11 0
  let a := (wd ws 1).toNat
  if ws.length < 3 || (1 ≤ n && n ≤ 4000 && ws.length != 2 + cdiv n 4) then s.finish q op eLength 0 []
  else if !onlyBits w 0xF0000FFF || fld w 31 28 != 2 || n = 0 || n > 4000 || !inHostArea a n then
    s.finish q op eParam 0 []
  else if s.claimed isFlash then s.finish q op eBusy 0 []
  else
    (((s.claim .flashCfg).program a ((unpackWords (ws.drop 2)).take n)).pendOn q op (.cfg 2 a) none).flashShow

/-- CFG_STORE READ. -/
def State.fxCfgRead (q : Req) (ws : List Word) (s : State) : State :=
  let op := 0x0909
  let w := wd ws 0
  let n := fld w 11 0
  let a := (wd ws 1).toNat
  if ws.length != 2 then s.finish q op eLength 0 []
  else if !onlyBits w 0xF0000FFF || fld w 31 28 != 3 || n = 0 || n > 4000 || !inHostArea a n then
    s.finish q op eParam 0 []
  else s.finish q op stOk 0 (packWords (s.flashBytes a n))

/-- A job of CFG_STORE: its action and address or value. -/
def cfgJob : Job → Option (Nat × Nat)
  | .cfg a v => some (a, v)
  | _ => none

/-- CFG_STORE_COMPLETION. -/
def State.cfgDone (s : State) (ok : Bool) : State :=
  match s.cmd.pend.find? fun p => (cfgJob p.job).isSome with
  | none => s
  | some p =>
    let s := match cfgJob p.job with
      | some (0, v) => if ok then s.writeCopy false (BitVec.ofNat 32 v) else s.spoilCopy false
      | _ => s
    let s := if ok then s else s.flashFail
    ((s.release fun c => c == .flashCfg).finish p.req 0x0909 (if ok then stOk else eParam) 0 []).flashShow.mclkStop

/-! ### The log (R546 to R549, R564) -/

/-- Records of the log region. -/
def logSize : Nat := 262144

/-- The flash address of record i. -/
def logAddr (i : Nat) : Nat := 0x1100000 + 32 * i

/-- Write one record at the head, which then moves on: a sector is erased before the head enters it; a wrap counts in
LOG_PASS and raises event 0x41. -/
def State.writeRec (s : State) (l : List Byte) : State :=
  let h := s.rf 0x50C8 17 0
  let n := (h + 1) % logSize
  let s := (s.program (logAddr h) l).setRf 0x50C8 17 0 n
  let s := if n % 2048 = 0 then s.erase (logAddr n) sector else s
  if n = 0 then (s.setReg 0x50CC (s.reg 0x50CC + 1)).mgmtEvent 0x41 0xFF else s

/-- LOG_FLUSH: the timer wakes the Badger (R29, R38, R538); awake, it has the buffered records written to flash in
order, while no flash operation runs (DEDUCED, notes/assumptions/101.md). -/
def State.logFlush (s : State) : State :=
  if s.fwUp && s.due s.mgmt.logAt && !s.mgmt.awake then s.wakeBadger
  else if s.fwUp && s.due s.mgmt.logAt && !s.flashBusy && s.phase == .run then
    let l := s.mgmt.logBuf
    ((l.foldl State.writeRec s).modMgmt fun m => { m with logBuf := [], logAt := none }).mclkStop
  else s

/-- The words of LOG_RD. -/
def State.logWords (s : State) (i n : Nat) : List Word :=
  [s.reg 0x50C8, s.reg 0x50CC]
    ++ (List.range n).flatMap fun k => packWords (s.flashBytes (logAddr ((i + k) % logSize)) 32)

/-- LOG_RD. -/
def State.fxLogRd (q : Req) (ws : List Word) (s : State) : State :=
  let op := 0x0902
  let i := (wd ws 0).toNat
  let n := (wd ws 1).toNat
  if ws.length != 2 then s.finish q op eLength 0 []
  else if i ≥ logSize || n = 0 || n > 120 then s.finish q op eParam 0 []
  else if s.cmd.pend.any fun p => isUploadJob p.job && isErase p.job then s.pendOn q op (.logRead i n) none
  else s.finish q op stOk 0 (s.logWords i n)

/-- A job of LOG_RD. -/
def logJob : Job → Option (Nat × Nat)
  | .logRead i n => some (i, n)
  | _ => none

/-- LOG_RD_COMPLETION: the sector erase has ended. -/
def State.logDone (s : State) : State :=
  match s.cmd.pend.find? fun p => (logJob p.job).isSome with
  | none => s
  | some p =>
    match logJob p.job with
    | some (i, n) => s.finish p.req 0x0902 stOk 0 (s.logWords i n)
    | none => s

/-! ### Sensors (R542 to R545) -/

/-- TEMPn or VMONr with VALID. -/
def reading (v : Nat) : Word := BitVec.ofNat 32 (2 ^ 31 + v % 65536)

/-- R543: the state after a reading (0 OK, 1 HIGH, 2 LOW), and the low digit of the event code, 0 for none. -/
def cross (st : Nat) (v hi lo hys : Int) : Nat × Nat :=
  if st = 0 then (if v > hi then (1, 1) else if v < lo then (2, 3) else (0, 0))
  else if st = 1 then (if v ≤ hi - hys then (0, 2) else (1, 0))
  else if v ≥ lo + hys then (0, 4) else (2, 0)

/-- A crossing: its event and its log record with the limit crossed (DEDUCED, notes/assumptions/100.md). -/
def State.crossed (s : State) (code n : Nat) (rd lim : Word) : State :=
  (s.mgmtEvent code n).logRec 0x06 false (code + 256 * n) rd (BitVec.ofNat 32 (if code % 16 ≤ 2 then fld lim 31 16 else fld lim 15 0))

/-- One temperature. -/
def State.readTemp (s : State) (n : Nat) (v : Int) : State :=
  let w := reading (BitVec.ofInt 16 v).toNat
  let lim := s.reg (0x5040 + 4 * n)
  let st := nth s.mgmt.tempState n
  let z := cross st v (signed 16 (fld lim 31 16)) (signed 16 (fld lim 15 0)) 32
  let pad {α : Type} (d : α) (l : List α) := l ++ List.replicate (16 - l.length) d
  let s := (s.setReg (0x5000 + 4 * n) w).modMgmt fun m =>
    let t := pad (-32768) m.tempMax
    { m with tempState := (pad 0 m.tempState).set n z.1, tempMax := t.set n (max v ((t[n]?).getD v)) }
  if z.2 = 0 then s else s.crossed z.2 n w lim

/-- One voltage. -/
def State.readVolt (s : State) (r v : Nat) : State :=
  let w := reading v
  let lim := s.reg (0x5098 + 4 * r)
  let z := cross (nth s.mgmt.voltState r) v (fld lim 31 16) (fld lim 15 0) 5
  let s := (s.setReg (0x5080 + 4 * r) w).modMgmt fun m =>
    { m with voltState := (m.voltState ++ List.replicate (6 - m.voltState.length) 0).set r z.1 }
  if z.2 = 0 then s else s.crossed (0x10 + z.2) r w lim

/-- SENSOR_CONVERSION. -/
def State.convert (s : State) (temps : List Int) (mv : List Nat) : State :=
  if s.clocked then
    let s := ((List.range 16).zip temps).foldl (fun t e => t.readTemp e.1 e.2) s
    ((List.range 6).zip mv).foldl (fun t e => t.readVolt e.1 e.2) s
  else s

/-- The present reading of temperature sensor n. -/
def State.tempNow (s : State) (n : Nat) : Int := signed 16 (s.rf (0x5000 + 4 * n) 15 0)

/-- SENSOR_RD. -/
def State.fxSensorRd (q : Req) (ws : List Word) (s : State) : State :=
  let op := 0x0901
  if ws.length != 1 then s.finish q op eLength 0 []
  else if !onlyBits (wd ws 0) 1 then s.finish q op eParam 0 []
  else
    let top (n : Nat) : Int := (s.mgmt.tempMax[n]?).getD (s.tempNow n)
    let body := ((List.range 16).map fun n => s.reg (0x5000 + 4 * n)) ++ ((List.range 6).map fun r => s.reg (0x5080 + 4 * r))
      ++ ((List.range 16).map fun n => BitVec.ofNat 32 (BitVec.ofInt 16 (top n)).toNat)
    let s := if bit (wd ws 0) 0 && !s.mgmt.tempMax.isEmpty then
        s.modMgmt fun m => { m with tempMax := (List.range 16).map s.tempNow }
      else s
    s.finish q op stOk 0 body

/-- MGMT_EVENT_HOLDOFF_EXPIRY. -/
def State.mgmtExpiry (s : State) (code ch : Nat) : State :=
  s.expireHold (holdMgmt code ch) fun _ i => mkEvent i.suppressed 0x0C 0xF9 ch code i.time

/-! ### The Badger (R38, R538 to R541, R448, R493) -/

/-- BADGER_READY: 15 µs after the wake; the watchdog counts from the wake. -/
def State.badgerReady (s : State) : State :=
  if s.due s.mgmt.readyAt && s.fwUp then
    (s.modMgmt fun m => { m with readyAt := none, awake := true, wdtAt := s.after 49985 }).setRf 0x50B0 31 30 1
  else s

/-- A command that waits for FW_UP or for its turn has not started. -/
def isHeldJob : Job → Bool
  | .held _ _ => true
  | _ => false

/-- BADGER_SLEEP: no command waits, and no timer task is due. The buffered records are the log engine's. -/
def State.badgerSleep (s : State) : State :=
  if s.mgmt.awake && s.fwUp && s.cmd.inbox.isEmpty && !s.cmd.pend.any (isHeldJob ·.job)
      && !s.due s.mgmt.foldAt && !s.due s.mgmt.logAt then
    ((s.modMgmt fun m => { m with awake := false, wdtAt := none }).setRf 0x50B0 31 30 0).mclkStop
  else s

/-- A command that had started completes with DETAIL 0xFFFF (R448). -/
def State.cutCmd (s : State) (p : PendCmd) : State := s.finish p.req p.opcode eParam 0xFFFF []

/-- A firmware command that waits in the queue when FW_UP goes to 0 is answered PENDING on the firmware's behalf (R540).
(DEDUCED, notes/assumptions/95.md). -/
def State.parkCmd (s : State) (p : PendCmd) : State :=
  match p.job with
  | .held op _ =>
    if isFirmware op && !p.pending then (s.status p.req op stPending).setPend { p with pending := true } else s
  | _ => s

/-- The Badger is reset: its started commands complete, those that wait are answered PENDING, an upload and a CFG_STORE
lose the flash (DEDUCED, notes/assumptions/95.md). -/
def State.badgerDown (s : State) : State :=
  let s := (s.cmd.pend.filter fun p => !isHeldJob p.job).foldl State.cutCmd s
  let s := s.cmd.pend.foldl State.parkCmd s
  let s := s.endUpload.release fun c => c == .flashCfg
  let s := ({ s with swap := { s.swap with validating := none } }.modTwin fun t => { t with yieldReq := none }).modMgmt
    fun m => { m with awake := false, readyAt := none, wdtAt := none, mclk := true }
  let s := s.each (allCh.filter fun c => (s.lane c).eye.req.isSome) fun t c =>
    t.modLane c fun l => { l with eye := { l.eye with req := none } }
  ((s.setRf 0x50B0 31 30 2).setRb 0x0008 28 false).flashShow

/-- WATCHDOG_EXPIRY: 50 ms of running time without service; `at_` is the address of an interrupted write burst.
(DEDUCED, notes/assumptions/102.md). -/
def State.watchdog (s : State) (at_ : Option Nat) : State :=
  if s.mgmt.awake && s.due s.mgmt.wdtAt then
    let acc : FaultAccess := match at_ with
      | some a => { master := 1, access := 2, addr := a }
      | none => { master := 1, access := 0, addr := 0 }
    s.badgerDown.report { src := 10, acc := acc }
  else s

/-- The bins after a restart that found their check value wrong: from zero, and SUSPECT (R541). -/
def Mgmt.wipeBins (m : Mgmt) : Mgmt :=
  { m with bins := m.bins.map fun e =>
      (e.1, if e.1 % 256 = 128 then [0] else [nth e.2 0, 1, 0, 0, 0, 0, 0, 0, 0, 0, 0]) }

/-- FW_UP sets (R540, R545): event 0x21. -/
def State.fwStarts (s : State) : State :=
  ((s.modMgmt fun m => { m with awake := true, readyAt := none, mclk := true, wdtAt := s.after 50000 }).setRf 0x50B0 31 30
    1).setRb 0x0008 28 true

/-- The firmware is ready again after a restart. -/
def State.badgerBack (s : State) (reload binsOk : Bool) : State :=
  let re := reload || s.mgmt.mustReload
  let s := s.fwStarts.modMgmt fun m => { (if binsOk then m else m.wipeBins) with mustReload := false }
  let s := s.count 0x50B0 15 0 1
  let s := s.logRec 0x05 false (b2n re) (BitVec.ofNat 32 (s.rf 0x50B0 15 0)) 0
  (s.mgmtEvent 0x20 0xFF).mgmtEvent 0x21 0xFF

/-! ### The commands -/

/-- R555, R552, R560, R508. -/
def execFwWriteCompletion (ok : Bool) (s : State) : Out := .next (whileOn s (s.fwDone ok))
/-- R554, R556, R561. -/
def execBootHeaderWritten (ok : Bool) (s : State) : Out := .next (whileOn s (s.headerDone ok))
/-- R565, R508. -/
def execCfgStoreCompletion (ok : Bool) (s : State) : Out := .next (whileOn s (s.cfgDone ok))
/-- R546 to R548, R538. -/
def execLogFlush (s : State) : Out := .next (owlOn s s.logFlush)
/-- R564. -/
def execLogRdCompletion (s : State) : Out := .next (whileOn s s.logDone)
/-- R542, R543, R545, R547. -/
def execSensorConversion (temps : List Int) (mv : List Nat) (s : State) : Out := .next (whileOn s (s.convert temps mv))
/-- R545, R233. -/
def execMgmtEventHoldoffExpiry (code ch : Nat) (s : State) : Out :=
  .next (owlOn s (if code < 256 ∧ ch < 256 then s.mgmtExpiry code ch else s))
/-- R13, R538. -/
def execBadgerSleep (s : State) : Out := .next (whileOn s s.badgerSleep)
/-- R448, R493, R539, R541, R513. -/
def execWatchdogExpiry (interrupted : Option Nat) (s : State) : Out := .next (whileOn s (s.watchdog interrupted))

end Sys2Proof.Machine
end

