-- ==== Sys2Proof/Machine/FaultCmds.lean ====
section
/-!
DEFINITION. What raises, acknowledges and injects faults (17_fault_collector.md, R484, R485, R490): sources, wire
faults, the scrub, bus paths, timers and windows, the injector.
-/
namespace Sys2Proof.Machine

/-! ### The injector (R531 to R534) -/

/-- The injector is claimed. -/
def isInjector : Claim → Bool
  | .injector => true
  | _ => false

/-- Assert an injection: the status, and the state it leaves. It names no instance. A wire fault hides real reports only
(R514). -/
def State.injOn (s : State) (src : Nat) : Nat × State :=
  if src ≥ 30 then (eParam, s)
  else if s.faults.injected = some src then (stOk, s)
  else if s.claimed isInjector then (eBusy, s)
  else
    let s := (s.claim .injector).modFaults fun f => { f with injected := some src }
    (stOk, (s.setReg 0x1048 (BitVec.ofNat 32 (2 ^ 31 + src))).raise { src := src, injected := true })

/-- Withdraw the injection, and release its claim; a pulse replies. -/
def State.injOff (s : State) : State :=
  let s := (s.release isInjector).modFaults fun f => { f with injected := none, pulseAt := none }
  let s := s.setReg 0x1048 0x3F
  (s.cmd.pend.filter fun p => p.job == .pulse).foldl (fun t p => t.finish p.req p.opcode stOk 0 []) s

/-- BOOT_LOCK or TEST_LOCK is set (R483). -/
def State.keyLocked (s : State) : Bool := s.rb 0x0010 31 || s.rb 0x0010 30

/-- The accepted key write of FAULT_INJ; a SOURCE of 30 to 63 is refused whatever INJ holds (R531). -/
def State.injKey (s : State) (w : Word) : Nat × State :=
  if fld w 5 0 ≥ 30 then (eParam, s) else if bit w 31 then s.injOn (fld w 5 0) else (stOk, s.injOff)

/-- FAULT_INJECT with the action of its row (DEDUCED, notes/assumptions/99.md). -/
def State.fxFaultInject (act : Nat) (q : Req) (ws : List Word) (s : State) : State :=
  let op := 0x0804
  let w := wd ws 0
  let src := fld w 5 0
  if ws.length != 1 then s.finish q op eLength 0 []
  else if !onlyBits w 0xC000003F || act > 2 || fld w 31 30 != act || src ≥ 30 then s.finish q op eParam 0 []
  else if s.keyLocked then s.finish q op eLocked 0 []
  else if act = 0 then s.injOff.finish q op stOk 0 []
  else if act = 1 || s.faults.injected = some src then
    let r := s.injOn src
    r.2.finish q op r.1 0 []
  else
    let r := s.injOn src
    if r.1 != stOk then r.2.finish q op r.1 0 []
    else
      (r.2.modFaults fun f => { f with pulseAt := s.after 10 }).setPend
        { req := q, opcode := op, job := .pulse, pending := s.wasPending q }

/-- FAULT_PULSE_END. -/
def State.pulseEnd (s : State) : State := if s.due s.faults.pulseAt then s.injOff else s

/-! ### Parity and voted copies (R484, R485, R263, R271, R403) -/

/-- The record of a fault that a use or the scrub finds in a register (R517). -/
def scrubAcc (a : Nat) : FaultAccess := { master := 7, access := 1, addr := a }

/-- A parity mismatch in a channel window. -/
def State.parCh (s : State) (c : Nat) (acc : FaultAccess) : State :=
  ((s.toFaulted (s.owner c)).setCrb c 27 31 true).report
    { src := 3, group := some (c / 16), chan := some c, acc := acc }

/-- A parity mismatch in a group block: every provisioned channel enters FAULTED. -/
def State.parGrp (s : State) (g : Nat) (acc : FaultAccess) : State :=
  let s := s.each ((grpChs g).filter fun c => s.provisioned c && !s.isMember c) State.toFaulted
  (s.setRb (grpReg g 31) 30 true).report { src := 2, group := some g, acc := acc }

/-- A parity mismatch in the register at a place; the register is marked until a write. -/
def State.parity (s : State) (p : Place) : State :=
  let a := p.addr
  match regInfo p with
  | none => s
  | some r =>
    if s.badPar.contains a then s
    else
      let t := { s with badPar := a :: s.badPar }
      match p with
      | .chan c _ =>
        if r.hold then t.report { src := 4, group := some (c / 16), chan := some c, acc := scrubAcc a }
        else if r.cfg = 0 then s else t.parCh c (scrubAcc a)
      | .group g _ => if r.cfg = 0 then s else t.parGrp g (scrubAcc a)
      | .page n _ =>
        if r.cfg = 0 && !r.key then s else (t.setRb (pgReg n 0xFC) 30 true).report { src := 1, acc := scrubAcc a }

/-- A register that is held in three copies. -/
def isTrp (p : Place) : Bool :=
  p == .page 4 2 || (match regInfo p with | some r => r.trp | none => false)

/-- The group and channel of a place. -/
def Place.inst (p : Place) : Option Nat × Option Nat :=
  match p with
  | .chan c _ => (some (c / 16), some c)
  | .group g _ => (some g, none)
  | .page _ _ => (none, none)

/-- One copy differs: the majority is written back. -/
def State.trpOne (s : State) (p : Place) : State :=
  if isTrp p then
    let s := match p with
      | .chan c _ => s.setCrb c 27 30 true
      | _ => s
    s.report { src := 5, group := p.inst.1, chan := p.inst.2, acc := scrubAcc p.addr }
  else s

/-- All three copies differ: the owner holds its last value. -/
def State.trpAll (s : State) (p : Place) : State :=
  let a := p.addr
  if isTrp p && !s.trpBad.contains a then
    let s := { s with trpBad := a :: s.trpBad }
    let r : Report := { src := 6, group := p.inst.1, chan := p.inst.2, acc := scrubAcc a }
    if a = 0x1004 then s.levelOn { r with src := 0 }
    else
      let s := s.levelOn r
      match p with
      | .chan c n =>
        let s := s.setCrb c 27 29 true
        if n = 12 then (s.mspGroups c).foldl State.pgFreeze s else s
      | _ =>
        if a = 0x2000 then s.refFreeze
        else if a = 0x4004 then s.modTwin fun t => { t with lenHeld := some s.leaseN }
        else s
  else s

/-- The scrub finds the copies of words 0 to 2 of a group entry apart (DEDUCED, notes/assumptions/103.md). -/
def State.scrubPg (s : State) (p : Nat) (f : ScrubFinding) : State :=
  let acc := scrubAcc (4 * 65536 + p)
  match f with
  | .oneCopy => s.report { src := 5, acc := acc }
  | .allDiffer =>
    if s.trpBad.contains (pgScrub p) then s
    else ({ s with trpBad := pgScrub p :: s.trpBad }.levelOn { src := 6, acc := acc }).pgFreeze p
  | _ => s

/-- REGISTER_SCRUB. -/
def State.scrub (s : State) (a : Nat) (f : ScrubFinding) : State :=
  if a ≥ 2 ^ 24 then (if a < pgScrub 96 && s.clocked then s.scrubPg (a - 2 ^ 24) f else s)
  else if !s.clocked then s
  else
    let p := (decodeAddr a).1
    match f with
    | .good => s
    | .parity => s.parity p
    | .oneCopy => s.trpOne p
    | .allDiffer => s.trpAll p

/-! ### Bus paths (R490) -/

/-- The path of a master to a target exists. -/
def pathExists (m t : Nat) (write : Bool) : Bool :=
  if m = 0 then t ≤ 16
  else if m = 1 then t ≤ 17
  else if m = 2 then t == 15 || t == 17 || (t == 0 && !write)
  else if m = 3 then t ≤ 13 || t == 16
  else if m = 4 then t ≤ 12
  else true

/-- BUS_PATH_ERROR: the transaction is not issued. -/
def State.busError (s : State) (m t : Nat) (write : Bool) (a : Nat) : State :=
  if pathExists m t write then s
  else s.report { src := 9, acc := { master := m, access := if write then 2 else 1, addr := a } }

/-! ### FAULT_RAISE (R512 to R515) -/

/-- The level sources of R513 (DEDUCED, notes/assumptions/104.md). -/
def levelSrc (n : Nat) : Bool := [0, 6, 8, 17, 21, 22, 23, 24, 26, 27].contains n

/-- The frame at the head of queue q of channel c is discarded, without a count of its own (R513, source 18).
(DEDUCED, notes/assumptions/88.md). -/
def State.dropHead (s : State) (c q : Nat) : State :=
  (s.modPkt c fun p => p.modQueue q fun k => { k with frames := k.frames.drop 1 }).bufSync

/-- The table entry that ADDR of a TBL_PAR record names, in the bank that is not in use where the table has two.
(DEDUCED, notes/assumptions/89.md). -/
def State.parTbl (s : State) (acc : FaultAccess) : State :=
  let t := acc.addr / 65536 % 256
  { s with tblBad := tblKey t (if t = 1 ∨ t = 2 then s.bankOther else 0) (acc.addr % 65536) 0 :: s.tblBad }

/-- An edge report of a source with what its condition does. -/
def State.edge (s : State) (r : Report) : State :=
  if r.src = 1 && r.acc.access != 0 then
    (match (decodeAddr r.acc.addr).1 with
     | .page n _ => s.setRb (pgReg n 0xFC) 30 true
     | _ => s).report r
  else if r.src = 2 then s.parGrp (r.group.getD 0) r.acc
  else if r.src = 3 then (match r.chan with | some c => s.parCh c r.acc | none => s.report r)
  else if r.src = 7 then (s.parTbl r.acc).report r
  else if r.src = 18 then
    (match r.chan with
     | some c => s.dropHead c (r.acc.addr % 8)
     | none => s).report { r with acc := {} }
  else if r.src = 19 then
    (if s.rf 0x50B0 31 30 = 2 then s else s.badgerDown.modMgmt fun m => { m with mustReload := true }).report r
  else if r.src = 28 then (s.count 0x50C4 31 0 1).report r
  else s.report r

/-- FAULT_RAISE. -/
def State.raiseCmd (s : State) (src : Nat) (k : FaultKind) (g c : Option Nat) (acc : FaultAccess) : State :=
  let r : Report := { src := src, group := g, chan := c, acc := acc }
  if src > 29 || s.phase == .held then s
  else
    match k with
    | .edge => if levelSrc src then s else s.edge r
    | .levelOnset => if levelSrc src then s.levelOn r else s
    | .levelEnd => if levelSrc src then s.levelOff src else s
    | .wireOnset =>
      if s.faults.wires.contains src then s
      else
        (if src = 0 then s.raise { src := 0 } else s.raise { r with wire := true, acc := {} }).modFaults fun f =>
          { f with wires := src :: f.wires }
    | .wireEnd => s.modFaults fun f => { f with wires := f.wires.filter (· != src) }

/-! ### Timers and windows (R519, R520, R522) -/

/-- FAULT_ACK_TIMER_EXPIRY. -/
def State.ackDue (s : State) (sev : Nat) : State :=
  if 1 ≤ sev && sev ≤ 3 && s.due (s.faults.timer sev) then s.ackExpiry sev else s

/-- FAULT_EVENT_WINDOW_EXPIRY: a suppressed report raises one event, which opens a new window. -/
def State.windowOver (s : State) (src : Nat) : State :=
  match Store.get none s.faults.windows src with
  | none => s
  | some w =>
    if w.till ≤ s.owl then
      match w.again with
      | some e => (s.push e).setWindow src (some { till := s.owl + 1000, again := none })
      | none => s.setWindow src none
    else s

/-- The accepted write of FAULT_ACK. -/
def State.ackWrite (s : State) (w : Word) : State :=
  let s := if bit w 31 then s.ackSev 1 else s
  let s := if bit w 30 then s.ackSev 2 else s
  if bit w 29 then s.ackSev 3 else s

/-! ### The commands -/

/-- R534. -/
def execFaultPulseEnd (s : State) : Out := .next (whileOn s s.pulseEnd)
/-- R484, R485, R517. -/
def execRegisterScrub (addr : Nat) (found : ScrubFinding) (s : State) : Out := .next (whileOn s (s.scrub addr found))
/-- R490, R517. -/
def execBusPathError (master target : Nat) (write : Bool) (addr : Nat) (s : State) : Out :=
  .next (whileOn s (s.busError master target write addr))
/-- R512 to R522. -/
def execFaultRaise (src : Nat) (kind : FaultKind) (g c : Option Nat) (a : FaultAccess) (s : State) : Out :=
  .next (whileOn s (s.raiseCmd src kind g c a))
/-- R519, R520, R523, R533. -/
def execFaultAckTimerExpiry (sev : Nat) (s : State) : Out := .next (owlOn s (s.ackDue sev))
/-- R522. -/
def execFaultEventWindowExpiry (src : Nat) (s : State) : Out := .next (whileOn s (s.windowOver src))

end Sys2Proof.Machine
end

