-- ==== Sys2Proof/Machine/Maint.lean ====
section
/-!
DEFINITION. Maintenance of a lane: PRBS (R72 to R75), loopbacks (R460) and eye scans (R76 to R80, R461).
-/
namespace Sys2Proof.Machine

/-- The receive side is taken from the channel, or given back: it resumes at frame hunting (R75, R88, R98, R460). -/
def State.rehunt (s : State) (c : Nat) : State :=
  let o := s.owner c
  let st := s.chState o
  if !s.enabled o || st == stAsleep || st == stWaking || st == stFaulted then s
  else if s.framed o then s.outOfFrame o false
  else if st == stInFrame then s.toState o stHunting
  else s

/-- A checker takes the receive side: the engine is released, and no request follows (R88, R98). CH_STATUS shows
HUNTING. (DESIGN CHOICE, notes/assumptions/144.md). -/
def State.holdRx (s : State) (c : Nat) : State :=
  let o := s.owner c
  let st := s.chState o
  let s := (s.releaseFox o false).withdraw o
  if st == stInFrame || st == stOofHold || st == stWaitFox then s.toState o stHunting else s

/-! ### PRBS (R73 to R75) -/

/-- Change the PRBS unit of a lane. -/
def State.modPrbs (s : State) (c : Nat) (f : Prbs → Prbs) : State := s.modLane c fun l => { l with prbs := f l.prbs }

/-- The five words of the reply. -/
def State.prbsWords (s : State) (c : Nat) : List Word :=
  let p := (s.lane c).prbs
  [BitVec.ofNat 32 (b2n p.gen * 2 + b2n p.chk), BitVec.ofNat 32 (b2n p.lock * 2 ^ 31 + p.losses),
    BitVec.ofNat 32 p.bits, BitVec.ofNat 32 (p.bits / 2 ^ 32), BitVec.ofNat 32 p.errs]

/-- The reply of PRBS, with the words as they stood in `s`. -/
def State.prbsReply (s t : State) (q : Req) (c : Nat) : State := t.finish q 0x0802 stOk 0 (s.prbsWords c)

/-- Start the generator, the checker or both (DEDUCED, notes/assumptions/77.md). -/
def State.prbsStart (s : State) (c pat dir : Nat) (inv : Bool) : State :=
  let chk := dir ≥ 2
  let s := s.claim (.lane c true)
  let s := if chk then s.holdRx c else s
  s.modPrbs c fun p => { p with
    gen := p.gen || dir % 2 == 1, chk := p.chk || chk, pattern := pat, inv := inv, lock := false
    hist := [], good := 0, winBits := 0, winErrs := 0
    losses := if chk then 0 else p.losses, bits := if chk then 0 else p.bits, errs := if chk then 0 else p.errs }

/-- Stop the generator, the checker or both; what was counted stays. The channel hunts again after either.
(DESIGN CHOICE, notes/assumptions/138.md). -/
def State.prbsStop (s : State) (c dir : Nat) : State :=
  let was := (s.lane c).prbs
  let gen := was.gen && dir % 2 == 0
  let chk := was.chk && dir < 2
  if gen == was.gen && chk == was.chk then s
  else
    let s := if was.chk && !chk then s.endScan c 1 else s
    let s := s.modPrbs c fun p => { p with gen := gen, chk := chk, lock := p.lock && chk }
    let s := if gen || chk then s else s.release fun k => k == .lane c true
    s.rehunt c

/-- PRBS. -/
def State.fxPrbs (act : Nat) (q : Req) (ws : List Word) (s : State) : State :=
  let op := 0x0802
  let w := wd ws 0
  let c := fld w 23 16
  let dir := fld w 9 8
  let pat := fld w 14 12
  if ws.length != 1 then s.finish q op eLength 0 []
  else if !onlyBits w 0x00FFF303 || c ≥ 192 || fld w 1 0 != act || pat > 5 then s.finish q op eParam 0 []
  else if act = 0 then
    if dir = 0 || (pat = 5 && !s.pam4 c) then s.finish q op eParam 0 []
    else if s.claimed (isLane c) then s.finish q op eBusy 0 []
    else
      let t := s.prbsStart c pat dir (bit w 15)
      t.prbsReply t q c
  else if act = 1 then
    if dir = 0 then s.finish q op eParam 0 []
    else
      let t := s.prbsStop c dir
      t.prbsReply t q c
  else if act = 2 then s.prbsReply s q c
  else
    s.prbsReply (s.modPrbs c fun p => { p with losses := 0, bits := 0, errs := 0 }) q c

/-- The checker of lane c takes received symbols (R74): on their way it may lock, count, lose lock and reseed. -/
def State.prbsTake (s : State) (c : Nat) (syms : List Nat) : State :=
  if (s.lane c).prbs.chk && (s.lane c).sd then
    let r := s.laneBits c 1 syms
    s.modLane c fun l => { l with prbs := r.1.foldl Prbs.bit l.prbs, preRx := r.2 }
  else s

/-! ### LOOPBACK (R460) -/

/-- LOOPBACK with the mode of its row. -/
def State.fxLoopback (mode : Nat) (q : Req) (ws : List Word) (s : State) : State :=
  let op := 0x0803
  let w := wd ws 0
  let c := fld w 23 16
  if ws.length != 1 then s.finish q op eLength 0 []
  else if !onlyBits w 0x00FF0003 || c ≥ 192 || mode > 2 || fld w 1 0 != mode then s.finish q op eParam 0 []
  else if mode = 0 then
    if (s.lane c).loop = 0 then s.finish q op stOk 0 []
    else
      (((s.modLane c fun l => { l with loop := 0 }).release fun k => k == .lane c false).rehunt c).finish q op stOk 0 []
  else if s.claimed (isLane c) then s.finish q op eBusy 0 []
  else ((s.claim (.lane c false)).modLane c fun l => { l with loop := mode }).finish q op stOk 0 []

/-! ### EYE_SCAN (R77 to R80, R461) -/

/-- The byte of a point as a read finds it; the errors of a point that no complete scan gives are free.
(DESIGN CHOICE, notes/assumptions/79.md). -/
def State.eyeByte (s : State) (c i : Nat) : Byte :=
  let e := (s.lane c).eye
  let got := if e.running then s.eyeGot c else e.got
  match e.points[i]? with
  | some b => b
  | none =>
    let bits := 10 ^ (5 + e.dwell)
    let w (k : Nat) : Nat := (Config.free (e.base + 2 * i + k)).toNat
    if i < got then eyeCode bits ((w 0 * 2 ^ 32 + w 1) % (bits + 1)) else 0xFF

/-- Start a scan: its points are free values until the scan is complete. -/
def State.eyeStart (s : State) (c eye dwell : Nat) (q : Req) : State :=
  let s := (s.claim (.sampler c)).modLane c fun l => { l with
    eye := { running := true, since := s.owl, base := s.freeCtr, eye := eye, dwell := dwell, req := some q } }
  { s with freeCtr := s.freeCtr + 2 * eyePoints }

/-- EYE_SCAN. -/
def State.fxEye (act : Nat) (q : Req) (ws : List Word) (s : State) : State :=
  let op := 0x0801
  let w := wd ws 0
  let c := fld w 23 16
  if ws.length != 1 then s.finish q op eLength 0 []
  else if !onlyBits w 0x00FF7733 || c ≥ 192 || act > 2 || fld w 1 0 != act || (act = 0 && fld w 5 4 = 3) then
    s.finish q op eParam 0 []
  else if act = 0 then
    if (s.lane c).eye.running then s.finish q op eBusy 0 []
    else if s.chState c == stAsleep || s.chState c == stWaking then s.finish q op eParam 0 []
    else (s.eyeStart c (fld w 5 4) (fld w 10 8) q).pendOn q op (.eye c) none
  else if act = 1 then (s.endScan c 1).finish q op stOk 0 []
  else
    let p := fld w 14 12
    s.finish q op stOk 0 (packWords ((List.range 1024).map fun i => s.eyeByte c (1024 * p + i)))

/-- EYE_SCAN_DONE: every point has been measured, with the errors it counted in its dwell. -/
def State.eyeDone (s : State) (c : Nat) (errs : List Nat) : State :=
  if (s.lane c).eye.running && (s.owl - (s.lane c).eye.since) * 1000 ≥ eyePoints * s.pointNs c then
    (s.modLane c fun l => { l with
      eye := { l.eye with points := (errs.take eyePoints).map (eyeCode (10 ^ (5 + l.eye.dwell))) } }).endScan c 0
  else s

/-! ### The commands -/

/-- R74. -/
def execPrbsLock (l : LaneSymbols) (s : State) : Out := .next (onCh l.lane s (s.prbsTake l.lane l.syms))
/-- R74. -/
def execPrbsLossOfLock (c : Nat) (before window : List Nat) (s : State) : Out :=
  .next (onCh c s (s.prbsTake c (before ++ window)))
/-- R77, R78, R80, R461, R464. -/
def execEyeScanDone (c : Nat) (errs : List Nat) (s : State) : Out := .next (onCh c s (s.eyeDone c errs))

end Sys2Proof.Machine
end

