-- ==== Sys2Proof/Machine/RegWrite.lean ====
section
/-!
DEFINITION. Reads and writes of registers (15_register_conventions.md): access classes, gates, ignored writes, the
effects of the registers that have one, the key procedure, and the register opcodes (R456, R469 to R483).
-/
namespace Sys2Proof.Machine

/-- A status and the state that goes with it. -/
abbrev Ans := Nat × State

/-! ### Values a CH_MODE may hold (R48, R68, R141, R142, R198) -/

/-- The codes of R48. -/
def clientOk (k : Nat) : Bool :=
  k == 0 || isSdh k || isOtn k || isEth k

/-- The combinations of R141 (DEDUCED, notes/assumptions/84.md). -/
def modeOk (w : Word) : Bool :=
  let k := fld w 31 24
  let r := fld w 21 19
  let st := fld w 18 16
  let ts := fld w 15 9
  if k = 1 ∨ k = 2 then r == 0
  else if k = 3 then r ≤ 1
  else if k = 4 then r ≤ 2
  else if k = 0x11 then r == 0 && st == 0
  else if isOtn k then r == 0 && st ≤ 1
  else if isEth k then
    r == 5 || (r == 3 && k != 0x22 && k != 0x23) || (r == 4 && (k == 0x22 || k == 0x23) && 1 ≤ ts && ts ≤ 80)
  else false

/-- The members that an owner with a client code has beside itself. -/
def membersOf (c k : Nat) : List Nat := (List.range (lanesOf k - 1)).map (c + 1 + ·)

/-- Channel c may own the lanes of client code k: its index fits (R4), it is no member itself, and no member is
provisioned or claimed (R68) (DEDUCED, notes/assumptions/86.md). -/
def State.bondFits (s : State) (c k : Nat) : Bool :=
  c % lanesOf k == 0 && !s.isMember c
    && (membersOf c k).all fun d =>
      (s.ch d).bondOwner == some c || (!s.provisioned d && !s.enabled d && !s.claimed (isLane d))

/-- Reserve the members of a bond for its owner. -/
def State.reserve (s : State) (c k : Nat) : State :=
  s.each (membersOf c k) fun t d =>
    t.modCh d fun h => { h with bondOwner := some c, cnt := { h.cnt with partial_ := true } }

/-- Free every member of the bond that c owns: it no longer shows its owner's CH_STATUS (R69), and the detector of a
lane without a client is off (R61). -/
def State.freeBond (s : State) (c : Nat) : State :=
  s.each (allCh.filter fun d => (s.ch d).bondOwner == some c) fun t d =>
    let t := t.modCh d fun h => { h with bondOwner := none, cnt := { h.cnt with partial_ := true } }
    let t := t.setReg (chReg d 4) (resetWord (chReg d 4))
    if t.provisioned d then t else t.modLane d fun l => { l with sd := false }

/-- The setting of the enable bit of channel c takes effect. -/
def State.enableOk (s : State) (c : Nat) : Bool :=
  !s.isMember c && modeOk (s.cr c 1) && !s.unprovided c && s.bondFits c (s.client c)

/-! ### The write of one register, field by field (R12, R469, R473, R474) -/

/-- The register whose bit gates a register: the CH_LANE of a member is gated by its owner's CH_EN (R69). -/
def State.gateAt (s : State) (p : Place) (a : Nat) : Nat :=
  match p with
  | .chan c 2 => if a = chReg c 0 then chReg (s.owner c) 0 else a
  | _ => a

/-- The configuration bits whose enable bit is stored as 1. -/
def State.locked (s : State) (p : Place) (r : RegInfo) : Word :=
  r.gates.foldl (fun m g => if s.rb (s.gateAt p g.2.1) g.2.2 then m ||| g.1 else m) 0

/-- A gated field of the write differs from its stored value. -/
def State.gatedOff (s : State) (p : Place) (r : RegInfo) (w : Word) : Bool :=
  (s.reg p.addr ^^^ w) &&& r.cfg &&& s.locked p r != 0

/-- The word that the write leaves. -/
def State.written (s : State) (p : Place) (r : RegInfo) (w : Word) : Word :=
  let old := s.reg p.addr
  let st := r.cfg &&& ~~~(s.locked p r)
  r.cnt.foldl (fun v f => if fld w f.1 f.2 = 0 then setFld v f.1 f.2 0 else v)
    ((old &&& ~~~(st ||| (r.w1c &&& w))) ||| (w &&& st))

/-- Store the write; parity is computed and the copies of a voted register agree again (R484, R485). -/
def State.store (s : State) (p : Place) (r : RegInfo) (w : Word) : State :=
  let a := p.addr
  let t := s.setReg a (s.written p r w)
  if s.gatedOff p r w then t
  else ({ t with badPar := t.badPar.filter (· != a) }).trpAgree a

/-- The enable bit i of channel register n reads 0, its write is flagged, and the command answers E_PARAM. -/
def State.enableRefused (s : State) (p : Place) (i : Nat) : Ans :=
  (eParam, (s.setRb p.addr i false).flagIgnored p)

/-- Flag a write that holds a reserved code. -/
def State.flagIf (s : State) (p : Place) (b : Bool) : State := if b then s.flagIgnored p else s

/-! ### Effects of writes to a channel's registers -/

/-- CH_CTRL (R15, R32, R35, R69, R142, R198, R498). -/
def State.ctrlWritten (s : State) (c : Nat) (old : Word) : Ans :=
  let p : Place := .chan c 0
  let now := s.cr c 0
  let s := s.flagIf p (fld now 29 28 == 3)
  let polChanged := fld now 29 28 != fld old 29 28 || fld now 23 16 != fld old 23 16
  if bit now 31 && !bit old 31 then
    if s.enableOk c then (stOk, (s.reserve c (s.client c)).enableCh c)
    else s.enableRefused p 31
  else if !bit now 31 && bit old 31 then (stOk, s.disableCh c)
  else if bit now 31 && polChanged && !s.isMember c then
    let t := if (s.lane c).rxAsleep && s.sleepPol c != 2 then s.wakeRx c 21 else s
    (stOk, t.each (t.bond c) State.startHold)
  else (stOk, s)

/-- Provisioning puts the accepted trace to zeros (R121). -/
def State.clearTrace (s : State) (c : Nat) : State :=
  (s.setTblWords 0x11 0 (64 * c) 0 (List.replicate 16 0)).modMon c fun m =>
    { m with trace := {}, traceBuf := [], traceEver := false }

/-- CH_MODE has changed: a channel of one lane has its lanes aligned (R84), an unprovisioned one has not
(DESIGN CHOICE, notes/assumptions/139.md), the accepted trace starts from zeros
(R121), and the detector of an unprovisioned lane is off (R61). -/
def State.modeWritten (s : State) (c : Nat) (old : Word) : State :=
  let k := s.client c
  if k = fld old 31 24 then s
  else
    let s := s.setCrb c 4 23 (k != 0 && lanesOf k == 1)
    let s := (s.clearTrace c).modCh c fun h => { h with cnt := { h.cnt with partial_ := true } }
    if s.provisioned c then s else s.modLane c fun l => { l with sd := false }

/-- CH_DEG_CFG (R216): a change of DEG_EN starts the algorithms from nothing. -/
def State.degWritten (s : State) (c : Nat) (old : Word) : State :=
  let now := s.cr c 9
  let s := s.flagIf (.chan c 9) (fld now 28 27 == 2 && !isEth (s.client c))
  if bit now 31 == bit old 31 then s
  else (s.modMon c fun m => { m with deg := {}, exc := {}, burst := {}, burstDecl := false }).syncDeg c

/-- CH_TTI_CFG (R119, R121). -/
def State.ttiWritten (s : State) (c : Nat) : State :=
  let s := s.flagIf (.chan c 10) ((s.crf c 10 30 27 != 0 && s.ttiLayer c == 0)
    || (s.ttiTrib c != s.crf c 10 23 17 && (s.ttiLayer c == 2 || 4 ≤ s.ttiLayer c)))
  if s.crb c 10 31 then s else s.setDef c dTIM false

/-- CH_OH_CAPT (R122, R126): the arm bits take effect while CAPT_EN is 1 (DEDUCED, notes/assumptions/87.md). -/
def State.captWritten (s : State) (c : Nat) (old w : Word) : State :=
  let s := if fld old 24 21 = s.crf c 11 24 21 then s else s.modMon c fun m => { m with aps := {} }
  let s := if s.crb c 11 27 then s else s.modCap c fun k => { k with running := false, traceRun := false }
  let s := if bit w 31 then s.captArm c else s
  if bit w 30 then s.traceArm c else s

/-- CH_PKT_CFG (R344, R347). -/
def State.pktWritten (s : State) (c : Nat) (old : Word) : Ans :=
  let now := s.crb c 14 31
  let s := s.setCrb c 14 31 (bit old 31)
  if now && !bit old 31 then s.pktEnable c
  else if !now && bit old 31 then (stOk, s.pktDisable c)
  else (stOk, s)

/-- CH_TS_CFG (R429): PTP_EN and FS_EN where they act as 0. -/
def State.tsWritten (s : State) (c : Nat) : State :=
  s.flagIf (.chan c 15)
    ((s.crb c 15 30 && !s.gfpRole c) || (s.crb c 15 24 && !(s.framed c && s.role c == 0)))

/-- A hold-off timer returns to idle and its items count as reported. -/
def Hold.halt (h : Hold) : Hold :=
  { at_ := none, last := h.last
    items := h.items.foldl (fun m e =>
      Store.set {} m e.1 { e.2 with value := e.2.reported, suppressed := false, changed := false }) h.items }

/-- CH_EVT_CFG (R232, R233): EVT_EN set starts a timer for each unmasked defect whose value differs from its last
reported one; EVT_EN clear idles the timers. -/
def State.evtWritten (s : State) (c : Nat) (old : Word) : State :=
  let now := s.crb c 17 31
  if now == bit old 31 then s
  else if now then
    s.each ((List.range 23).filter fun d => !s.crb c 7 d) fun t d =>
      t.change (holdDefect c d) 0 (b2n (t.def_ c d)) (t.evtHold c)
  else (s.each (List.range 23) fun t d => t.modHold (holdDefect c d) Hold.halt).modHold (holdTrib c) Hold.halt

/-- CH_CHK (R297). -/
def State.chkWritten (s : State) (c : Nat) (old : Word) : State :=
  if s.crf c 26 31 28 = fld old 31 28 then s else s.setCrf c 26 15 0 0

/-- The effects of a write to slot n of channel c; `w` is the word written. -/
def State.chanWritten (s : State) (c n : Nat) (old w : Word) : Ans :=
  if n = 0 then s.ctrlWritten c old
  else if n = 1 then (stOk, s.modeWritten c old)
  else if n = 2 then (stOk, s.flagIf (.chan c 2) (8 ≤ s.crf c 2 27 24 && s.crf c 2 27 24 ≤ 14 && s.crf c 2 27 24 == fld w 27 24))
  else if n = 9 then (stOk, s.degWritten c old)
  else if n = 10 then (stOk, s.ttiWritten c)
  else if n = 11 then (stOk, s.captWritten c old w)
  else if n = 12 then (stOk, s.flagIf (.chan c 12) (s.crf c 12 31 30 == 3))
  else if n = 14 then s.pktWritten c old
  else if n = 15 then (stOk, s.tsWritten c)
  else if n = 17 then (stOk, s.evtWritten c old)
  else if n = 26 then (stOk, s.chkWritten c old)
  else (stOk, s)

/-! ### Effects of writes to the global pages -/

/-- DEV_LOCK (R483): bits are set once; BOOT_LOCK and TEST_LOCK clear what is pending at a KEY_A. -/
def State.lockWritten (s : State) (old : Word) : State :=
  let s := s.setReg 0x0010 (old ||| s.reg 0x0010)
  if fld (s.reg 0x0010) 31 30 = fld old 31 30 then s else s.modCmd fun c => { c with keys := [] }

/-- REF_SEL_CFG (R402). -/
def State.refSelWritten (s : State) (old : Word) : State :=
  let m := s.rf 0x2000 29 26
  let s := s.flagIf (.page 2 0) (m == 12 || m == 14)
  if s.reg 0x2000 = old then s else s.refSelChanged old

/-- REF_IN_CFG: an input that changes qualifies again (R402). -/
def State.refInWritten (s : State) (old : Word) : State :=
  s.each ((List.range 4).filter fun n => s.rf 0x200C (4 * n + 3) (4 * n) != fld old (4 * n + 3) (4 * n)) State.refRestart

/-- LR_CFGm: a slot that changes qualifies again (R402) (DEDUCED, notes/assumptions/85.md). -/
def State.lrWritten (s : State) (m : Nat) (old : Word) : State :=
  let now := s.reg (0x2010 + 4 * m)
  let s := if fld now 15 0 = fld old 15 0 then s else s.refRestart (4 + 2 * m)
  if fld now 31 16 = fld old 31 16 then s else s.refRestart (5 + 2 * m)

/-- CLKOUT_CFGn (R406): a frequency out of range makes the setting of EN ineffective. -/
def State.clkoutWritten (s : State) (n : Nat) (old : Word) : Ans :=
  let p : Place := .page 2 (32 + n)
  let f := s.rf (0x2090 + 4 * n) 27 0
  if s.rb p.addr 31 && !bit old 31 && (f < 8000 || f > 156250000) then s.enableRefused p 31
  else if s.rb p.addr 31 && !bit old 31 then (stOk, (s.clkStart n).clkSync n)
  else (stOk, s.clkSync n)

/-- PPS_IN_CFG (R435): a capture that is switched on. -/
def State.ppsWritten (s : State) (old : Word) : State :=
  let s := if s.rb 0x3030 31 && !bit old 31 then s.ppsArm 0 else s
  if s.rb 0x3030 29 && !bit old 29 then s.ppsArm 1 else s

/-- TWIN_CTRL (R312). -/
def State.twinWritten (s : State) (old : Word) : State :=
  let now := s.reg 0x4000
  let s := if bit now 29 == bit old 29 then s else s.refRestart 12
  if bit now 31 && !bit old 31 then s.linkEnable
  else if !bit now 31 && bit old 31 then s.linkDisable
  else s

/-- The effects of a write to register i of page g; `w` is the word written. A change of REF_PRIO is an evaluation
(R393), which leaves a qualified selection where it is (R394). -/
def State.pageWritten (s : State) (g i : Nat) (old w : Word) : Ans :=
  if g = 0 then (stOk, if i = 4 then s.lockWritten old else s)
  else if g = 1 then (stOk, if i = 11 then s.ackWrite w else s)
  else if g = 2 then
    if i = 0 then (stOk, s.refSelWritten old)
    else if i = 1 then (stOk, if s.reg 0x2004 = old then s else s.refEvaluate)
    else if i = 3 then (stOk, s.refInWritten old)
    else if 4 ≤ i ∧ i < 8 then (stOk, s.lrWritten (i - 4) old)
    else if 32 ≤ i ∧ i < 36 then s.clkoutWritten (i - 32) old
    else (stOk, s)
  else if g = 3 then
    if i = 1 then (stOk, if bit w 31 then s.timeLatch else s)
    else if i = 12 then (stOk, s.ppsWritten old)
    else if 18 ≤ i ∧ i < 30 ∧ i % 3 = 2 ∧ bit w 31 then s.trigArm ((i - 18) / 3)
    else (stOk, s)
  else if g = 4 then
    if i = 0 then (stOk, s.twinWritten old)
    else if i = 1 && s.reg 0x4004 != old then (stOk, s.mirror 1 mirrorLeaseCfg [s.reg 0x4004])
    else (stOk, s)
  else (stOk, s)

/-! ### Whole writes that are refused -/

/-- A write that is ignored whole: a client code R48 does not list, a fourth generated TCM level (R119), a line slot on
a channel above 191 or a change of the selected slot (R402). The status of the ignored write. -/
def State.wholeRefused (s : State) (p : Place) (w : Word) : Option Nat :=
  match p with
  | .chan _ 1 => if clientOk (fld w 31 24) then none else some eParam
  | .chan _ 10 => if ((List.range 6).filter fun i => bit w (5 + i)).length > 3 then some eParam else none
  | .page 2 i =>
    if 4 ≤ i ∧ i < 8 then
      let old := s.reg p.addr
      let sel := s.refs.selected
      let diff (hi lo : Nat) : Bool := (old ^^^ w) &&& 0xC0FFC0FF &&& fmask hi lo != 0
      if fld w 23 16 > 191 ∨ fld w 7 0 > 191 then some stOk
      else if (sel == 4 + 2 * (i - 4) && diff 15 0) || (sel == 5 + 2 * (i - 4) && diff 31 16) then some eEnabled
      else none
    else none
  | _ => none

/-! ### The key procedure (R481 to R483) -/

/-- The bits of a dangerous register that are not reserved. -/
def keyMask (a : Nat) : Word :=
  if a = 0x1C then 0xF000007F else if a = 0x1040 then 0x8000003F else if a = 0x202C then 0xFFFFFFFF
  else if a = 0x3020 then 0x00000001 else if a = 0x4010 then 0xF0000000 else 0xC0000000

/-- The new value of a dangerous register takes effect: its status, and the state it leaves. -/
def State.keyEffect (s : State) (a : Nat) (v : Word) : Ans :=
  if a = 0x1C then s.ovrWrite v
  else if a = 0x1040 then s.injKey v
  else if a = 0x202C then
    if sword v < -100000000 || sword v > 100000000 then (eParam, s) else (stOk, s.setNominal v)
  else if a = 0x3020 then (stOk, s.stepRearm v)
  else if a = 0x4008 then s.twinRoleWrite v
  else if a = 0x4010 then s.leaseCmdWrite v
  else s.fwAct v

/-- The accepted word is stored where the effect was not refused. -/
def State.keyAccept (s : State) (a : Nat) (w : Word) : Ans :=
  let v := w &&& keyMask a
  let r := s.keyEffect a v
  if r.1 = stOk then (stOk, ({ r.2.setReg a v with badPar := r.2.badPar.filter (· != a) }).trpAgree a) else r

/-- What is pending at a KEY_A. -/
def State.keyAt (s : State) (a : Nat) : Option KeyA := s.cmd.keys.find? (·.addr == a)

/-- Nothing is pending at a KEY_A. -/
def State.dropKey (s : State) (a : Nat) : State :=
  s.modCmd fun c => { c with keys := c.keys.filter (·.addr != a) }

/-- A write to KEY_A. -/
def State.keyAWrite (s : State) (src : Src) (a : Nat) (w : Word) : Ans :=
  if s.keyLocked then (eLocked, (s.dropKey a).keyFail a)
  else if a = 0x4008 && s.rb 0x4000 31 then (eEnabled, s.dropKey a)
  else (stOk, (s.dropKey a).modCmd fun c => { c with
    keys := c.keys ++ [{ addr := a, src := src, value := w, till := s.owl + 64 }] })

/-- A write to KEY_B of the register at KEY_A address a. -/
def State.keyBWrite (s : State) (src : Src) (a : Nat) (w : Word) : Ans :=
  let t := s.dropKey a
  match s.keyAt a with
  | none => (eKey, t.keyFail a)
  | some k => if k.src == src && w == ~~~k.value && s.owl < k.till then t.keyAccept a k.value else (eKey, t.keyFail a)

/-- KEY_PENDING_EXPIRY: the 64th OWL edge after the write has come. -/
def State.keyExpiry (s : State) (a : Nat) : State :=
  match s.keyAt a with
  | some k => if k.till ≤ s.owl then s.dropKey a else s
  | none => s

/-- REG_WR_KEY: both halves in one command. -/
def State.keyWrite (s : State) (a : Nat) (v nv : Word) : Ans :=
  let t := s.dropKey a
  if s.keyLocked then (eLocked, t.keyFail a)
  else if nv != ~~~v then (eKey, t.keyFail a)
  else t.keyAccept a v

/-! ### Writes and reads by the command engine -/

/-- The effects of a write to the register at a place; `old` is the word before it. -/
def State.placeWritten (s : State) (p : Place) (old w : Word) : Ans :=
  match p with
  | .chan c n => s.chanWritten c n old w
  | .page g i => s.pageWritten g i old w
  | .group _ _ => (stOk, s)

/-- One write of a register: its status, and the state it leaves. -/
def State.writeReg (s : State) (src : Src) (addr : Nat) (w : Word) : Ans :=
  let d := decodeAddr addr
  let p := d.1
  let a := p.addr
  match regInfo p with
  | none => (stOk, s)
  | some r =>
    if d.2 || r.hold then (stOk, s.flagIgnored p)
    else if r.key then
      if keyAddrs.contains a then s.keyAWrite src a w else s.keyBWrite src (a - 4) w
    else if p = .page 4 1 ∧ s.notActive then (eNotActive, s)
    else
      match s.wholeRefused p w with
      | some st => (st, s.flagIgnored p)
      | none =>
        let old := s.reg a
        let off := s.gatedOff p r w
        let t := s.store p r w
        let ans := t.placeWritten p old w
        let t := ans.2.flagIf p off
        (if ans.1 = stOk && off then eEnabled else ans.1, t)

/-- The status copy of a register. -/
def State.copy (s : State) (a : Nat) : Word := Store.get 0 s.copies a ^^^ resetWord a

/-- The command bits that are pending (R470). -/
def State.cmdBits (s : State) (p : Place) : Word :=
  match p with
  | .chan c 11 => BitVec.ofNat 32 (b2n (s.ch c).cap.running * 2 ^ 31 + b2n (s.ch c).cap.traceRun * 2 ^ 30)
  | .page 3 i => if 18 ≤ i then s.reg p.addr &&& 0x80000000 else 0
  | _ => 0

/-- The four registers of TIME_RD, which are read live (R419). -/
def isTimeRd (p : Place) : Bool := p == .page 3 2 || p == .page 3 3 || p == .page 3 4 || p == .page 3 5

/-- What a read of an address returns (R470, R480). -/
def State.readVal (s : State) (addr : Nat) : Word :=
  let p := (decodeAddr addr).1
  let a := p.addr
  match regInfo p with
  | none => 0
  | some r =>
    if r.key && !keyAddrs.contains a then 0
    else if r.hold || r.key || isTimeRd p then s.reg a
    else
      let cnt := r.cnt.foldl (fun m f => m ||| fmask f.1 f.2) 0
      (s.reg a &&& (r.cfg ||| r.w1c ||| cnt)) ||| (s.copy a &&& r.sta) ||| (s.cmdBits p &&& r.cmd)

/-! ### Fields that reset when the command engine reads them (R471) -/

/-- A field resets to its present value. -/
def State.readReset (s : State) : RorField → State
  | .wmPeak c => if c < 192 then s.setCrf c 16 15 8 (s.crf c 16 7 0) else s
  | .depthMax q => if q < 1536 then s.setTbl 0x1B q 7 (s.tbl 0x1B q 5 &&& 0x0007FFFF) else s
  | .holMax q => if q < 1536 then s.setTbl 0x1B q 8 (s.tbl 0x1B q 6) else s
  | .maxLat => s.setRf 0x402C 31 16 0
  | .pktSharedMin => s.setReg 0x700C (s.reg 0x7008)

/-- The side effect of reading an address. -/
def State.readEffect (s : State) (addr : Nat) : State :=
  match (decodeAddr addr).1 with
  | .chan c 16 => s.readReset (.wmPeak c)
  | .page 4 11 => s.readReset .maxLat
  | .page 7 3 => s.readReset .pktSharedMin
  | _ => s

/-! ### Block addresses (R456, R479) -/

/-- An address word of a register opcode. -/
def addrOk (w : Word) : Bool := onlyBits w 0x00FFFFFC

/-- The address i words after a: 128-byte blocks and pages repeat. -/
def blkAddr (a i : Nat) : Nat :=
  if a / 0x100000 % 4 = 0 then a / 256 * 256 + (a + 4 * i) % 256 else a / 128 * 128 + (a + 4 * i) % 128

/-- Read n registers from an address (DESIGN CHOICE, notes/assumptions/134.md). -/
def State.readBlk (s : State) (a i : Nat) : Nat → List Word × State
  | 0 => ([], s)
  | n + 1 =>
    let v := s.readVal (blkAddr a i)
    let r := (s.readEffect (blkAddr a i)).readBlk a (i + 1) n
    (v :: r.1, r.2)

/-- The rank of a status among those of one block: a refused enable stands before an ignored write (R473). -/
def worse (a b : Nat) : Nat := if a = stOk then b else if b = stOk ∨ b = eEnabled then a else if a = eEnabled then b else a

/-- Write words from an address: the status, the index of the first word that was ignored or refused, the state. -/
def State.writeBlk (s : State) (src : Src) (a i : Nat) : List Word → Nat × Option Nat × State
  | [] => (stOk, none, s)
  | w :: r =>
    let x := s.writeReg src (blkAddr a i) w
    let y := x.2.writeBlk src a (i + 1) r
    (worse x.1 y.1, if x.1 = stOk then y.2.1 else some i, y.2.2)

/-! ### The register opcodes -/

/-- REG_RD. -/
def State.fxRegRd (q : Req) (ws : List Word) (s : State) : State :=
  if ws.length != 1 then s.status q 0x0101 eLength
  else if !addrOk (wd ws 0) then s.status q 0x0101 eParam
  else
    let a := (wd ws 0).toNat
    (s.readEffect a).reply q 0x0101 stOk 0 [s.readVal a]

/-- REG_WR. -/
def State.fxRegWr (q : Req) (ws : List Word) (s : State) : State :=
  if ws.length != 2 then s.status q 0x0102 eLength
  else if !addrOk (wd ws 0) then s.status q 0x0102 eParam
  else
    let r := s.writeReg q.src (wd ws 0).toNat (wd ws 1)
    r.2.status q 0x0102 r.1

/-- REG_RD_BLK. -/
def State.fxRegRdBlk (q : Req) (ws : List Word) (s : State) : State :=
  let n := (wd ws 1).toNat
  if ws.length != 2 then s.status q 0x0103 eLength
  else if n = 0 then s.status q 0x0103 eParam
  else if n > maxCount q then s.status q 0x0103 eLength
  else if !addrOk (wd ws 0) then s.status q 0x0103 eParam
  else
    let r := s.readBlk (wd ws 0).toNat 0 n
    r.2.reply q 0x0103 stOk 0 r.1

/-- REG_WR_BLK. -/
def State.fxRegWrBlk (q : Req) (ws : List Word) (s : State) : State :=
  if ws.length < 2 then s.status q 0x0104 eLength
  else if !addrOk (wd ws 0) then s.status q 0x0104 eParam
  else
    let r := s.writeBlk q.src (wd ws 0).toNat 0 (ws.drop 1)
    r.2.2.reply q 0x0104 r.1 (r.2.1.getD 0) []

/-- REG_WR_KEY (DEDUCED, notes/assumptions/112.md). -/
def State.fxRegWrKey (q : Req) (ws : List Word) (s : State) : State :=
  if ws.length != 3 then s.status q 0x0105 eLength
  else if !addrOk (wd ws 0) then s.status q 0x0105 eParam
  else
    let a := (decodeAddr (wd ws 0).toNat).1.addr
    if !keyAddrs.contains a then s.status q 0x0105 eParam
    else
      let r := s.keyWrite a (wd ws 1) (wd ws 2)
      r.2.status q 0x0105 r.1

/-! ### The commands -/

/-- R482. -/
def execKeyPendingExpiry (addr : Nat) (s : State) : Out := .next (whileOn s (s.keyExpiry addr))
/-- R471. -/
def execResetOnRead (f : RorField) (s : State) : Out := .next (whileOn s (s.readReset f))

end Sys2Proof.Machine
end

