-- ==== Sys2Proof/Machine/ChanCmds.lean ====
section
/-!
DEFINITION. CH_PROVISION with its completion, and CH_RELEASE (R45, R68, R99, R141, R198, R222, R459).
-/
namespace Sys2Proof.Machine

/-- The refusal of a CH_PROVISION: status and DETAIL, in the order of R459; status OK where there is none.
(DEDUCED, notes/assumptions/111.md). -/
def State.provisionRefusal (s : State) (c : Nat) (w1 w3 : Word) : Nat × Nat :=
  let k := fld w1 31 24
  if s.enabled c then (eEnabled, 0)
  else if s.claimed (isLane c) then (eBusy, 0)
  else if !modeOk w1 then (eParam, 1)
  else if !s.bondFits c k || (membersOf c k).any (fun d => s.claimed (isLane d)) then (eParam, 2)
  else if bit w3 31 && (s.setReg (chReg c 1) (w1 &&& 0xFFFFFFE0)).unprovided c then (eParam, 3)
  else (stOk, 0)

/-- A register write of the firmware for a command's source. -/
def State.put (s : State) (src : Src) (a : Nat) (w : Word) : State := (s.writeReg src a w).2

/-- Steps 1 to 4 of CH_PROVISION. -/
def State.provision (s : State) (src : Src) (c : Nat) (w1 w2 w3 : Word) : State :=
  let s := (s.put src (chReg c 1) w1).put src (chReg c 2) w2
  let s := s.put src (chReg c 0) (setBit w3 31 false)
  let s := (s.freeBond c).reserve c (fld w1 31 24)
  (((s.clearTrace c).clearCnt c).clearBackoff c).wakeGroup (c / 16) 21

/-- Step 5, once the group clock runs (R45): CH_CTRL as given. -/
def State.provisionOn (s : State) (p : PendCmd) : State :=
  match p.job with
  | .provision c (some w) _ =>
    if (s.grp (c / 16)).clk then
      (s.put p.req.src (chReg c 0) w).setPend { p with job := .provision c none (some s.owl) }
    else s
  | _ => s

/-- CH_PROVISION. A refused one changes nothing; one that enables waits for its group clock and its lane.
(DEDUCED, notes/assumptions/145.md). -/
def State.fxChProvision (q : Req) (ws : List Word) (s : State) : State :=
  let op := 0x0401
  let c := fld (wd ws 0) 31 24
  if ws.length != 4 then s.finish q op eLength 0 []
  else if !onlyBits (wd ws 0) 0xFF000000 || c > 191 then s.finish q op eParam 0 []
  else
    let r := s.provisionRefusal c (wd ws 1) (wd ws 3)
    if r.1 != stOk then s.finish q op r.1 r.2 []
    else
      let s := s.provision q.src c (wd ws 1) (wd ws 2) (wd ws 3)
      if bit (wd ws 3) 31 then
        let p : PendCmd := { req := q, opcode := op, job := .provision c (some (wd ws 3)) none, pending := s.wasPending q,
                             dueAt := s.after 2000 }
        (s.setPend p).provisionOn p
      else s.finish q op stOk 2 []

/-- The channel that a job provisions, with the OWL edge of its step 5. -/
def jobChannel : Job → Option (Nat × Option Nat)
  | .provision c _ t => some (c, t)
  | _ => none

/-- The command that provisions channel c. -/
def State.provisioning (s : State) (c : Nat) : Option PendCmd :=
  s.cmd.pend.find? fun p => (jobChannel p.job).any (·.1 == c)

/-- CH_PROVISION_COMPLETION: DETAIL 0 once every lane is adapted; DETAIL 1 once the detector has failed to assert
within SD_QUAL of step 5, or the 2 ms have passed. -/
def State.provisionDone (s : State) (c : Nat) : State :=
  match s.provisioning c with
  | none => s
  | some p =>
    let dark := match (jobChannel p.job).bind Prod.snd with
      | some t => !(s.lane c).sd && decide (t + s.sdQual c ≤ s.owl)
      | none => false
    if s.enabled c && (s.bond c).all fun d => (s.lane d).adapted then s.finish p.req p.opcode stOk 0 []
    else if s.due p.dueAt || dark then s.finish p.req p.opcode stOk 1 []
    else s

/-- The DETAIL of a refused CH_RELEASE; 0 where there is none. -/
def State.releaseRefusal (s : State) (c : Nat) : Nat :=
  if s.namedCh c then 1 else if s.pgNames c then 2 else if s.isMember c then 3 else 0

/-- What CH_RELEASE does. -/
def State.releaseCh (s : State) (c : Nat) : State :=
  let s := if s.crb c 0 31 then (s.setCrb c 0 31 false).disableCh c else s
  let s := if s.chState c == stFaulted then s.toState c stAsleep else s
  let old := s.cr c 1
  let s := (s.setCrf c 1 31 24 0).modeWritten c old
  (s.freeBond c).modPkt c fun p => { p with gbEngine := none }

/-- CH_RELEASE. -/
def State.fxChRelease (q : Req) (ws : List Word) (s : State) : State :=
  let op := 0x0402
  let c := fld (wd ws 0) 31 24
  if ws.length != 1 then s.finish q op eLength 0 []
  else if !onlyBits (wd ws 0) 0xFF000000 || c > 191 then s.finish q op eParam 0 []
  else if s.releaseRefusal c != 0 then s.finish q op eParam (s.releaseRefusal c) []
  else (s.releaseCh c).finish q op stOk 0 []

/-- R42, R44, R45, R371, R459: the waking channels, the gate lists and the provisioning that wait for the clock. -/
def execGroupClockRunning (g : Nat) (s : State) : Out :=
  .next (onGrp g s
    (let t := (s.groupRun g).each ((grpChs g).filter fun c => (s.pkt c).running.isSome) State.gateApply
     t.cmd.pend.foldl State.provisionOn t))
/-- R459. -/
def execChProvisionCompletion (c : Nat) (s : State) : Out := .next (onCh c s (s.provisionDone c))

end Sys2Proof.Machine
end

