-- ==== Sys2Proof/Machine/TableCmds.lean ====
section
/-!
DEFINITION. TBL_RD and TBL_WR (R457, R458): the shape of each table, what its rule refuses, which bits of a word a
write stores, clears or leaves, and what a write of an entry starts or stops.
-/
namespace Sys2Proof.Machine

/-! ### The tables (R457, R559) -/

/-- Entries, words of an entry, and whether the table has two banks. -/
def tblShape (t : Nat) : Option (Nat × Nat × Bool) :=
  if t = 0x01 then some (15360, 4, true) else if t = 0x02 then some (32768, 4, true)
  else if t = 0x03 then some (32768, 4, false) else if t = 0x04 then some (96, 8, false)
  else if t = 0x05 then some (2048, 8, false) else if t = 0x06 then some (2048, 6, false)
  else if t = 0x07 then some (16, 7, false) else if t = 0x08 then some (64, 6, false)
  else if t = 0x10 then some (192, 5, false) else if t = 0x11 then some (12288, 16, false)
  else if t = 0x12 then some (64, 2, false) else if t = 0x13 then some (3072, 8, false)
  else if t = 0x14 then some (192, 14, false) else if t = 0x18 then some (8192, 3, false)
  else if t = 0x19 then some (4096, 10, false) else if t = 0x1A then some (2048, 7, false)
  else if t = 0x1B then some (1536, 10, false) else if t = 0x1C then some (192, 9, false)
  else if t = 0x1D then some (24576, 2, false) else if t = 0x1E then some (1536, 16, false)
  else if t = 0x20 then some (14, 128, false) else if t = 0x30 then some (10, 6, false)
  else none

/-- The configuration bits of word w of a table; no other bit is stored. -/
def tblMask (t w : Nat) : Word :=
  if t = 0x01 ∨ t = 0x02 ∨ t = 0x14 then 0xFFFFFFFF
  else if t = 0x04 then (if w = 0 then 0xFFFF03FF else if w ≤ 2 then 0xFFFFFFFF else 0)
  else if t = 0x05 then (if w = 0 then 0xFFFFFFFF else if w = 1 then 0x40000000 else 0)
  else if t = 0x06 then (if w = 0 then 0xF7FF0FFF else if w = 1 then 0xFFFF003F else 0)
  else if t = 0x07 then (if w = 0 then 0xFF000000 else 0xFFFFFFFF)
  else if t = 0x08 then
    (if w = 0 then 0xFFFFF000 else if w = 1 then 0xFF001FFF else if w ≤ 3 then 0xFFFFFFFF else 0)
  else if t = 0x10 then (if w = 0 then 0xFFFFFFFF else if w = 1 then 0xFF000000 else 0)
  else if t = 0x12 then (if w = 0 then 0xFFFFF000 else 0)
  else if t = 0x18 then (if w = 0 then 0xFFFFFFFF else if w = 1 then 0xFFFE0FFF else 0)
  else if t = 0x19 then
    (if w = 0 then 0xC0000000 else if w ≤ 2 then 0xFFFFFFFF else if w ≤ 4 then 0x00FFFFFF else 0)
  else if t = 0x1A then (if w = 0 then 0xF7FF0FFF else if w = 1 then 0x07FFFFFF else if w = 2 then 0x0000FFFF else 0)
  else if t = 0x1B then
    (if w = 0 then 0xC007FFFF else if w = 1 then 0xFFFFFFFF else if w = 2 then 0x00FFFFFF
     else if w = 3 then 0x0007FFFF else if w = 4 then 0x00FFFFFF else 0)
  else if t = 0x1C then (if w = 0 then 0xC0FFFFFF else if w = 1 then 0xFFFFFFFF else if w = 2 then 0x00FFFFFF else 0)
  else if t = 0x1D then (if w = 0 then 0x000000FF else 0xFFFFFFFF)
  else 0

/-- Pair-level tables (R309, R339). -/
def pairTable (t : Nat) : Bool := t == 1 || t == 2 || (4 ≤ t && t ≤ 8)

/-! ### One entry of a write -/

/-- The words of one entry that a write names: from word w. -/
structure Edit where
  t : Nat
  b : Nat
  e : Nat
  w : Nat
  ws : List Word
  deriving DecidableEq, Repr

/-- Word i is written. -/
def Edit.has (x : Edit) (i : Nat) : Bool := x.w ≤ i && i < x.w + x.ws.length

/-- One of the words lo .. hi − 1 is written. -/
def Edit.hits (x : Edit) (lo hi : Nat) : Bool := x.w < hi && lo < x.w + x.ws.length

/-- Word i of the entry as it stands. -/
def State.oldWord (s : State) (x : Edit) (i : Nat) : Word := s.tblB x.t x.b x.e i

/-- Word i of the entry as it will stand: configuration bits stored, counters cleared by 0, the flags of a queue
cleared by 1, the rest as it is. -/
def State.newWord (s : State) (x : Edit) (i : Nat) : Word :=
  let old := s.oldWord x i
  if x.has i then
    let v := wd x.ws (i - x.w)
    let m := tblMask x.t i
    if tblCnt x.t i then (if v = 0 then 0 else old)
    else if x.t = 0x1B ∧ i = 5 then old &&& ~~~(v &&& 0xC0000000)
    else (old &&& ~~~m) ||| (v &&& m)
  else old

/-- A write to words 0 .. k − 1 of an enabled entry, other than one that clears its enable bit and changes nothing
else (R241, R270) (DEDUCED, notes/assumptions/113.md). -/
def State.gatedEdit (s : State) (x : Edit) (k : Nat) : Bool :=
  bit (s.oldWord x 0) 31 && x.hits 0 k
    && !(s.newWord x 0 == setBit (s.oldWord x 0) 31 false
          && (List.range k).all fun i => i == 0 || s.newWord x i == s.oldWord x i)

/-- The write sets the entry's enable bit (DEDUCED, notes/assumptions/115.md). -/
def State.enabling (s : State) (x : Edit) : Bool := bit (s.newWord x 0) 31 && !bit (s.oldWord x 0) 31

/-! ### What the rule of each table refuses -/

/-- R56: the custom coefficients. -/
def coeffOk (w0 w1 : Word) : Bool :=
  let a := signed 8 (fld w0 31 24)
  let b := signed 8 (fld w0 23 16)
  let c := signed 8 (fld w0 15 8)
  let d := signed 8 (fld w0 7 0)
  let e := signed 8 (fld w1 31 24)
  a.natAbs ≤ 8 && b.natAbs ≤ 16 && b ≤ 0 && 24 ≤ c && c ≤ 63 && d.natAbs ≤ 24 && d ≤ 0 && e.natAbs ≤ 8
    && a.natAbs + b.natAbs + c.natAbs + d.natAbs + e.natAbs ≤ 63

/-- Two stream types share a byte (R133). -/
def typesMeet (a b : Nat) : Bool := a == b || (a == 5 && (b == 3 || b == 4)) || (b == 5 && (a == 3 || a == 4))

/-- R133: a stream may be enabled. -/
def State.streamOk (s : State) (e : Nat) (w : Word) : Bool :=
  let c := fld w 23 16
  let others := (List.range 64).filter fun n => n != e && s.entryOn 0x12 n
  c < 192 && s.streamFits c (fld w 15 12)
    && !(others.any fun n => fld (s.streamWord n) 23 16 == c && typesMeet (fld (s.streamWord n) 15 12) (fld w 15 12))
    && !(bit w 30 && (fld w 26 24 == 2 || (others.filter fun n => bit (s.streamWord n) 30).length ≥ 16))

/-- R286: a FRER entry may be enabled. -/
def State.frerOk (s : State) (e : Nat) (w : Word) : Bool :=
  let n := fld w 26 16
  s.redOn n && s.redRole n == (if bit w 30 then 5 else 4)
    && !(s.frersOn.any fun f => f != e && fld (s.tbl 6 f 0) 26 16 == n && fld (s.tbl 6 f 0) 11 0 == fld w 11 0)

/-- R298: a profile is in use by an enabled voting stream or snoop context. -/
def State.profileUsed (s : State) (p : Nat) : Bool :=
  (s.redsOn.any fun n => (s.redRole n == 2 || s.redRole n == 3) && fld (s.redWord n) 11 8 == p)
    || (List.range 64).any fun x => s.entryOn 8 x && fld (s.tbl 8 x 0) 27 24 == p

/-- R298: POLY, INIT and XOROUT lie within WIDTH. -/
def State.profileOk (s : State) (x : Edit) : Bool :=
  let width := fld (s.newWord x 0) 31 26 + 1
  [1, 3, 5].all fun i => (s.newWord x i).toNat * 2 ^ 32 + (s.newWord x (i + 1)).toNat < 2 ^ width

/-- R351: a classification rule may be enabled. -/
def State.ruleOk (s : State) (e : Nat) (w0 w1 : Word) : Bool :=
  let c := fld w0 27 20
  let sdu := fld w1 30 17
  c < 192 && s.gfpRole c && (sdu == 0 || (64 ≤ sdu && sdu ≤ 9600))
    && (fld w0 30 29 != 0 || !((s.enabledEntries 0x18).any fun r =>
          r != e && fld (s.tbl 0x18 r 0) 30 29 == 0 && fld (s.tbl 0x18 r 1) 11 0 == fld w1 11 0
            && fld (s.tbl 0x18 r 0) 27 20 / 16 != c / 16))

/-- R355: the values of a policer. -/
def policerOk (cir pir cbs pbs : Word) : Bool :=
  cir.toNat ≤ pir.toNat && pir.toNat ≤ 100000000 && 9600 ≤ fld cbs 23 0 && 9600 ≤ fld pbs 23 0

/-- R358: an egress flow may be enabled. -/
def State.flowOk (s : State) (e : Nat) (w0 w1 : Word) : Bool :=
  let c := fld w0 23 16
  c < 192 && s.gfpRole c && fld w1 26 0 ≤ 100000000
    && !((s.enabledEntries 0x1A).any fun f =>
          f != e && fld (s.tbl 0x1A f 0) 23 16 == c && fld (s.tbl 0x1A f 0) 11 0 == fld w0 11 0)

/-- R362, R363: the fields of a shaper that is enabled. -/
def State.shaperEdit (s : State) (x : Edit) : Bool :=
  bit (s.oldWord x 0) 31
    && (bit (s.newWord x 0) 30 != bit (s.oldWord x 0) 30 || s.newWord x 1 != s.oldWord x 1
          || s.newWord x 2 != s.oldWord x 2)

/-- The first offset of the overhead memory that an edit names, and the offset after its last (R124). -/
def Edit.span (x : Edit) : Nat × Nat := (x.e % 64 * 64 + 4 * x.w, x.e % 64 * 64 + 4 * (x.w + x.ws.length))

/-- The edit names an offset in lo .. hi − 1. -/
def Edit.over (x : Edit) (lo hi : Nat) : Bool := x.span.1 < hi && lo < x.span.2

/-- The status with which a table's rule refuses an edit; OK where it does not. -/
def State.editStatus (s : State) (x : Edit) : Nat :=
  let t := x.t
  let e := x.e
  let new := s.newWord x
  let on := s.enabling x
  firstReason (
    if t = 0x01 ∨ t = 0x02 then [(eEnabled, x.b = s.bankUsed || s.bankLocked)]
    else if t = 0x03 then
      [(eParam, (List.range 4).any fun i => x.has i && !((i == 1 || i == 2) && wd x.ws (i - x.w) == 0))]
    else if t = 0x04 then
      [(eParam, (List.range 4).any fun i => x.has (4 + i) && !(i == 2 && wd x.ws (6 - x.w) == 0)),
       (eEnabled, s.gatedEdit x 4), (eParam, on && !s.pgCheck e (new 0) (new 1) (new 2))]
    else if t = 0x05 then
      [(eEnabled, s.gatedEdit x 1 || (bit (s.oldWord x 0) 31 && bit (new 1) 30 != bit (s.oldWord x 1) 30)),
       (eParam, x.has 0 && fld (new 0) 30 28 ≥ 6), (eParam, on && s.redAdmit e (new 0) (new 1) != 0)]
    else if t = 0x06 then [(eEnabled, s.gatedEdit x 2), (eParam, on && !s.frerOk e (new 0))]
    else if t = 0x07 then [(eEnabled, s.profileUsed e), (eParam, !s.profileOk x)]
    else if t = 0x08 then [(eEnabled, s.gatedEdit x 2), (eParam, x.has 0 && fld (new 0) 30 28 ≥ 3)]
    else if t = 0x10 then [(eEnabled, s.enabled e), (eParam, !coeffOk (new 0) (new 1))]
    else if t = 0x11 then
      [(eEnabled, (x.over 0x40 0x80 && s.crb (e / 64) 10 31) || (x.over 0x100 0x200 && s.enabled (e / 64)))]
    else if t = 0x12 then
      [(eEnabled, x.has 0 && bit (s.oldWord x 0) 31 && bit (new 0) 31),
       (eParam, x.has 0 && (fld (new 0) 26 24 ≥ 3 || fld (new 0) 15 12 ≥ 6)), (eParam, on && !s.streamOk e (new 0))]
    else if t = 0x18 then
      [(eEnabled, s.gatedEdit x 2), (eParam, x.has 0 && fld (new 0) 30 29 == 3), (eParam, on && !s.ruleOk e (new 0) (new 1))]
    else if t = 0x19 then
      [(eEnabled, s.gatedEdit x 5), (eParam, on && !policerOk (new 1) (new 2) (new 3) (new 4))]
    else if t = 0x1A then [(eEnabled, s.gatedEdit x 3), (eParam, on && !s.flowOk e (new 0) (new 1))]
    else if t = 0x1B then [(eEnabled, s.shaperEdit x)]
    else if t = 0x1C then
      [(eEnabled, s.shaperEdit x || (s.pktEn e && fld (new 0) 23 0 != fld (s.oldWord x 0) 23 0))]
    else if t = 0x1D then [(eEnabled, (s.pkt (e / 128)).armed.isSome || e % 128 / 64 == (s.pkt (e / 128)).bank)]
    else if t = 0x1E then [(eParam, x.hits 8 16)]
    else if t = 0x13 ∨ t = 0x20 then [(eParam, true)]
    else if t = 0x30 then [(eLocked, true)]
    else [])

/-- The reason word of a refusal (R196, R241, R270). -/
def State.editReason (s : State) (x : Edit) : List Word :=
  if x.t = 0x04 ∧ s.enabling x ∧ s.editStatus x = eParam ∧ !x.hits 4 8 then [reasonWord 11 x.e]
  else if x.t = 0x05 ∧ s.enabling x ∧ s.editStatus x = eParam ∧ fld (s.newWord x 0) 30 28 < 6 then
    [reasonWord 15 (s.redAdmit x.e (s.newWord x 0) (s.newWord x 1) * 65536 + x.e)]
  else []

/-! ### What a write of an entry does -/

/-- A new NONCE for a stream's session (R442). -/
def State.drawNonce (s : State) (slot : Nat) : State :=
  { s.modSession slot fun _ => { nonce := Config.random s.freeCtr } with freeCtr := s.freeCtr + 1 }

/-- Bytes of the overhead memory: the device's areas take no write, the two APS counts are cleared by 0, and a word of
the insertion map is marked as written (DEDUCED, notes/assumptions/114.md). -/
def State.writeOh (s : State) (e i : Nat) (v : Word) : State :=
  let o := e % 64 * 64 + 4 * i
  if (0x40 ≤ o && o < 0xC0) || (0x200 ≤ o && o < 0x600) then s.setTbl 0x11 e i v
  else if 0x100 ≤ o && o < 0x200 then (s.setTbl 0x11 e i v).setTblB 0x11 1 e i 1
  else if o = 0xCC then
    let w := s.tbl 0x11 e i
    let w := if fld v 31 16 = 0 then setFld w 31 16 0 else w
    s.setTbl 0x11 e i (if fld v 15 0 = 0 then setFld w 15 0 0 else w)
  else s

/-- Store the words of an edit, with new parity. -/
def State.storeEdit (s : State) (x : Edit) : State :=
  let t := (List.range x.ws.length).foldl (fun t i =>
    if x.t = 0x11 then t.writeOh x.e (x.w + i) (wd x.ws i)
    else t.setTblB x.t x.b x.e (x.w + i) (s.newWord x (x.w + i))) s
  { t with tblBad := t.tblBad.filter fun k => k / 128 != tblKey x.t x.b x.e 0 / 128 }

/-- A word of the insertion map holds a code that its position does not allow (R110) (DESIGN CHOICE,
notes/assumptions/160.md). -/
def State.insBad (s : State) (e w : Nat) : Bool :=
  let base := ((e % 64 - 4) * 64 + 4 * w) * 4
  4 ≤ e % 64 && e % 64 < 8 && (List.range 16).any fun i =>
    !((s.ohRule (e / 64) (base + i)).2.contains (s.insCode (e / 64) (base + i)))

/-- What the change of an enable bit, or a command bit, of an entry does. `was` and `now` are the enable bit. -/
def State.editEffect (s : State) (x : Edit) (was now : Bool) : State :=
  let e := x.e
  let up := now && !was
  let down := was && !now
  if x.t = 0x11 then
    s.flagIf (.chan (e / 64) 11) ((List.range x.ws.length).any fun i => s.insBad e (x.w + i))
  else if x.t = 0x04 then
    let s := if x.hits 0 3 then s.trpAgree (pgScrub e) else s
    if up then s.pgEnable e else if down then s.pgDisable e else s
  else if x.t = 0x05 then
    let s := if up then s.redEnable e else if down then s.redDisable e else s
    if x.has 1 && bit (wd x.ws (1 - x.w)) 31 then s.redRealign e else s
  else if x.t = 0x06 then (if up then s.frerEnable e else s)
  else if x.t = 0x12 then
    (if up then ((s.setTbl 0x12 e 1 0).drawNonce e).modStream e fun d => { d with bits := [] } else s)
  else if x.t = 0x19 then (if up then s.fillPolicer e else s)
  else if x.t = 0x1B then (if up then s.resetQueue (e / 8) (e % 8) else s)
  else if x.t = 0x1C then (if up then s.resetPort e else s)
  else s

/-- One entry of a write that its rule does not refuse. -/
def State.applyEdit (s : State) (x : Edit) : State :=
  let was := bit (s.oldWord x 0) 31
  let t := s.storeEdit x
  let t := t.editEffect x was (bit (t.oldWord x 0) 31)
  if pairTable x.t then t.mirrorEntry x.t x.b x.e (mirrorWords x.t) else t

/-! ### TBL_WR and TBL_RD -/

/-- Entries of a write, in ascending order: how many were written, and the refusal of the first that was not. -/
def State.writeEntries (s : State) (t b n : Nat) : Nat → Nat → List Word → Nat → State × Nat × Nat × List Word
  | _, _, _, 0 => (s, 0, stOk, [])
  | e, w, ws, fuel + 1 =>
    if ws.isEmpty then (s, 0, stOk, [])
    else
      let x : Edit := { t := t, b := b, e := e, w := w, ws := ws.take (n - w) }
      if s.editStatus x = stOk then
        let r := (s.applyEdit x).writeEntries t b n (e + 1) 0 (ws.drop (n - w)) fuel
        (r.1, r.2.1 + 1, r.2.2.1, r.2.2.2)
      else (s, 0, s.editStatus x, s.editReason x)

/-- The words named by W0 and W1 lie in a table: its words of an entry. -/
def tblRange (w0 w1 : Word) (count : Nat) : Option Nat :=
  match tblShape (fld w0 31 24) with
  | none => none
  | some (entries, n, banked) =>
    if onlyBits w0 0xFF800000 && (banked || !bit w0 23) && fld w1 7 0 < n
        && fld w1 31 8 * n + fld w1 7 0 + count ≤ entries * n then some n
    else none

/-- TBL_WR; one refused because its block is enabled raises the S0 note of R12 (DEDUCED, notes/assumptions/146.md). -/
def State.fxTblWr (q : Req) (ws : List Word) (s : State) : State :=
  let op := 0x0202
  let w0 := wd ws 0
  let w1 := wd ws 1
  if ws.length < 3 then s.finish q op eLength 0 []
  else
    match tblRange w0 w1 (ws.length - 2) with
    | none => s.finish q op eParam 0 []
    | some n =>
      if pairTable (fld w0 31 24) && s.notActive then s.finish q op eNotActive 0 []
      else
        let r := s.writeEntries (fld w0 31 24) (fld w0 23 23) n (fld w1 31 8) (fld w1 7 0) (ws.drop 2) ws.length
        (if r.2.2.1 = eEnabled then r.1.fault 14 else r.1).finish q op r.2.2.1 (if r.2.2.1 = stOk then 0 else r.2.1) r.2.2.2

/-- Bring the status words of an entry to the present, where a read takes them live (R59, R355, R362, R363,
R286). -/
def State.showEntry (s : State) (t e : Nat) : State :=
  if t = 0x10 then s.adaptShow e
  else if t = 0x19 then s.showPolicer e
  else if t = 0x1B then s.showQueue e
  else if t = 0x1C then s.showPort e
  else if t = 0x06 && bit (s.tbl 6 e 0) 30 then
    s.setTbl 6 e 5 (setFld (s.tbl 6 e 5) 15 0 (s.frer e).nextSeq)
  else s

/-- The four insertion bytes of a word that has never been written show the default codes (R112, R114). -/
def State.insWord (s : State) (c o : Nat) : Word :=
  let b (k : Nat) : Nat :=
    (List.range 4).foldl (fun n j => n + s.insCode c (4 * (o + k) + j) * 4 ^ j) 0
  BitVec.ofNat 32 (b 0 * 2 ^ 24 + b 1 * 2 ^ 16 + b 2 * 2 ^ 8 + b 3)

/-- One word as TBL_RD returns it. -/
def State.readWord (s : State) (t b e w : Nat) : Word :=
  let o := e % 64 * 64 + 4 * w
  if t = 0x11 ∧ 0x100 ≤ o ∧ o < 0x200 then s.insWord (e / 64) (o - 0x100) else s.tblB t b e w

/-- Words from word w of entry e on; a read of DEPTH_MAX and HOL_MAX resets them (R471). -/
def State.readWords (s : State) (t b n : Nat) : Nat → Nat → Nat → List Word × State
  | _, _, 0 => ([], s)
  | e, w, k + 1 =>
    let s := s.showEntry t e
    let v := s.readWord t b e w
    let s := if t = 0x1B ∧ w = 7 then s.readReset (.depthMax e)
      else if t = 0x1B ∧ w = 8 then s.readReset (.holMax e) else s
    let r := if w + 1 < n then s.readWords t b n e (w + 1) k else s.readWords t b n (e + 1) 0 k
    (v :: r.1, r.2)

/-- TBL_RD. -/
def State.fxTblRd (q : Req) (ws : List Word) (s : State) : State :=
  let op := 0x0201
  let w0 := wd ws 0
  let w1 := wd ws 1
  let k := (wd ws 2).toNat
  if ws.length != 3 then s.status q op eLength
  else if k = 0 then s.status q op eParam
  else if k > maxCount q then s.status q op eLength
  else
    match tblRange w0 w1 k with
    | none => s.status q op eParam
    | some n =>
      let r := s.readWords (fld w0 31 24) (fld w0 23 23) n (fld w1 31 8) (fld w1 7 0) k
      r.2.reply q op stOk 0 r.1

end Sys2Proof.Machine
end

