-- ==== Sys2Proof/Machine/Commands.lean ====
section
/-!
DEFINITION. The command opcodes as the command engine and the Badger take them (R439, R447 to R450, R454, R462, R465,
R538, R540): their order, the waiting of ORDERED and of firmware commands, the opcode of each, and the rows of the
table that are one packet.
-/
namespace Sys2Proof.Machine

/-! ### NOP, ECHO, IDENTIFY, EVT_POP -/

/-- NOP. -/
def State.fxNop (q : Req) (ws : List Word) (s : State) : State :=
  if ws.isEmpty then s.ok q 0x0001 else s.status q 0x0001 eLength

/-- ECHO: the same words; with them the reply must fit a packet (R438) (DEDUCED, notes/assumptions/108.md). -/
def State.fxEcho (q : Req) (ws : List Word) (s : State) : State :=
  if ws.length ≤ maxCount q then s.reply q 0x0002 stOk 0 ws else s.status q 0x0002 eLength

/-- The NONCE words of IDENTIFY. -/
def State.nonceWords (s : State) : Src → List Word
  | .inband slot => packWords (nonceBytes (s.session slot).nonce)
  | _ => [0, 0]

/-- The version of the running image: that of the booted slot; the recovery firmware is no Coino image, and the spec
states no version for it. -/
def State.imageVer (s : State) : Word :=
  if s.inRecovery then s.freeWord else s.reg (if s.rb 0x50B4 31 then 0x50D4 else 0x50D0)

/-- IDENTIFY. -/
def State.fxIdentify (q : Req) (ws : List Word) (s : State) : State :=
  if ws.isEmpty then
    (if s.inRecovery then s.tookFree else s).reply q 0x0003 stOk 0 ([0x00019256, s.reg 0x0004 &&& 0xFF, s.imageVer,
      BitVec.ofNat 32 (b2n (s.rb 0x0010 29) * 4 + b2n (s.rb 0x50B4 31) * 2 + b2n s.straps.twinId)]
      ++ s.nonceWords q.src)
  else s.status q 0x0003 eLength

/-- The two words of an event. -/
def eventWords (e : Event) : List Word := [BitVec.ofNat 32 (e.toNat / 2 ^ 32), BitVec.ofNat 32 e.toNat]

/-- EVT_POP (DEDUCED, notes/assumptions/133.md). -/
def State.fxEvtPop (q : Req) (ws : List Word) (s : State) : State :=
  let m := fld (wd ws 0) 7 0
  if ws.length != 1 then s.status q 0x0701 eLength
  else if !onlyBits (wd ws 0) 0xFF then s.status q 0x0701 eParam
  else
    let l := s.events.take (if m = 0 ∨ m > 64 then 64 else m)
    ({ s with events := s.events.drop l.length }).reply q 0x0701 stOk 0
      (BitVec.ofNat 32 l.length :: (if l.isEmpty then [0, 0] else l.flatMap eventWords))

/-! ### The opcodes (R454) -/

/-- The opcodes of R454. -/
def opcodes : List Nat :=
  [0x0001, 0x0002, 0x0003, 0x0101, 0x0102, 0x0103, 0x0104, 0x0105, 0x0201, 0x0202, 0x0203, 0x0301, 0x0302,
    0x0401, 0x0402, 0x0403, 0x0404, 0x0405, 0x0406, 0x0407, 0x0501, 0x0601, 0x0602, 0x0603, 0x0604, 0x0605,
    0x0701, 0x0702, 0x0801, 0x0802, 0x0803, 0x0804, 0x0901, 0x0902, 0x0903, 0x0904, 0x0905, 0x0906, 0x0907,
    0x0908, 0x0909, 0x0A01, 0x0A02, 0x0A03]

/-- Hardware-handled opcodes. -/
def State.runHardware (op : Nat) (q : Req) (ws : List Word) (s : State) : State :=
  if op = 0x0001 then s.fxNop q ws
  else if op = 0x0002 then s.fxEcho q ws
  else if op = 0x0003 then s.fxIdentify q ws
  else if op = 0x0101 then s.fxRegRd q ws
  else if op = 0x0102 then s.fxRegWr q ws
  else if op = 0x0103 then s.fxRegRdBlk q ws
  else if op = 0x0104 then s.fxRegWrBlk q ws
  else if op = 0x0105 then s.fxRegWrKey q ws
  else if op = 0x0201 then s.fxTblRd q ws
  else if op = 0x0301 then s.fxSnapshot q ws
  else if op = 0x0302 then s.fxCntClear q ws
  else if op = 0x0701 then s.fxEvtPop q ws
  else s.fxTsPop q ws

/-- Firmware-handled opcodes of the classes 2 to 7. -/
def State.runFirmware (op : Nat) (q : Req) (ws : List Word) (s : State) : State :=
  if op = 0x0202 then s.fxTblWr q ws
  else if op = 0x0203 then s.fxTblSwap q ws
  else if op = 0x0401 then s.fxChProvision q ws
  else if op = 0x0402 then s.fxChRelease q ws
  else if op = 0x0403 then s.fxXcConnect q ws
  else if op = 0x0404 then s.fxXcDisconnect q ws
  else if op = 0x0405 then s.fxPolicerSet q ws
  else if op = 0x0406 then s.fxShaperSet q ws
  else if op = 0x0407 then s.fxGateArm q ws
  else if op = 0x0501 then s.fxApsCmd q ws
  else if op = 0x0601 then s.fxRefSelect q ws
  else if op = 0x0602 then s.fxDcoSet q ws
  else if op = 0x0603 then s.fxTimeStep q ws
  else if op = 0x0604 then s.fxTimeAdjRate q ws
  else s.fxTimeOffsetAdj q ws

/-- FW_WRITE by its ACTION. -/
def State.fxFwWrite (q : Req) (ws : List Word) (s : State) : State :=
  let a := fld (wd ws 0) 31 30
  if a = 0 then s.fxFwBegin q ws else if a = 1 then s.fxFwData q ws else if a = 2 then s.fxFwEnd q ws
  else s.fxFwAbort q ws

/-- FW_ACTIVATE by its ACTION. -/
def State.fxFwActivate (q : Req) (ws : List Word) (s : State) : State :=
  if fld (wd ws 0) 31 30 = 0 then s.fxFwChoose q ws else s.fxFwCommit q ws

/-- CFG_STORE by its ACTION; 4 to 15 are refused (R565). -/
def State.fxCfgStore (q : Req) (ws : List Word) (s : State) : State :=
  let a := fld (wd ws 0) 31 28
  if a = 0 then s.fxCfgSave q ws else if a = 1 then s.fxCfgErase q ws else if a = 2 then s.fxCfgProgram q ws
  else if a = 3 then s.fxCfgRead q ws else s.finish q 0x0909 eParam 0 []

/-- Firmware-handled opcodes of the classes 8 to 10. -/
def State.runMaintenance (op : Nat) (q : Req) (ws : List Word) (s : State) : State :=
  if op = 0x0801 then s.fxEye (fld (wd ws 0) 1 0) q ws
  else if op = 0x0802 then s.fxPrbs (fld (wd ws 0) 1 0) q ws
  else if op = 0x0803 then s.fxLoopback (fld (wd ws 0) 1 0) q ws
  else if op = 0x0804 then s.fxFaultInject (fld (wd ws 0) 31 30) q ws
  else if op = 0x0901 then s.fxSensorRd q ws
  else if op = 0x0902 then s.fxLogRd q ws
  else if op = 0x0903 then s.fxFwWrite q ws
  else if op = 0x0904 then s.fxFwActivate q ws
  else if op = 0x0905 then s.fxReboot q ws
  else if op = 0x0906 then s.fxPmRd q ws
  else if op = 0x0907 then s.fxDccWr q ws
  else if op = 0x0908 then s.fxDccRd q ws
  else if op = 0x0909 then s.fxCfgStore q ws
  else if op = 0x0A01 then s.fxTwinStatus q ws
  else if op = 0x0A02 then s.fxTwinForward q ws
  else s.fxLeaseYield q ws

/-- Execute a command of any opcode. -/
def State.runOpcode (op : Nat) (q : Req) (ws : List Word) (s : State) : State :=
  if !isFirmware op then s.runHardware op q ws
  else if op < 0x0801 then s.runFirmware op q ws
  else s.runMaintenance op q ws

/-! ### Order (R447, R449, R540) -/

/-- A command in the firmware's queue, or in execution, keeps a later one waiting: one that has replied PENDING does so
only for its own source and opcode class. -/
def PendCmd.blocks (x : PendCmd) (q : Req) (op : Nat) : Bool :=
  isFirmware x.opcode && (isHeldJob x.job || !x.pending || (x.req.src == q.src && x.opcode / 256 == op / 256))

/-- A command waits behind those before it, a firmware one also until the Badger is ready (R38) (DEDUCED,
notes/assumptions/109.md). -/
def State.mustWait (s : State) (before : List PendCmd) (q : Req) (op : Nat) : Bool :=
  (q.ordered && before.any fun x => x.req.src == q.src)
    || (isFirmware op && (!s.fwUp || !s.mgmt.awake || before.any fun x => x.blocks q op))

/-- The first held command that may start, among a list in the order of arrival. -/
def State.startable (s : State) (before : List PendCmd) : List PendCmd → Option PendCmd
  | [] => none
  | p :: r =>
    if isHeldJob p.job && !s.mustWait before p.req p.opcode then some p else s.startable (before ++ [p]) r

/-- The words of a held command. -/
def heldWords : Job → List Word
  | .held _ ws => ws
  | _ => []

/-- Start held commands until none may start. -/
def State.runHeld (s : State) : Nat → State
  | 0 => s
  | n + 1 =>
    match s.startable [] s.cmd.pend with
    | none => s
    | some p =>
      let t := if isFirmware p.opcode then s
        else s.modCmd fun c => { c with pend := c.pend.filter fun x => x.req != p.req }
      (t.runOpcode p.opcode p.req (heldWords p.job)).runHeld n

/-- Take a command from those that have passed R440 and wait. -/
def State.take (s : State) (q : Req) : State :=
  s.modCmd fun c => { c with inbox := c.inbox.eraseP fun a => a.req == q }

/-- A command waits for its turn; on the firmware's behalf PENDING is answered while FW_UP is 0. -/
def State.holdCommand (s : State) (q : Req) (op : Nat) (ws : List Word) : State :=
  let pend := isFirmware op && !s.fwUp
  (if pend then s.status q op stPending else s).setPend { req := q, opcode := op, job := .held op ws, pending := pend }

/-- A command whose packet has passed steps 1 to 10 of R440 executes, or waits for its turn; one of a wrong length
(step 11) does neither. `fx` is its execution. -/
def State.start (s : State) (q : Req) (op : Nat) (ws : List Word) (fx : State → State) : State :=
  let s := s.take q
  if lenBad q.src op ws then fx s
  else
    let s := if isFirmware op then s.wakeBadger else s
    if s.mustWait s.cmd.pend q op then s.holdCommand q op ws else fx s

/-- Start accepted commands in the order in which their packets arrived (R449). -/
def State.startAll (s : State) : List Accepted → State
  | [] => s
  | a :: r => (s.start a.req a.opcode a.words (State.runOpcode a.opcode a.req a.words)).startAll r

/-- A command starts after those whose packets arrived before its own; then held ones whose turn has come start.
Without HCLK nothing executes (DEDUCED, notes/assumptions/13.md; DEDUCED, notes/assumptions/17.md). -/
def State.command (s : State) (q : Req) (op : Nat) (ws : List Word) (fx : State → State) : State :=
  if s.clocked then
    let s := (s.startAll (s.cmd.inbox.takeWhile (·.req != q))).start q op ws fx
    s.runHeld s.cmd.pend.length
  else s

/-- REG_WR of an address. -/
def State.rowWrite (s : State) (q : Req) (a : Nat) (w : Word) : State :=
  let ws := [BitVec.ofNat 32 a, w]
  s.command q 0x0102 ws (State.fxRegWr q ws)

/-- REG_WR_KEY of a dangerous register, with both halves right. -/
def State.rowKey (s : State) (q : Req) (a : Nat) (w : Word) : State :=
  let ws := [BitVec.ofNat 32 a, w, ~~~w]
  s.command q 0x0105 ws (State.fxRegWrKey q ws)

/-- CH_OH_CAPT with one command bit written, its fields as they are and its flags kept. -/
def State.armWord (s : State) (c i : Nat) : Word := setBit (s.cr c 11 &&& 0x0FFFFF00) i true

/-- The words of a TBL_WR of word 1 of redundancy stream n with REALIGN set. -/
def State.realignWords (s : State) (n : Nat) : List Word :=
  [0x05000000, BitVec.ofNat 32 (n * 256 + 1), setBit (s.tbl 5 n 1) 31 true]

/-- BADGER_READY, and the commands that woke it (R38). -/
def State.badgerStart (s : State) : State :=
  let s := s.badgerReady
  s.runHeld s.cmd.pend.length

/-- BADGER_RESTART_DONE: the restarted firmware is ready; the commands that had not started follow in their order
(R448, R539, R541). -/
def State.restartDone (s : State) (reload binsOk : Bool) : State :=
  if s.rf 0x50B0 31 30 = 2 then
    let s := s.badgerBack reload binsOk
    s.runHeld s.cmd.pend.length
  else s

/-! ### The commands -/

/-- R126, R127. -/
def execCaptArm (q : Req) (c : Nat) (s : State) : Out := .next (onCh c s (s.rowWrite q (chReg c 11) (s.armWord c 31)))
/-- R126, R128. -/
def execTraceArm (q : Req) (c : Nat) (s : State) : Out := .next (onCh c s (s.rowWrite q (chReg c 11) (s.armWord c 30)))
/-- R269, R279. -/
def execRealign (q : Req) (st : Nat) (s : State) : Out :=
  .next (onRed st s (s.command q 0x0202 (s.realignWords st) (State.fxTblWr q (s.realignWords st))))
/-- R313, R334. -/
def execLeaseCmdYield (q : Req) (s : State) : Out := .next (s.rowKey q 0x4010 0x10000000)
/-- R313, R335. -/
def execLeaseCmdForceSole (q : Req) (s : State) : Out := .next (s.rowKey q 0x4010 0x20000000)
/-- R310, R312. -/
def execTwinRoleCfgWrite (q : Req) (w : Word) (s : State) : Out := .next (s.rowKey q 0x4008 w)
/-- R312, R332. -/
def execTwinCtrlWrite (q : Req) (w : Word) (s : State) : Out := .next (s.rowWrite q 0x4000 w)
/-- R344, R346, R347. -/
def execPktEnSet (q : Req) (c : Nat) (s : State) : Out :=
  .next (onCh c s (s.rowWrite q (chReg c 14) (setBit (s.cr c 14) 31 true)))
/-- R347. -/
def execPktEnClear (q : Req) (c : Nat) (s : State) : Out :=
  .next (onCh c s (s.rowWrite q (chReg c 14) (setBit (s.cr c 14) 31 false)))
/-- R400, R402. -/
def execNominalPptWrite (q : Req) (w : Word) (s : State) : Out := .next (s.rowKey q 0x202C w)
/-- R423. -/
def execStepRearmWrite (q : Req) (w : Word) (s : State) : Out := .next (s.rowKey q 0x3020 w)
/-- R419. -/
def execTimeLatch (q : Req) (s : State) : Out := .next (s.rowWrite q 0x3004 0x80000000)
/-- R436. -/
def execTrigArm (q : Req) (n : Nat) (s : State) : Out :=
  .next (if n < 4 then s.rowWrite q (0x3050 + 12 * n) (setBit (s.reg (0x3050 + 12 * n) &&& 0x30000000) 31 true) else s)
/-- R15, R69, R142, R198, R498. -/
def execChCtrlWrite (q : Req) (c : Nat) (w : Word) (s : State) : Out := .next (onCh c s (s.rowWrite q (chReg c 0) w))
/-- R255, R256. -/
def execProtOvrClear (q : Req) (p : Nat) (s : State) : Out := .next (s.rowKey q 0x1C (BitVec.ofNat 32 (p % 128)))
/-- R255, R256. -/
def execProtOvrLockout (q : Req) (p : Nat) (s : State) : Out :=
  .next (s.rowKey q 0x1C (BitVec.ofNat 32 (2 ^ 28 + p % 128)))
/-- R255, R256. -/
def execProtOvrForcedSwitch (q : Req) (p : Nat) (s : State) : Out :=
  .next (s.rowKey q 0x1C (BitVec.ofNat 32 (2 ^ 29 + p % 128)))
/-- R531. -/
def execFaultInjAssert (q : Req) (src : Nat) (s : State) : Out :=
  .next (s.rowKey q 0x1040 (BitVec.ofNat 32 (2 ^ 31 + src % 64)))
/-- R531. -/
def execFaultInjWithdraw (q : Req) (s : State) : Out := .next (s.rowKey q 0x1040 0)
/-- R508, R556. -/
def execFwActWrite (q : Req) (w : Word) (s : State) : Out := .next (s.rowKey q 0x50B8 w)
/-- R483. -/
def execDevLockWrite (q : Req) (w : Word) (s : State) : Out := .next (s.rowWrite q 0x0010 w)
/-- R506, R519. -/
def execFaultAck (q : Req) (w : Word) (s : State) : Out := .next (s.rowWrite q 0x102C w)
/-- R454. -/
def execNop (q : Req) (ws : List Word) (s : State) : Out :=
  .next (s.command q 0x0001 ws (State.fxNop q ws))
/-- R454. -/
def execEcho (q : Req) (ws : List Word) (s : State) : Out :=
  .next (s.command q 0x0002 ws (State.fxEcho q ws))
/-- R462. -/
def execIdentify (q : Req) (ws : List Word) (s : State) : Out :=
  .next (s.command q 0x0003 ws (State.fxIdentify q ws))
/-- R456, R470, R471. -/
def execRegRd (q : Req) (ws : List Word) (s : State) : Out :=
  .next (s.command q 0x0101 ws (State.fxRegRd q ws))
/-- R456, R469. -/
def execRegWr (q : Req) (ws : List Word) (s : State) : Out :=
  .next (s.command q 0x0102 ws (State.fxRegWr q ws))
/-- R456, R479. -/
def execRegRdBlk (q : Req) (ws : List Word) (s : State) : Out :=
  .next (s.command q 0x0103 ws (State.fxRegRdBlk q ws))
/-- R456, R473, R474. -/
def execRegWrBlk (q : Req) (ws : List Word) (s : State) : Out :=
  .next (s.command q 0x0104 ws (State.fxRegWrBlk q ws))
/-- R456, R482. -/
def execRegWrKey (q : Req) (ws : List Word) (s : State) : Out :=
  .next (s.command q 0x0105 ws (State.fxRegWrKey q ws))
/-- R457, R471. -/
def execTblRd (q : Req) (ws : List Word) (s : State) : Out :=
  .next (s.command q 0x0201 ws (State.fxTblRd q ws))
/-- R457, R458. -/
def execTblWr (q : Req) (ws : List Word) (s : State) : Out :=
  .next (s.command q 0x0202 ws (State.fxTblWr q ws))
/-- R190, R191. -/
def execTblSwap (q : Req) (ws : List Word) (s : State) : Out :=
  .next (s.command q 0x0203 ws (State.fxTblSwap q ws))
/-- R190, R191, R193. -/
def execTblSwapCancel (q : Req) (ws : List Word) (s : State) : Out :=
  .next (s.command q 0x0203 ws (State.fxTblSwap q ws))
/-- R196, R197. -/
def execXcConnect (q : Req) (ws : List Word) (s : State) : Out :=
  .next (s.command q 0x0403 ws (State.fxXcConnect q ws))
/-- R197. -/
def execXcDisconnect (q : Req) (ws : List Word) (s : State) : Out :=
  .next (s.command q 0x0404 ws (State.fxXcDisconnect q ws))
/-- R229, R230. -/
def execSnapshot (q : Req) (ws : List Word) (s : State) : Out :=
  .next (s.command q 0x0301 ws (State.fxSnapshot q ws))
/-- R231. -/
def execCntClear (q : Req) (ws : List Word) (s : State) : Out :=
  .next (s.command q 0x0302 ws (State.fxCntClear q ws))
/-- R459. -/
def execChProvision (q : Req) (ws : List Word) (s : State) : Out :=
  .next (s.command q 0x0401 ws (State.fxChProvision q ws))
/-- R459. -/
def execChRelease (q : Req) (ws : List Word) (s : State) : Out :=
  .next (s.command q 0x0402 ws (State.fxChRelease q ws))
/-- R356. -/
def execPolicerSet (q : Req) (ws : List Word) (s : State) : Out :=
  .next (s.command q 0x0405 ws (State.fxPolicerSet q ws))
/-- R366. -/
def execShaperSet (q : Req) (ws : List Word) (s : State) : Out :=
  .next (s.command q 0x0406 ws (State.fxShaperSet q ws))
/-- R368. -/
def execGateArm (q : Req) (ws : List Word) (s : State) : Out :=
  .next (s.command q 0x0407 ws (State.fxGateArm q ws))
/-- R368. -/
def execGateArmCancel (q : Req) (ws : List Word) (s : State) : Out :=
  .next (s.command q 0x0407 ws (State.fxGateArm q ws))
/-- R253, R254. -/
def execApsCmdClear (q : Req) (ws : List Word) (s : State) : Out :=
  .next (s.command q 0x0501 ws (State.fxApsCmd q ws))
/-- R253, R254. -/
def execApsCmdMsP (q : Req) (ws : List Word) (s : State) : Out :=
  .next (s.command q 0x0501 ws (State.fxApsCmd q ws))
/-- R253, R254. -/
def execApsCmdMsW (q : Req) (ws : List Word) (s : State) : Out :=
  .next (s.command q 0x0501 ws (State.fxApsCmd q ws))
/-- R253, R257. -/
def execApsCmdExer (q : Req) (ws : List Word) (s : State) : Out :=
  .next (s.command q 0x0501 ws (State.fxApsCmd q ws))
/-- R404, R405. -/
def execRefSelect (q : Req) (ws : List Word) (s : State) : Out :=
  .next (s.command q 0x0601 ws (State.fxRefSelect q ws))
/-- R398, R404. -/
def execDcoSet (q : Req) (ws : List Word) (s : State) : Out :=
  .next (s.command q 0x0602 ws (State.fxDcoSet q ws))
/-- R420, R422. -/
def execTimeStepAbsolute (q : Req) (ws : List Word) (s : State) : Out :=
  .next (s.command q 0x0603 ws (State.fxTimeStep q ws))
/-- R420, R422. -/
def execTimeStepRelative (q : Req) (ws : List Word) (s : State) : Out :=
  .next (s.command q 0x0603 ws (State.fxTimeStep q ws))
/-- R420, R424. -/
def execTimeAdjRate (q : Req) (ws : List Word) (s : State) : Out :=
  .next (s.command q 0x0604 ws (State.fxTimeAdjRate q ws))
/-- R420, R425. -/
def execTimeOffsetAdj (q : Req) (ws : List Word) (s : State) : Out :=
  .next (s.command q 0x0605 ws (State.fxTimeOffsetAdj q ws))
/-- R465. -/
def execEvtPop (q : Req) (ws : List Word) (s : State) : Out :=
  .next (s.command q 0x0701 ws (State.fxEvtPop q ws))
/-- R420, R433, R434. -/
def execTsPop (q : Req) (ws : List Word) (s : State) : Out :=
  .next (s.command q 0x0702 ws (State.fxTsPop q ws))
/-- R77, R78, R461. -/
def execEyeScanStart (q : Req) (ws : List Word) (s : State) : Out :=
  .next (s.command q 0x0801 ws (State.fxEye 0 q ws))
/-- R77, R461. -/
def execEyeScanStop (q : Req) (ws : List Word) (s : State) : Out :=
  .next (s.command q 0x0801 ws (State.fxEye 1 q ws))
/-- R78, R79, R461. -/
def execEyeScanRead (q : Req) (ws : List Word) (s : State) : Out :=
  .next (s.command q 0x0801 ws (State.fxEye 2 q ws))
/-- R72, R73, R75. -/
def execPrbsStart (q : Req) (ws : List Word) (s : State) : Out :=
  .next (s.command q 0x0802 ws (State.fxPrbs 0 q ws))
/-- R73, R75. -/
def execPrbsStop (q : Req) (ws : List Word) (s : State) : Out :=
  .next (s.command q 0x0802 ws (State.fxPrbs 1 q ws))
/-- R73. -/
def execPrbsRead (q : Req) (ws : List Word) (s : State) : Out :=
  .next (s.command q 0x0802 ws (State.fxPrbs 2 q ws))
/-- R73. -/
def execPrbsReadClear (q : Req) (ws : List Word) (s : State) : Out :=
  .next (s.command q 0x0802 ws (State.fxPrbs 3 q ws))
/-- R460. -/
def execLoopbackOff (q : Req) (ws : List Word) (s : State) : Out :=
  .next (s.command q 0x0803 ws (State.fxLoopback 0 q ws))
/-- R460. -/
def execLoopbackNear (q : Req) (ws : List Word) (s : State) : Out :=
  .next (s.command q 0x0803 ws (State.fxLoopback 1 q ws))
/-- R460. -/
def execLoopbackFar (q : Req) (ws : List Word) (s : State) : Out :=
  .next (s.command q 0x0803 ws (State.fxLoopback 2 q ws))
/-- R531, R534. -/
def execFaultInjectWithdraw (q : Req) (ws : List Word) (s : State) : Out :=
  .next (s.command q 0x0804 ws (State.fxFaultInject 0 q ws))
/-- R531, R533, R534. -/
def execFaultInjectAssert (q : Req) (ws : List Word) (s : State) : Out :=
  .next (s.command q 0x0804 ws (State.fxFaultInject 1 q ws))
/-- R534. -/
def execFaultInjectPulse (q : Req) (ws : List Word) (s : State) : Out :=
  .next (s.command q 0x0804 ws (State.fxFaultInject 2 q ws))
/-- R544. -/
def execSensorRd (q : Req) (ws : List Word) (s : State) : Out :=
  .next (s.command q 0x0901 ws (State.fxSensorRd q ws))
/-- R549, R564. -/
def execLogRd (q : Req) (ws : List Word) (s : State) : Out :=
  .next (s.command q 0x0902 ws (State.fxLogRd q ws))
/-- R555. -/
def execFwWriteBegin (q : Req) (ws : List Word) (s : State) : Out :=
  .next (s.command q 0x0903 ws (State.fxFwBegin q ws))
/-- R555. -/
def execFwWriteData (q : Req) (ws : List Word) (s : State) : Out :=
  .next (s.command q 0x0903 ws (State.fxFwData q ws))
/-- R555. -/
def execFwWriteEnd (q : Req) (ws : List Word) (s : State) : Out :=
  .next (s.command q 0x0903 ws (State.fxFwEnd q ws))
/-- R555. -/
def execFwWriteAbort (q : Req) (ws : List Word) (s : State) : Out :=
  .next (s.command q 0x0903 ws (State.fxFwAbort q ws))
/-- R556. -/
def execFwActivateChoose (q : Req) (ws : List Word) (s : State) : Out :=
  .next (s.command q 0x0904 ws (State.fxFwChoose q ws))
/-- R557. -/
def execFwActivateCommit (q : Req) (ws : List Word) (s : State) : Out :=
  .next (s.command q 0x0904 ws (State.fxFwCommit q ws))
/-- R558. -/
def execReboot (q : Req) (ws : List Word) (s : State) : Out :=
  .next (s.command q 0x0905 ws (State.fxReboot q ws))
/-- R227. -/
def execPmRd (q : Req) (ws : List Word) (s : State) : Out :=
  .next (s.command q 0x0906 ws (State.fxPmRd q ws))
/-- R135. -/
def execDccWr (q : Req) (ws : List Word) (s : State) : Out :=
  .next (s.command q 0x0907 ws (State.fxDccWr q ws))
/-- R135. -/
def execDccRd (q : Req) (ws : List Word) (s : State) : Out :=
  .next (s.command q 0x0908 ws (State.fxDccRd q ws))
/-- R565. -/
def execCfgStoreSaveNominal (q : Req) (ws : List Word) (s : State) : Out :=
  .next (s.command q 0x0909 ws (State.fxCfgSave q ws))
/-- R565. -/
def execCfgStoreErase (q : Req) (ws : List Word) (s : State) : Out :=
  .next (s.command q 0x0909 ws (State.fxCfgErase q ws))
/-- R565. -/
def execCfgStoreProgram (q : Req) (ws : List Word) (s : State) : Out :=
  .next (s.command q 0x0909 ws (State.fxCfgProgram q ws))
/-- R565. -/
def execCfgStoreRead (q : Req) (ws : List Word) (s : State) : Out :=
  .next (s.command q 0x0909 ws (State.fxCfgRead q ws))
/-- R340. -/
def execTwinStatus (q : Req) (ws : List Word) (s : State) : Out :=
  .next (s.command q 0x0A01 ws (State.fxTwinStatus q ws))
/-- R338. -/
def execTwinForward (q : Req) (ws : List Word) (s : State) : Out :=
  .next (s.command q 0x0A02 ws (State.fxTwinForward q ws))
/-- R334. -/
def execLeaseYield (q : Req) (ws : List Word) (s : State) : Out :=
  .next (s.command q 0x0A03 ws (State.fxLeaseYield q ws))
/-- R38, R538, R539. -/
def execBadgerReady (s : State) : Out := .next (whileOn s s.badgerStart)
/-- R448, R539, R541. -/
def execBadgerRestartDone (reload binsOk : Bool) (s : State) : Out := .next (whileOn s (s.restartDone reload binsOk))

end Sys2Proof.Machine
end

