-- ==== Sys2Proof/Machine/Pins.lean ====
section
/-!
DEFINITION. The output pins as functions of the state (R405, R406, R407, R467, R529, R574). The lease pins are fields of
the twin (R320); what a lane carries is the channel's `Tx`.
-/
namespace Sys2Proof.Machine

/-- What an output pin carries. -/
inductive Level where
  | low | high | highZ
  deriving DecidableEq, Repr

/-- A driven pin. -/
def driven (b : Bool) : Level := if b then .high else .low

/-- FAULT_P (R529): low in reset and in the safe state. -/
def State.pinFaultP (s : State) : Level := driven (s.phase != .held && s.rb 0x1000 31)

/-- FAULT_N, the complement of FAULT_P. -/
def State.pinFaultN (s : State) : Level := driven !(s.phase != .held && s.rb 0x1000 31)

/-- The event FIFO holds an event of a class that EVT_MASK leaves unmasked. -/
def State.eventWaits (s : State) : Bool := s.events.any fun e => !s.rb 0x6004 (e.toNat / 2 ^ 56 % 64)

/-- HOST_IRQ_N, open drain (R467): released in reset. -/
def State.pinHostIrq (s : State) : Level :=
  if s.phase != .held && (s.eventWaits || (s.rb 0x6000 31 && !s.cmd.hostReplies.isEmpty)) then .low else .highZ

/-- PPS_OUT n (R406, R407): high impedance while the output is not driven, or not enabled and past its last pulse. -/
def State.pinPps (s : State) (n : Nat) : Level :=
  let pulse := (Store.get none s.time.ppsEnd n).isSome
  if s.phase != .held && s.ppsDriven n && (s.ppsOutOn n || pulse) then driven (pulse != s.rb (0x20A0 + 4 * n) 29)
  else .highZ

/-- The pins of the host port and the flash port that R574 fixes in reset. -/
inductive BusPin where
  | hostIo | flashCsN | flashSck | flashIo
  deriving DecidableEq, Repr

/-- A pin of the host or flash port while RST_N is low (R574); none where the port's own traffic drives it. -/
def State.pinBus (s : State) (p : BusPin) : Option Level :=
  if s.phase == .held then
    some (match p with
      | .hostIo | .flashIo => .highZ
      | .flashCsN => .high
      | .flashSck => .low)
  else none

/-- What a clock output carries: nothing, its off level (_P low, _N high), no edges while the oscillator is stopped, or
its frequency in Hz, which TCLK takes off by an amount in ppt of the master oscillator (R399, R405). -/
inductive ClkOut where
  | highZ
  | off
  | stopped
  | run (hz : Nat) (ppt : Int)
  deriving DecidableEq, Repr

/-- CLKOUT n carries periods: it has started, or its last period has not ended (R406). -/
def State.clkCarries (s : State) (n : Nat) : Bool :=
  (s.clkPin n).onAt.any (· ≤ s.time.tclk) || (s.clkPin n).offAt.any (s.time.tclk < ·)

/-- CLKOUT n (R405 to R407); STATE 0 of the selector is FREE_RUN (DEDUCED, notes/assumptions/128.md). -/
def State.pinClk (s : State) (n : Nat) : ClkOut :=
  if s.phase == .held || !s.clkDriven n then .highZ
  else if s.clkCarries n then
    if s.osc then .run (s.rf (0x2090 + 4 * n) 27 0) (s.nominal + s.refs.steer) else .stopped
  else if s.rb (0x2080 + 4 * n) 31 then .off
  else .highZ

end Sys2Proof.Machine
end

