-- ==== Sys2Proof/Machine/HostPort.lean ====
section
/-!
DEFINITION. Packets from the host port, in-band streams and the twin link: the checks of R440, the source protection
table (R444, R445, R559), outstanding commands (R450), and the replies that are read (R446, R452, R453, R467, R468).
-/
namespace Sys2Proof.Machine

/-! ### Packets (R438, R439) -/

/-- The number that bytes i .. i + n − 1 spell, most significant first. -/
def beNum (l : List Byte) (i n : Nat) : Nat := ((l.drop i).take n).foldl (fun v b => v * 256 + b.toNat) 0

/-- Words of a byte list whose length is a multiple of 4. -/
def toWords (l : List Byte) : List Word := packWords l

/-- A packet's bytes between header and trailer: LEN words, and 16 bytes of MAC for an in-band source. -/
def macLen : Src → Nat
  | .inband _ => 16
  | _ => 0

/-- The largest LEN of a source. -/
def maxLen : Src → Nat
  | .inband _ => 1017
  | _ => 1021

/-- The size of a packet with n payload words. -/
def packetSize (src : Src) (n : Nat) : Nat := 12 + 4 * n + macLen src

/-- The trailer is the CRC-32C of the bytes before it. -/
def crcGood (l : List Byte) : Bool :=
  let n := l.length - 4
  (l.drop n) == wordBytes (crc32c (l.take n))

/-! ### The source protection table (R444, R559) -/

/-- The row of a source. -/
def State.protRow (s : State) : Src → Nat
  | .host => 0
  | .twin => 1
  | .inband slot => 2 + s.keySlot slot

/-- The region of an address, and of a table: the bit that grants it. -/
def regionBit (a : Nat) : Nat :=
  match (decodeAddr a).1 with
  | .page p _ => p
  | .group g _ => 9 + g
  | .chan c _ => 9 + c / 16

/-- The bit of a table; none where no right is defined for it (DEDUCED, notes/assumptions/107.md). -/
def tableBit (t : Nat) (write : Bool) : Option Nat :=
  if 0x01 ≤ t ∧ t ≤ 0x08 then some (t - 1)
  else if 0x10 ≤ t ∧ t ≤ 0x14 then some (t - 8)
  else if 0x18 ≤ t ∧ t ≤ 0x1E then some (t - 11)
  else if t = 0x20 then some 20
  else if t = 0x30 ∧ !write then some 21
  else none

/-- A right on an address: word 1 grants reads, word 2 writes. -/
def State.mayReg (s : State) (row : Nat) (write : Bool) (w : Word) : Bool :=
  bit (s.tbl 0x30 row (if write then 2 else 1)) (regionBit w.toNat)

/-- A right on a table: word 3 grants reads, word 4 writes. A table without a right is judged by the opcode. -/
def State.mayTbl (s : State) (row : Nat) (write : Bool) (t : Nat) : Bool :=
  match tableBit t write with
  | some i => bit (s.tbl 0x30 row (if write then 4 else 3)) i
  | none => true

/-- Step 10 of R440. A block command stays in the block or page of its first address (R479). -/
def State.granted (s : State) (src : Src) (op : Nat) (ws : List Word) : Bool :=
  let row := s.protRow src
  let w0 := s.tbl 0x30 row 0
  bit w0 31 && w0.getLsbD (op / 256)
    && (if op = 0x0101 ∨ op = 0x0103 then ws.isEmpty || s.mayReg row false (wd ws 0)
        else if op = 0x0102 ∨ op = 0x0104 ∨ op = 0x0105 then ws.isEmpty || s.mayReg row true (wd ws 0)
        else if op = 0x0201 then ws.isEmpty || s.mayTbl row false (fld (wd ws 0) 31 24)
        else if op = 0x0202 then ws.isEmpty || s.mayTbl row true (fld (wd ws 0) 31 24)
        else if op = 0x0203 then s.mayTbl row true 1 && s.mayTbl row true 2
        else if op = 0x0403 ∨ op = 0x0404 then s.mayTbl row true 2
        else true)

/-! ### Outstanding commands (R450) -/

/-- Commands a source has outstanding (DEDUCED, notes/assumptions/106.md). -/
def State.outstanding (s : State) (src : Src) : Nat := (s.cmd.awaiting.filter fun q => q.src == src).length

/-- The limit of a source. -/
def outLimit : Src → Nat
  | .inband _ => 4
  | _ => 16

/-- The channel field of a command event: the stream's channel, 0xFF for HOST, 0xFE for TWIN (R464). -/
def State.cmdChan (s : State) : Src → Nat
  | .host => 0xFF
  | .twin => 0xFE
  | .inband slot => fld (s.streamWord slot) 23 16

/-- A command event, held off for 10 ms per code: every occurrence is a change. -/
def State.cmdOccur (s : State) (code chn : Nat) : State :=
  s.change (holdCmd code) 0 ((((s.hold (holdCmd code)).item 0).value / 256 + 1) * 256 + chn) 10000

/-- COMMAND_EVENT_HOLDOFF_EXPIRY. -/
def State.cmdHoldExpiry (s : State) (code : Nat) : State :=
  s.expireHold (holdCmd code) fun _ i => mkEvent i.suppressed 0x0D 0xFB (i.value % 256) code i.time

/-! ### Step 6: MAC and freshness (R442) -/

/-- A tag is fresh: the first under a NONCE, or at most 4,096 ahead of the last accepted. -/
def Session.tagOk (x : Session) (tag : Nat) : Bool :=
  x.fresh || (1 ≤ (tag + 65536 - x.last) % 65536 && (tag + 65536 - x.last) % 65536 ≤ 4096)

/-- The packet of an in-band source is authenticated; IDENTIFY needs no MAC. -/
def State.authOk (s : State) (src : Src) (l : List Byte) (n op tag : Nat) : Bool :=
  match src with
  | .inband slot =>
    op == 0x0003
      || ((l.drop (8 + 4 * n)).take 16 == s.mac slot (l.take (8 + 4 * n)) && (s.session slot).tagOk tag)
  | _ => true

/-- An accepted packet moves LAST on; after 32,768 tags a new NONCE is drawn. -/
def State.tagTaken (s : State) (src : Src) (op tag : Nat) : State :=
  match src with
  | .inband slot =>
    if op = 0x0003 then s
    else
      let x := s.session slot
      let adv := if x.fresh then 0 else x.advance + (tag + 65536 - x.last) % 65536
      if adv ≥ 32768 then s.drawNonce slot
      else s.modSession slot fun x => { x with fresh := false, last := tag, advance := adv }
  | _ => s

/-! ### The checks of R440 -/

/-- A refusal that the source reads as a reply: the packet is outstanding until its reply has been taken (DEDUCED,
notes/assumptions/106.md). -/
def State.refuse (s : State) (q : Req) (op st : Nat) : State :=
  (s.modCmd fun c => { c with awaiting := c.awaiting ++ [q] }).status q op st

/-- A source has a command under this tag that awaits completion. -/
def State.tagBusy (s : State) (src : Src) (tag : Nat) : Bool :=
  (s.cmd.inbox.any fun a => a.req.src == src && a.req.tag == tag)
    || s.cmd.pend.any fun p => p.req.src == src && p.req.tag == tag

/-- Steps 4 to 11 for a packet that is whole: the status of the first that fails. -/
def State.judge (s : State) (src : Src) (l : List Byte) (n op tag : Nat) (ws : List Word) : Nat :=
  firstReason [
    (eOpcode, beNum l 0 1 / 16 != 1),
    (eDenied, beNum l 1 1 != srcCode src),
    (eAuth, !s.authOk src l n op tag),
    (eParam, tag == 0 || s.tagBusy src tag),
    (eLocked, !s.rb 0x0010 29 && op != 0x0001 && op != 0x0002 && op != 0x0003),
    (eOpcode, !opcodes.contains op),
    (eDenied, s.rb 0x0010 29 && !s.granted src op ws),
    (eLength, lenBad src op ws)]

/-- The counters and the event of a refusal of steps 6 and 10. -/
def State.refusalCounts (s : State) (src : Src) (l : List Byte) (st : Nat) : State :=
  if st = eAuth then (s.count 0x6014 15 0 1).cmdOccur 0x02 (s.cmdChan src)
  else if st = eDenied && beNum l 1 1 == srcCode src then s.count 0x6014 31 16 1
  else s

/-- The check unit that counts CRC-32C errors of the in-band packets of a channel's streams (R297). -/
def State.crcUnit (s : State) : Src → State
  | .inband slot => s.fixedErr (fld (s.streamWord slot) 23 16) 4 1
  | _ => s

/-- One packet from a source: R440 up to step 11. A packet that passes waits for its execution.
(DESIGN CHOICE, notes/assumptions/105.md). -/
def State.packet (s : State) (src : Src) (l : List Byte) : State :=
  let n := beNum l 6 2
  let op := beNum l 2 2
  let tag := beNum l 4 2
  if s.outstanding src ≥ outLimit src then (s.count 0x6018 31 16 1).cmdOccur 0x01 (s.cmdChan src)
  else if l.length < 8 || (n ≤ maxLen src && l.length < packetSize src n) then s.count 0x6010 31 16 1
  else if n > maxLen src || l.length > packetSize src n then
    (s.count 0x6018 15 0 1).refuse { src := src, tag := 0 } 0 eLength
  else if !crcGood l then ((s.count 0x6010 15 0 1).crcUnit src).refuse { src := src, tag := 0 } 0 eCrc
  else
    let ws := toWords ((l.drop 8).take (4 * n))
    let q : Req := { src := src, tag := tag, ordered := beNum l 0 1 % 2 == 1 }
    let st := s.judge src l n op tag ws
    let got : Byte := BitVec.ofNat 8 (beNum l 1 1)
    if st != stOk then
      (s.refusalCounts src l st).refuse { q with source := if got.toNat = srcCode src then none else some got } (op % 0x8000) st
    else
      (s.tagTaken src op tag).modCmd fun c => { c with
        inbox := c.inbox ++ [{ req := q, opcode := op, words := ws }], awaiting := c.awaiting ++ [q] }

/-! ### The host port (R41, R452, R453) -/

/-- The host port receives: HCLK runs, and 60 µs have passed since the selection that ended DEEP. -/
def State.portUp (s : State) : Bool :=
  s.clocked && (match s.cmd.deaf with | some t => t ≤ s.owl | none => true)

/-- HOST_WRITE: while the port does not receive, the packet is counted as cut short; its selection ends DEEP.
(DEDUCED, notes/assumptions/131.md). -/
def State.hostWrite (s : State) (l : List Byte) : State :=
  if !s.alive then s
  else if !s.portUp then (s.deepWake true).count 0x6010 31 16 1
  else if l.isEmpty then s.count 0x6010 31 16 1
  else s.packet .host l

/-- The first n bytes of a reply, and 0x00 after its end. -/
def readBytes (l : List Byte) (n : Nat) : List Byte := (l ++ List.replicate (n - l.length) 0).take n

/-- READ_REPLY of n bytes: a reply read to its end leaves the queue, and a final one ends its command. -/
def State.readReply (s : State) (n : Nat) : State :=
  if !s.portUp then whileOn s (s.deepWake true)
  else
    match s.cmd.hostReplies with
    | [] => s.modCmd fun c => { c with hostRead := readBytes (List.replicate 8 0) n }
    | r :: t =>
      let l := s.replyBytes r
      let s := s.modCmd fun c => { c with hostRead := readBytes l n }
      if n < l.length then s
      else
        let s := s.modCmd fun c => { c with hostReplies := t }
        if r.status = stPending then s else s.settle r.req

/-- HOST_STAT live (R468). -/
def State.hostStat (s : State) : Word :=
  BitVec.ofNat 32 (min 63 s.cmd.hostReplies.length * 2 ^ 20 + (16 - s.outstanding .host) * 2 ^ 15 + s.events.length)

/-- READ_STATUS. -/
def State.readStat (s : State) : State :=
  if s.portUp then s.modCmd fun c => { c with hostRead := wordBytes s.hostStat } else whileOn s (s.deepWake true)

/-! ### In-band frames and forwarded packets (R136, R338) -/

/-- INBAND_COMMAND_FRAME: a bad FCS is counted and gets no reply. -/
def State.inbandFrame (s : State) (slot : Nat) (l : List Byte) (fcsOk : Bool) : State :=
  let w := s.streamWord slot
  let c := fld w 23 16
  if s.streamOn slot && bit w 30 && s.enabled c && s.aligned c && s.clocked then
    if fcsOk then s.packet (.inband slot) l else s.countTbl 0x12 slot 1 15 0 1
  else s

/-- FWD_CMD_RX. -/
def State.fwdCmd (s : State) (seq : Nat) (l : List Byte) : State :=
  let (ok, s) := s.rxReliable seq
  if ok then s.packet .twin l else s

/-- The TWIN_FORWARD that a reply completes: the first with its tag, or the oldest for the tag 0 of R610.
(DEDUCED, notes/assumptions/110.md). -/
def State.forwardOf (s : State) (tag : Nat) : Option PendCmd :=
  s.cmd.pend.find? fun p =>
    match p.job with
    | .forward t => tag == 0 || t == tag
    | _ => false

/-- FWD_REPLY_RX: the twin's final reply, carried unchanged, completes the TWIN_FORWARD; one that does not fit a packet
(R438) completes it with E_LENGTH (DESIGN CHOICE, notes/assumptions/201.md). -/
def State.fwdReply (s : State) (seq : Nat) (l : List Byte) : State :=
  let (ok, s) := s.rxReliable seq
  if ok && beNum l 8 2 != stPending then
    match s.forwardOf (beNum l 4 2) with
    | some p =>
      if (toWords l).length ≤ maxCount p.req then s.finish p.req p.opcode stOk 0 (toWords l)
      else s.finish p.req p.opcode eLength 0 []
    | none => s
  else s

/-! ### The commands -/

/-- R24, R438 to R445, R450, R453, R610. -/
def execHostWrite (data : List Byte) (s : State) : Out := .next (s.hostWrite data)
/-- R446, R450, R453. -/
def execReadReply (bytes : Nat) (s : State) : Out := .next (s.readReply bytes)
/-- R452, R468. -/
def execReadStatus (s : State) : Out := .next s.readStat
/-- R136, R440, R442. -/
def execInbandCommandFrame (slot : Nat) (data : List Byte) (fcsOk : Bool) (s : State) : Out :=
  .next (whileOn s (s.inbandFrame slot data fcsOk))
/-- R338, R440, R443. -/
def execFwdCmdRx (seq : Nat) (data : Checked (List Byte)) (s : State) : Out :=
  .next (whileOn s (s.crcGate { typ := 0x20, seq := seq, words := packWords data.val } data.crc (s.fwdCmd seq data.val)))
/-- R338. -/
def execFwdReplyRx (seq : Nat) (data : Checked (List Byte)) (s : State) : Out :=
  .next (whileOn s (s.crcGate { typ := 0x21, seq := seq, words := packWords data.val } data.crc (s.fwdReply seq data.val)))
/-- R464. -/
def execCommandEventHoldoffExpiry (code : Nat) (s : State) : Out :=
  .next (owlOn s (if code < 256 then s.cmdHoldExpiry code else s))

end Sys2Proof.Machine
end

