-- ==== Sys2Proof/Machine/Power.lean ====
section
/-!
DEFINITION. Reset, boot, DEEP, the master oscillator and boundary scan (19_power_reset_boot.md, 18_management_subsystem.md
R546 to R560, 01_structure.md R31, R39 to R41, R46, 20_pins_electrical_package.md R601).
-/
namespace Sys2Proof.Machine

/-! ### Reset (R572 to R577) -/

/-- RST_N_ASSERT: everything returns to its reset value but OTP and the flash. What is outside the reset stays too: the
commands still to come, the oscillator, the boundary-scan instruction, the model's counter of free values. An
interrupted write of a two-copy record leaves its sector without a valid copy (R553, R576) (DEDUCED,
notes/assumptions/117.md). -/
def State.assertReset (s : State) : State :=
  let s := if s.mgmt.headerNext.isSome then s.spoilCopy true else s
  let s := if s.cmd.pend.any fun p => (match p.job with | .cfg 0 _ => true | _ => false) then s.spoilCopy false else s
  { State.reset with
    pending := s.pending, osc := s.osc, jtag := s.jtag, freeCtr := s.freeCtr
    mgmt := { flash := s.mgmt.flash, otpFuses := s.mgmt.otpFuses, unfit := s.mgmt.unfit } }

/-- The end of a reset: straps as given, RESET_CAUSE PIN or REBOOT (R504, R575), TEST_LOCK (R483), TWIN_ID (R314),
ROLLBACK (R557); boot code runs. -/
def State.startBoot (s : State) (st : Straps) (pin : Bool) : State :=
  let s := { s with phase := .boot, straps := st }
  let s := s.setReg 0x0014 (BitVec.ofNat 32 (b2n st.testEn * 8 + st.bootSrc % 4 * 2 + b2n st.twinId))
  let s := (s.setReg 0x0004 (Config.stepping.setWidth 32)).setReg 0x002C (if pin then 0x80000000 else 0x40000000)
  let s := if st.testEn then s.setRb 0x0010 30 true else s
  (s.setRb 0x4018 20 st.twinId).setReg 0x50DC (BitVec.ofNat 32 s.mgmt.otpFuses)

/-- RST_N_RELEASE. -/
def State.releaseReset (s : State) (st : Straps) : State :=
  if s.phase == .held then s.startBoot st true else s

/-- REBOOT_RESET: 10 ms after the reply of REBOOT the device resets; the straps are not sampled again.
(DEDUCED, notes/assumptions/119.md). -/
def State.rebootNow (s : State) : State :=
  if s.alive && s.due s.mgmt.rebootAt then s.assertReset.startBoot s.straps false else s

/-! ### Boot (R549, R551 to R554, R559, R577 to R580) -/

/-- The image in a slot is valid (R552); an upload that was cut leaves its slot invalid (R555, R558, R576). -/
def State.slotBoots (s : State) (k : Nat) : Bool :=
  s.imageResult k (s.imgWord k 24) == 0 && !s.mgmt.unfit.contains k

/-- The slot that the boot header chooses; slot A where neither copy is valid (R554). -/
def State.headerChoice (s : State) : Nat :=
  match s.copyUsed true with
  | some k => (s.flashByte (copyAddr true k + 8)).toNat % 2
  | none => 0

/-- The order in which slots are tried (R553, R577): none with BOOT_SRC RECOVERY. -/
def State.bootOrder (s : State) : List Nat :=
  let k := s.headerChoice
  if s.straps.bootSrc % 4 = 0 then [k, 1 - k] else if s.straps.bootSrc % 4 = 1 then [1 - k, k] else []

/-- Rows of the source protection table in recovery (R553). -/
def recoveryProt (r w : Nat) : Word :=
  if r = 0 then (if w = 0 then 0x800007FF else if w = 3 then 0x003FFFFF else if w = 5 then 0 else 0x001FFFFF) else 0

/-- The source protection table of the booted image, or the recovery default; PT_LOCK (R559). -/
def State.loadProt (s : State) (slot : Option Nat) : State :=
  let src (r w : Nat) : Word := match slot with
    | some k => s.protWord k ((s.imgFind k 2).getD (0, 0)).1 r w
    | none => recoveryProt r w
  let s := s.each (List.range 10) fun t r => t.setTblWords 0x30 0 r 0 ((List.range 6).map (src r))
  s.setRb 0x0010 29 true

/-- The INIT section: pairs of address and value (R551). -/
def State.applyInit (s : State) (k : Nat) : State :=
  match s.imgFind k 3 with
  | some (o, n) =>
    s.each (List.range (n / 8)) fun t i =>
      (t.writeReg .host (s.imgWord k (o + 8 * i)) (BitVec.ofNat 32 (s.imgWord k (o + 8 * i + 4)))).2
  | none => s

/-- NOMINAL_PPT from the configuration store: the state, and whether a copy was valid (R579). -/
def State.loadNominal (s : State) : State × Bool :=
  match s.copyUsed false with
  | some k => (s.setNominal (BitVec.ofNat 32 (s.flashWord (copyAddr false k + 8))), true)
  | none => (s, false)

/-- The CRC of record i is right. -/
def State.recOk (s : State) (i : Nat) : Bool :=
  s.flashWord (logAddr i + 28) == (crc32c (s.flashBytes (logAddr i) 28)).toNat

/-- The SEQ of record i. -/
def State.recSeq (s : State) (i : Nat) : Nat := s.flashWord (logAddr i + 4)

/-- The records that hold anything but erased bytes. -/
def State.usedRecs (s : State) : List Nat :=
  ((s.mgmt.flash.filter fun e => logAddr 0 ≤ e.1 && e.1 < logAddr logSize).map fun e => (e.1 - logAddr 0) / 32).eraseDups

/-- The highest SEQ of records with a good CRC, with its record. -/
def State.topSeq (s : State) (l : List Nat) : Option (Nat × Nat) :=
  l.foldl (fun b i =>
    if s.recOk i && (match b with | some (q, _) => decide (q < s.recSeq i) | none => true) then some (s.recSeq i, i) else b)
    none

/-- The record after the last used one of log sector k; the sector's first where it is erased. -/
def sectorEnd (used : List Nat) (k : Nat) : Nat :=
  (used.filter fun i => i / 2048 == k).foldl (fun m i => max m (i + 1)) (2048 * k)

/-- R549: the sector with the newest first record holds the head, after its last used record; behind a full sector it is
the next one, past a record that was cut. -/
def State.findHead (s : State) : Nat :=
  let used := s.usedRecs
  let k := match s.topSeq (used.filter fun i => i % 2048 == 0) with
    | some (_, i) => i / 2048
    | none => 0
  let e := sectorEnd used k
  if e < 2048 * (k + 1) then e
  else
    let n := (k + 1) % 128
    if s.recOk (2048 * n) then 2048 * n else sectorEnd used n

/-- The log at boot: LOG_HEAD, the next SEQ, and LOG_PASS, which is 0 while the region shows no wrap and is not stated
otherwise. A sector of the last pass that the head enters is erased (R546) (DEDUCED, notes/assumptions/93.md). -/
def State.loadLog (s : State) : State :=
  let used := s.usedRecs
  let h := s.findHead
  let seq := match s.topSeq used with
    | some (q, _) => q + 1
    | none => 0
  let wrapped := used.any (h ≤ ·) || seq > logSize
  let s := if h % 2048 = 0 then s.erase (logAddr h) sector else s
  let s := (s.modMgmt fun m => { m with logSeq := seq }).setReg 0x50C8 (BitVec.ofNat 32 h)
  if wrapped then (s.setReg 0x50CC s.freeWord).tookFree else s.setReg 0x50CC 0

/-- VALID and the version of the slots that boot code can verify, and the slot for the next boot (R508, R553).
(DEDUCED, notes/assumptions/92.md). -/
def State.loadSlots (s : State) : State :=
  let s := s.each s.bootOrder fun t k => t.setSlot k (s.slotBoots k)
  s.setRb 0x50D8 29 (s.headerChoice == 1)

/-- The BOOT record (R547, R553, R579). -/
def State.bootRecord (s : State) (slot : Option Nat) (nominal : Bool) : State :=
  let code := s.rf 0x002C 31 30 * 16384 + b2n (!nominal) * 4 + b2n slot.isNone * 2 + slot.getD 0
  (s.putRec 0x01 false code s.imageVer (BitVec.ofNat 32 (s.rf 0x50B4 15 0))).tookFree

/-- What boot code does by BOOT_DONE, `ms` after the rise of RST_N (R578, R580): slots, table, INIT, NOMINAL_PPT, log,
BOOT record, FW_UP with its event. -/
def State.bootLoad (s : State) (ms : Nat) : State :=
  let slot := s.bootOrder.find? s.slotBoots
  let s := s.loadSlots
  let s := s.setReg 0x50B4 (BitVec.ofNat 32 (slot.getD 0 * 2 ^ 31 + b2n slot.isNone * 2 ^ 30 + min 65535 ms))
  let s := s.loadProt slot
  let s := match slot with
    | some k => s.applyInit k
    | none => s.setRb 0x0010 31 true
  let n := s.loadNominal
  let s := (n.1.loadLog.bootRecord slot n.2).fwStarts
  let s := if s.faults.safe then s else s.setRf 0x0008 31 29 (if slot.isNone then 2 else 1)
  s.mgmtEvent 0x21 0xFF

/-- The device works from here, and the 8 s of the performance fold start. -/
def State.bootEnd (s : State) : State :=
  { s with phase := .run, mgmt := { s.mgmt with foldAt := s.after 8000000 } }

/-- BOOT_DONE, and the commands that waited for it (R540) (DEDUCED, notes/assumptions/118.md). -/
def State.boot (s : State) (ms : Nat) : State :=
  if s.phase == .boot && s.osc then
    let s := (s.bootLoad ms).bootEnd
    s.runHeld s.cmd.pend.length
  else s

/-! ### The master oscillator (R31, R417) -/

/-- MASTER_OSCILLATOR_RETURN: device time is lost; the fault is raised where the time unit was running.
(DEDUCED, notes/assumptions/121.md). -/
def State.oscBack (s : State) : State :=
  if s.osc then s
  else
    let s := { s with osc := true }
    if s.phase == .held then s
    else
      let ran := s.phase == .run || s.phase == .boot
      let s := if s.timeValid then (s.setRb 0x3028 27 true).timeEvent 0x28 else s
      let s := s.loseTime.trigCancel
      if ran then s.fault 25 else s

/-! ### DEEP (R39 to R41, R46, R193, R371, R417, R505, R526) -/

/-- DEEP_ALLOW and the conditions of R39. -/
def State.deepOk (s : State) : Bool :=
  s.phase == .run && s.osc && s.rb 0x000C 31 && !s.faults.safe
    && (List.range 12).all (fun g => !(s.grp g).clk && (s.grp g).startAt.isNone)
    && !s.mgmt.mclk && !s.rb 0x4000 31 && s.redsOn.isEmpty && (s.enabledEntries 8).isEmpty
    && [0x2080, 0x2084, 0x2088, 0x208C, 0x20A0, 0x20A4].all (fun a => !s.rb a 31) && s.swap.st ≤ 1

/-- The 10 ms start with the conditions and end with them, as Owl finds them at an edge.
(DEDUCED, notes/assumptions/122.md). -/
def State.deepWatch (s : State) : State :=
  { s with deepAt := if s.deepOk then (if s.deepAt.isSome then s.deepAt else s.after 10000) else none }

/-- DEEP_ENTRY: armed swaps, gate lists and triggers are cancelled, and the bins span a time in DEEP (R226). -/
def State.deepEnter (s : State) : State :=
  if s.deepOk && s.due s.deepAt then
    let s := if s.swap.st = 1 then { s.disarm with swap := { s.disarm.swap with cancelled := true } } else s
    let s := s.gateCancel.trigCancel.modMgmt fun m => m.inDeep s.time.open_
    { s with phase := .deep, deepAt := none }
  else s

/-- DEEP_WAKE (DEDUCED, notes/assumptions/123.md). -/
def State.deepCause (s : State) : WakeCause → State
  | .hostCs => s.deepWake true
  | .signalDetect c => if c < 192 && s.phase == .deep then s.sdOn c else s
  | .owlTimer => if s.owlTimerOut then s.deepWake false else s
  | .leaseIn => s.deepWake false
  | .twfIn => s.deepWake false

/-- DEEP_EXIT_COMPLETE: 50 µs after the wake the fast clocks run (R40, R46). -/
def State.deepLeave (s : State) : State :=
  if s.phase == .deepExit && s.due s.wakeAt then
    let s := { s with phase := .run, wakeAt := none }
    let s := s.each (List.range 13) fun t n => if (t.cand n).active then t.refLost n else t
    let s := (s.loseTime.setRb 0x0008 27 true).modMgmt fun m => m.inDeep s.time.open_
    let s := if s.mgmt.logBuf.isEmpty then s else s.wakeBadger
    if s.swap.cancelled then
      { s with swap := { s.swap with cancelled := false } }.event 0x07 0xFC 0xFF 0x11
    else s
  else s

/-! ### Boundary scan (R601) -/

/-- The codes of the instruction register; every other is BYPASS (0xFF). -/
def jtagCodes : List Nat := [0x00, 0x01, 0x02, 0x04, 0x05, 0x08, 0x09]

/-- The instruction takes the pins from the device's logic. -/
def State.pinsTaken (s : State) : Bool := s.jtag != 0xFF && s.jtag != 0x01 && s.jtag != 0x02

/-- BOUNDARY_SCAN_INSTRUCTION: with TRST_N low the TAP stays in Test-Logic-Reset, which loads IDCODE (R592).
(DEDUCED, notes/assumptions/126.md). -/
def State.loadTap (s : State) : Option Nat → State
  | none => { s with jtag := 0x02 }
  | some code => { s with jtag := if jtagCodes.contains code then code else 0xFF }

/-! ### The commands -/

/-- R31. -/
def execMasterOscillatorStop (s : State) : Out := .next { s with osc := false }
/-- R31, R417, R513. -/
def execMasterOscillatorReturn (s : State) : Out := .next s.oscBack
/-- R526, R528, R572 to R574. -/
def execRstNAssert (s : State) : Out := .next s.assertReset
/-- R310, R392, R483, R577, R578. -/
def execRstNRelease (st : Straps) (s : State) : Out := .next (s.releaseReset st)
/-- R445, R483, R540, R549, R551 to R554, R559, R578 to R580. -/
def execBootDone (ms : Nat) (s : State) : Out := .next (s.boot ms)
/-- R526, R558, R575. -/
def execRebootReset (s : State) : Out := .next s.rebootNow
/-- R592, R601. -/
def execBoundaryScanInstruction (code : Option Nat) (s : State) : Out := .next (s.loadTap code)
/-- R13, R39, R193, R371, R417, R505, R526. -/
def execDeepEntry (s : State) : Out := .next s.deepEnter
/-- R40, R41, R46, R612. -/
def execDeepWake (w : WakeCause) (s : State) : Out := .next (whileOn s (s.deepCause w))
/-- R40, R46, R193, R392, R417. -/
def execDeepExitComplete (s : State) : Out := .next (whileOn s s.deepLeave)

end Sys2Proof.Machine
end

