-- ==== Sys2Proof/Machine/Dispatch.lean ====
section
/-!
DEFINITION. The meaning of every command: one arm per constructor of Instr.
-/
namespace Sys2Proof.Machine

def exec (i : Instr) (s : State) : Host.Outcome State Fault Refusal :=
  match i with
  | .masterOscillatorStop => Sys2Proof.Machine.execMasterOscillatorStop s
  | .masterOscillatorReturn => Sys2Proof.Machine.execMasterOscillatorReturn s
  | .rstNAssert => Sys2Proof.Machine.execRstNAssert s
  | .rstNRelease st => Sys2Proof.Machine.execRstNRelease st s
  | .terminationCalibration resistorOk failed => Sys2Proof.Machine.execTerminationCalibration resistorOk failed s
  | .bootDone ms => Sys2Proof.Machine.execBootDone ms s
  | .rebootReset => Sys2Proof.Machine.execRebootReset s
  | .boundaryScanInstruction code => Sys2Proof.Machine.execBoundaryScanInstruction code s
  | .signalDetectAssert l => Sys2Proof.Machine.execSignalDetectAssert l s
  | .signalDetectDeassert l => Sys2Proof.Machine.execSignalDetectDeassert l s
  | .sleepHoldExpiry c => Sys2Proof.Machine.execSleepHoldExpiry c s
  | .groupClockStop g => Sys2Proof.Machine.execGroupClockStop g s
  | .groupClockRunning g => Sys2Proof.Machine.execGroupClockRunning g s
  | .lanePllLock l => Sys2Proof.Machine.execLanePllLock l s
  | .initialAdaptationDone c => Sys2Proof.Machine.execInitialAdaptationDone c s
  | .badgerReady => Sys2Proof.Machine.execBadgerReady s
  | .badgerSleep => Sys2Proof.Machine.execBadgerSleep s
  | .deepEntry => Sys2Proof.Machine.execDeepEntry s
  | .deepWake w => Sys2Proof.Machine.execDeepWake w s
  | .deepExitComplete => Sys2Proof.Machine.execDeepExitComplete s
  | .receivedFrame c f => Sys2Proof.Machine.execReceivedFrame c f s
  | .transmittedFrame c f => Sys2Proof.Machine.execTransmittedFrame c f s
  | .elasticStoreSlip c f => Sys2Proof.Machine.execElasticStoreSlip c f s
  | .mapperStoreSlip c => Sys2Proof.Machine.execMapperStoreSlip c s
  | .elasticSlipClear c => Sys2Proof.Machine.execElasticSlipClear c s
  | .laneAlignerLock a => Sys2Proof.Machine.execLaneAlignerLock a s
  | .laneAlignmentLoss c => Sys2Proof.Machine.execLaneAlignmentLoss c s
  | .pcsLockAcquired a => Sys2Proof.Machine.execPcsLockAcquired a s
  | .pcsLockLost c block am => Sys2Proof.Machine.execPcsLockLost c block am s
  | .foxGrant e => Sys2Proof.Machine.execFoxGrant e s
  | .roamingEpoch => Sys2Proof.Machine.execRoamingEpoch s
  | .foxSearchMatch x => Sys2Proof.Machine.execFoxSearchMatch x s
  | .foxSearchNoMatch e => Sys2Proof.Machine.execFoxSearchNoMatch e s
  | .foxCandidateCheck e w => Sys2Proof.Machine.execFoxCandidateCheck e w s
  | .foxConfirmCheck e w => Sys2Proof.Machine.execFoxConfirmCheck e w s
  | .foxHandbackEnd e => Sys2Proof.Machine.execFoxHandbackEnd e s
  | .foxReleaseEnd e => Sys2Proof.Machine.execFoxReleaseEnd e s
  | .backoffHoldExpiry c => Sys2Proof.Machine.execBackoffHoldExpiry c s
  | .foxParityFail e => Sys2Proof.Machine.execFoxParityFail e s
  | .dlofTimerExpiry c => Sys2Proof.Machine.execDlofTimerExpiry c s
  | .dlomTimerExpiry c => Sys2Proof.Machine.execDlomTimerExpiry c s
  | .dcsfTimerExpiry c => Sys2Proof.Machine.execDcsfTimerExpiry c s
  | .degWindowEnd c exc => Sys2Proof.Machine.execDegWindowEnd c exc s
  | .pmSecondClose => Sys2Proof.Machine.execPmSecondClose s
  | .pmFold => Sys2Proof.Machine.execPmFold s
  | .defectHoldoffExpiry c d => Sys2Proof.Machine.execDefectHoldoffExpiry c d s
  | .tributaryHoldoffExpiry c => Sys2Proof.Machine.execTributaryHoldoffExpiry c s
  | .watermarkCrossing c fill => Sys2Proof.Machine.execWatermarkCrossing c fill s
  | .csfTimer c => Sys2Proof.Machine.execCsfTimer c s
  | .bmpClockReturn c => Sys2Proof.Machine.execBmpClockReturn c s
  | .dccFrameReceived slot data fcsOk => Sys2Proof.Machine.execDccFrameReceived slot data fcsOk s
  | .inbandCommandFrame slot data fcsOk => Sys2Proof.Machine.execInbandCommandFrame slot data fcsOk s
  | .frameCaptureDone c => Sys2Proof.Machine.execFrameCaptureDone c s
  | .byteTraceDone c => Sys2Proof.Machine.execByteTraceDone c s
  | .captArm q c => Sys2Proof.Machine.execCaptArm q c s
  | .traceArm q c => Sys2Proof.Machine.execTraceArm q c s
  | .protectionEvaluation p => Sys2Proof.Machine.execProtectionEvaluation p s
  | .protHoldoffExpiry p k => Sys2Proof.Machine.execProtHoldoffExpiry p k s
  | .wtrExpiry p => Sys2Proof.Machine.execWtrExpiry p s
  | .selectionBoundary p => Sys2Proof.Machine.execSelectionBoundary p s
  | .noResponseTimer p => Sys2Proof.Machine.execNoResponseTimer p s
  | .exerTimeout p => Sys2Proof.Machine.execExerTimeout p s
  | .protEventHoldoffExpiry p => Sys2Proof.Machine.execProtEventHoldoffExpiry p s
  | .delayMemoryReady ok => Sys2Proof.Machine.execDelayMemoryReady ok s
  | .delayMemorySelfRefresh => Sys2Proof.Machine.execDelayMemorySelfRefresh s
  | .hitlessMemberFrame st m f => Sys2Proof.Machine.execHitlessMemberFrame st m f s
  | .scheduleSet st => Sys2Proof.Machine.execScheduleSet st s
  | .scheduleDiscard st => Sys2Proof.Machine.execScheduleDiscard st s
  | .realign q st => Sys2Proof.Machine.execRealign q st s
  | .hitlessPlayout st => Sys2Proof.Machine.execHitlessPlayout st s
  | .dupLossTimerExpiry c st m => Sys2Proof.Machine.execDupLossTimerExpiry c st m s
  | .voteMemberBlock st m b => Sys2Proof.Machine.execVoteMemberBlock st m b s
  | .voteEmit st => Sys2Proof.Machine.execVoteEmit st s
  | .voteDisClearTimer c => Sys2Proof.Machine.execVoteDisClearTimer c s
  | .voteTxSlot st data => Sys2Proof.Machine.execVoteTxSlot st data s
  | .frerRxFrame st m f => Sys2Proof.Machine.execFrerRxFrame st m f s
  | .frerTxFrame st f => Sys2Proof.Machine.execFrerTxFrame st f s
  | .frerResetTimer e => Sys2Proof.Machine.execFrerResetTimer e s
  | .twinHelloRx h => Sys2Proof.Machine.execTwinHelloRx h s
  | .twinLaneLoss lane deskew => Sys2Proof.Machine.execTwinLaneLoss lane deskew s
  | .retransmitTimeout => Sys2Proof.Machine.execRetransmitTimeout s
  | .linkAckRx seq => Sys2Proof.Machine.execLinkAckRx seq s
  | .linkAckTimer => Sys2Proof.Machine.execLinkAckTimer s
  | .helloTimer => Sys2Proof.Machine.execHelloTimer s
  | .renewRx epoch k => Sys2Proof.Machine.execRenewRx epoch k s
  | .ackRx epoch k => Sys2Proof.Machine.execAckRx epoch k s
  | .claimRx epoch reason => Sys2Proof.Machine.execClaimRx epoch reason s
  | .yieldRx epoch k => Sys2Proof.Machine.execYieldRx epoch k s
  | .mirrorRx seq d => Sys2Proof.Machine.execMirrorRx seq d s
  | .bulkRx seq n d => Sys2Proof.Machine.execBulkRx seq n d s
  | .bulkResyncDone => Sys2Proof.Machine.execBulkResyncDone s
  | .seqSyncRx es => Sys2Proof.Machine.execSeqSyncRx es s
  | .seqSyncTimer => Sys2Proof.Machine.execSeqSyncTimer s
  | .frerSeqRx st vid seq fcs => Sys2Proof.Machine.execFrerSeqRx st vid seq fcs s
  | .frerSeqWaitTimeout st vid fcs => Sys2Proof.Machine.execFrerSeqWaitTimeout st vid fcs s
  | .refInfoRx ppt selected sec ns => Sys2Proof.Machine.execRefInfoRx ppt selected sec ns s
  | .refInfoTimer => Sys2Proof.Machine.execRefInfoTimer s
  | .fwdCmdRx seq data => Sys2Proof.Machine.execFwdCmdRx seq data s
  | .fwdReplyRx seq data => Sys2Proof.Machine.execFwdReplyRx seq data s
  | .leaseBeat => Sys2Proof.Machine.execLeaseBeat s
  | .leaseInChange p n => Sys2Proof.Machine.execLeaseInChange p n s
  | .leaseInStill => Sys2Proof.Machine.execLeaseInStill s
  | .twfInChange p n => Sys2Proof.Machine.execTwfInChange p n s
  | .leaseEnd => Sys2Proof.Machine.execLeaseEnd s
  | .leaseClaimPoint => Sys2Proof.Machine.execLeaseClaimPoint s
  | .yieldClaimTimeout => Sys2Proof.Machine.execYieldClaimTimeout s
  | .leaseCmdYield q => Sys2Proof.Machine.execLeaseCmdYield q s
  | .leaseCmdForceSole q => Sys2Proof.Machine.execLeaseCmdForceSole q s
  | .twinRoleCfgWrite q w => Sys2Proof.Machine.execTwinRoleCfgWrite q w s
  | .twinCtrlWrite q w => Sys2Proof.Machine.execTwinCtrlWrite q w s
  | .twinEventHoldoffExpiry code => Sys2Proof.Machine.execTwinEventHoldoffExpiry code s
  | .ethIngressFrame c f => Sys2Proof.Machine.execEthIngressFrame c f s
  | .gfpEgressFrame c f => Sys2Proof.Machine.execGfpEgressFrame c f s
  | .schedulerDecision c => Sys2Proof.Machine.execSchedulerDecision c s
  | .egressFrameEnd c => Sys2Proof.Machine.execEgressFrameEnd c s
  | .tafLate c qn => Sys2Proof.Machine.execTafLate c qn s
  | .gateEntryChange c => Sys2Proof.Machine.execGateEntryChange c s
  | .gateListActivation c => Sys2Proof.Machine.execGateListActivation c s
  | .queueSample => Sys2Proof.Machine.execQueueSample s
  | .pktEnSet q c => Sys2Proof.Machine.execPktEnSet q c s
  | .pktEnClear q c => Sys2Proof.Machine.execPktEnClear q c s
  | .refActivityLoss n => Sys2Proof.Machine.execRefActivityLoss n s
  | .refFreqMeasure offsets => Sys2Proof.Machine.execRefFreqMeasure offsets s
  | .refSwitchEnd => Sys2Proof.Machine.execRefSwitchEnd s
  | .refLockReached => Sys2Proof.Machine.execRefLockReached s
  | .refWtrExpiry => Sys2Proof.Machine.execRefWtrExpiry s
  | .softTimeout => Sys2Proof.Machine.execSoftTimeout s
  | .refEventHoldoffExpiry n => Sys2Proof.Machine.execRefEventHoldoffExpiry n s
  | .nominalPptWrite q w => Sys2Proof.Machine.execNominalPptWrite q w s
  | .stepRearmWrite q w => Sys2Proof.Machine.execStepRearmWrite q w s
  | .stepArmExpiry => Sys2Proof.Machine.execStepArmExpiry s
  | .slewDone => Sys2Proof.Machine.execSlewDone s
  | .timeLatch q => Sys2Proof.Machine.execTimeLatch q s
  | .ppsInEdge n rising => Sys2Proof.Machine.execPpsInEdge n rising s
  | .trigArm q n => Sys2Proof.Machine.execTrigArm q n s
  | .triggerFire n => Sys2Proof.Machine.execTriggerFire n s
  | .hostWrite data => Sys2Proof.Machine.execHostWrite data s
  | .readReply bytes => Sys2Proof.Machine.execReadReply bytes s
  | .readStatus => Sys2Proof.Machine.execReadStatus s
  | .nop q ws => Sys2Proof.Machine.execNop q ws s
  | .echo q ws => Sys2Proof.Machine.execEcho q ws s
  | .identify q ws => Sys2Proof.Machine.execIdentify q ws s
  | .regRd q ws => Sys2Proof.Machine.execRegRd q ws s
  | .regWr q ws => Sys2Proof.Machine.execRegWr q ws s
  | .keyPendingExpiry addr => Sys2Proof.Machine.execKeyPendingExpiry addr s
  | .regRdBlk q ws => Sys2Proof.Machine.execRegRdBlk q ws s
  | .regWrBlk q ws => Sys2Proof.Machine.execRegWrBlk q ws s
  | .regWrKey q ws => Sys2Proof.Machine.execRegWrKey q ws s
  | .resetOnRead f => Sys2Proof.Machine.execResetOnRead f s
  | .tblRd q ws => Sys2Proof.Machine.execTblRd q ws s
  | .tblWr q ws => Sys2Proof.Machine.execTblWr q ws s
  | .tblSwap q ws => Sys2Proof.Machine.execTblSwap q ws s
  | .tblSwapCancel q ws => Sys2Proof.Machine.execTblSwapCancel q ws s
  | .tblSwapValidated => Sys2Proof.Machine.execTblSwapValidated s
  | .swapTimeReached => Sys2Proof.Machine.execSwapTimeReached s
  | .swapDestinationSwitch conn => Sys2Proof.Machine.execSwapDestinationSwitch conn s
  | .swapSwitchingEnd => Sys2Proof.Machine.execSwapSwitchingEnd s
  | .bankCopyDone => Sys2Proof.Machine.execBankCopyDone s
  | .xcConnect q ws => Sys2Proof.Machine.execXcConnect q ws s
  | .xcDisconnect q ws => Sys2Proof.Machine.execXcDisconnect q ws s
  | .snapshot q ws => Sys2Proof.Machine.execSnapshot q ws s
  | .cntClear q ws => Sys2Proof.Machine.execCntClear q ws s
  | .chProvision q ws => Sys2Proof.Machine.execChProvision q ws s
  | .chProvisionCompletion c => Sys2Proof.Machine.execChProvisionCompletion c s
  | .chRelease q ws => Sys2Proof.Machine.execChRelease q ws s
  | .chCtrlWrite q c w => Sys2Proof.Machine.execChCtrlWrite q c w s
  | .policerSet q ws => Sys2Proof.Machine.execPolicerSet q ws s
  | .shaperSet q ws => Sys2Proof.Machine.execShaperSet q ws s
  | .gateArm q ws => Sys2Proof.Machine.execGateArm q ws s
  | .gateArmCancel q ws => Sys2Proof.Machine.execGateArmCancel q ws s
  | .apsCmdClear q ws => Sys2Proof.Machine.execApsCmdClear q ws s
  | .apsCmdMsP q ws => Sys2Proof.Machine.execApsCmdMsP q ws s
  | .apsCmdMsW q ws => Sys2Proof.Machine.execApsCmdMsW q ws s
  | .apsCmdExer q ws => Sys2Proof.Machine.execApsCmdExer q ws s
  | .protOvrClear q p => Sys2Proof.Machine.execProtOvrClear q p s
  | .protOvrLockout q p => Sys2Proof.Machine.execProtOvrLockout q p s
  | .protOvrForcedSwitch q p => Sys2Proof.Machine.execProtOvrForcedSwitch q p s
  | .refSelect q ws => Sys2Proof.Machine.execRefSelect q ws s
  | .dcoSet q ws => Sys2Proof.Machine.execDcoSet q ws s
  | .timeStepAbsolute q ws => Sys2Proof.Machine.execTimeStepAbsolute q ws s
  | .timeStepRelative q ws => Sys2Proof.Machine.execTimeStepRelative q ws s
  | .timeAdjRate q ws => Sys2Proof.Machine.execTimeAdjRate q ws s
  | .timeOffsetAdj q ws => Sys2Proof.Machine.execTimeOffsetAdj q ws s
  | .evtPop q ws => Sys2Proof.Machine.execEvtPop q ws s
  | .tsPop q ws => Sys2Proof.Machine.execTsPop q ws s
  | .eyeScanStart q ws => Sys2Proof.Machine.execEyeScanStart q ws s
  | .eyeScanStop q ws => Sys2Proof.Machine.execEyeScanStop q ws s
  | .eyeScanRead q ws => Sys2Proof.Machine.execEyeScanRead q ws s
  | .eyeScanDone c errs => Sys2Proof.Machine.execEyeScanDone c errs s
  | .prbsStart q ws => Sys2Proof.Machine.execPrbsStart q ws s
  | .prbsStop q ws => Sys2Proof.Machine.execPrbsStop q ws s
  | .prbsRead q ws => Sys2Proof.Machine.execPrbsRead q ws s
  | .prbsReadClear q ws => Sys2Proof.Machine.execPrbsReadClear q ws s
  | .prbsLock l => Sys2Proof.Machine.execPrbsLock l s
  | .prbsLossOfLock c before window => Sys2Proof.Machine.execPrbsLossOfLock c before window s
  | .loopbackOff q ws => Sys2Proof.Machine.execLoopbackOff q ws s
  | .loopbackNear q ws => Sys2Proof.Machine.execLoopbackNear q ws s
  | .loopbackFar q ws => Sys2Proof.Machine.execLoopbackFar q ws s
  | .faultInjectWithdraw q ws => Sys2Proof.Machine.execFaultInjectWithdraw q ws s
  | .faultInjectAssert q ws => Sys2Proof.Machine.execFaultInjectAssert q ws s
  | .faultInjectPulse q ws => Sys2Proof.Machine.execFaultInjectPulse q ws s
  | .faultPulseEnd => Sys2Proof.Machine.execFaultPulseEnd s
  | .faultInjAssert q src => Sys2Proof.Machine.execFaultInjAssert q src s
  | .faultInjWithdraw q => Sys2Proof.Machine.execFaultInjWithdraw q s
  | .sensorRd q ws => Sys2Proof.Machine.execSensorRd q ws s
  | .logRd q ws => Sys2Proof.Machine.execLogRd q ws s
  | .fwWriteBegin q ws => Sys2Proof.Machine.execFwWriteBegin q ws s
  | .fwWriteData q ws => Sys2Proof.Machine.execFwWriteData q ws s
  | .fwWriteEnd q ws => Sys2Proof.Machine.execFwWriteEnd q ws s
  | .fwWriteAbort q ws => Sys2Proof.Machine.execFwWriteAbort q ws s
  | .fwWriteCompletion ok => Sys2Proof.Machine.execFwWriteCompletion ok s
  | .fwActivateChoose q ws => Sys2Proof.Machine.execFwActivateChoose q ws s
  | .fwActivateCommit q ws => Sys2Proof.Machine.execFwActivateCommit q ws s
  | .fwActWrite q w => Sys2Proof.Machine.execFwActWrite q w s
  | .bootHeaderWritten ok => Sys2Proof.Machine.execBootHeaderWritten ok s
  | .reboot q ws => Sys2Proof.Machine.execReboot q ws s
  | .pmRd q ws => Sys2Proof.Machine.execPmRd q ws s
  | .dccWr q ws => Sys2Proof.Machine.execDccWr q ws s
  | .dccRd q ws => Sys2Proof.Machine.execDccRd q ws s
  | .cfgStoreSaveNominal q ws => Sys2Proof.Machine.execCfgStoreSaveNominal q ws s
  | .cfgStoreErase q ws => Sys2Proof.Machine.execCfgStoreErase q ws s
  | .cfgStoreProgram q ws => Sys2Proof.Machine.execCfgStoreProgram q ws s
  | .cfgStoreRead q ws => Sys2Proof.Machine.execCfgStoreRead q ws s
  | .cfgStoreCompletion ok => Sys2Proof.Machine.execCfgStoreCompletion ok s
  | .twinStatus q ws => Sys2Proof.Machine.execTwinStatus q ws s
  | .twinForward q ws => Sys2Proof.Machine.execTwinForward q ws s
  | .leaseYield q ws => Sys2Proof.Machine.execLeaseYield q ws s
  | .devLockWrite q w => Sys2Proof.Machine.execDevLockWrite q w s
  | .faultAck q w => Sys2Proof.Machine.execFaultAck q w s
  | .registerScrub addr found => Sys2Proof.Machine.execRegisterScrub addr found s
  | .busPathError master target write addr => Sys2Proof.Machine.execBusPathError master target write addr s
  | .faultRaise src kind g c a => Sys2Proof.Machine.execFaultRaise src kind g c a s
  | .faultAckTimerExpiry sev => Sys2Proof.Machine.execFaultAckTimerExpiry sev s
  | .faultEventWindowExpiry src => Sys2Proof.Machine.execFaultEventWindowExpiry src s
  | .watchdogExpiry interrupted => Sys2Proof.Machine.execWatchdogExpiry interrupted s
  | .badgerRestartDone reload binsOk => Sys2Proof.Machine.execBadgerRestartDone reload binsOk s
  | .sensorConversion temps mv => Sys2Proof.Machine.execSensorConversion temps mv s
  | .mgmtEventHoldoffExpiry code ch => Sys2Proof.Machine.execMgmtEventHoldoffExpiry code ch s
  | .logFlush => Sys2Proof.Machine.execLogFlush s
  | .commandEventHoldoffExpiry code => Sys2Proof.Machine.execCommandEventHoldoffExpiry code s
  | .protectionTimerMirror => Sys2Proof.Machine.execProtectionTimerMirror s
  | .ppsOutEdge n => Sys2Proof.Machine.execPpsOutEdge n s
  | .logRdCompletion => Sys2Proof.Machine.execLogRdCompletion s
  | .gfpDelineationChange c core => Sys2Proof.Machine.execGfpDelineationChange c core s
  | .delayMemoryScrub corrected uncorrectable => Sys2Proof.Machine.execDelayMemoryScrub corrected uncorrectable s
  | .hiBerChange c on => Sys2Proof.Machine.execHiBerChange c on s
  | .linkFaultStateChange c st => Sys2Proof.Machine.execLinkFaultStateChange c st s

end Sys2Proof.Machine
end

