-- ==== Sys2Proof/Machine/Tick.lean ====
section
/-!
DEFINITION. One OWL edge (R25, R30): what happens with time alone. Device time advances by the TCLK edges of the cycle
(R413), commands that were accepted and have no event of their own execute (R440), and the status words and their copies
take their present values (R11, R476).
-/
namespace Sys2Proof.Machine

/-! ### Commands at an edge -/

/-- A provisioning or a swap validation that has run for its deadline of 1 ms replies PENDING (R190, R447, R459). -/
def State.latePending (s : State) (p : PendCmd) : State :=
  let late := !p.pending && (match p.dueAt with | some t => decide (t ≤ s.owl + 1000) | none => false)
  match p.job with
  | .provision _ _ _ | .swap => if late then (s.status p.req p.opcode stPending).setPend { p with pending := true } else s
  | _ => s

/-- The commands of one edge. -/
def State.cmdTick (s : State) : State :=
  let s := s.startAll s.cmd.inbox
  let s := s.cmd.pend.foldl State.latePending s
  s.runHeld s.cmd.pend.length

/-! ### Status that follows from elsewhere -/

/-- The status of connection n, which selects source w (R187). -/
def State.tribWord (s : State) (k : Conn) (w : Word) : Word :=
  let t := s.trib w
  let r : Trib := if epKind k.dest = 4 then s.trib k.dest else {}
  BitVec.ofNat 32 (b2n (s.srcSsf w) * 2 ^ 31 + b2n (s.epAis w) * 2 ^ 30 + b2n (t.ptr == 2) * 2 ^ 29 + b2n (s.epLom w) * 2 ^ 28
    + b2n t.msi * 2 ^ 27 + b2n t.jcFail * 2 ^ 26 + b2n t.uneq * 2 ^ 25 + b2n r.e1Ais * 2 ^ 24 + b2n r.e1Oof * 2 ^ 23
    + b2n (k.alt != 0 && w == k.alt && w != k.src) * 2 ^ 22)

/-- The hold-off of the tributary events of a destination: its channel's, or the reset value where it has none (R234).
-/
def State.tribHold (s : State) (d : Word) : Option (Nat × Nat) :=
  if epOnCh d then (if s.crb (epCh d) 17 31 then some (epCh d, s.evtHold (epCh d)) else none) else some (255, 10000)

/-- Word 0 of the status of a live connection, with the hold-off of its changes (DEDUCED, notes/assumptions/16.md). -/
def State.tribShow (s : State) (e : Nat × Nat × Conn) : State :=
  let n := e.2.1
  let k := e.2.2
  let w := s.tribWord k (s.selectedSrc k)
  let s := s.setTbl 3 n 0 w
  match s.tribHold k.dest with
  | some (c, us) =>
    let further := s.holdRuns (holdTrib c) && ((s.hold (holdTrib c)).item n).value != w.toNat / 2 ^ 23
    let s := s.change (holdTrib c) n (w.toNat / 2 ^ 23) us
    if further && c < 192 then s.count (chReg c 17) 15 0 1 else s
  | none => s

/-- dSSF of an Ethernet client: the container that it demaps is in server signal fail (R205 bit 10).
(DEDUCED, notes/assumptions/125.md). -/
def State.clientSsf (s : State) (c : Nat) : State :=
  if isEth (s.client c) && s.enabled c && !s.isMember c then
    s.setDef c dSSF (match s.connTo (s.portEp c) with
      | some (_, _, k) => s.srcFail (s.selectedSrc k)
      | none => false)
  else s

/-- What the blocks in FCLK and TCLK do in one OWL cycle. -/
def State.blockTick (s : State) : State :=
  let s := (s.refTick.each [0, 1, 2, 3] State.clkSync).ppsTick.bmpTick
  let s := s.each ((s.chans.filter fun e => !e.2.pkt.fifo.isEmpty).map Prod.fst) State.mapTick
  let s := s.live.foldl State.tribShow s
  let s := s.each (s.chans.map Prod.fst) State.clientSsf
  let s := s.each s.pgsOn State.pgRefresh
  let s := s.each (s.chans.map Prod.fst) State.redDefs
  ((s.each s.redsOn State.redRefresh).skewFollow).each (List.range 12) State.checkStop

/-! ### Derived status words -/

/-- A bitmap over a list of positions. -/
def bitmap (n : Nat) (p : Nat → Bool) : Nat := (List.range n).foldl (fun m i => if p i then m + 2 ^ i else m) 0

/-- How many of a list satisfy p. -/
def countOf (l : List Nat) (p : Nat → Bool) : Nat := (l.filter p).length

/-- The number of an engine's state (R501). -/
def FoxState.code : FoxState → Nat
  | .idle => 0 | .search => 1 | .candidate => 2 | .confirm => 3 | .handback => 4 | .release => 5 | .outOfService => 6

/-- The word of a fox engine (R501). -/
def State.foxWord (s : State) (e : Nat) : Word :=
  let f := s.fox e
  let us := if f.st == .idle || f.st == .outOfService then 0 else min 0xFFFF (s.owl - f.since)
  BitVec.ofNat 32 (f.st.code * 2 ^ 28 + f.ch.getD 255 % 256 * 2 ^ 16 + us)

/-- WAIT_US of a channel that waits (R84). -/
def State.waitShow (s : State) (c : Nat) : State := s.setCrf c 4 15 0 (s.waitUs c)

/-- A bond member's CH_STATUS reads its owner's (R69, R84). -/
def State.memberShow (s : State) (e : Nat × Chan) : State :=
  match e.2.bondOwner with
  | some o => s.setReg (chReg e.1 4) (s.cr o 4)
  | none => s

/-- The status words of a group block (R501). -/
def State.grpShow (s : State) (g : Nat) : State :=
  let st (c : Nat) := s.chState c
  let w0 := countOf (grpChs g) s.provisioned * 65536 + countOf (grpChs g) (fun c => st c == stFaulted) * 256
    + countOf (grpChs g) fun c => st c != stAsleep
  let roam := countOf [24, 25, 26, 27] fun e => (match (s.fox e).ch with | some c => c / 16 == g | none => false)
  let w4 := roam * 65536 + bitmap 16 fun k => st (16 * g + k) == stWaitFox
  let w5 := bitmap 16 (fun k => st (16 * g + k) != stAsleep) * 65536 + bitmap 16 fun k => st (16 * g + k) == stInFrame
  let w7 := (grpChs g).foldl (fun n c => n + (s.pkt c).held) 0
  ((((((s.setReg (grpReg g 0) (BitVec.ofNat 32 w0)).setReg (grpReg g 1) (s.foxWord (2 * g))).setReg (grpReg g 2)
    (s.foxWord (2 * g + 1))).setReg (grpReg g 4) (BitVec.ofNat 32 w4)).setReg (grpReg g 5) (BitVec.ofNat 32 w5)).setReg
    (grpReg g 7) (BitVec.ofNat 32 w7))

/-- One of the six words of a bitmap over all channels (R496). -/
def chBitmap (p : Nat → Bool) (i : Nat) : Word := BitVec.ofNat 32 (bitmap 32 fun k => p (32 * i + k))

/-- The bitmaps of page 0 (R503): provisioned channels, and what the channels' copies show. -/
def State.pageMaps (s : State) (i : Nat) : State :=
  let st (c : Nat) := fld (s.copy (chReg c 4)) 31 29
  ((((s.setReg (0x0040 + 4 * i) (chBitmap s.provisioned i)).setReg (0x0058 + 4 * i)
    (chBitmap (fun c => st c != stAsleep) i)).setReg (0x0070 + 4 * i) (chBitmap (fun c => st c == stFaulted) i)).setReg
    (0x0088 + 4 * i) (chBitmap (fun c => s.copy (chReg c 5) &&& 0x007FFFFF &&& ~~~(s.cr c 7) != 0) i)).setReg
    (0x00A0 + 4 * i) (chBitmap (fun c => s.cr c 6 != 0) i)

/-- The enabled command sources by stream slot (R509). -/
def State.cmdSources (s : State) : List Nat :=
  (List.range 64).filter fun n => s.streamOn n && bit (s.streamWord n) 30

/-- INB_STATi (R509). -/
def State.inbWord (s : State) (i : Nat) : Word :=
  match s.cmdSources[i]? with
  | some n =>
    let x := s.session n
    BitVec.ofNat 32 (2 ^ 31 + n * 2 ^ 24 + b2n (!x.fresh) * 2 ^ 23 + min 7 (s.outstanding (.inband n)) * 2 ^ 16
      + if x.fresh then 0 else x.last % 65536)
  | none => 0

/-- CLK_STAT (R504). -/
def State.clkWord (s : State) : Word :=
  BitVec.ofNat 32 (b2n (s.rb 0x4000 31) * 2 ^ 13 + b2n s.mgmt.mclk * 2 ^ 12 + bitmap 12 fun g => (s.grp g).clk)

/-- FAULT_STATUS.PEND and SRC_PEND (R506). -/
def State.faultShow (s : State) : State :=
  let f := s.faults
  let s := s.setRf 0x1000 29 27 (b2n f.t3.isSome * 4 + b2n f.t2.isSome * 2 + b2n f.t1.isSome)
  (s.setReg 0x1050 (BitVec.ofNat 32 (bitmap 32 s.srcPend))).setReg 0x1054 (BitVec.ofNat 32 (bitmap 32 fun i => s.srcPend (32 + i)))

/-- The totals of R510; no stream has the number 2,048. -/
def State.redShow (s : State) : State :=
  let k (role : Nat) : Word := BitVec.ofNat 32 (s.redSum 2048 (roleKbps role))
  let s := (((s.setRf 0x7080 11 0 s.memStreams).setReg 0x7084 (k 0)).setReg 0x7088 (k 1)).setReg 0x708C (k 2)
  let s := (s.setReg 0x7090 (k 3)).setReg 0x7094
    (BitVec.ofNat 32 (s.redSum 2048 (roleCount 2) * 65536 + s.redSum 2048 (roleCount 3)))
  (s.setReg 0x7098 (BitVec.ofNat 32 (s.redSum 2048 redGranules))).setReg 0x709C
    (BitVec.ofNat 32 (s.redSum 2048 fun a _ => redMbps a))

/-- The status words of the global pages that follow from other state. -/
def State.pageShow (s : State) : State :=
  let s := s.each (List.range 6) State.pageMaps
  let s := ((s.setReg 0x0018 s.xcState).setReg 0x0024 s.clkWord).setReg 0x0028 (BitVec.ofNat 32 s.uptime)
  let s := s.each [0, 1, 2, 3] fun t r => t.setReg (0x00C0 + 4 * r) (t.foxWord (24 + r))
  let s := s.faultShow
  let s := (s.setRf 0x4018 15 0 s.leaseLeft).setRf 0x402C 15 0 (min 0xFFFF s.twin.unacked.length)
  let s := (s.each (List.range 16) fun t i => t.setReg (0x6040 + 4 * i) (t.inbWord i)).setReg 0x6008 s.hostStat
  let s := s.each (List.range 12) fun t g =>
    t.setReg (0x7040 + 4 * g) (BitVec.ofNat 32 ((grpChs g).foldl (fun n c => n + (t.pkt c).cells fun _ => true) 0))
  s.redShow

/-! ### The copies (R11, R476) -/

/-- The copy of a register does not follow: its group's clock is stopped, or TWCLK is.
(DEDUCED, notes/assumptions/124.md). -/
def State.frozen (s : State) (a : Nat) : Bool :=
  match (decodeAddr a).1 with
  | .group g _ => !(s.grp g).clk
  | .chan c _ => !(s.grp (c / 16)).clk
  | .page 4 i => (i == 7 || i == 8 || i == 11) && !s.rb 0x4000 31
  | .page _ _ => false

/-- The copies of the registers that satisfy p and are not frozen take the live words. -/
def State.refresh (s : State) (p : Nat → Bool) : State :=
  let live (e : Nat × Word) : Bool := p e.1 && !s.frozen e.1
  { s with copies :=
      (s.regs.filter live).foldl (fun m e => Store.set 0 m e.1 e.2) (s.copies.filter fun e => !live e) }

/-- Status words and copies at an edge (DEDUCED, notes/assumptions/14.md). -/
def State.show (s : State) : State :=
  let s := s.each ((s.chans.filter fun e => e.2.frm.waitFrom.isSome).map Prod.fst) State.waitShow
  let s := s.chans.foldl State.memberShow s
  let s := s.each ((List.range 12).filter fun g => (s.grp g).clk) State.grpShow
  ((s.refresh (0x100000 ≤ ·)).pageShow).refresh (· < 0x100000)

/-! ### The edge -/

/-- What was sent or started in the last cycle is no longer shown (DESIGN CHOICE, notes/assumptions/36.md). -/
def State.clearOut (s : State) : State :=
  { s with
    mapped := [], started := [], ppsOut := []
    twin := { s.twin with sent := [] }, cmd := { s.cmd with sent := [] }
    reds := (s.reds.map fun e => (e.1, { e.2 with frerOut := [] })).filter fun e => e.2 != {} }

/-- One OWL edge. In reset, and without the oscillator, nothing happens; in DEEP only Owl counts. -/
def State.tick (s : State) : State :=
  if s.alive then
    let s := { s with owl := s.owl + 1 }
    if s.clocked then (s.timeTick.clearOut.cmdTick.blockTick.deepWatch).show else s
  else s

end Sys2Proof.Machine
end

