-- ==== Sys2Proof/Machine/Package.lean ====
section
/-!
DEFINITION. The device seen from the board: what a pin carries under boundary scan and the IDCODE (R601), the ball of every
pin (R589, R603 to R606), and the power of a configuration (R587).
-/
namespace Sys2Proof.Machine

/-! ### Boundary scan (R601) -/

/-- What a pin carries: the level of the device's logic, high impedance, or what the boundary-scan register drives. -/
inductive Pad where
  | logic (l : Level)
  | highZ
  | scan
  deriving DecidableEq, Repr

/-- A pin of the device's logic under the boundary-scan instruction in force. -/
def State.pad (s : State) (l : Level) : Pad :=
  if s.jtag = 0x05 then .highZ else if s.pinsTaken then .scan else .logic l

/-- IDCODE: the stepping, part number 0x1925 and manufacturer code 0x537. -/
def idcode : Word := ((Config.stepping.setWidth 32) <<< 28) ||| 0x01925A6F

/-! ### Balls (R603 to R606) -/

/-- The letters of a row's last place. -/
def rowLetters : List Char := "ABCDEFGHJKLMNPTUVWY".toList

/-- The name of row r, 1 to 72. -/
def rowName (r : Nat) : String :=
  let last := String.ofList (((rowLetters[(r - 1) % 19]?).map fun c => [c]).getD [])
  match ['A', 'B', 'C'][(r - 1) / 19 - 1]? with
  | some c => if 19 < r then String.ofList [c] ++ last else last
  | none => last

/-- The supplies, ground and the balls left unconnected. -/
inductive Supply where
  | vss | vddCore | vddOwl | vddaSd | vddhSd | vddMem | vddio | nc
  deriving DecidableEq, Repr

/-- What a ball carries. In a corner the spec gives the supply balls by number only, not by place. -/
inductive Ball where
  | lane (c : Nat) (tx neg : Bool)
  | signal (name : String)
  | supply (p : Supply)
  | cornerSupply
  deriving DecidableEq, Repr

/-- The balls of channel c at depth and position on its side: transmit or receive, _P or _N (R605). -/
def laneSpot (c : Nat) (tx neg : Bool) : Nat × Nat :=
  let k := c % 16
  ((if tx then 2 else 10) + 2 * (k / 4), 20 + 12 * (c / 16 % 3) + 3 * (k % 4) + (if neg then 1 else 0))

/-- Row and column of a depth and position on a side (R605). -/
def sideBall (q d p : Nat) : Nat × Nat :=
  if q = 0 then (d, p) else if q = 1 then (p, 73 - d) else if q = 2 then (73 - d, 73 - p) else (73 - p, d)

/-- Row and column of a lane ball. -/
def laneBall (c : Nat) (tx neg : Bool) : Nat × Nat :=
  let x := laneSpot c tx neg
  sideBall (c / 48) x.1 x.2

/-- The side, depth and position of a ball: of the four sides, the one whose edge is nearest. -/
def ballSide (r c : Nat) : Nat × Nat × Nat :=
  let d := min (min r c) (min (73 - r) (73 - c))
  if r = d then (0, d, c) else if 73 - c = d then (1, d, r) else if 73 - r = d then (2, d, 73 - c) else (3, d, 73 - r)

/-- The ball at depth 1 to 17 and position 19 to 54 of a side: a lane ball, or VSS (R605). -/
def laneAt (q d p : Nat) : Ball :=
  let x := p - 20
  if d % 2 = 0 ∧ d ≤ 16 ∧ 20 ≤ p ∧ p < 56 ∧ x % 3 < 2 then
    .lane (16 * (3 * q + x / 12) + 4 * ((d - 2) % 8 / 2) + x % 12 / 3) (d < 10) (x % 3 == 1)
  else .supply .vss

/-- The lane supply ring (R604). -/
def ringAt (d p : Nat) : Supply :=
  if d = 18 then (if p = 19 ∨ p = 20 ∨ p = 53 ∨ p = 54 then .vss else .vddhSd)
  else if d = 19 then (if p ≤ 31 then .vddhSd else if p ≤ 43 then .vss else .vddaSd)
  else .vddaSd

/-- A pin and its balls from a first one on: row, column, distance of one ball and the next. -/
def ballRun (names : List String) (r c step : Nat) : List (String × Nat × Nat) :=
  (List.range names.length).map fun i => ((names[i]?).getD "", r, c + step * i)

/-- The signal balls of the corners (R606). -/
def signalBalls : List (String × Nat × Nat) :=
  ballRun ["HOST_SCK", "HOST_CS_N", "HOST_IO0", "HOST_IO1", "HOST_IO2", "HOST_IO3", "HOST_IRQ_N"] 3 3 2
  ++ ballRun ["FLASH_SCK", "FLASH_CS_N", "FLASH_IO0", "FLASH_IO1", "FLASH_IO2", "FLASH_IO3"] 5 3 2
  ++ ballRun ["RST_N", "TWIN_ID", "BOOT_SRC0", "BOOT_SRC1", "TEST_EN"] 7 3 2
  ++ ballRun ["TCK", "TMS", "TDI", "TDO", "TRST_N"] 9 3 2
  ++ ballRun ["FAULT_P", "FAULT_N"] 11 3 1 ++ ballRun ["TWF_IN_P", "TWF_IN_N"] 11 7 1
  ++ ballRun ["LEASE_OUT_P", "LEASE_OUT_N"] 11 11 1 ++ ballRun ["LEASE_IN_P", "LEASE_IN_N"] 11 15 1
  ++ [("SD_CAL", 13, 9)]
  ++ ballRun ["TW_TXP0", "TW_TXP1", "TW_TXP2", "TW_TXP3"] 4 58 4 ++ ballRun ["TW_TXN0", "TW_TXN1", "TW_TXN2", "TW_TXN3"] 4 59 4
  ++ ballRun ["TW_RXP0", "TW_RXP1", "TW_RXP2", "TW_RXP3"] 10 58 4 ++ ballRun ["TW_RXN0", "TW_RXN1", "TW_RXN2", "TW_RXN3"] 10 59 4
  ++ ballRun ["MOSC_P", "MOSC_N"] 70 3 1
  ++ ballRun ["REFIN0_P", "REFIN1_P", "REFIN2_P", "REFIN3_P"] 68 3 4
  ++ ballRun ["REFIN0_N", "REFIN1_N", "REFIN2_N", "REFIN3_N"] 68 4 4
  ++ ballRun ["PPS_IN0", "PPS_IN1"] 66 3 2
  ++ ballRun ["CLKOUT0_P", "CLKOUT1_P", "CLKOUT2_P", "CLKOUT3_P"] 64 3 4
  ++ ballRun ["CLKOUT0_N", "CLKOUT1_N", "CLKOUT2_N", "CLKOUT3_N"] 64 4 4
  ++ ballRun ["PPS_OUT0", "PPS_OUT1"] 62 3 2

/-- The ball at row r, column c, each 1 to 72 (R604). -/
def ballAt (r c : Nat) : Ball :=
  let x := ballSide r c
  let d := x.2.1
  let p := x.2.2
  if d ≤ 17 ∧ 19 ≤ p ∧ p ≤ 54 then laneAt x.1 d p
  else if (d = 18 ∧ 19 ≤ p ∧ p ≤ 54) ∨ (19 ≤ d ∧ d ≤ 23 ∧ 24 ≤ p ∧ p ≤ 49) then .supply (ringAt d p)
  else if 19 ≤ d ∧ d ≤ 23 then .supply .nc
  else if 24 ≤ d then
    .supply (if d = 24 then .vss else if (r = 36 ∨ r = 37) ∧ 33 ≤ c ∧ c ≤ 40 then .vddOwl else .vddCore)
  else
    match signalBalls.find? fun e => e.2.1 == r && e.2.2 == c with
    | some e => .signal e.1
    | none => .cornerSupply

/-! ### Power (R587) -/

/-- What one lane adds in nW: 5.16 pJ a bit while its channel is awake, 14 mW while a provisioned one sleeps. -/
def State.lanePower (s : State) (c : Nat) : Nat :=
  if !s.provisioned c then 0
  else if s.chState c = stAsleep then 14000000
  else laneKbps (s.client (s.owner c)) * 516 / 100

/-- The estimate of the device's power in nW, to within 10 per cent. -/
def State.powerNw (s : State) : Nat :=
  let lanes := allCh.foldl (fun n c => n + s.lanePower c) 0
  if s.phase == .deep then 1900000000 + lanes
  else
    3150000000 + (if s.rb 0x4000 31 then 450000000 else 0)
      + 350000000 * ((List.range 12).filter fun g => (s.grp g).clk).length + lanes
      + 7600000000 * (s.reg 0x709C).toNat / 700000

end Sys2Proof.Machine
end

