-- ==== Sys2Proof/Safety.lean ====
section
/-!
DEFINITION. What counts as a safe run, in the terms the statements use: the invariant that every step keeps, the part
of the state that no block but the reset and the pins touches, and the states in which a command packet starts at once.
-/
namespace Sys2Proof.Machine

/-- The invariant of the machine's data: at most 1,024 events wait (R466), and every sparse store is in its canonical
form, keys rising and no entry equal to what an unlisted key reads as. -/
def State.wf (s : State) : Bool :=
  decide (s.events.length ≤ 1024) && Store.wf 0 s.regs && Store.wf 0 s.copies && Store.wf 0 s.tables
    && Store.wf {} s.chans && Store.wf {} s.groups && Store.wf {} s.policers && Store.wf {} s.foxes && Store.wf {} s.pgs
    && Store.wf {} s.reds && Store.wf {} s.frers && Store.wf 0 s.snoopRest && Store.wf {} s.sessions
    && Store.wf {} s.streams && Store.wf {} s.holds && Store.wf {} s.tribs && Store.wf 0xFF s.mgmt.flash

/-- What only the reset, the oscillator, the straps and the boundary-scan port change: the queue of waiting commands,
the oscillator, the count of OWL edges, the straps, the boundary-scan instruction, and whether RST_N is low. -/
def State.core (s : State) : List Instr × Bool × Nat × Straps × Nat × Bool :=
  (s.pending, s.osc, s.owl, s.straps, s.jtag, s.phase == .held)

/-- A command packet of opcode `op` starts at once and alone: HCLK runs, no command that passed R440 waits or runs, and
the Badger, for an opcode of its own, is up and awake (R25, R447, R449, R540). -/
def State.ready (s : State) (op : Nat) : Bool :=
  s.clocked && s.cmd.inbox.isEmpty && s.cmd.pend.isEmpty && (!isFirmware op || (s.fwUp && s.mgmt.awake))

/-- The waiting commands whose turn has come have started (R447, R449, R540). -/
def State.startHeld (s : State) : State := s.runHeld s.cmd.pend.length

/-- The accepted word of a dangerous register is stored: its parity is computed and the copies of a voted register agree
(R482, R484, R485). -/
def State.keyStored (s : State) (a : Nat) (w : Word) : State :=
  ({ s.setReg a w with badPar := s.badPar.filter (· != a) }).trpAgree a


end Sys2Proof.Machine
end

