-- ==== Sys2Proof/Certificates/Slice0/Obligations.lean ====
section
/-!
DEFINITION. The statements for the provers: for each family of commands what its rows do, that they complete, and what
they leave alone (the next state is given as a whole, so that everything an operation does not name stays); and what
holds of the whole block.
-/
open Sys2Proof Sys2Proof.Machine

/-! ### Reset, boot and power (19_power_reset_boot.md) -/

/-- R573, R574, R576: RST_N_ASSERT brings every register, table word, FIFO, queue, verifier, engine and timer to its
reset value, and RST_N is low; the commands still to come, the oscillator, the boundary-scan instruction and the fuses
stay, and so does the flash unless a write of a two-copy record was under way. Choices of the model that it rests on:
notes/assumptions/2, 3, 117 (log entries). -/
def Obligations.ResetAssert : Prop :=
  (∀ s : State, exec .rstNAssert s = .next s.assertReset)
    ∧ (∀ s : State, ∃ t, exec .rstNAssert s = .next t ∧ t.phase = .held ∧ (∀ a, t.reg a = resetWord a)
      ∧ (∀ n b e w, t.tblB n b e w = tblReset n w) ∧ (∀ c, t.ch c = {}) ∧ (∀ g, t.grp g = {}) ∧ (∀ e, t.fox e = {})
      ∧ (∀ p, t.pg p = {}) ∧ (∀ n, t.red n = {}) ∧ t.twin = {} ∧ t.refs = {} ∧ t.time = {} ∧ t.cmd = {}
      ∧ t.faults = {} ∧ t.events = [] ∧ t.pending = s.pending ∧ t.osc = s.osc ∧ t.jtag = s.jtag
      ∧ t.mgmt.otpFuses = s.mgmt.otpFuses)
    ∧ (∀ s : State, s.mgmt.headerNext = none → s.cmd.pend = [] → s.assertReset.mgmt.flash = s.mgmt.flash)

/-- R504, R577, R578: the rise of RST_N in reset samples the straps and starts the boot code: STRAPS and RESET_CAUSE
show them, TWIN_ID follows its strap, ROLLBACK the fuses, and TEST_LOCK sets with TEST_EN; no other register changes.
Choices of the model that it rests on: notes/assumptions/2, 118 (log entries). -/
def Obligations.ResetRelease : Prop :=
  ∀ (s : State) (st : Straps), s.wf = true → s.phase = .held → ∃ t, exec (.rstNRelease st) s = .next t ∧ t.phase = .boot
    ∧ t.straps = st ∧ t.reg 0x0014 = BitVec.ofNat 32 (b2n st.testEn * 8 + st.bootSrc % 4 * 2 + b2n st.twinId)
    ∧ t.reg 0x002C = 0x80000000 ∧ t.reg 0x4018 = setBit (s.reg 0x4018) 20 st.twinId
    ∧ t.reg 0x50DC = BitVec.ofNat 32 s.mgmt.otpFuses
    ∧ t.reg 0x0010 = (if st.testEn then setBit (s.reg 0x0010) 30 true else s.reg 0x0010)
    ∧ (∀ a, a ≠ 0x0014 → a ≠ 0x0004 → a ≠ 0x002C → a ≠ 0x0010 → a ≠ 0x4018 → a ≠ 0x50DC → t.reg a = s.reg a)
    ∧ t.pending = s.pending ∧ t.osc = s.osc ∧ t.owl = s.owl ∧ t.jtag = s.jtag ∧ t.tables = s.tables ∧ t.chans = s.chans
    ∧ t.events = s.events ∧ t.cmd = s.cmd ∧ t.faults = s.faults ∧ t.mgmt = s.mgmt ∧ t.time = s.time

/-- R526, R558, R575: 10 ms after the reply of REBOOT the device resets and boots with the straps it has: every register
but those that a reset start writes is at its reset word, and RESET_CAUSE reads REBOOT. Choices of the model that it
rests on: notes/assumptions/119 (log entries). -/
def Obligations.RebootReset : Prop :=
  ∀ s : State, s.alive = true → s.due s.mgmt.rebootAt = true → ∃ t, exec .rebootReset s = .next t ∧ t.phase = .boot
    ∧ t.straps = s.straps ∧ t.reg 0x002C = 0x40000000 ∧ t.reg 0x0014
      = BitVec.ofNat 32 (b2n s.straps.testEn * 8 + s.straps.bootSrc % 4 * 2 + b2n s.straps.twinId)
    ∧ (∀ a, a ≠ 0x0014 → a ≠ 0x0004 → a ≠ 0x002C → a ≠ 0x0010 → a ≠ 0x4018 → a ≠ 0x50DC → t.reg a = resetWord a)
    ∧ (∀ n b e w, t.tblB n b e w = tblReset n w) ∧ (∀ c, t.ch c = {}) ∧ t.events = [] ∧ t.cmd = {} ∧ t.faults = {}
    ∧ t.time = {} ∧ t.pending = s.pending ∧ t.osc = s.osc ∧ t.jtag = s.jtag ∧ t.mgmt.otpFuses = s.mgmt.otpFuses

/-- R31, R417, R513: the master oscillator stops and everything stands still; it returns in reset with no other effect;
it returns to a working device with CLOCK_LOST set and its event raised where device time was valid, device time
invalid, the triggers cancelled, and fault 25 raised; to a device in DEEP it returns with the same but the fault.
Choices of the model that it rests on: notes/assumptions/116, 121 (log entries). -/
def Obligations.Oscillator : Prop :=
  (∀ s : State, exec .masterOscillatorStop s = .next { s with osc := false })
    ∧ (∀ s : State, s.osc = false → s.phase = .held → exec .masterOscillatorReturn s = .next { s with osc := true })
    ∧ (∀ s : State, s.osc = false → s.phase = .run → exec .masterOscillatorReturn s
        = .next ((if s.timeValid then ({ s with osc := true }.setRb 0x3028 27 true).timeEvent 0x28
                  else { s with osc := true }).loseTime.trigCancel.fault 25))
    ∧ (∀ s : State, s.osc = false → s.phase = .deep → exec .masterOscillatorReturn s
        = .next (if s.timeValid then ({ s with osc := true }.setRb 0x3028 27 true).timeEvent 0x28
                  else { s with osc := true }).loseTime.trigCancel)

/-- R592, R601: a code of the instruction register loads it; every other selects BYPASS; while TRST_N is low the port is
in Test-Logic-Reset, where IDCODE is in force. Nothing else changes. HIGHZ makes every pad high impedance; BYPASS,
SAMPLE and IDCODE leave it its functional level. Choices of the model that it rests on: notes/assumptions/126 (log
entries). -/
def Obligations.BoundaryScan : Prop :=
  (∀ (s : State) (code : Nat), jtagCodes.contains code = true →
      exec (.boundaryScanInstruction (some code)) s = .next { s with jtag := code })
    ∧ (∀ (s : State) (code : Nat), jtagCodes.contains code = false →
      exec (.boundaryScanInstruction (some code)) s = .next { s with jtag := 0xFF })
    ∧ (∀ s : State, exec (.boundaryScanInstruction none) s = .next { s with jtag := 0x02 })
    ∧ (∀ (s : State) (l : Level), s.jtag = 0x05 → s.pad l = .highZ)
    ∧ (∀ (s : State) (l : Level), s.jtag = 0xFF ∨ s.jtag = 0x01 ∨ s.jtag = 0x02 → s.pad l = .logic l)

/-- R39, R40, R46, R193, R226, R371, R417, R505: after 10 ms in which its conditions hold the device enters DEEP: gate
lists and triggers are cancelled and the performance bins become suspect. Owl's causes end it; the fast clocks run 50 µs
later, the host port 10 µs after them where HOST_CS_N was the cause; then TIME_VALID reads 0, SLEPT is set and every bin
that spans the stay is suspect. Choices of the model that it rests on: notes/assumptions/122, 123, 137 (log entries). -/
def Obligations.Deep : Prop :=
  (∀ s : State, s.deepOk = true → s.due s.deepAt = true → s.swap.st ≠ 1 → exec .deepEntry s
      = .next { (s.gateCancel.trigCancel.modMgmt fun m => m.inDeep s.time.open_) with phase := .deep, deepAt := none })
    ∧ (∀ s : State, s.alive = true → s.phase = .deep → exec (.deepWake .hostCs) s
      = .next { s with phase := .deepExit, wakeAt := some (s.owl + 50), cmd := { s.cmd with deaf := some (s.owl + 60) } })
    ∧ (∀ s : State, s.alive = true → s.phase = .deep → exec (.deepWake .leaseIn) s
      = .next { s with phase := .deepExit, wakeAt := some (s.owl + 50) })
    ∧ (∀ s : State, s.alive = true → s.phase = .deep → exec (.deepWake .twfIn) s
      = .next { s with phase := .deepExit, wakeAt := some (s.owl + 50) })
    ∧ (∀ s : State, s.alive = true → s.phase = .deep → s.owlTimerOut = true → exec (.deepWake .owlTimer) s
      = .next { s with phase := .deepExit, wakeAt := some (s.owl + 50) })
    ∧ (∀ (s : State) (c : Nat), s.alive = true → s.phase = .deep → c < 192 → exec (.deepWake (.signalDetect c)) s
      = .next (s.sdOn c))
    ∧ (∀ s : State, s.alive = true → s.phase = .deepExit → s.due s.wakeAt = true → s.refs.cands = [] →
        s.swap.cancelled = false → s.mgmt.logBuf = [] → ∃ u : State,
        u = { s with phase := .run, wakeAt := none }.loseTime.setRb 0x0008 27 true
          ∧ exec .deepExitComplete s = .next (u.modMgmt fun m => m.inDeep s.time.open_))

/-- R81, R598: termination calibration at boot: every lane that fails (all of them without the resistor) is marked, so
that it does not enable until reset, and fault 13 is raised for it. Choices of the model that it rests on:
notes/assumptions/15 (log entries). -/
def Obligations.TerminationCalibration : Prop :=
  (∀ (s : State) (ok : Bool) (failed : List Nat), s.phase = .boot → s.osc = true →
      exec (.terminationCalibration ok failed) s
      = .next ((allCh.filter fun c => !ok || failed.contains c).foldl (fun t c =>
          (t.modLane c fun l => { l with calFail := true }).report { src := 13, group := some (c / 16), chan := some c }) s))

/-- R508, R540, R549, R553, R559, R578, R580: BOOT_DONE after the boot code: the device works (R504), the Badger is
awake and its watchdog runs, the 8 s of the performance fold start, and the commands that waited for FW_UP follow in
their order. Choices of the model that it rests on: notes/assumptions/92, 93, 94, 118 (log entries). -/
def Obligations.BootDone : Prop :=
  ∀ (s : State) (ms : Nat), s.phase = .boot → s.osc = true → ∃ u : State, u = (s.bootLoad ms).bootEnd
    ∧ exec (.bootDone ms) s = .next (u.runHeld u.cmd.pend.length) ∧ u.phase = .run ∧ u.osc = true ∧ u.mgmt.awake = true
    ∧ u.mgmt.wdtAt = some (s.owl + 50000) ∧ u.mgmt.foldAt = some (s.owl + 8000000)
    ∧ u.pending = s.pending ∧ u.straps = s.straps ∧ u.owl = s.owl ∧ u.jtag = s.jtag

/-! ### Lanes, sleep and group clocks (02_serial_lanes.md) -/

/-- R37, R42, R44: a group's clock stops 10 µs after every channel of it has gone quiet, and SLEEP_STOPS of the group
counts it; it runs again 20 µs after a wake request, the wake is counted, the channels that waited for it read WAKING, a
gate list that runs on one of its channels takes the gates of the present position (R371), and a CH_PROVISION that waits
for the clock writes its configuration (R45). Choices of the model that it rests on: notes/assumptions/137 (log
entries). -/
def Obligations.GroupClock : Prop :=
  (∀ (s : State) (g : Nat), s.alive = true → g < 12 → (s.grp g).clk = true → s.due (s.grp g).stopAt = true →
      s.quiet g = true → exec (.groupClockStop g) s
        = .next ((s.modGrp g fun x => { x with clk := false, stopAt := none }).count (grpReg g 6) 15 0 1))
    ∧ (∀ (s : State) (g : Nat), s.alive = true → g < 12 → (s.grp g).clk = false → s.due (s.grp g).startAt = true →
      s.phase ≠ .deep → ∃ u : State, u = ((grpChs g).filter fun c => (s.pkt c).running.isSome).foldl State.gateApply
            ((grpChs g).foldl State.startWaking
              ((s.modGrp g fun x => { x with clk := true, startAt := none }).count (grpReg g 6) 31 16 1))
        ∧ exec (.groupClockRunning g) s = .next (u.cmd.pend.foldl State.provisionOn u))

/-- R34, R35, R43, R60 to R62: levels above SD_THR for the SD_QUAL time assert signal detect, a crossing that does not
last changes nothing: on a provisioned but disabled lane it is only noted; on a sleeping channel it wakes the bond; on
an awake lane that had lost its light it restarts adaptation. Eight levels below 70 % deassert it: on an enabled lane
that sets dLOS through the shared operation of R205 bit 0; with dLOS set already it restarts the sleep hold-off. Choices
of the model that it rests on: notes/assumptions/8, 9 (log entries). -/
def Obligations.SignalDetect : Prop :=
  (∀ (s : State) (l : LaneLevels), s.sdAsserts l.lane l.mv = false → exec (.signalDetectAssert l) s = .next s)
    ∧ (∀ (s : State) (l : LaneLevels), s.alive = true → l.lane < 192 → s.provisioned l.lane = true → s.phase ≠ .deep →
      (s.lane l.lane).sd = false → s.sdAsserts l.lane l.mv = true → s.enabled l.lane = false →
      s.wf = true → exec (.signalDetectAssert l) s
        = .next (s.modLane l.lane fun x => { x with sd := true, sleepHold := none }))
    ∧ (∀ (s : State) (l : LaneLevels), s.alive = true → l.lane < 192 → s.provisioned l.lane = true → s.phase ≠ .deep →
      (s.lane l.lane).sd = false → s.sdAsserts l.lane l.mv = true → s.enabled l.lane = true →
      s.wf = true → (s.lane l.lane).rxAsleep = true → exec (.signalDetectAssert l) s
        = .next ((s.modLane l.lane fun x => { x with sd := true, sleepHold := none }).wakeRx l.lane 20))
    ∧ (∀ (s : State) (l : LaneLevels), s.alive = true → l.lane < 192 → s.provisioned l.lane = true → s.phase ≠ .deep →
      (s.lane l.lane).sd = false → s.sdAsserts l.lane l.mv = true → s.enabled l.lane = true →
      s.wf = true → (s.lane l.lane).rxAsleep = false → s.def_ l.lane dLOS = true →
      s.chState (s.owner l.lane) = stWaking → exec (.signalDetectAssert l) s
        = .next ((s.modLane l.lane fun x =>
            { x with sd := true, sleepHold := none, pll := false, adapted := false }).clearAdapt l.lane))
    ∧ (∀ (s : State) (l : LaneLevels), s.sdDrops l.lane l.mv = false → exec (.signalDetectDeassert l) s = .next s)
    ∧ (∀ (s : State) (l : LaneLevels), s.alive = true → l.lane < 192 → s.provisioned l.lane = true →
      s.enabled l.lane = true → s.wf = true → (s.lane l.lane).sd = true → s.sdDrops l.lane l.mv = true →
      (s.lane l.lane).rxAsleep = false → s.def_ l.lane dLOS = false → exec (.signalDetectDeassert l) s
        = .next ((s.modLane l.lane fun x => { x with sd := false }).losOn l.lane))
    ∧ (∀ (s : State) (l : LaneLevels), s.alive = true → l.lane < 192 → s.provisioned l.lane = true →
      s.enabled l.lane = true → s.wf = true → (s.lane l.lane).sd = true → s.sdDrops l.lane l.mv = true →
      (s.lane l.lane).rxAsleep = false → s.def_ l.lane dLOS = true → exec (.signalDetectDeassert l) s
        = .next ((s.modLane l.lane fun x => { x with sd := false, pll := false, adapted := false }).startHold l.lane))

/-- R32, R33, R37, R71: once the hold-off of every lane of the bond has run out in the dark, the receive sides of the
bond sleep (the transmit sides too outside R33), the fox engine is given back, the open seconds become partial, the
channel reads ASLEEP, and its group's 10 µs may start. Choices of the model that it rests on: notes/assumptions/7 (log
entries). -/
def Obligations.SleepHold : Prop :=
  ∀ (s : State) (c : Nat), s.alive = true → c < 192 → s.chState (s.owner c) ≠ stFaulted →
    (s.lane (s.owner c)).rxAsleep = false → s.heldOut c = true →
    (s.bond (s.owner c)).all (fun d => s.heldOut d && s.def_ d dLOS && !(s.lane d).sd) = true →
    ∃ u v : State, u = (s.releaseFox (s.owner c) false).withdraw (s.owner c)
      ∧ v = u.each (u.bond (s.owner c)) (fun t d => t.modLane d fun l => { l with
          rxOn := false, rxAsleep := true, pll := false, adapted := false, wakeAt := none
          txOn := u.txKeeps (s.owner c) && l.txOn, txOwnClock := false })
      ∧ exec (.sleepHoldExpiry c) s
        = .next (((v.each (v.bond (s.owner c)) fun t d => t.modCh d fun h =>
            { h with cnt := { h.cnt with partial_ := true } }).toState (s.owner c) stAsleep).checkStop (s.owner c / 16))

/-- R50, R57 to R59, R63, R88: a lane's PLLs lock once its group clock runs: its transmitter toggles, its receiver is
ready where it has light within 200 ppm. Initial adaptation then leaves its CTLE code and taps in the lane table (free
values within R57) and clears dLOS; a lane that is not yet the last of its bond leaves the channel's state alone.
Choices of the model that it rests on: notes/assumptions/5 (log entries). -/
def Obligations.LaneUp : Prop :=
  (∀ (s : State) (l : LaneOffset), s.alive = true → l.lane < 192 → s.enabled l.lane = true →
      s.provisioned l.lane = true → (s.lane l.lane).calFail = false → (s.grp (l.lane / 16)).clk = true →
      (s.lane l.lane).rxOn = true ∨ s.txKeeps (s.owner l.lane) = true → exec (.lanePllLock l) s
        = .next (s.modLane l.lane fun x => { x with txOn := true, pll := x.rxOn && x.sd && l.ppm.natAbs ≤ 200 }))
    ∧ (∀ (s : State) (c : Nat), s.alive = true → c < 192 → s.enabled c = true → (s.lane c).rxOn = true →
      (s.lane c).pll = true → (s.lane c).sd = true → (s.lane c).adapted = false → ∃ u : State,
        u = ((((s.modLane c fun l => { l with adapted := true, wakeAt := none }).adaptTable c false).setDef c dLOS false).syncSsf
              (s.owner c))
        ∧ exec (.initialAdaptationDone c) s = .next
            (if u.chState (s.owner c) == stWaking && (u.bond (s.owner c)).all (fun d => (u.lane d).adapted) then
              (if (u.toState (s.owner c) stHunting).framed (s.owner c) then
                ((u.toState (s.owner c) stHunting).oofOn (s.owner c)).request (s.owner c)
               else u.toState (s.owner c) stHunting)
             else u))

/-- R66, R67, R85, R98, R205 bit 22, R235: an elastic store that comes to hold no entry is put back to half full by
repeating its last entry, one that comes to hold 32 by discarding its oldest 16, and either sets dSLIP for 1 ms; with
another fill, kept by the gating between 8 and 24, the entries stay; a receive store's fill is the channel's watermark
in eighths. A receive slip on a framed line that holds or seeks its frame also loses it. While dSLIP is held, its end
waits. Choices of the model that it rests on: notes/assumptions/143, 181 (log entries). -/
def Obligations.ElasticSlip : Prop :=
  (∀ (s : State) (c : Nat), s.alive = true → c < 192 → s.enabled c = true → ∃ u : State,
      u = (s.modLane c fun l => { l with storeTx := List.replicate 16 l.storeTx.getLast?.join }).setDef c dSLIP true
        ∧ exec (.elasticStoreSlip c (.tx [])) s = .next (u.modLane c fun l => { l with slipClear := some (s.owl + 1000) }))
    ∧ (∀ (s : State) (c : Nat) (l : List (BitVec 128)), s.alive = true → c < 192 → s.enabled c = true → l.length = 32 →
      ∃ u : State, u = (s.modLane c fun x => { x with storeTx := (l.drop 16).map some }).setDef c dSLIP true
        ∧ exec (.elasticStoreSlip c (.tx l)) s = .next (u.modLane c fun l => { l with slipClear := some (s.owl + 1000) }))
    ∧ (∀ (s : State) (c : Nat) (l : List (BitVec 128)), s.alive = true → c < 192 → s.enabled c = true → l.length = 32 →
      s.gfpRole c = true → ∃ u : State,
      u = (s.modLane c fun x => { x with storeRx := (l.drop 16).map some }).slipped c ∧ exec (.elasticStoreSlip c (.rx l)) s
        = .next (if u.framed (s.owner c) && u.chState (s.owner c) != stFaulted
            && (u.aligned (s.owner c) || u.chState (s.owner c) == stHunting || u.chState (s.owner c) == stWaitFox)
          then u.outOfFrame (s.owner c) true else u))
    ∧ (∀ (s : State) (c : Nat) (l : List (BitVec 128)), s.alive = true → c < 192 → s.enabled c = true → 8 ≤ l.length →
      l.length ≤ 24 → s.gfpRole c = false → exec (.elasticStoreSlip c (.rx l)) s
        = .next ((s.modLane c fun x => { x with storeRx := l.map some }).watermark c
            (8 * ((s.modLane c fun x => { x with storeRx := l.map some }).lane c).storeRx.length)))
    ∧ (∀ (s : State) (c : Nat) (l : List (BitVec 128)), s.alive = true → c < 192 → s.enabled c = true → 24 < l.length →
      l.length < 32 → exec (.elasticStoreSlip c (.tx l)) s
        = .next (s.modLane c fun x => { x with storeTx := (l.drop (l.length - 24)).map some }))
    ∧ (∀ (s : State) (c : Nat), s.alive = true → c < 192 → s.due (s.lane c).slipClear = true → s.defHeld c dSLIP = false →
      exec (.elasticSlipClear c) s = .next ((s.modLane c fun l => { l with slipClear := none }).setDef c dSLIP false))

/-- R70, R106 to R108, R132, R205 bits 13 to 17: lane alignment of a multi-lane OTN bond and PCS lock of an Ethernet
client, with a skew of at most 180 ns, set LANES_ALIGNED and let the channel go on, with its decoders started anew, but
not while a checker holds the framing (R75); their loss clears it, sets the defects it shows, restarts auto-negotiation
and loses the frame; hi_ber and the link fault state machine set their defects. Choices of the model that it rests on:
notes/assumptions/120, 127, 179 (log entries). -/
def Obligations.LanesAligned : Prop :=
  (∀ (s : State) (c k : Nat) (o : List Nat), s.alive = true → c < 192 → isOtn (s.client c) = true →
      lanesOf (s.client c) > 1 → s.enabled c = true → k ≤ 180 → (s.bond c).all (fun d => (s.lane d).adapted) = true →
      exec (.laneAlignerLock ⟨c, k, o⟩) s
        = .next (((s.modFrm c fun f => { f with order := o }).setCrb c 4 23 true).request c))
    ∧ (∀ (s : State) (c k : Nat) (o : List Nat), 180 < k → exec (.laneAlignerLock ⟨c, k, o⟩) s = .next s)
    ∧ (∀ (s : State) (c k : Nat) (o : List Nat), 180 < k → lanesOf (s.client c) > 1 →
      exec (.pcsLockAcquired ⟨c, k, o⟩) s = .next s)
    ∧ (∀ (s : State) (c : Nat), s.alive = true → c < 192 → isOtn (s.client c) = true → lanesOf (s.client c) > 1 →
      s.enabled c = true → ∃ u : State, u = ((s.setCrb c 4 23 false).releaseFox c false).withdraw c
        ∧ exec (.laneAlignmentLoss c) s
          = .next ((if u.aligned c || u.chState c == stWaitFox then u.toState c stHunting else u).oofOn c))
    ∧ (∀ (s : State) (c k : Nat) (o : List Nat), s.alive = true → c < 192 → isEth (s.client c) = true →
      s.enabled c = true → s.isMember c = false → s.checking c = false → k ≤ 180 ∨ lanesOf (s.client c) = 1 → (s.bond c).all (fun d => (s.lane d).adapted) = true →
      s.chState c ≠ stFaulted → exec (.pcsLockAcquired ⟨c, k, o⟩) s
        = .next (((((s.setDef c dLOBL false).setDef c dAMLOSS false).modCh c fun h => { h with coded := { h.coded with
          dispIn := false, scrIn := [], posIn := 0, bipIn := [], waitIn := [], rowIn := [], order := o } }).setCrb c 4 23 true).toState c stInFrame))
    ∧ (∀ (s : State) (c k : Nat) (o : List Nat), s.checking c = true → exec (.pcsLockAcquired ⟨c, k, o⟩) s = .next s)
    ∧ (∀ (s : State) (c : Nat), s.alive = true → c < 192 → isEth (s.client c) = true → s.enabled c = true →
      s.isMember c = false → ∃ u v : State, u = (if (s.setDef c dLOBL true).pcsFault c then
          (s.setDef c dLOBL true).setFault c .localFault else s.setDef c dLOBL true)
        ∧ v = (if lanesOf (u.client c) > 1 then u.setCrb c 4 23 false else u).modCh c (fun h => { h with an := {} })
        ∧ exec (.pcsLockLost c true false) s = .next (if v.chState c == stInFrame then v.toState c stHunting else v))
    ∧ (∀ (s : State) (c : Nat) (on : Bool), s.alive = true → c < 192 → isBaseR (s.client c) = true →
      s.isMember c = false →
      exec (.hiBerChange c on) s
        = .next (if on then (s.setDef c dHIBER true).setFault c .localFault else s.setDef c dHIBER false))
    ∧ (∀ (s : State) (c : Nat) (st : LinkFault), s.alive = true → c < 192 → isBaseR (s.client c) = true →
      s.isMember c = false → s.pcsFault c = false → exec (.linkFaultStateChange c st) s
        = .next ((s.setDef c dLF (st == .localFault)).setDef c dRF (st == .remoteFault)))

/-! ### Frame hunting and monitoring timers (03_frame_hunting.md, 07_defects_monitoring.md) -/

/-- R90, R91: a free engine of a group takes the channel of its group that has waited longest, the lowest number first
of equals; at an epoch, an OWL edge whose count is a multiple of 8, each free roaming engine in its order serves the
next eligible group after the last one served, and takes the channel with ROAM_REQ of it that has waited longest.
Choices of the model that it rests on: notes/assumptions/6, 7, 140 (log entries). -/
def Obligations.FoxGrants : Prop :=
  (∀ (s : State) (e c : Nat), s.alive = true → e < 24 → (s.fox e).st = .idle → (s.grp (e / 2)).clk = true →
      s.running = true → c ∈ s.waiting (e / 2) false →
      (∀ d ∈ s.waiting (e / 2) false, d = c ∨ (s.ch c).frm.reqAge.getD 0 < (s.ch d).frm.reqAge.getD 0
        ∨ (s.ch c).frm.reqAge.getD 0 = (s.ch d).frm.reqAge.getD 0 ∧ c < d) →
      exec (.foxGrant e) s = .next (s.grant e c))
    ∧ (∀ (s : State) (e : Nat), s.alive = true → s.waiting (e / 2) false = [] → exec (.foxGrant e) s = .next s)
    ∧ (∀ s : State, s.alive = true → s.owl % 8 = 0 → s.running = true → exec .roamingEpoch s
      = .next ((((s.roamGrant 24).roamGrant 25).roamGrant 26).roamGrant 27))
    ∧ (∀ (s : State) (e g c : Nat), (s.fox e).st = .idle → s.nextGroup = some g → c ∈ s.waiting g true →
      (∀ d ∈ s.waiting g true, d = c ∨ (s.ch c).frm.reqAge.getD 0 < (s.ch d).frm.reqAge.getD 0
        ∨ (s.ch c).frm.reqAge.getD 0 = (s.ch d).frm.reqAge.getD 0 ∧ c < d) →
      s.roamGrant e = { s.grant e c with lastRoam := g })
    ∧ (∀ (s : State) (e : Nat), (s.fox e).st ≠ .idle ∨ s.nextGroup = none → s.roamGrant e = s)
    ∧ (∀ (s : State) (e g c : Nat), s.alive = true → s.owl % 8 = 0 → s.running = true → 24 ≤ e → e < 28 →
      (∀ k ∈ [24, 25, 26, 27], k ≠ e → (s.fox k).st ≠ .idle) → (s.fox e).st = .idle → s.nextGroup = some g →
      c ∈ s.waiting g true → s.chState c = stWaitFox → s.wf = true →
      (∀ d ∈ s.waiting g true, d = c ∨ (s.ch c).frm.reqAge.getD 0 < (s.ch d).frm.reqAge.getD 0
        ∨ (s.ch c).frm.reqAge.getD 0 = (s.ch d).frm.reqAge.getD 0 ∧ c < d) →
      exec .roamingEpoch s = .next { s.grant e c with lastRoam := g })

/-- R83, R94: the sequence of an attempt: the first word that holds the search pattern makes a candidate at its offset,
a word that does not is passed over; no match in one frame period, a second wrong candidate or a wrong confirmation
fails the attempt; CONFIRM_N right words in all, a frame period apart, hand the channel back. Choices of the model that
it rests on: notes/assumptions/7, 141 (log entries). -/
def Obligations.FoxAttempt : Prop :=
  (∀ (s : State) (x : Sighting), s.alive = true → (s.fox x.engine).st = .search → s.foxSees x.engine x.word = true →
      exec (.foxSearchMatch x) s
        = .next (s.modFox x.engine fun f => { f with st := .candidate, offset := x.offset, lookAt := s.owl }))
    ∧ (∀ (s : State) (x : Sighting), s.foxSees x.engine x.word = false → exec (.foxSearchMatch x) s = .next s)
    ∧ (∀ (s : State) (e : Nat), s.alive = true → (s.fox e).st = .search →
      s.framePassed ((s.fox e).ch.getD 0) (s.fox e).lookAt = true →
      exec (.foxSearchNoMatch e) s = .next (s.foxFail e))
    ∧ (∀ (s : State) (e w : Nat), s.alive = true → (s.fox e).st = .candidate →
      s.framePassed ((s.fox e).ch.getD 0) (s.fox e).lookAt = true → s.foxSees e w = true →
      s.confirmN ((s.fox e).ch.getD 0) > 1 → exec (.foxCandidateCheck e w) s
        = .next (s.modFox e fun f =>
          { f with st := .confirm, left := s.confirmN ((s.fox e).ch.getD 0) - 1, lookAt := s.owl }))
    ∧ (∀ (s : State) (e w : Nat), s.alive = true → (s.fox e).st = .candidate →
      s.framePassed ((s.fox e).ch.getD 0) (s.fox e).lookAt = true → s.foxSees e w = true →
      s.confirmN ((s.fox e).ch.getD 0) = 1 → exec (.foxCandidateCheck e w) s
        = .next ((s.modFox e fun f => { f with st := .confirm, left := 0, lookAt := s.owl }).foxHandback e))
    ∧ (∀ (s : State) (e w : Nat), s.alive = true → (s.fox e).st = .candidate →
      s.framePassed ((s.fox e).ch.getD 0) (s.fox e).lookAt = true → s.foxSees e w = false → (s.fox e).second = false →
      exec (.foxCandidateCheck e w) s
        = .next (s.modFox e fun f => { f with st := .search, second := true, lookAt := s.owl }))
    ∧ (∀ (s : State) (e w : Nat), s.alive = true → (s.fox e).st = .candidate →
      s.framePassed ((s.fox e).ch.getD 0) (s.fox e).lookAt = true → s.foxSees e w = false → (s.fox e).second = true →
      exec (.foxCandidateCheck e w) s = .next (s.foxFail e))
    ∧ (∀ (s : State) (e w : Nat), s.alive = true → (s.fox e).st = .confirm →
      s.framePassed ((s.fox e).ch.getD 0) (s.fox e).lookAt = true → s.foxSees e w = true → (s.fox e).left > 1 →
      exec (.foxConfirmCheck e w) s = .next (s.modFox e fun f => { f with left := f.left - 1, lookAt := s.owl }))
    ∧ (∀ (s : State) (e w : Nat), s.alive = true → (s.fox e).st = .confirm →
      s.framePassed ((s.fox e).ch.getD 0) (s.fox e).lookAt = true → s.foxSees e w = true → (s.fox e).left ≤ 1 →
      exec (.foxConfirmCheck e w) s
        = .next ((s.modFox e fun f => { f with left := f.left - 1, lookAt := s.owl }).foxHandback e))
    ∧ (∀ (s : State) (e w : Nat), s.alive = true → (s.fox e).st = .confirm →
      s.framePassed ((s.fox e).ch.getD 0) (s.fox e).lookAt = true → s.foxSees e w = false →
      exec (.foxConfirmCheck e w) s = .next (s.foxFail e))

/-- R94, R95: what the two ends of an attempt do. A failed attempt sets HUNT_FAIL, counts in ATTEMPTS and NO_FRAME, and
the engine is in RELEASE for 2 µs while the channel waits again; a found frame puts the channel IN_FRAME with HUNT_FAIL,
BACKOFF and ATTEMPTS cleared and the offset and frame phase in its verifier, and the engine is in HANDBACK for 2 µs.
Choices of the model that it rests on: notes/assumptions/7, 141 (log entries). -/
def Obligations.FoxEnds : Prop :=
  (∀ (s : State) (e c : Nat), s.alive = true → (s.fox e).st = .search → (s.fox e).ch = some c →
      s.framePassed c (s.fox e).lookAt = true → ∃ u : State, u = ((s.setCrb c 4 22 true).count (chReg c 4) 19 16 1).count (grpReg (c / 16) 3) 15 0 1
        ∧ exec (.foxSearchNoMatch e) s
          = .next ((((u.modFox e fun f => { f with st := .release, endAt := some (s.owl + 2) }).toState c stWaitFox).setCrf c
              4 28 24 31).modFrm c fun f => { f with waitFrom := some (s.owl) }))
    ∧ (∀ (s : State) (e c w : Nat), s.alive = true → (s.fox e).st = .confirm → (s.fox e).ch = some c →
      s.framePassed c (s.fox e).lookAt = true → s.foxSees e w = true → (s.fox e).left ≤ 1 →
      s.wf = true → ∃ u : State, u = ((((s.modFox e fun f => { f with
            left := f.left - 1, lookAt := s.owl, st := .handback, endAt := some (s.owl + 2) }).toState c stInFrame).setCrb
          c 4 22 false).setCrb c 4 21 false).setCrf c 4 19 16 0
        ∧ exec (.foxConfirmCheck e w) s
          = .next ((u.modFrm c fun f => { f with
              errs := 0, mfas := none, mfBad := 0, mfGood := 0, offset := (u.fox e).offset, phase := u.owl, par := [] }).oofOff c))

/-- R94, R99, R103: HANDBACK and RELEASE end after 2 µs with the engine free; after a release the channel requests again
where R88 lets it, held for 1 ms under back-off; the hold makes it eligible when it ends; an engine whose parity fails
leaves service with fault 12, and its channel waits again with its first age. Choices of the model that it rests on:
notes/assumptions/7, 142 (log entries). -/
def Obligations.FoxRelease : Prop :=
  (∀ (s : State) (e c : Nat), s.alive = true → (s.fox e).st = .handback → s.due (s.fox e).endAt = true →
      (s.fox e).ch = some c → s.crf c 4 28 24 = e →
      exec (.foxHandbackEnd e) s = .next ((s.modFox e fun _ => {}).setCrf c 4 28 24 31))
    ∧ (∀ (s : State) (e c : Nat), s.alive = true → (s.fox e).st = .release → s.due (s.fox e).endAt = true →
      (s.fox e).ch = some c → exec (.foxReleaseEnd e) s = .next ((s.modFox e fun _ => {}).rerequest c))
    ∧ (∀ (s : State) (c : Nat), s.alive = true → s.due (s.ch c).frm.held = true →
      exec (.backoffHoldExpiry c) s = .next (s.modFrm c fun f => { f with held := none, reqAge := some s.owl }))
    ∧ (∀ (s : State) (e : Nat), s.alive = true → e < 24 → (s.fox e).st = .idle → (s.fox e).ch = none →
      exec (.foxParityFail e) s
        = .next ((s.modFox e fun _ => { st := .outOfService }).report { src := 12, group := some (e / 2) }))
    ∧ (∀ (s : State) (e : Nat), s.alive = true → 24 ≤ e → e < 28 → (s.fox e).st = .idle → (s.fox e).ch = none →
      exec (.foxParityFail e) s = .next ((s.modFox e fun _ => { st := .outOfService }).report { src := 12 }))
    ∧ (∀ (s : State) (e c : Nat), s.alive = true → e < 28 → (s.fox e).st = .search → (s.fox e).ch = some c → ∃ u : State,
      u = (s.modFox e fun _ => { st := .outOfService }).report
            { src := 12, group := if e < 24 then some (e / 2) else none }
        ∧ exec (.foxParityFail e) s
          = .next (if u.crf c 4 28 24 = e && u.chState c == stHunting then
            ((u.setCrf c 4 28 24 31).toState c stWaitFox).modFrm c fun r =>
              { r with reqAge := some (s.fox e).age, waitFrom := some u.owl }
           else u))

/-- R205 bit 2, R99, R207: after 3 ms of dOOF dLOF sets, the defects drawn from overhead clear, and back-off may begin;
after 3 ms without it dLOF clears; a time that runs out while dLOF is held waits. Choices of the model that it rests on:
notes/assumptions/7, 143 (log entries). -/
def Obligations.DlofTimer : Prop :=
  (∀ (s : State) (c : Nat), s.alive = true → s.due (s.ch c).mon.lofAt = true → s.defHeld c dLOF = false →
      s.def_ c dOOF = true → ∃ u : State,
      u = ((s.modMon c fun m => { m with lofAt := none }).setDef c dLOF true).clearOverhead c
        ∧ exec (.dlofTimerExpiry c) s
          = .next ((if u.backoffNow c then u.setCrb c 4 21 true else u).syncSsf c))
    ∧ (∀ (s : State) (c : Nat), s.alive = true → s.due (s.ch c).mon.lofAt = true → s.defHeld c dLOF = false →
      s.def_ c dOOF = false →
      exec (.dlofTimerExpiry c) s
        = .next (((s.modMon c fun m => { m with lofAt := none }).setDef c dLOF false).syncSsf c))

/-- R217 to R220, R223, R226, R233 to R235: performance monitoring on its own timers: a complete degrade window of a
framed channel is judged and the next begins; when the firmware's 8 s are over, the record of a second that waits is
folded into its bins, and a Badger that sleeps is woken first; a due hold-off timer reports its items and goes idle; an
upward crossing of WM_LEVEL sets WM_FLAG and raises an event. Choices of the model that it rests on:
notes/assumptions/7, 16, 20 (log entries). -/
def Obligations.Monitoring : Prop :=
  (∀ (s : State) (c : Nat), s.alive = true → c < 192 → s.framed c = true → s.crb c 9 31 = true →
      (s.ch c).mon.deg.frames ≥ poissonW (s.degExp c) (s.frameBits c) → exec (.degWindowEnd c false) s
        = .next ((s.modMon c fun m => { m with deg := m.deg.endWindow }).syncDeg c))
    ∧ (∀ (s : State) (c : Nat), s.alive = true → c < 192 → s.framed c = true → s.crb c 9 31 = true →
      (s.ch c).mon.exc.frames ≥ poissonW (3 + s.crf c 9 23 22) (s.frameBits c) → exec (.degWindowEnd c true) s
        = .next ((s.modMon c fun m => { m with exc := m.exc.endWindow }).syncDeg c))
    ∧ (∀ (s : State) (sec : Nat), s.alive = true → s.fwUp = true → s.due s.mgmt.foldAt = true →
      s.mgmt.unfolded = [sec] → s.mgmt.awake = true → ∃ u : State, u = s.each allCh (State.foldRec sec)
        ∧ exec .pmFold s = .next (owlOn s ((u.modMgmt fun m => { m with
              unfolded := [], foldAt := some (u.owl + 8000000)
              deepSecs := m.deepSecs.filter fun d => sec / 86400 ≤ d / 86400 }).setReg 0x800C (BitVec.ofNat 32 sec))))
    ∧ (∀ s : State, s.alive = true → s.fwUp = true → s.due s.mgmt.foldAt = true → s.mgmt.awake = false →
      exec .pmFold s = .next (owlOn s s.wakeBadger))
    ∧ (∀ (s : State) (c d : Nat), s.alive = true → c < 192 → d < 23 → s.due (s.hold (holdDefect c d)).at_ = true →
      exec (.defectHoldoffExpiry c d) s
        = .next (owlOn s (((s.hold (holdDefect c d)).reports.foldl (fun t e => t.push (defEvent c d e.2)) s).modHold
            (holdDefect c d) fun _ => (s.hold (holdDefect c d)).settled)))
    ∧ (∀ (s : State) (c : Nat), s.alive = true → c < 192 → s.due (s.hold (holdTrib c)).at_ = true →
      (s.hold (holdTrib c)).reports ≠ [] ∨ (s.hold (holdTrib c)).more = true → exec (.tributaryHoldoffExpiry c) s
        = .next (owlOn s ((s.push (mkEvent (s.hold (holdTrib c)).more 0x02 (c / 16) c 0 (s.hold (holdTrib c)).last)).modHold
            (holdTrib c) fun _ => (s.hold (holdTrib c)).settled)))
    ∧ (∀ (s : State) (c v : Nat), s.alive = true → c < 192 → v < 256 → s.crf c 16 23 16 ≠ 0 →
      s.crf c 16 7 0 < s.crf c 16 23 16 → s.crf c 16 23 16 ≤ v → s.crb c 17 31 = true → ∃ u : State,
      u = s.setReg (chReg c 16) (setBit (setFld (setFld (s.cr c 16) 7 0 v) 15 8 (max v (s.crf c 16 15 8))) 31 true)
        ∧ exec (.watermarkCrossing c v) s = .next (u.event 0x03 (c / 16) c 0x10))

/-! ### Frames of a line, overhead and mapping (04_overhead.md, 05_containers_mapping.md) -/

/-- R83, R85, R86: one received frame of an enabled framed line. While the channel keeps an alignment its alignment word
is judged first: a right word returns OOF_HOLD to IN_FRAME, a wrong one takes IN_FRAME to OOF_HOLD, and OOF_N wrong ones
in a row lose the frame. On a kept alignment the overhead, the tributaries, the counters and the captures follow;
without one the frame only spoils the degrade windows and feeds the byte trace. A frame of an Ethernet client carries
the payload type of its container and the words of its line; an ordered set goes to the frame capture and, on ETH_GFP_VC
over 1000BASE-X, to auto-negotiation. Where the row gives the lanes' symbols, the frame is read from them: each lane's
bits pass its inverter, its precoder and its elastic store, and the lanes stand in the order the aligner found (R51,
R64, R70, R104). Choices of the model that it rests on: notes/assumptions/81, 82, 178, 179, 180, 202 (log entries). -/
def Obligations.ReceivedFrames : Prop :=
  (∀ (s : State) (c : Nat) (f : RxFrame), s.alive = true → c < 192 → s.enabled c = true → s.isMember c = false →
      s.chState c ≠ stFaulted → (s.lane c).rxAsleep = false → s.checking c = false → f.lanes = [] → s.framed c = true →
      s.aligned c = true → ∃ u : State, u = s.verify c (fasOk (s.verifyLen c) f.fas)
        ∧ exec (.receivedFrame c f) s = .next (if u.aligned c then u.rxInFrame c f else u.rxOutOfFrame c f))
    ∧ (∀ (s : State) (c : Nat) (f : RxFrame), s.alive = true → c < 192 → s.enabled c = true → s.isMember c = false →
      s.chState c ≠ stFaulted → (s.lane c).rxAsleep = false → s.checking c = false → f.lanes = [] → s.framed c = true →
      s.aligned c = false → exec (.receivedFrame c f) s
        = .next ((s.modMon c fun m => { m with deg := m.deg.frame 0 true, exc := m.exc.frame 0 true }).byteTrace c
            (looseFrame (s.client c) f)))
    ∧ (∀ (s : State) (c : Nat) (f : RxFrame), s.alive = true → c < 192 → s.enabled c = true → s.isMember c = false →
      s.chState c = stInFrame → (s.lane c).rxAsleep = false → s.checking c = false → f.lanes = [] → s.framed c = false →
      isEth (s.client c) = true → ∃ u v : State,
        u = (match f.ptype with | some p => s.rxPtype c p | none => s).rxCodes c f.codes
        ∧ v = (if f.oh.isEmpty then u else u.capture c f) ∧ exec (.receivedFrame c f) s
          = .next (if !f.oh.isEmpty && v.client c == 0x20 && v.role c == 5 then
              v.modCh c fun h => { h with an := anTake h.an v.owl f.oh } else v))
    ∧ (∀ (s : State) (c : Nat) (f : RxFrame), s.alive = true → c < 192 → s.enabled c = true → s.isMember c = false →
      s.chState c ≠ stFaulted → (s.lane c).rxAsleep = false → s.checking c = false → s.framed c = true → f.lanes ≠ [] →
      ∃ l : List (List Bool) × State, l = s.lanesIn c f.lanes ∧ ∃ bits : List Bool,
        bits = (byOrder (s.ch c).frm.order l.1).flatten ∧ exec (.receivedFrame c f) s
          = .next (l.2.rxTaken c { f with raw := (pieces 8 bits.length bits).map byteOf }))
    ∧ (∀ (s : State) (c : Nat), s.chState c = stInFrame →
      s.verify c false = (s.modFrm c fun f => { f with errs := 1 }).toState c stOofHold
        ∧ s.verify c true = s.modFrm c fun f => { f with errs := 0 })
    ∧ (∀ (s : State) (c : Nat), s.chState c = stOofHold →
      s.verify c true = (s.modFrm c fun f => { f with errs := 0 }).toState c stInFrame
        ∧ ((s.ch c).frm.errs + 1 < s.oofN c → s.verify c false = s.modFrm c fun f => { f with errs := (s.ch c).frm.errs + 1 })
        ∧ (s.oofN c ≤ (s.ch c).frm.errs + 1 → s.verify c false = s.outOfFrame c false))

/-- R87, R120, R122: what the monitors of overhead require. A value is accepted at its third identical reception in a
row (a different one starts a new run and keeps the accepted value), and a multiframe that is in sequence is lost at the
fifth MFAS out of sequence in a row and found again at the second in sequence. Choices of the model that it rests on:
notes/assumptions/19, 66, 81 (log entries). -/
def Obligations.Acceptance : Prop :=
  (∀ (a : Accept (List Byte)) (l : List Byte), (((a.step 3 l).1.step 3 l).1.step 3 l).1.acc = some l)
    ∧ (∀ (a : Accept (List Byte)) (l m : List Byte), l ≠ m → a.cand = some m → (a.step 3 l).1.acc = a.acc
      ∧ ((a.step 3 l).1.step 3 l).1.acc = a.acc)
    ∧ (∀ (f : Framer) (p v : Nat), f.mfas = some p → (p + 1) % 256 ≠ v % 256 → f.mfOut = false →
      (f.mfasStep v).mfOut = decide (f.mfBad ≥ 4) ∧ (f.mfasStep v).mfas = some (v % 256))
    ∧ (∀ (f : Framer) (p v : Nat), f.mfas = some p → (p + 1) % 256 = v % 256 → f.mfOut = true →
      (f.mfasStep v).mfOut = decide (f.mfGood < 1) ∧ (f.mfasStep v).mfas = some (v % 256))

/-- R126 to R128, R153, R205 bits 3, 18 and 19: a complete frame capture or byte trace sets CAPT_DONE or TRACE_DONE and
disarms itself; 3 ms out of or in multiframe set dLOM of an OTN line as its multiframe is; a failed GFP-F client with
CSF_EN sends a client signal fail frame every 100 ms; 300 ms without one clear dCSF; a core header with a right cHEC
moves delineation on from HUNT to PRESYNC to SYNC, in SYNC also one with a single bit error, which is counted and
corrected; any other counts where delineation was not HUNT and ends it; dLFD is set while delineation is not SYNC
(R150). Choices of the model that it rests on: notes/assumptions/7, 61, 87, 143 (log entries). -/
def Obligations.ReceiveTimers : Prop :=
  (∀ (s : State) (c : Nat), s.alive = true → c < 192 → (s.ch c).cap.running = true →
      (s.ch c).cap.frames ≥ s.captLen c → exec (.frameCaptureDone c) s
        = .next ((s.setCrb c 11 29 true).modCap c fun k => { k with running := false, trigSeen := false, frames := 0 }))
    ∧ (∀ (s : State) (c : Nat), s.alive = true → c < 192 → (s.ch c).cap.traceRun = true →
      (s.ch c).cap.samples ≥ 512 → exec (.byteTraceDone c) s
        = .next ((s.setCrb c 11 28 true).modCap c fun k => { k with traceRun := false, samples := 0, skip := 0 }))
    ∧ (∀ (s : State) (c : Nat), s.alive = true → c < 192 → isOtn (s.client c) = true →
      s.due (s.ch c).mon.lomAt = true → s.def_ c dOOF = false → s.defHeld c dLOM = false → exec (.dlomTimerExpiry c) s
        = .next (((s.modMon c fun m => { m with lomAt := none }).setDef c dLOM (s.ch c).frm.mfOut).syncSsf c))
    ∧ (∀ (s : State) (c : Nat), s.alive = true → c < 192 → (s.grp (c / 16)).clk = true → s.gfpRole c = true → s.enabled c = true →
      s.isMember c = false → s.crb c 1 5 = true → s.clientFailed c = true → (s.ch c).mon.csfSend = none →
      ∃ (upi : Nat) (z : List Byte × List Bool) (u : State), upi = (if s.def_ c dLOS then 1 else 2)
        ∧ z = gfpFrame (s.pkt c).scrOut 4 upi false []
        ∧ u = (s.modCh c fun h => { h with
            mon := { h.mon with csfSend := some (s.owl + 100000) }
            tx := { h.tx with csfUpi := some upi }
            pkt := { h.pkt with scrOut := z.2 } })
        ∧ exec (.csfTimer c) s = .next { u with mapped := u.mapped ++ [{ ch := c, len := 0, gfp := z.1 }] })
    ∧ (∀ (s : State) (c : Nat), s.alive = true → c < 192 → (s.grp (c / 16)).clk = true → s.due (s.ch c).mon.csfAt = true → s.defHeld c dCSF = false →
      exec (.dcsfTimerExpiry c) s = .next ((s.setDef c dCSF false).modMon c fun m => { m with csfAt := none }))
    ∧ (∀ (s : State) (c core n : Nat), s.alive = true → c < 192 → (s.grp (c / 16)).clk = true → s.gfpRole c = true → s.enabled c = true →
      s.isMember c = false → coreRead ((s.ch c).mon.gfp == .sync) core = some (n, false) →
      exec (.gfpDelineationChange c core) s
        = .next ((s.modMon c fun m => { m with gfp := if (s.ch c).mon.gfp = .hunt then .presync else .sync }).setDef c dLFD
            ((s.ch c).mon.gfp == .hunt)))
    ∧ (∀ (s : State) (c core n : Nat), s.alive = true → c < 192 → (s.grp (c / 16)).clk = true → s.gfpRole c = true → s.enabled c = true →
      s.isMember c = false → (s.ch c).mon.gfp = .sync → coreRead true core = some (n, true) →
      exec (.gfpDelineationChange c core) s
        = .next (((s.fixedErr c 3 1).modMon c fun m => { m with gfp := .sync }).setDef c dLFD false))
    ∧ (∀ (s : State) (c core : Nat), s.alive = true → c < 192 → (s.grp (c / 16)).clk = true → s.gfpRole c = true → s.enabled c = true →
      s.isMember c = false → coreRead ((s.ch c).mon.gfp == .sync) core = none →
      exec (.gfpDelineationChange c core) s
        = .next (((if (s.ch c).mon.gfp = .hunt then s else s.fixedErr c 3 1).modMon c fun m =>
            { m with gfp := .hunt }).setDef c dLFD true))

/-- R31, R110, R132, R199, R208 to R211: one transmitted frame of a provisioned channel whose lane toggles and of whose
lanes the test functions leave one alone. An Ethernet transmitter sends local fault, remote fault, or frames and idles,
and codes the words demapped for it; a client channel that transmits frames sends its maintenance signal; a line sends
the overhead of R111 and the maintenance of every position. 1000BASE-X has no fault ordered sets. Choices of the model
that it rests on: notes/assumptions/63, 64, 67, 68, 69, 154, 157, 158, 159, 174, 175, 178, 195 (log entries). -/
def Obligations.TransmittedFrames : Prop :=
  (∀ (s : State) (c : Nat) (f : TxFrame), s.alive = true → c < 192 → s.provisioned c = true → s.isMember c = false →
      s.swings c = true → ((s.bond c).any fun d => s.laneTaken d == false) = true →
      ∃ u : State, u = f.structFail.foldl (State.structParity c) (f.parityFail.foldl (State.xcParity c) s)
        ∧ exec (.transmittedFrame c f) s
        = .next (if isEth (u.client c) then (u.modCh c fun h => { h with
              tx := { h.tx with eth := u.txEth c, dests := u.destList c f, page := anPage h.an } }).txCodes c f
          else if u.role c != 0 then u.modTx c fun t => { t with
              maint := u.txMaintOf c, dests := u.destList c f, sent := []
              just := Store.set {} t.just 0 { amp := u.demapJust c } }
          else u.txLine c f))
    ∧ (∀ (s : State) (c : Nat), s.client c ≠ 0x20 → s.def_ c dLF = true → s.txEth c = 1 ∨ s.txEth c = 2)
    ∧ (∀ (s : State) (c : Nat), s.client c = 0x20 → s.txEth c ≠ 1 ∧ s.txEth c ≠ 2)
    ∧ (∀ (s : State) (c : Nat), s.maintAll c = true → s.txEth c = (if s.client c = 0x20 then 4 else 1)
      ∧ (isSdh (s.client c) = true → s.txMaintOf c = 1)
      ∧ (isSdh (s.client c) = false → isOtn (s.client c) = true → s.txMaintOf c = 2))

/-- R134, R135, R146, R171: a frame received on an enabled stream of a line that holds its frame joins the receive
buffer (the first one raises the overhead event), and is counted instead where its FCS is wrong or it does not fit; the
slip of a mapper store costs a GFP-F client one frame, puts the store of any other mapped client back to half full and
sets dSLIP, and re-centres the E1 and DS1 stores of a line; a BMP line follows its client again 10 ms after the end of
the client's failure. Choices of the model that it rests on: notes/assumptions/60, 65, 70, 71, 72, 73, 74, 75, 150, 165,
170 (log entries). -/
def Obligations.StreamsAndMappers : Prop :=
  (∀ (s : State) (n : Nat) (l : List Byte), s.alive = true → s.streamOn n = true → bit (s.streamWord n) 30 = false →
      s.enabled (fld (s.streamWord n) 23 16) = true → s.aligned (fld (s.streamWord n) 23 16) = true → l ≠ [] →
      s.streamMode n ≠ 2 →
      (exec (.dccFrameReceived n l false) s = .next (s.countTbl 0x12 n 1 15 0 1))
        ∧ (l.length ≤ 4000 → (s.stream n).rxLen + l.length ≤ 4096 → (s.stream n).rx ≠ [] →
          exec (.dccFrameReceived n l true) s
            = .next (s.modStream n fun d => { d with rx := (s.stream n).rx ++ [(s.owl, l)] }))
        ∧ (l.length ≤ 4000 → (s.stream n).rx = [] → exec (.dccFrameReceived n l true) s
            = .next ((s.modStream n fun d => { d with rx := [(s.owl, l)] }).event 0x08 (fld (s.streamWord n) 23 16 / 16)
                (fld (s.streamWord n) 23 16) n))
        ∧ (4000 < l.length → exec (.dccFrameReceived n l true) s = .next (s.countTbl 0x12 n 1 31 16 1)))
    ∧ (∀ (s : State) (c : Nat), s.alive = true → c < 192 → s.clientCh c = true → s.enabled c = true →
      s.isMember c = false → s.isBmp c = false → s.sdhLine c = false → s.gfpRole c = false →
      exec (.mapperStoreSlip c) s = .next ((s.modCh c fun h => { h with mapFill := 4 }).slipped c))
    ∧ (∀ (s : State) (c : Nat), s.alive = true → c < 192 → s.clientCh c = true → s.enabled c = true →
      s.isMember c = false → s.isBmp c = false → s.sdhLine c = false → s.gfpRole c = true → (s.pkt c).fifo ≠ [] →
      exec (.mapperStoreSlip c) s = .next ((s.modPkt c fun p => { p with fifo := p.fifo.dropLast }).dropped c))
    ∧ (∀ (s : State) (c : Nat), s.alive = true → c < 192 → s.enabled c = true → s.isMember c = false →
      s.isBmp c = false → s.sdhLine c = true → exec (.mapperStoreSlip c) s = .next (s.remapSlip c))
    ∧ (∀ (s : State) (c d : Nat), s.alive = true → c < 192 → s.due (s.lane c).bmpReturn = true →
      s.bmpClient c = some d → s.clientFailed d = false → s.enabled d = true → exec (.bmpClockReturn c) s
        = .next (s.modLane c fun l => { l with bmpReturn := none, followsClient := true }))

/-! ### Protection switching (08_protection_switching.md) -/

/-- R246 to R252, R260, R263: one evaluation of a protection group. An enabled group of a decider samples its
conditions, follows the flags of the far end, starts WTR or DNR, ends what a higher request supersedes, decides, and
runs the NO_RESPONSE timer; what it mirrors goes to the twin where it changed. A frozen group, and a twin that does not
decide, keep everything, but raise the fault of a member whose copies disagree (R243). The decision takes the far end's
request only where it ranks above the local one, selects protection for the requests that ask for it, and keeps the
selection under an exercise. Choices of the model that it rests on: notes/assumptions/25, 26, 182 (log entries). -/
def Obligations.ProtectionEvaluation : Prop :=
  (∀ (s : State) (p : Nat), s.alive = true → p < 96 → s.pgEnabled p = true → s.running = true →
      s.clocked = true → ((s.pgAgree p).pg p).frozen = false → (s.pgAgree p).pairActive = true →
      ∃ u t : State, u = s.pgAgree p
        ∧ t = ((((((u.pgSample p).pgFlags p).pgRestore p).pgSupersede p).pgDecide p).pgNoResp p)
        ∧ exec (.protectionEvaluation p) s
          = .next (if t.pgMirror p == u.pgMirror p then t else t.mirror 2 p (t.pgMirror p)))
    ∧ (∀ (s : State) (p : Nat), s.alive = true → p < 96 → s.pgEnabled p = true → s.running = true → s.clocked = true →
      ((s.pgAgree p).pg p).frozen = true ∨ (s.pgAgree p).pairActive = false →
      exec (.protectionEvaluation p) s = .next (s.pgAgree p))
    ∧ (∀ (s : State) (p : Nat), s.pgEnabled p = false → exec (.protectionEvaluation p) s = .next s)
    ∧ (∀ (s : State) (p : Nat), s.wf = true →
      (s.pgDecide p).pg p = (s.pg p).decide (s.pgArch p) (s.farReq p) s.time.sec)
    ∧ (∀ (g : Pg) (far sec : Nat), rank far ≤ rank g.localReq → selOf g.localReq = some true →
      (g.decide false far sec).sel = true ∧ (g.decide false far sec).top = g.localReq
        ∧ (g.decide false far sec).topRemote = false)
    ∧ (∀ (g : Pg) (far sec : Nat), rank g.localReq < rank far → (g.decide false far sec).top = far
        ∧ (g.decide false far sec).topRemote = true)
    ∧ (∀ (g : Pg) (far sec : Nat), max g.localReq far = 3 → (g.decide false far sec).sel = g.sel)
    ∧ (∀ (g : Pg) (far sec : Nat), g.archMis = true → (g.decide true far sec).sel = false
        ∧ (g.decide true far sec).bridged = false)

/-- R249, R250, R252, R257, R258, R264, R266: the timers of an enabled group that is not frozen, of a twin that decides.
A hold-off that is due makes its condition a request if it is present then; WTR that is due ends with its event;
NO_RESPONSE is set when its 50 ms are over without SF-P; an exercise ends without an answer; the selection takes effect
at a row boundary; the event timer reports what changed and returns to idle. Choices of the model that it rests on:
notes/assumptions/7, 28 (log entries). -/
def Obligations.ProtectionTimers : Prop :=
  (∀ (s : State) (p : Nat) (k : PgCond), s.clocked = true → p < 96 → s.pgEnabled p = true → (s.pg p).frozen = false →
      s.pairActive = true →
      s.due ((s.pg p).cond k).hold = true → exec (.protHoldoffExpiry p k) s
        = .next (s.pgTell (s.modPg p fun g =>
            g.setCond k { (s.pg p).cond k with hold := none, req := ((s.pg p).cond k).here }) p))
    ∧ (∀ (s : State) (p : Nat), s.clocked = true → p < 96 → s.pgEnabled p = true → (s.pg p).frozen = false →
      s.pairActive = true →
      (s.pg p).wtrOn = true → s.due (s.pg p).wtrAt = true → exec (.wtrExpiry p) s
        = .next (s.pgTell ((s.modPg p fun g => { g with wtrOn := false, wtrAt := none }).pgOccur p 0x50 0) p))
    ∧ (∀ (s : State) (p : Nat), s.clocked = true → p < 96 → s.pgEnabled p = true → (s.pg p).frozen = false →
      s.pairActive = true →
      s.due (s.pg p).noRespAt = true → (s.pg p).sfP.here = false → exec (.noResponseTimer p) s
        = .next ((s.modPg p fun g => { g with noRespAt := none }).pgFlag p 2 true))
    ∧ (∀ (s : State) (p : Nat), s.clocked = true → p < 96 → s.pgEnabled p = true → (s.pg p).frozen = false →
      s.pairActive = true →
      s.due (s.pg p).exer = true → exec (.exerTimeout p) s = .next (s.pgTell (s.endExer p 1) p))
    ∧ (∀ (s : State) (p : Nat), s.clocked = true → p < 96 → (s.pg p).applied ≠ (s.pg p).sel →
      ∃ t : State, t = (s.modPg p fun g => { g with applied := g.sel, early := [] }) ∧ exec (.selectionBoundary p) s
        = .next (t.live.foldl (fun u e =>
            if e.2.2.pgroup = p && (s.pg p).altFor e.2.2.dest != (s.pg p).sel then
              (u.moveDup e.2.2.dest (if (s.pg p).sel then e.2.2.alt else e.2.2.src)).restartPtr e.2.2.dest else u) t))
    ∧ (∀ (s : State) (p : Nat), s.alive = true → p < 96 → s.due (s.hold (holdProt p)).at_ = true → s.wf = true →
      exec (.protEventHoldoffExpiry p) s = .next (owlOn s (s.pgEvents p))
        ∧ (s.pgEvents p).hold (holdProt p) = (s.hold (holdProt p)).settled)

/-- R253 to R257: the commands to a protection group, of a group that is enabled and not frozen, each alone. CLEAR ends
a manual switch, the exercise and WTR, and has nothing to do without one; MS-P and MS-W are stored unless a higher
request stands, and MS-W ends WTR and DNR; EXER claims the group and runs 100 ms; an override is stored by the key
procedure, claims the group with its first code, and releases it at 0. Choices of the model that it rests on:
notes/assumptions/27, 132 (log entries). -/
def Obligations.ProtectionCommands : Prop :=
  (∀ (s : State) (q : Req) (w : Word) (p : Nat), p = fld w 6 0 → s.ready 0x0501 = true → s.notActive = false →
      onlyBits w 0xF000007F = true → s.pgEnabled p = true → (s.pg p).frozen = false →
      (fld w 31 28 = 0 → (s.pg p).exer = none → ((s.pg p).manual ≠ 0 ∨ (s.pg p).wtrOn = true) →
          exec (.apsCmdClear q [w]) s
            = .next (((s.pgTell (s.modPg p fun g => { g with manual := 0, wtrOn := false, wtrAt := none }) p).finish
                q 0x0501 stOk 0 [0]).startHeld))
        ∧ (fld w 31 28 = 1 → s.pgOthers p ≤ 6 → exec (.apsCmdMsP q [w]) s
            = .next (((s.pgTell (s.modPg p fun g => { g with manual := 6 }) p).finish q 0x0501 stOk 0 [0]).startHeld))
        ∧ (fld w 31 28 = 2 → s.pgOthers p ≤ 6 → ((s.pg p).sel = true ∨ (s.pg p).manual = 6 ∨ (s.pg p).wtrOn = true) →
          exec (.apsCmdMsW q [w]) s
            = .next (((s.pgTell (s.modPg p fun g =>
              { g with manual := 5, wtrOn := false, wtrAt := none, dnr := false }) p).finish q 0x0501 stOk 0 [0]).startHeld))
        ∧ (fld w 31 28 = 2 → s.pgOthers p ≤ 6 → (s.pg p).sel = false → (s.pg p).manual ≠ 6 → (s.pg p).wtrOn = false →
          exec (.apsCmdMsW q [w]) s = .next ((s.finish q 0x0501 stOk 0 [2]).startHeld))
        ∧ (fld w 31 28 = 3 → s.pgBidir p = true → s.pgClaimed p = false → s.pgOthers p ≤ 3 → (s.pg p).manual = 0 →
          (s.pg p).wtrOn = false → exec (.apsCmdExer q [w]) s
            = .next (((s.pgTell ((s.claim (.group p)).modPg p fun g => { g with
                exer := some (s.owl + 100000)
                exerBase := if g.topRemote then b2n g.farWork else b2n (selOf g.top == some true) }) p).finish
                  q 0x0501 stOk 0 [0]).startHeld)))
    ∧ (∀ (s : State) (q : Req) (p : Nat), p < 96 → s.ready 0x0105 = true → s.keyLocked = false → s.notActive = false →
      s.pgEnabled p = true → (s.pg p).frozen = false →
      ∃ t : State, t = s.dropKey 0x1C
        ∧ ((s.pg p).override = 0 → s.pgClaimed p = false →
          exec (.protOvrLockout q p) s = .next (((t.pgTell ((t.claim (.group p)).modPg p fun g =>
              { g with override := 12 }) p).keyStored 0x1C (BitVec.ofNat 32 (2 ^ 28 + p))).ok q 0x0105).startHeld
          ∧ exec (.protOvrForcedSwitch q p) s = .next (((t.pgTell ((t.claim (.group p)).modPg p fun g =>
              { g with override := 10 }) p).keyStored 0x1C (BitVec.ofNat 32 (2 ^ 29 + p))).ok q 0x0105).startHeld)
        ∧ ((s.pg p).override ≠ 0 → exec (.protOvrClear q p) s
            = .next (((t.pgTell ((t.release fun k => k == .group p).modPg p fun g =>
              { g with override := 0 }) p).keyStored 0x1C (BitVec.ofNat 32 p)).ok q 0x0105).startHeld))

/-! ### The key procedure (15_register_conventions.md) -/

/-- R310, R312, R313, R332, R334, R335, R400, R423, R481 to R483, R508, R531: the dangerous registers behind the key
procedure. Under BOOT_LOCK or TEST_LOCK the row is refused and flagged; otherwise the register's effect happens and its
word is stored: LEASE_CMD yields or forces SOLE, TWIN_ROLE_CFG takes a mode while LINK_EN is 0, a twin in SAFE keeps its
role, NOMINAL_PPT moves the nominal, STEP_REARM arms 60 s, FAULT_INJ asserts and withdraws, FW_ACT chooses a slot.
Choices of the model that it rests on: notes/assumptions/39, 105, 112 (log entries). -/
def Obligations.KeyRows : Prop :=
  (∀ (s : State) (q : Req) (w : Word) (n a : Nat) (c : Instr), s.ready 0x0105 = true → s.keyLocked = true →
      (c, a) ∈ ([(.leaseCmdYield q, 0x4010), (.leaseCmdForceSole q, 0x4010), (.twinRoleCfgWrite q w, 0x4008),
        (.nominalPptWrite q w, 0x202C), (.stepRearmWrite q w, 0x3020), (.faultInjAssert q n, 0x1040),
        (.faultInjWithdraw q, 0x1040), (.fwActWrite q w, 0x50B8), (.protOvrClear q n, 0x1C),
        (.protOvrLockout q n, 0x1C), (.protOvrForcedSwitch q n, 0x1C)] : List (Instr × Nat)) →
      exec c s = .next ((((s.dropKey a).keyFail a).status q 0x0105 eLocked).startHeld))
    ∧ (∀ (s : State) (q : Req), s.ready 0x0105 = true → s.keyLocked = false → s.yieldStatus = stOk →
      exec (.leaseCmdYield q) s
        = .next (((((s.dropKey 0x4010).doYield none).keyStored 0x4010 0x10000000).ok q 0x0105).startHeld))
    ∧ (∀ (s : State) (q : Req), s.ready 0x0105 = true → s.keyLocked = false → s.twinRole = 4 →
      exec (.leaseCmdForceSole q) s
        = .next (((((s.dropKey 0x4010).setSole true).keyStored 0x4010 0x20000000).ok q 0x0105).startHeld))
    ∧ (∀ (s : State) (q : Req), s.ready 0x0105 = true → s.keyLocked = false → s.twinRole = 3 ∨ s.twinRole = 5 →
      exec (.leaseCmdForceSole q) s
        = .next (((((s.dropKey 0x4010).claimLease 3).keyStored 0x4010 0x20000000).ok q 0x0105).startHeld))
    ∧ (∀ (s : State) (q : Req) (w v : Word), s.ready 0x0105 = true → s.keyLocked = false → s.rb 0x4000 31 = false →
      v = w &&& 0xC0000000 →
      (fld v 31 30 = 1 ∨ fld v 31 30 = 0 ∧ s.twinRole = 6 → exec (.twinRoleCfgWrite q w) s
        = .next ((((s.dropKey 0x4008).keyStored 0x4008 v).ok q 0x0105).startHeld))
      ∧ (fld v 31 30 = 0 → s.twinRole ≠ 6 → exec (.twinRoleCfgWrite q w) s
        = .next (((((((s.dropKey 0x4008).restLease.setRole 0 0xFF).modTwin fun t =>
            { t with outP := false, outN := false }).keyStored 0x4008 v).ok q 0x0105).startHeld))))
    ∧ (∀ (s : State) (q : Req) (w : Word), s.ready 0x0105 = true → s.keyLocked = false →
      -100000000 ≤ sword w → sword w ≤ 100000000 → exec (.nominalPptWrite q w) s
        = .next (((((s.dropKey 0x202C).setNominal w).keyStored 0x202C w).ok q 0x0105).startHeld))
    ∧ (∀ (s : State) (q : Req) (w v : Word), s.ready 0x0105 = true → s.keyLocked = false → v = w &&& 1 →
      exec (.stepRearmWrite q w) s
        = .next (((((s.dropKey 0x3020).stepRearm v).keyStored 0x3020 v).ok q 0x0105).startHeld))
    ∧ (∀ (s : State) (q : Req) (src : Nat), s.ready 0x0105 = true → s.keyLocked = false → src < 30 →
      s.faults.injected = none → s.claimed isInjector = false → exec (.faultInjAssert q src) s
        = .next (((((((s.dropKey 0x1040).claim .injector).modFaults fun f => { f with injected := some src }).setReg 0x1048
            (BitVec.ofNat 32 (2 ^ 31 + src))).report { src := src, injected := true }).keyStored 0x1040
              (BitVec.ofNat 32 (2 ^ 31 + src))).ok q 0x0105).startHeld)
    ∧ (∀ (s : State) (q : Req), s.ready 0x0105 = true → s.keyLocked = false → exec (.faultInjWithdraw q) s
        = .next ((((s.dropKey 0x1040).injOff.keyStored 0x1040 0).ok q 0x0105).startHeld))
    ∧ (∀ (s : State) (q : Req) (w v : Word) (k : Nat), s.ready 0x0105 = true → s.keyLocked = false →
      v = w &&& 0xC0000000 → k < 2 → fld v 31 30 = k + 1 → (s.chooseSlot k).1 = stOk → exec (.fwActWrite q w) s
        = .next ((((((s.dropKey 0x50B8).chooseSlot k).2.keyStored 0x50B8 v).ok q 0x0105).startHeld)))

/-! ### Rows that write one register (15_register_conventions.md, 16_register_map.md) -/

/-- R126 to R128, R312, R332, R344, R347, R419, R436, R469, R483, R506, R519: the rows that are a write of one register.
Each stores the word it writes and has the register's effect: the capture and the trace are armed while CAPT_EN is 1;
LINK_EN enables and disables the link; PKT_EN takes and releases what the packet units need; device time is latched
whole; a trigger at least 10 µs ahead is armed; lock bits stay set; an acknowledgement clears each severity it names.
Choices of the model that it rests on: notes/assumptions/17, 87 (log entries). -/
def Obligations.RegisterRows : Prop :=
  (∀ (s t : State) (q : Req) (c : Nat) (r : RegInfo), s.ready 0x0102 = true → s.alive = true → c < 192 →
      regInfo (.chan c 11) = some r →
      t = s.store (.chan c 11) r (s.armWord c 31) → s.crf c 11 24 21 = t.crf c 11 24 21 → t.crb c 11 27 = true →
      exec (.captArm q c) s
        = .next (((t.modCap c fun k => { k with running := true, frames := 0, trigSeen := t.crf c 11 26 25 = 0 || t.crf c 11 26 25 = 3 }).ok
            q 0x0102).startHeld))
    ∧ (∀ (s t : State) (q : Req) (c : Nat) (r : RegInfo), s.ready 0x0102 = true → s.alive = true → c < 192 →
      regInfo (.chan c 11) = some r →
      t = s.store (.chan c 11) r (s.armWord c 30) → s.crf c 11 24 21 = t.crf c 11 24 21 → t.crb c 11 27 = true →
      exec (.traceArm q c) s
        = .next (((t.modCap c fun k => { k with traceRun := true, samples := 0, skip := 0 }).ok q 0x0102).startHeld))
    ∧ (∀ (s t : State) (q : Req) (w : Word) (r : RegInfo), s.ready 0x0102 = true → regInfo (.page 4 0) = some r →
      s.gatedOff (.page 4 0) r w = false → t = s.store (.page 4 0) r w → bit (t.reg 0x4000) 29 = bit (s.reg 0x4000) 29 →
      (bit (s.reg 0x4000) 31 = false → bit (t.reg 0x4000) 31 = true →
          exec (.twinCtrlWrite q w) s = .next ((t.linkEnable.ok q 0x0102).startHeld))
      ∧ (bit (s.reg 0x4000) 31 = true → bit (t.reg 0x4000) 31 = false →
          exec (.twinCtrlWrite q w) s = .next ((t.linkDisable.ok q 0x0102).startHeld)))
    ∧ (∀ (s t : State) (q : Req) (c : Nat) (r : RegInfo), s.ready 0x0102 = true → s.alive = true → c < 192 →
      regInfo (.chan c 14) = some r →
      t = (s.store (.chan c 14) r (setBit (s.cr c 14) 31 true)).setCrb c 14 31 false →
      bit (s.cr c 14) 31 = false → (s.store (.chan c 14) r (setBit (s.cr c 14) 31 true)).crb c 14 31 = true →
      t.gfpRole c = true → t.isMember c = false → t.crb c 14 29 = false →
      t.rf 0x7010 17 0 + t.crf c 14 15 0 ≤ 196608 →
      exec (.pktEnSet q c) s
        = .next ((((((t.setCrb c 14 31 true).setReg 0x7010 (BitVec.ofNat 32 (t.rf 0x7010 17 0 + t.crf c 14 15 0))).modPkt c
            fun p => { p with gbEngine := none }).bufSync.gateApply c).ok q 0x0102).startHeld))
    ∧ (∀ (s t : State) (q : Req) (c : Nat) (r : RegInfo), s.ready 0x0102 = true → s.alive = true → c < 192 →
      regInfo (.chan c 14) = some r →
      t = (s.store (.chan c 14) r (setBit (s.cr c 14) 31 false)).setCrb c 14 31 true →
      bit (s.cr c 14) 31 = true → (s.store (.chan c 14) r (setBit (s.cr c 14) 31 false)).crb c 14 31 = false →
      exec (.pktEnClear q c) s = .next (((t.pktDisable c).ok q 0x0102).startHeld))
    ∧ (∀ (s : State) (q : Req) (r : RegInfo), s.ready 0x0102 = true → regInfo (.page 3 1) = some r →
      exec (.timeLatch q) s = .next (((s.store (.page 3 1) r 0x80000000).timeLatch.ok q 0x0102).startHeld))
    ∧ (∀ (s t : State) (q : Req) (n : Nat) (r : RegInfo), s.ready 0x0102 = true → n < 4 →
      regInfo (.page 3 (20 + 3 * n)) = some r →
      t = s.store (.page 3 (20 + 3 * n)) r (setBit (s.reg (0x3050 + 12 * n) &&& 0x30000000) 31 true) →
      t.time.sec * secUnits + t.time.sub + 10000 * 2 ^ 48 ≤ t.trigNs n (t.time.sec / 2 ^ 32) * 2 ^ 48 →
      exec (.trigArm q n) s = .next ((({ t.setRb (trigCtl n) 31 true with time := { t.time with
          trigHi := Store.set 0 t.time.trigHi n (t.time.sec / 2 ^ 32) } }).ok q 0x0102).startHeld))
    ∧ (∀ (s t : State) (q : Req) (w : Word) (r : RegInfo), s.ready 0x0102 = true → regInfo (.page 0 4) = some r →
      t = s.store (.page 0 4) r w → ∃ u : State, u = t.setReg 0x0010 (s.reg 0x0010 ||| t.reg 0x0010)
        ∧ exec (.devLockWrite q w) s
          = .next (((if fld (u.reg 0x0010) 31 30 = fld (s.reg 0x0010) 31 30 then u
            else u.modCmd fun k => { k with keys := [] }).ok q 0x0102).startHeld))
    ∧ (∀ (s t : State) (q : Req) (r : RegInfo), s.ready 0x0102 = true → regInfo (.page 1 11) = some r →
      t = s.store (.page 1 11) r 0xE0000000 → exec (.faultAck q 0xE0000000) s
        = .next (((((t.ackSev 1).ackSev 2).ackSev 3).ok q 0x0102).startHeld))
    ∧ (∀ (s t : State) (q : Req) (c : Nat) (w : Word) (r : RegInfo), s.ready 0x0102 = true → s.alive = true → c < 192 →
      regInfo (.chan c 0) = some r → s.gatedOff (.chan c 0) r w = false → t = s.store (.chan c 0) r w →
      fld (t.cr c 0) 29 28 ≠ 3 →
      (bit (s.cr c 0) 31 = false → bit (t.cr c 0) 31 = true → t.enableOk c = true →
        exec (.chCtrlWrite q c w) s = .next ((((t.reserve c (t.client c)).enableCh c).ok q 0x0102).startHeld))
      ∧ (bit (s.cr c 0) 31 = true → bit (t.cr c 0) 31 = false →
        exec (.chCtrlWrite q c w) s = .next (((t.disableCh c).ok q 0x0102).startHeld)))

/-! ### Hitless and voting streams (09_hitless_and_voting.md) -/

/-- R276 to R283: hitless streams. A frame of a member in signal fail makes it NONE; one of a member in HUNT is
searched, one of an aligned member is judged by its expected number. A schedule is set from the earliest aligned member
once every member that is up is aligned, and discarded 1 s after the last. Play-out takes the better copy of a frame,
the member in use where both are equal, and maintenance where there is none, each frame at its time; the frame is
forgotten and the next number follows. dDUP_LOSS follows the member's times. Choices of the model that it rests on:
notes/assumptions/7, 29, 30, 143, 188, 190, 194 (log entries). -/
def Obligations.HitlessStreams : Prop :=
  (∀ (s : State) (n m : Nat) (f : MemberFrame), s.alive = true → n < 2048 → s.redOn n = true → s.redRole n = 0 → m < 2 →
      (s.memberUp n m = false → exec (.hitlessMemberFrame n m f) s = .next (s.memberTo n m 0))
      ∧ (s.memberUp n m = true → s.memActive = true → ((s.red n).member m).st = 1 →
        exec (.hitlessMemberFrame n m f) s = .next (s.hlHunt n m (f.pseq % s.redMod n)))
      ∧ (s.memberUp n m = true → s.memActive = true → ((s.red n).member m).st ≠ 0 → ((s.red n).member m).st ≠ 1 →
        exec (.hitlessMemberFrame n m f) s = .next (s.hlFrame n m f)))
    ∧ (∀ (s : State) (n m : Nat), s.alive = true → n < 2048 → s.redOn n = true → usesMem (s.redRole n) = true →
      (s.red n).sched = false → s.earliest n = some m →
      ((s.upMembers n).all fun k => ((s.red n).member k).st == 2) = true →
      exec (.scheduleSet n) s = .next (s.modRed n fun r => { r with
        sched := true, next := (s.firstPlay n m).1, playAt := (s.firstPlay n m).2, period := s.redPeriod n
        frame := [], frameBad := true
        a := r.a.from_ (s.redMod n) (s.firstPlay n m).1, b := r.b.from_ (s.redMod n) (s.firstPlay n m).1
        c := r.c.from_ (s.redMod n) (s.firstPlay n m).1 }))
    ∧ (∀ (s : State) (n : Nat), s.alive = true → n < 2048 → s.redOn n = true → (s.red n).sched = true →
      s.due (s.red n).noneSince = true → exec (.scheduleDiscard n) s = .next (s.modRed n fun r => { r with
        sched := false, noneSince := none, outMaint := true, playAt := 0, period := 0
        a := { r.a with held := [] }, b := { r.b with held := [] }, c := { r.c with held := [] } }))
    ∧ (∀ (s : State) (n : Nat), s.playDue n = false → exec (.hitlessPlayout n) s = .next s)
    ∧ (∀ (s : State) (n : Nat), s.alive = true → n < 2048 → s.redOn n = true → s.redRole n = 0 → s.playDue n = true →
      ∃ t u : State, t = s.hlPlay n ∧ u = t.snoopOn true n (t.red n).out ∧ exec (.hitlessPlayout n) s = .next (
        if (t.red n).next = (s.red n).next ∨ (t.red n).frame ≠ [] then t
        else if (s.redSig n).1 = 13 ∨ (s.redSig n).1 = 14 then
          u.remapFeed (redEp n 3) ((s.redSig n).1 == 14) ((u.red n).out.flatMap bitsMsb)
        else u))
    ∧ (∀ (s : State) (n : Nat) (h : Held), s.redOn n = true → s.redRole n = 0 → s.playDue n = true →
      s.memActive = true → (s.red n).a.copy (s.red n).next = some h → h.usable = true → h.clean = true →
      (s.red n).current = some 0 → s.wf = true →
      s.hlPlay n = (s.modRed n fun r => r.played (s.redMod n) (s.red n).next).modRed n fun x =>
        { x with outMaint := false, out := h.data, current := some 0 })
    ∧ (∀ (s : State) (n : Nat), s.redOn n = true → s.redRole n = 0 → s.playDue n = true →
      (s.memActive = true → (s.red n).a.rankOf (s.red n).next = 0 ∧ (s.red n).b.rankOf (s.red n).next = 0) →
      s.hlPlay n = ((s.modRed n fun r => r.played (s.redMod n) (s.red n).next).countTbl 5 n 6 31 0 1).modRed n fun r =>
        { r with outMaint := true, out := maintFrame (s.redSig n).1 })
    ∧ (∀ (s : State) (c n m : Nat), s.alive = true → c < 192 → s.redOn n = true → s.redRole n = 0 →
      s.memberCh n m = some c → s.due ((s.red n).member m).lossAt = true → ((s.ch c).dupMarks.contains (n, m)) = false →
      s.defHeld c dDUP = false →
      ∃ t : State, t = ((s.modCh c fun h => { h with dupMarks := if h.dupMarks.contains (n, m) then h.dupMarks
          else h.dupMarks ++ [(n, m)] }).modRed n fun r => r.setMember m { r.member m with lossAt := none })
        ∧ exec (.dupLossTimerExpiry c n m) s = .next (t.setDef c dDUP (!(t.ch c).dupMarks.isEmpty)))

/-- R288 to R295: voting. A slot of a member in signal fail makes it NONE, one of a member in HUNT is searched, one of
an aligned member is judged. The voter emits what at least two valid copies agree on and marks those that differ, one
valid copy of three only where the stream is not strict, and maintenance otherwise. An idle slot of a transmitter spends
no number; a data slot spends one, and a frame's first block has a number that the frame's blocks divide. dVOTE_DIS
clears when its time is over. Choices of the model that it rests on: notes/assumptions/7, 143, 189, 190, 191 (log
entries). -/
def Obligations.VotingStreams : Prop :=
  (∀ (s : State) (n m : Nat) (b : VoteBlock), s.alive = true → n < 2048 → s.redOn n = true → s.redRole n = 2 → m < 3 →
      b.bseq < 65536 →
      (s.memberUp n m = false → exec (.voteMemberBlock n m b) s = .next (s.memberTo n m 0))
      ∧ (s.memberUp n m = true → s.memActive = true → ((s.red n).member m).st = 1 →
        exec (.voteMemberBlock n m b) s = .next (s.voteHunt n m b))
      ∧ (s.memberUp n m = true → s.memActive = true → ((s.red n).member m).st ≠ 0 → ((s.red n).member m).st ≠ 1 →
        exec (.voteMemberBlock n m b) s = .next (s.voteSlot n m b)))
    ∧ (∀ (s : State) (n : Nat), s.playDue n = false → exec (.voteEmit n) s = .next s)
    ∧ (∀ (s : State) (n : Nat), s.alive = true → n < 2048 → s.redOn n = true → s.redRole n = 2 → s.playDue n = true →
      ∃ t u : State, t = s.voteEmit n ∧ u = t.snoopOn true n (t.red n).out ∧ exec (.voteEmit n) s = .next (
        if (t.red n).next = (s.red n).next ∨ (t.red n).frame ≠ [] then t
        else if (s.redSig n).1 = 13 ∨ (s.redSig n).1 = 14 then
          u.remapFeed (redEp n 3) ((s.redSig n).1 == 14) ((u.red n).out.flatMap bitsMsb)
        else u))
    ∧ (∀ (s : State) (c : Nat), s.alive = true → c < 192 → s.due (s.ch c).voteMark = true → s.defHeld c dVDIS = false →
      exec (.voteDisClearTimer c) s = .next ((s.modCh c fun h => { h with voteMark := none }).setDef c dVDIS false))
    ∧ (∀ (s : State) (n : Nat) (l : List Byte), s.alive = true → n < 2048 → s.redOn n = true → s.redRole n = 3 →
      l.length = 64 → ∃ (q : Nat) (o : List Byte), q = frameStartAt (s.redSig n).1 (s.red n).outSeq
        ∧ o = l ++ [BitVec.ofNat 8 (q / 256), BitVec.ofNat 8 q] ++ wordBytes (BitVec.ofNat 32 (s.voteCheck n l q))
        ∧ exec (.voteTxSlot n (some ⟨l, true⟩)) s = .next (s.modRed n fun r => { r.intoCarrier (s.redSig n).1 o with
            out := o, outMaint := s.txMaint n, outSeq := (q + 1) % s.redMod n, startAt := some (q, s.nowNs) }))
    ∧ (∀ (s : State) (n : Nat), s.alive = true → n < 2048 → s.redOn n = true → s.redRole n = 3 →
      ∃ (q : Nat) (o : List Byte), q = (s.red n).outSeq
        ∧ o = block64 0 ++ [BitVec.ofNat 8 (q / 256), BitVec.ofNat 8 q]
              ++ wordBytes (BitVec.ofNat 32 (s.voteCheck n (block64 0) q ^^^ (2 ^ (s.redAlg n).width - 1)))
        ∧ exec (.voteTxSlot n none) s = .next (s.modRed n fun r => { r.intoCarrier (s.redSig n).1 o with
            out := o, outMaint := s.txMaint n, outSeq := q, startAt := r.startAt }))
    ∧ (∀ (strict : Bool) (x y z : Held), x.valid = true → y.valid = true → z.valid = true → x.data = y.data →
      z.data ≠ x.data → verdict strict [(0, x), (1, y), (2, z)] = { data := some x.data, disagree := true, marked := [2] })
    ∧ (∀ (strict : Bool) (x y z : Held), x.valid = true → y.valid = false → z.valid = false →
      verdict strict [(0, x), (1, y), (2, z)]
        = { data := if strict then none else some x.data, disagree := true, marked := [1, 2] })
    ∧ (∀ (strict : Bool) (x y : Held), x.valid = true → y.valid = true → x.data ≠ y.data →
      verdict strict [(0, x), (1, y)] = { data := none, disagree := true, marked := [0, 1] })
    ∧ (∀ (strict : Bool) (x : Held), verdict strict [(0, x)] = { data := none, disagree := false, marked := [] })

/-! ### FRER and the delay memory (09_hitless_and_voting.md) -/

/-- R284 to R287, R331, R333: FRER. A frame of a member in signal fail or with a wrong FCS is nothing; one that comes in
GFP is descrambled and delineated first. A frame without an entry passes from member 0; a frame of an entry is recovered
by its number, the first one after a reset is always taken, and a number seen before is discarded. Generation gives each
frame the next number, and a twin that follows holds the frame 60 µs for the holder's number. RESET_MS without a frame
makes the recovery take any number. Choices of the model that it rests on: notes/assumptions/32, 166, 192, 193 (log
entries). -/
def Obligations.FrerFrames : Prop :=
  (∀ (s : State) (n : Nat) (f : FrerFrame), s.alive = true → n < 2048 → s.redOn n = true → s.redRole n = 4 →
      s.frerEntry n f.vid false = none → s.memberUp n 0 = true → s.memberUp n 1 = true → f.gfp = none →
      f.fcs = fcsOf f.bytes →
      exec (.frerRxFrame n 0 f) s = .next (s.frerOut n f) ∧ exec (.frerRxFrame n 1 f) s = .next s)
    ∧ (∀ (s t : State) (n : Nat) (f g : FrerFrame), s.alive = true → n < 2048 → s.redOn n = true → s.redRole n = 4 →
      s.memberUp n 0 = true → s.frerDemap n 0 f = (t, some g) → t.frerEntry n g.vid false = none →
      g.fcs = fcsOf g.bytes → exec (.frerRxFrame n 0 f) s = .next (t.frerOut n g))
    ∧ (∀ (s t : State) (n m : Nat) (f : FrerFrame), s.alive = true → n < 2048 → s.redOn n = true → s.redRole n = 4 →
      m < 2 → s.memberUp n m = true → s.frerDemap n m f = (t, none) → exec (.frerRxFrame n m f) s = .next t)
    ∧ (∀ (s : State) (n m : Nat) (f : FrerFrame), s.memberUp n m = false ∨ f.gfp = none ∧ f.fcs ≠ fcsOf f.bytes →
      exec (.frerRxFrame n m f) s = .next s)
    ∧ (∀ (s : State) (n m e q : Nat) (f : FrerFrame), s.alive = true → n < 2048 → s.redOn n = true → s.redRole n = 4 →
      m < 2 → s.memberUp n m = true → f.gfp = none → f.fcs = fcsOf f.bytes → s.frerEntry n f.vid false = some e → f.rtag = some q →
      q < 65536 →
      (exec (.frerRxFrame n m f) s = .next (s.frerRecover n e f q))
      ∧ ((s.frer e).takeAny = true → s.frerRecover n e f q
          = (s.modFrer e fun x => { x with takeAny := false, recovSeq := q, history := [true] }).frerPass n e f)
      ∧ ((s.frer e).takeAny = false → (s.frer e).recovSeq = q → (s.frer e).history[0]? = some true →
          s.frerRecover n e f q = s.countTbl 6 e 3 31 0 1))
    ∧ (∀ (s : State) (n : Nat) (f : FrerFrame), s.alive = true → n < 2048 → s.redOn n = true → s.redRole n = 5 →
      s.paired = false → f.gfp = none → s.frerEntry n f.vid true = none → exec (.frerTxFrame n f) s = .next (s.frerOut n f))
    ∧ (∀ (s : State) (n e : Nat) (f : FrerFrame), s.alive = true → n < 2048 → s.redOn n = true → s.redRole n = 5 →
      s.paired = false → f.gfp = none → s.frerEntry n f.vid true = some e → f.len + 6 ≤ 9600 →
      exec (.frerTxFrame n f) s
        = .next ((s.modFrer e fun x => { x with nextSeq := ((s.frer e).nextSeq + 1) % 65536 }).frerTag n e f (s.frer e).nextSeq))
    ∧ (∀ (s : State) (n e : Nat) (f : FrerFrame), s.alive = true → n < 2048 → s.redOn n = true → s.redRole n = 5 →
      s.paired = true → s.twinRole = 3 → s.twin.up = true → f.gfp = none → s.frerEntry n f.vid true = some e →
      exec (.frerTxFrame n f) s
        = .next (s.modFrer e fun x => { x with waiting := x.waiting ++ [(f, s.owl + 60)] }))
    ∧ (∀ (s : State) (n e q : Nat) (f : FrerFrame), f.len + 6 ≤ 9600 → s.frerTag n e f q
        = ((s.countTbl 6 e 2 31 0 1).setTbl 6 e 5 (setFld (s.tbl 6 e 5) 15 0 ((q + 1) % 65536))).frerOut n
            { f with
              gfp := none
              bytes := f.bytes.take (rtagAt f.bytes) ++ [0xF1, 0xC1, 0, 0, BitVec.ofNat 8 (q / 256), BitVec.ofNat 8 q]
                ++ f.bytes.drop (rtagAt f.bytes)
              fcs := fcsOf (f.bytes.take (rtagAt f.bytes) ++ [0xF1, 0xC1, 0, 0, BitVec.ofNat 8 (q / 256), BitVec.ofNat 8 q]
                ++ f.bytes.drop (rtagAt f.bytes)) })
    ∧ (∀ (s : State) (e : Nat), s.alive = true → e < 2048 → s.due (s.frer e).resetAt = true →
      exec (.frerResetTimer e) s
        = .next (s.modFrer e fun x => { x with takeAny := true, history := [], resetAt := none }))
    ∧ (∀ (s : State) (n vid q e : Nat) (fcs : Word) (f : FrerFrame) (t : Nat) (rest : List (FrerFrame × Nat)),
      s.alive = true → s.paired = true → s.twin.up = true → s.holder = false → s.frerEntry n vid true = some e →
      takeFcs fcs (s.frer e).waiting = some ((f, t), rest) → q < 65536 →
      exec (.frerSeqRx n vid q { val := fcs }) s
        = .next ((s.modFrer e fun x => { x with waiting := rest, nextSeq := (q + 1) % 65536 }).frerTag n e f q))
    ∧ (∀ (s : State) (n vid e : Nat) (fcs : Word) (f : FrerFrame) (t : Nat) (rest : List (FrerFrame × Nat)),
      s.alive = true → s.frerEntry n vid true = some e → takeFcs fcs (s.frer e).waiting = some ((f, t), rest) →
      t ≤ s.owl →
      exec (.frerSeqWaitTimeout n vid fcs) s
        = .next ((s.modFrer e fun x => { x with waiting := rest }).countTbl 6 e 3 31 0 1))

/-- R274, R303: the delay memory. It becomes active when it has left self-refresh, and a failure to do so raises source
17; it rests 10 ms after its last stream; the scrub counts what it corrects and what it cannot, spoils the frame or
block a bad location lies in, and raises source 16 at most once in 1 ms. Choices of the model that it rests on:
notes/assumptions/33 (log entries). -/
def Obligations.DelayMemory : Prop :=
  (∀ s : State, s.alive = true → s.rf 0x7080 31 30 = 1 → s.memWake.isSome = true →
      exec (.delayMemoryReady true) s = .next { s.setRf 0x7080 31 30 2 with memWake := none }
        ∧ exec (.delayMemoryReady false) s = .next { s.levelOn { src := 17 } with memWake := none })
    ∧ (∀ s : State, s.alive = true → s.rf 0x7080 31 30 = 1 → s.memWake = none →
      exec (.delayMemoryReady true) s = .next { (s.levelOff 17).setRf 0x7080 31 30 2 with memWake := none }
        ∧ exec (.delayMemoryReady false) s = .next s)
    ∧ (∀ s : State, s.alive = true → s.due s.memSleep = true → s.memStreams = 0 →
      exec .delayMemorySelfRefresh s = .next { s.setRf 0x7080 31 30 0 with memSleep := none, memWake := none })
    ∧ (∀ (s : State) (n : Nat) (bad : List MemErr), s.alive = true → s.rf 0x7080 31 30 = 2 →
      ∃ t : State, t = bad.foldl State.memSpoil ((s.count 0x70A0 31 0 n).count 0x70A4 31 0 bad.length)
        ∧ exec (.delayMemoryScrub n bad) s = .next (if bad.isEmpty || t.owl < t.memNoteTill then t
            else { t.fault 16 with memNoteTill := t.owl + 1000 }))
    ∧ (∀ (s : State) (n : Nat) (bad : List MemErr), s.rf 0x7080 31 30 ≠ 2 → exec (.delayMemoryScrub n bad) s = .next s)

/-! ### Packet clients (11_packet_clients.md) -/

/-- R150 to R152, R221, R348 to R354, R359: frames from and to a client. A received frame counts what the PCS and the
FEC saw; a sound one of a GFP-F client passes without the packet units, or is classified; any other is dropped. A
policer passes green what both buckets hold, yellow what the peak bucket holds, and red takes no tokens. A core header
that loses delineation ends there; a delineated client management frame with a CSF sets dCSF, a frame of another kind or
with a wrong FCS is dropped; a sound client frame clears dCSF, gives up its check values and joins its queue where it is
admitted, and is counted where it is not. Choices of the model that it rests on: notes/assumptions/56, 58, 59 (log
entries). -/
def Obligations.ClientFrames : Prop :=
  (∀ (s : State) (c : Nat) (f : EthFrame), s.alive = true → c < 192 → isEth (s.client c) = true → s.enabled c = true →
      s.isMember c = false → s.chState c = stInFrame →
      ∃ u : State, u = (s.countCh c 0 f.badBlocks).countCh c 2 f.corr
        ∧ (u.gfpRole c = false → exec (.ethIngressFrame c f) s = .next (u.countCh c 3 f.uncorr))
        ∧ (u.gfpRole c = true → f.fcsOk = true → 64 ≤ f.len → f.len ≤ 9600 → u.pktEn c = false →
          exec (.ethIngressFrame c f) s = .next (u.ingressPass c f none false))
        ∧ (u.gfpRole c = true → f.fcsOk = true → 64 ≤ f.len → f.len ≤ 9600 → u.pktEn c = true →
          exec (.ethIngressFrame c f) s = .next (u.classify c f))
        ∧ (u.gfpRole c = true → f.fcsOk = false → exec (.ethIngressFrame c f) s = .next ((u.fixedErr c 1 1).dropped c)))
    ∧ (∀ (s : State) (p l : Nat) (dei : Bool) (k : Policer), s.entryOn 0x19 p = true → k = s.refilled p →
      (k.tp < 8000 * l → s.police p l dei = (2, (s.setPolicer p k).countTbl 0x19 p 7 31 0 1))
      ∧ (8000 * l ≤ k.tp → k.tc < 8000 * l →
        s.police p l dei = (1, (s.setPolicer p { k with tp := k.tp - 8000 * l }).countTbl 0x19 p 6 31 0 1))
      ∧ (8000 * l ≤ k.tp → 8000 * l ≤ k.tc → bit (s.tbl 0x19 p 0) 30 = false →
        s.police p l dei
          = (0, (s.setPolicer p { k with tp := k.tp - 8000 * l, tc := k.tc - 8000 * l }).countTbl 0x19 p 5 31 0 1)))
    ∧ (∀ (s : State) (c : Nat) (f : EthFrame), s.alive = true → c < 192 → s.gfpRole c = true → s.enabled c = true →
      s.isMember c = false → (s.ch c).mon.gfp = .sync → (s.grp (c / 16)).clk = true →
      ∃ (h : GfpHead) (u t : State), h = s.gfpRead c f ∧ u = s.delineate c f.core ∧ t = u.gfpTake c f
      ∧ ((u.ch c).mon.gfp ≠ .sync → exec (.gfpEgressFrame c f) s = .next u)
      ∧ ((u.ch c).mon.gfp = .sync → h.csf = true → exec (.gfpEgressFrame c f) s = .next (t.csfSeen c true))
      ∧ ((u.ch c).mon.gfp = .sync → h.csf = false → h.client = false → exec (.gfpEgressFrame c f) s = .next (t.dropped c))
      ∧ ((u.ch c).mon.gfp = .sync → h.csf = false → h.client = true → h.frame.1.fcsOk = false →
        exec (.gfpEgressFrame c f) s = .next ((t.fixedErr c 2 1).dropped c))
      ∧ ((u.ch c).mon.gfp = .sync → h.csf = false → h.client = true → h.frame.1.fcsOk = true → h.frame.2 = true →
        (t.crb c 1 6 = true → h.pfi = true) → h.frame.1.len ≤ 9600 →
        ∃ (l : List Byte) (n : Nat) (ok : Bool) (v : State), l = h.frame.1.payload
          ∧ (n, ok, v) = (t.csfSeen c false).snoopCheck ((t.csfSeen c false).snoops 2 c l).reverse l
          ∧ exec (.gfpEgressFrame c f) s
            = .next (if ok then v.enqueue c (l.take (l.length - n)) else v.dropped c)))
    ∧ (∀ (s : State) (c : Nat) (l : List Byte), s.pktEn c = false →
      (s.admission c 0 ((tafStrip l).1.length + 4) = none →
        s.enqueue c l = (s.add48 0x1E (qNum c 0) 4 1).dropped c)
      ∧ (∀ g : Bool, s.admission c 0 ((tafStrip l).1.length + 4) = some g →
        s.enqueue c l = (s.modPkt c fun p => p.modQueue 0 fun k => { k with
          frames := k.frames ++ [{ len := (tafStrip l).1.length + 4, cells := cellsOf ((tafStrip l).1.length + 4)
                                   guar := g, at_ := s.owl, launch := none, flow := none
                                   bytes := (tafStrip l).1 }] }).bufSync))

/-- R357 to R365, R369, R371 to R374, R377, R380, R381: the egress side. With its port idle the highest eligible queue
starts its head frame, and both buckets pay for it; the end of a frame returns its cells; a late or too long head is
discarded; gates follow the list in force, and an armed list takes over at its time with its event; every queue that
holds a frame or shows a level is sampled once a period. Choices of the model that it rests on: notes/assumptions/36,
53, 54, 55, 56, 57 (log entries). -/
def Obligations.EgressScheduling : Prop :=
  (∀ (s : State) (c q : Nat), s.alive = true → c < 192 → s.gfpRole c = true → s.enabled c = true →
      (s.pkt c).busy = none → (s.grp (c / 16)).clk = true → s.pktEn c = false →
      [7, 6, 5, 4, 3, 2, 1, 0].find? (s.eligible c) = some q →
      exec (.schedulerDecision c) s = .next (s.startFrame c q))
    ∧ (∀ (s : State) (c q : Nat) (f : QFrame) (r : List QFrame), ((s.pkt c).queue q).frames = f :: r →
      ∃ t : State, t = (s.takeHead c q f r).countStart c q f ∧ s.startFrame c q
        = State.stampStart { t with
            started := t.started ++ [{ ch := c, queue := q, len := f.len, corr := t.corrOf c f, bytes := t.leaving c f }] } c f)
    ∧ (∀ (s : State) (c : Nat), s.alive = true → c < 192 → s.gfpRole c = true → s.enabled c = true →
      (s.pkt c).busy = none → (s.grp (c / 16)).clk = true → s.pktEn c = true →
      ∃ t : State, t = s.each (List.range 8) (State.purgeQueue c)
        ∧ exec (.schedulerDecision c) s = .next (if t.pktEn c && !mayStart (t.portTokens c) then t
            else match [7, 6, 5, 4, 3, 2, 1, 0].find? (t.eligible c) with
              | some q => t.startFrame c q
              | none => t))
    ∧ (∀ (s : State) (c q : Nat) (f : QFrame) (r : List QFrame), ((s.pkt c).queue q).frames = f :: r → s.pktEn c = true →
      (s.eligible c q = true ↔ (s.gatesNow c).testBit q = true
        ∧ ((s.pkt c).gbEngine = none ∨ s.gated c = false ∨ s.fits c f.len (s.openTime c q) = true)
        ∧ mayStart (s.queueTokens c q) = true ∧ (∀ t, f.launch = some t → t ≤ s.nowNs)))
    ∧ (∀ (s : State) (c : Nat), s.alive = true → c < 192 → (s.pkt c).busy.isSome = true →
      exec (.egressFrameEnd c) s = .next (((s.modPkt c fun p => { p with busy := none }).bufSync).checkStop (c / 16)))
    ∧ (∀ (s : State) (c q : Nat), s.alive = true → c < 192 → q < 8 → s.pktEn c = true →
      exec (.tafLate c q) s = .next (State.purgeQueue c s q))
    ∧ (∀ (s : State) (c : Nat), s.alive = true → c < 192 → (s.grp (c / 16)).clk = true →
      exec (.gateEntryChange c) s = .next (s.gateApply c))
    ∧ (∀ (s : State) (c : Nat), (s.pkt c).busy = none → s.gateApply c
        = s.modPkt c fun p => { p with entry := (s.gateEntry c).1, gates := s.gatesNow c })
    ∧ (∀ (s : State) (c : Nat) (a : GateList), s.alive = true → c < 192 → (s.grp (c / 16)).clk = true →
      (s.pkt c).armed = some a → a.at_ ≤ s.nowNs →
      ∃ u : State, u = (s.modPkt c fun p => { p with running := some a, armed := none, bank := 1 - p.bank })
        ∧ exec (.gateListActivation c) s
          = .next ((if u.crb c 17 31 then u.event 0x03 (c / 16) c 0x30 else u).gateApply c))
    ∧ (∀ (s : State) (k : Nat), s.alive = true → s.clocked = true → k = s.nowNs / 1000 / s.samplePeriod * s.samplePeriod →
      k ≠ s.sampledAt → exec .queueSample s = .next ({ s with sampledAt := k }.each s.sampled State.sampleQueue))

/-- R356, R366, R368, R371: the commands that program policers, shapers and gate lists, each alone. A policer and a
shaper take their rates and start with the bucket the rules give; a list is armed for its time, and an armed one is
cancelled. Choices of the model that it rests on: notes/assumptions/62, 115 (log entries). -/
def Obligations.PacketCommands : Prop :=
  (∀ (s : State) (q : Req) (p a b d e : Word), s.ready 0x0405 = true → p.toNat < 4096 →
      bit (s.tbl 0x19 p.toNat 0) 31 = true → a.toNat ≤ b.toNat → b.toNat ≤ 100000000 →
      9600 ≤ d.toNat → d.toNat ≤ 16777215 → 9600 ≤ e.toNat → e.toNat ≤ 16777215 →
      exec (.policerSet q [p, a, b, d, e]) s
        = .next ((((s.setTblWords 0x19 0 p.toNat 1 [a, b, d, e]).fillPolicer p.toNat).finish q 0x0405 stOk 0 []).startHeld))
    ∧ (∀ (s : State) (q : Req) (w r b : Word), s.ready 0x0406 = true → fld w 23 16 < 192 → onlyBits w 0xC0FF0007 = true →
      0 < r.toNat → r.toNat ≤ 100000000 → 0 < b.toNat → b.toNat ≤ 16777215 →
      (bit w 31 = false → bit (s.tbl 0x1B (qNum (fld w 23 16) (fld w 2 0)) 0) 31 = true →
        ∃ t : State, t = (s.setTbl 0x1B (qNum (fld w 23 16) (fld w 2 0)) 0
            (setBit (s.tbl 0x1B (qNum (fld w 23 16) (fld w 2 0)) 0) 30 (bit w 30))).setTblWords 0x1B 0
              (qNum (fld w 23 16) (fld w 2 0)) 1 [r, b]
          ∧ exec (.shaperSet q [w, r, b]) s
            = .next (((t.resetQueue (fld w 23 16) (fld w 2 0)).finish q 0x0406 stOk 0 []).startHeld))
      ∧ (bit w 31 = true → bit (s.tbl 0x1C (fld w 23 16) 0) 31 = true →
        ∃ t : State, t = (s.setTbl 0x1C (fld w 23 16) 0 (setBit (s.tbl 0x1C (fld w 23 16) 0) 30 (bit w 30))).setTblWords
            0x1C 0 (fld w 23 16) 1 [r, b]
          ∧ exec (.shaperSet q [w, r, b]) s = .next (((t.resetPort (fld w 23 16)).finish q 0x0406 stOk 0 []).startHeld)))
    ∧ (∀ (s : State) (q : Req) (w a b d : Word) (c len at_ : Nat), s.ready 0x0407 = true → c = fld w 23 16 →
      len = fld w 5 0 + 1 → at_ = (s.time.sec / 2 ^ 32 * 2 ^ 32 + a.toNat) * 1000000000 + b.toNat → c < 192 →
      onlyBits w 0x80FF003F = true →
      (bit w 31 = false → b.toNat ≤ 999999999 → s.nowNs + 100000 ≤ at_ → at_ ≤ s.nowNs + 1000000000000 →
        (s.pkt c).armed = none → (List.range len).any (s.badInterval c) = false → 1000 ≤ d.toNat → d.toNat ≤ 1000000000 →
        s.gfpRole c = true → exec (.gateArm q [w, a, b, d]) s
          = .next (((s.modPkt c fun p => { p with armed := some { at_ := at_, cycle := d.toNat, len := len } }).finish q 0x0407
              stOk 0 []).startHeld))
      ∧ (bit w 31 = true → s.gfpRole c = true → exec (.gateArmCancel q [w, a, b, d]) s
          = .next (((s.modPkt c fun p => { p with armed := none }).finish q 0x0407 stOk 0 []).startHeld)))

/-! ### Reference clocks (12_reference_clocks.md) -/

/-- R388 to R398, R409, R412: the selector. A candidate that loses its activity shows no offset and is disqualified;
each measurement, at most one in 100 ms, takes its offset against the nominal and counts runs inside and outside the
window; the end of a switch is followed by 1 s before lock and by an evaluation; WTR and the silence of SOFT are
evaluated; an evaluation outside a switch moves the selection to its target. The event timer of each candidate reports
and is idle. A locked loop drives the steer with the bandwidth of its candidate (DESIGN CHOICE,
notes/assumptions/200.md). Choices of the model that it rests on: notes/assumptions/47, 48, 49, 51, 200 (log entries).
-/
def Obligations.ReferenceSelection : Prop :=
  (∀ (s : State) (n : Nat), s.clocked = true → n < 13 → (s.cand n).active = true →
      n < 4 ∨ s.candSeen n = false ∨ s.candEnabled n = false →
      exec (.refActivityLoss n) s
        = .next (((s.modCand n fun k => { k with active := false }).setReg (0x2040 + 4 * n) noOffset).disqualify n 1))
    ∧ (∀ (s : State) (l : List (Nat × Int)), s.alive = true → s.running = true → s.refs.measured + 100000 ≤ s.owl →
      exec (.refFreqMeasure l) s
        = .next (l.foldl (fun t e => t.refMeasure e.1 e.2) (s.modRefs fun r => { r with
            measured := s.owl, sum := r.sum + (r.steer + s.nominal), samples := r.samples + 1 })))
    ∧ (∀ (s : State) (n : Nat) (ppt : Int), n < 12 → s.candEnabled n = true → s.candSeen n = true →
      s.refMeasure n ppt = ((s.modCand n fun k => { k with active := true }).setReg (0x2040 + 4 * n)
        (satSigned ((ppt - s.nominal) / 1000))).refRun n ((ppt - s.nominal) / 1000))
    ∧ (∀ s : State, s.clocked = true → s.refs.state = 1 → exec .refSwitchEnd s
        = .next ((s.modRefs fun r => { r with state := 2, lockAt := some (s.owl + 1000000) }).refEvaluate))
    ∧ (∀ s : State, s.clocked = true → s.refs.state = 2 → s.due s.refs.lockAt = true →
      s.reg (0x2040 + 4 * s.refs.selected) ≠ noOffset →
      (s.refs.steer - sword (s.reg (0x2040 + 4 * s.refs.selected)) * 1000).natAbs ≤ 50000 → exec .refLockReached s
        = .next ((s.modRefs fun r => { r with
            state := 3, lockAt := none, phase := 0, integ := r.steer * loopUnit }).refOccur 15 4 s.refs.selected))
    ∧ (∀ s : State, s.clocked = true → s.manual ≤ 11 → s.restoreOk s.manual = true →
      exec .refWtrExpiry s = .next s.refEvaluate)
    ∧ (∀ s : State, s.clocked = true → s.refs.state = 4 → s.rf 0x2000 15 8 ≠ 0 → s.due s.refs.softAt = true →
      exec .softTimeout s
        = .next (((s.modRefs fun r => { r with softOut := true, softAt := none }).refOccur 15 7 0).refEvaluate))
    ∧ (∀ (s : State) (n : Nat), s.alive = true → n < 16 → s.wf = true → s.due (s.hold (holdRef n)).at_ = true →
      ∃ t : State, t = s.refExpiry n ∧ exec (.refEventHoldoffExpiry n) s = .next (owlOn s t)
        ∧ t.hold (holdRef n) = (s.hold (holdRef n)).settled ∧ t.refs = s.refs)
    ∧ (∀ (s : State) (x : Int), s.refs.state = 3 → s.reg (0x2040 + 4 * s.refs.selected) ≠ noOffset →
      x = sword (s.reg (0x2040 + 4 * s.refs.selected)) * 1000 → ∃ u : State,
      u = (s.modRefs fun r => { r with
            phase := r.phase + (x - r.steer)
            integ := r.integ + loopGain s.refs.selected * loopGain s.refs.selected * (r.phase + (x - r.steer)) })
        ∧ s.refSlew = u.pull ((u.refs.integ + loopScale * loopGain s.refs.selected * u.refs.phase) / loopUnit))
    ∧ (∀ s : State, s.refs.state ≠ 1 → s.refTarget ≠ s.refs.selected → s.refTarget ≠ 13 → s.refEvaluate
        = (s.modRefs fun r => { r with
            selected := s.refTarget, state := if s.refTarget = 15 then 0 else 1, pend := false, lockAt := none }).selEvent)
    ∧ (∀ s : State, s.refEn = false → s.refTarget = 15)

/-- R397, R398, R404, R405: REF_SELECT stores the manual choice and answers what it did; DCO_SET gives SOFT its steer,
clamped, and restarts its silence. Neither is taken from a twin that does not decide for the pair, or outside its mode.
Choices of the model that it rests on: notes/assumptions/50 (log entries). -/
def Obligations.ReferenceCommands : Prop :=
  (∀ (s : State) (q : Req) (w : Word) (m : Nat), s.ready 0x0601 = true → s.notActive = false → m = w.toNat →
      m ≤ 15 → m ≠ 12 → m ≠ 14 → s.refEn = true → fld (s.reg 0x2000) 29 26 ≠ m →
      ∃ t : State, t = ((s.setRf 0x2000 29 26 m).trpAgree 0x2000).refSelChanged (s.reg 0x2000) ∧ exec (.refSelect q [w]) s
        = .next ((t.finish q 0x0601 stOk 0 [BitVec.ofNat 32 (if t.refs.frozen then 3
            else if t.refs.selected = m ∨ m = 15 then 0 else if m ≤ 11 ∧ t.restoreOk m = false then 1
            else if s.refs.state = 1 then 2 else 1)]).startHeld))
    ∧ (∀ (s : State) (q : Req) (w : Word), s.ready 0x0601 = true → s.notActive = true →
      exec (.refSelect q [w]) s = .next ((s.finish q 0x0601 eNotActive 0 []).startHeld))
    ∧ (∀ (s : State) (q : Req) (w : Word), s.ready 0x0602 = true → s.manual = 13 → s.rf 0x2000 15 8 ≠ 0 →
      ∃ t : State, t = (s.modRefs fun r => { r with
            softWord := s.clampSteer (sword w), softOut := false, softAt := some (s.owl + 1000000 * s.rf 0x2000 15 8) }).refEvaluate
        ∧ ∃ u : State, u = (if t.refs.state = 4 then t.setSteer (sword w) else t)
        ∧ exec (.dcoSet q [w]) s = .next ((u.finish q 0x0602 stOk 0 [ofSigned u.refs.softWord]).startHeld))
    ∧ (∀ (s : State) (q : Req) (w : Word), s.ready 0x0602 = true → s.manual ≠ 13 →
      exec (.dcoSet q [w]) s = .next ((s.finish q 0x0602 eParam 0 []).startHeld))

/-! ### Device time (13_time_and_stamps.md) -/

/-- R223, R406, R407, R413, R414, R423, R425, R435, R436: what device time does on its own. An accepted PPS edge is
stamped and counted with its event, one within 0.9 s of the last is rejected and flagged; an enabled output pulses once
a second; a trigger that is reached disarms, sets FIRED, raises its event and takes its snapshot; the arming of a step
ends after 60 s; SLEWING ends with the correction; a second that is over closes; and the counter carries into the
seconds. Choices of the model that it rests on: notes/assumptions/43, 44, 45, 46, 52 (log entries). -/
def Obligations.TimeEvents : Prop :=
  (∀ (s : State) (n : Nat) (rising : Bool), s.alive = true → n < 2 → s.rb 0x3030 (31 - 2 * n) = true →
      rising ≠ s.rb 0x3030 (30 - 2 * n) → s.clocked = true →
      (Store.get none s.time.ppsLast n = none → exec (.ppsInEdge n rising) s
        = .next ((((({ s with time := { s.time with ppsLast := Store.set none s.time.ppsLast n (some s.time.tclk) } }.setReg
            (0x3034 + 8 * n) (BitVec.ofNat 32 s.time.sec)).setReg (0x3038 + 8 * n) (BitVec.ofNat 32 (2 ^ 31 + s.ns))).count
              0x3044 (31 - 16 * n) (24 - 16 * n) 1).timeEvent (0x10 + n))))
      ∧ (∀ t, Store.get none s.time.ppsLast n = some t → s.time.tclk < t + ppsGap → exec (.ppsInEdge n rising) s
        = .next ((s.count 0x3044 (23 - 16 * n) (16 - 16 * n) 1).setRb 0x3028 (29 - n) true)))
    ∧ (∀ (s : State) (n : Nat), s.alive = true → s.ppsOutOn n = true → s.clocked = true →
      s.ppsPos n % 1000000000 < 1002 → Store.get none s.time.ppsMark n ≠ some (s.ppsPos n / 1000000000) →
      exec (.ppsOutEdge n) s = .next { s with
        ppsOut := s.ppsOut ++ [n]
        time := { s.time with
          ppsMark := Store.set none s.time.ppsMark n (some (s.ppsPos n / 1000000000))
          ppsEnd := Store.set none s.time.ppsEnd n (some (s.owl + 1000 * max 1 (min 500 (s.rf (0x20A0 + 4 * n) 28 20)))) } })
    ∧ (∀ (s : State) (n : Nat), s.alive = true → n < 4 → s.rb (trigCtl n) 31 = true →
      s.trigNs n (Store.get 0 s.time.trigHi n) ≤ s.nowNs →
      ∃ t : State, t = ((s.trigOff n).setRb (trigCtl n) 30 true).timeEvent (0x30 + n) ∧ exec (.triggerFire n) s
        = .next (if t.rf (trigCtl n) 29 28 = 1 then t.snapshot false
          else if t.rf (trigCtl n) 29 28 = 2 then t.snapshot true else t))
    ∧ (∀ s : State, s.alive = true → s.due s.time.armTill = true → exec .stepArmExpiry s
        = .next { s.setRb 0x3000 30 false with time := { s.time with armTill := none } })
    ∧ (∀ s : State, s.alive = true → s.time.slew = 0 → exec .slewDone s
        = .next ((s.setReg 0x302C 0).setRb 0x3000 29 false))
    ∧ (∀ s : State, s.alive = true → s.time.sec ≠ s.time.open_ → exec .pmSecondClose s
        = .next ((s.refHistory s.time.open_).closeSecond false))
    ∧ (∀ (t : Clock) (n : Nat), t.sub < 1000000000 * 2 ^ 48 → (t.add n).sub < 1000000000 * 2 ^ 48
        ∧ (t.sec < 2 ^ 48 → (t.add n).sec < 2 ^ 48)
        ∧ (n + t.sub < 1000000000 * 2 ^ 48 → t.sec < 2 ^ 48 → (t.add n).sec = t.sec ∧ (t.add n).sub = t.sub + n))

/-- R229 to R231, R420 to R425, R433, R434: the commands of device time, each alone. A step sets the time and answers
the difference, and is refused with its flag and event where time is valid and no step is armed; a rate and a correction
within their limits take effect; stamps are popped in order; a snapshot and a clearing act at one instant. Choices of
the model that it rests on: notes/assumptions/46, 76 (log entries). -/
def Obligations.TimeCommands : Prop :=
  (∀ (s : State) (q : Req) (w a b : Word) (n : Nat), s.ready 0x0603 = true → bit w 31 = false →
      onlyBits w 0x0000FFFF = true → b.toNat ≤ 999999999 →
      n = (fld w 15 0 * 2 ^ 32 + a.toNat) * 1000000000 + b.toNat → n < timeEndNs →
      (s.timeValid = false ∨ (s.rb 0x3000 30 = true ∧ s.due s.time.armTill = false) →
      exec (.timeStepAbsolute q [w, a, b]) s
        = .next (((s.timeTo n 0).finish q 0x0603 stOk 0 (words64 ((n : Int) - s.nowNs))).startHeld))
      ∧ (s.timeValid = true → s.rb 0x3000 30 = false ∨ s.due s.time.armTill = true →
      exec (.timeStepAbsolute q [w, a, b]) s
        = .next ((((s.setRb 0x3028 30 true).timeEvent 0x21).finish q 0x0603 eJump 0 []).startHeld)))
    ∧ (∀ (s : State) (q : Req) (w a b : Word) (n : Int), s.ready 0x0603 = true → bit w 31 = true →
      onlyBits w 0x80000000 = true → n = (s.nowNs : Int) + signed 64 (a.toNat * 2 ^ 32 + b.toNat) → 0 ≤ n →
      n < timeEndNs →
      (s.timeValid = false ∨ (s.rb 0x3000 30 = true ∧ s.due s.time.armTill = false) →
      exec (.timeStepRelative q [w, a, b]) s
        = .next (((s.timeTo n.toNat (s.time.sub % 2 ^ 48)).finish q 0x0603 stOk 0 (words64 (n - s.nowNs))).startHeld))
      ∧ (s.timeValid = true → s.rb 0x3000 30 = false ∨ s.due s.time.armTill = true →
      exec (.timeStepRelative q [w, a, b]) s
        = .next ((((s.setRb 0x3028 30 true).timeEvent 0x21).finish q 0x0603 eJump 0 []).startHeld)))
    ∧ (∀ (s : State) (q : Req) (w : Word), s.ready 0x0604 = true → -100000000 ≤ sword w → sword w ≤ 100000000 →
      exec (.timeAdjRate q [w]) s = .next (((s.setReg 0x3018 w).finish q 0x0604 stOk 0 [w]).startHeld))
    ∧ (∀ (s : State) (q : Req) (w : Word) (lim : Int), s.ready 0x0605 = true → s.timeValid = true → lim = s.jumpLimit →
      -lim < sword w → sword w < lim → -lim < slewNs s.time.slew + sword w → slewNs s.time.slew + sword w < lim →
      ∃ t : State, t = { s with time := { s.time with slew := s.time.slew + sword w * 1000000 } }.showSlew
        ∧ exec (.timeOffsetAdj q [w]) s = .next ((t.finish q 0x0605 stOk 0 [t.reg 0x302C]).startHeld))
    ∧ (∀ (s : State) (q : Req) (w : Word), s.ready 0x0605 = true → s.timeValid = true → (s.jumpLimit : Int) ≤ sword w →
      exec (.timeOffsetAdj q [w]) s
        = .next ((((s.setRb 0x3028 31 true).timeEvent 0x20).finish q 0x0605 eJump 0 []).startHeld))
    ∧ (∀ (s : State) (q : Req) (w : Word), s.ready 0x0702 = true → onlyBits w 0xFF0000FF = true → fld w 31 24 < 12 →
      1 ≤ fld w 7 0 → fld w 7 0 ≤ 64 → (s.grp (fld w 31 24)).stamps ≠ [] →
      ∃ l : List Stamp, l = (s.grp (fld w 31 24)).stamps ∧ exec (.tsPop q [w]) s
        = .next (((s.setStamps (fld w 31 24) (l.drop (fld w 7 0))).finish q 0x0702 stOk 0
          (BitVec.ofNat 32 (l.take (fld w 7 0)).length :: (l.take (fld w 7 0)).foldl (fun m e => m ++ e.words) [])).startHeld))
    ∧ (∀ (s : State) (q : Req) (w : Word), s.ready 0x0301 = true → onlyBits w 1 = true →
      ∃ t : State, t = s.snapshot (bit w 0) ∧ exec (.snapshot q [w]) s
        = .next ((t.finish q 0x0301 stOk 0 [t.reg 0x8000, t.reg 0x8004, t.reg 0x8008]).startHeld))
    ∧ (∀ (s : State) (q : Req), s.ready 0x0302 = true → exec (.cntClear q [0x80000000]) s
        = .next ((s.clearEvery.finish q 0x0302 stOk 0 []).startHeld))
    ∧ (∀ s : State, ∃ u v : State, u = s.each allCh State.clearCnt
      ∧ v = u.each (u.regs.map Prod.fst) (fun t a => match regInfo (decodeAddr a).1 with
        | some r => t.setReg a (r.cnt.foldl (fun w f => setFld w f.1 f.2 0) (t.reg a))
        | none => t)
      ∧ s.clearEvery = v.each (v.tables.map Prod.fst) fun t k =>
        if (tblCnt (k / 8388608 / 2) (k % 128) || (k / 8388608 / 2 == 0x11 && k / 128 % 65536 % 64 == 3 && k % 128 == 3
            || k / 8388608 / 2 == 0x12 && k % 128 == 1)) && k / 8388608 % 2 = 0
          && !(k / 8388608 / 2 == 6 && k % 128 == 5 && bit (t.tbl 6 (k / 128 % 65536) 0) 30)
        then t.setTbl (k / 8388608 / 2) (k / 128 % 65536) (k % 128) 0 else t)

/-! ### The twin link and the lease (10_twin_pairing.md) -/

/-- R315, R318, R319, R326, R332, R337, R341: the link. A received HELLO shows its four lanes locked and aligned. One of
the other TWIN_ID and version 1 brings the link up, with numbers that start afresh and the meeting of the roles; one of
the own TWIN_ID is a clash, source 24; another version keeps the link down; one with a wrong CRC-32C is only counted. A
lost lane or deskew takes the link down. A frame without an acknowledgement is sent again, and the third time in a row
takes the link down; an acknowledgement frees the frames up to its number. Choices of the model that it rests on:
notes/assumptions/34, 37, 124, 167 (log entries). -/
def Obligations.TwinLink : Prop :=
  (∀ (s : State) (h : Hello), s.alive = true → s.paired = true → s.rb 0x4000 31 = true → s.running = true →
      s.twin.clash = false → h.crc = none ∨ h.crc = some (LinkFrame.check { typ := 1, seq := 0, words := Machine.Hello.words h }) →
      ∃ u : State, u = s.setRf 0x401C 31 27 0x1F
      ∧ (b2n h.twinId = s.rf 0x4018 20 20 → exec (.twinHelloRx h) s
        = .next (((u.levelOn { src := 24 }).modTwin fun t => { t with clash := true }).linkDown 4))
      ∧ (b2n h.twinId ≠ s.rf 0x4018 20 20 → h.version ≠ 1 → exec (.twinHelloRx h) s = .next (u.linkDown 5))
      ∧ (b2n h.twinId ≠ s.rf 0x4018 20 20 → h.version = 1 → s.twin.up = false → h.role ≠ 2 →
        exec (.twinHelloRx h) s = .next ((((((u.setRb 0x401C 26 true).seeFar h.role h.epoch).modTwin fun t => { t with
            up := true, unacked := [], nextSeq := 1, rxSeq := 0, timeouts := 0, refInfoSend := some (s.owl + 1000)
            helloAt := some (s.owl + 100000) }).setRb 0x4018 27 true).twinOccur 0x01 0xFF).meet h)))
    ∧ (∀ (s : State) (h : Hello) (x : Word), s.alive = true → s.rb 0x4000 31 = true → s.running = true → h.crc = some x →
      x ≠ LinkFrame.check { typ := 1, seq := 0, words := Machine.Hello.words h } →
      exec (.twinHelloRx h) s = .next ((s.setRf 0x401C 31 27 0x1F).count 0x4024 15 0 1))
    ∧ (∀ (s : State) (lane : Nat), s.alive = true → lane < 4 → s.rb 0x4000 31 = true →
      exec (.twinLaneLoss lane true) s = .next ((s.setRb 0x401C 27 false).linkDown 2)
        ∧ exec (.twinLaneLoss lane false) s
          = .next (((s.setRb 0x401C (28 + lane) false).setRb 0x401C 27 false).linkDown 1))
    ∧ (∀ s : State, s.alive = true → s.twin.up = true → s.due s.twin.resendAt = true → s.twin.unacked ≠ [] →
      (2 ≤ s.twin.timeouts → exec .retransmitTimeout s = .next (s.linkDown 3))
      ∧ (s.twin.timeouts < 2 → exec .retransmitTimeout s
        = .next ((s.modTwin fun t => { t with
            timeouts := t.timeouts + 1, resendAt := some (s.owl + 10), sent := t.sent ++ s.twin.unacked.take 256
            unacked := (s.twin.unacked.take 256).map (LinkFrame.resent s.owl) ++ t.unacked.drop 256 }).count
              0x4024 31 16 (s.twin.unacked.take 256).length)))
    ∧ (∀ (s : State) (seq : Nat), s.alive = true → s.twin.up = true → ackCount seq s.twin.unacked 0 ≠ 0 →
      s.twin.unacked.length ≤ 256 → ∃ (n lat : Nat) (l : List LinkFrame), n = ackCount seq s.twin.unacked 0
        ∧ l = s.twin.unacked.drop n
        ∧ lat = ((s.twin.unacked.take n).filter fun f => f.typ == 0x10 || f.typ == 0x11).foldl
            (fun m f => max m (s.owl - f.at_)) 0
        ∧ exec (.linkAckRx { val := seq }) s = .next ((s.modTwin fun t => { t with
            unacked := l, timeouts := 0, resendAt := l.head?.map fun f => f.sentAt + 10 }).setRf 0x402C 31 16
              (max (s.rf 0x402C 31 16) (min 0xFFFF lat))))
    ∧ (∀ (s : State) (seq : Nat), s.alive = true → ackCount seq s.twin.unacked 0 = 0 →
      exec (.linkAckRx { val := seq }) s = .next s)
    ∧ (∀ (s : State) (seq : Nat) (x : Word), s.alive = true → s.rb 0x4000 31 = true →
      x ≠ LinkFrame.check { typ := 0x30, seq := 0, words := [BitVec.ofNat 32 seq] } →
      exec (.linkAckRx { val := seq, crc := some x }) s = .next (s.count 0x4024 15 0 1))
    ∧ (∀ s : State, s.alive = true → s.twin.up = true → s.due s.twin.ackAt = true → exec .linkAckTimer s
        = .next ((s.modTwin fun t => { t with ackAt := none }).linkSend 0x30 [BitVec.ofNat 32 s.twin.rxSeq]))
    ∧ (∀ s : State, s.alive = true → s.paired = true → s.rb 0x4000 31 = true → s.due s.twin.helloAt = true →
      exec .helloTimer s = .next ((s.linkSend 0x01 s.helloWords).modTwin fun t => { t with
        helloAt := some (s.owl + if t.up then 100000 else 1000) }))
    ∧ (∀ (s : State) (code : Nat), s.alive = true → code < 256 → s.wf = true → s.due (s.hold (holdTwin code)).at_ = true →
      ∃ t : State, t = s.twinHoldExpiry code ∧ exec (.twinEventHoldoffExpiry code) s = .next (owlOn s t)
        ∧ t.hold (holdTwin code) = (s.hold (holdTwin code)).settled ∧ t.twin = s.twin)

/-- R320 to R326, R334, R343, R530: the lease. The holder renews every 1 ms with its beat and its pins, and an
acknowledged beat moves the lease end, never earlier; at the end of the lease without SOLE it lapses, counted, with
source 20. A standby claims at its claim point, or at once on a yield; a renewal moves its claim point; a claim of a
higher epoch is followed. The pins show what they read, and a claim of SOLE is checked at each change. Choices of the
model that it rests on: notes/assumptions/38, 41, 168 (log entries). -/
def Obligations.TwinLease : Prop :=
  (∀ s : State, s.alive = true → s.holder = true → s.due s.twin.beatAt = true → s.twin.claimRepeat = 0 →
      s.rb 0x4000 31 = true →
      exec .leaseBeat s = .next (owlOn s (((s.modTwin fun t => { t with
        beat := (t.beat + 1) % 2 ^ 32, beatTime := s.owl, beatAt := some (s.owl + 1000) }).linkSend 0x02
          [BitVec.ofNat 32 s.twin.epoch, BitVec.ofNat 32 ((s.twin.beat + 1) % 2 ^ 32)]).modTwin fun t =>
            { t with outP := !t.outP, outN := t.outP })))
    ∧ (∀ (s : State) (k d : Nat), s.alive = true → s.holder = true → s.twin.up = true → k < 2 ^ 32 → d < 64 →
      s.twin.beat = (k + d) % 2 ^ 32 → 1000 * d ≤ s.twin.beatTime → exec (.ackRx s.twin.epoch { val := k }) s
        = .next ((s.seeFar s.twin.farRole s.twin.epoch).modTwin fun t => { t with
            leaseEnd := some (max (s.twin.leaseEnd.getD 0) (s.twin.beatTime - 1000 * d + 2000 + s.leaseLen - 20)) }))
    ∧ (∀ s : State, s.alive = true → s.holder = true → s.rb 0x4018 28 = false →
      (∃ d, s.twin.leaseEnd = some d ∧ d < s.owl) →
      exec .leaseEnd s = .next (owlOn s (((s.restLease.setRole 5 0xFF).count 0x4028 23 16 1).fault 20).checkSole))
    ∧ (∀ (s : State) (d : Nat), s.alive = true → s.paired = true → s.twinRole = 3 → s.twin.claimPoint = some d →
      d < s.owl → ∃ u : State, u = s.claimLease 0 ∧ exec .leaseClaimPoint s = .next (owlOn s (u.modTwin fun t => { t with
        leaseEnd := some (d + 2000 + u.leaseLen - 20), beatAt := some (d + 1000), beatTime := d })))
    ∧ (∀ (s : State) (e k : Nat), s.alive = true → s.paired = true → s.twin.up = true → s.twinRole = 3 →
      s.twin.epoch ≤ e → exec (.yieldRx e { val := k }) s = .next (((if e > s.twin.epoch then
        (s.seeFar 3 e).twinEvent 0x44 0xFF else s.seeFar 3 e).setEpoch e).claimLease 1))
    ∧ (∀ (s : State) (k : Nat), s.alive = true → s.paired = true → s.twin.up = true → s.twinRole = 3 →
      exec (.renewRx s.twin.epoch { val := k }) s = .next (((s.seeFar 4 s.twin.epoch).modTwin fun t => { t with
        claimPoint := some (s.owl + s.leaseLen + 500) }).linkSend 0x03 [BitVec.ofNat 32 s.twin.epoch, BitVec.ofNat 32 k]))
    ∧ (∀ (s : State) (e why : Nat), s.alive = true → s.paired = true → s.twin.up = true → s.twinRole = 3 →
      s.twin.epoch < e → s.twin.yieldAt = none →
      ∃ t : State, t = (s.seeFar 4 e).higherEpoch e false
        ∧ exec (.claimRx e { val := why }) s = .next (if t.twin.yieldAt.isSome then (t.yieldDone true).renewed else t.renewed))
    ∧ (∀ s : State, s.alive = true → s.due s.twin.yieldAt = true → exec .yieldClaimTimeout s = .next (owlOn s (s.yieldDone false)))
    ∧ (∀ (s : State) (b : Bool), s.alive = true → s.phase ≠ .deep → exec (.leaseInChange b b) s
        = .next (((s.modTwin fun t => { t with pinLevel := none, stillAt := none }).setPins (if b then 2 else 1)).checkSole))
    ∧ (∀ s : State, s.alive = true → s.due s.twin.stillAt = true → s.twin.pinLevel.isSome = true →
      exec .leaseInStill s = .next (owlOn s ((s.modTwin fun t => { t with stillAt := none }).setPins 3)))
    ∧ (∀ s : State, s.alive = true → s.phase ≠ .deep → s.rf 0x4018 24 23 = 0 → exec (.twfInChange false true) s
        = .next ((((s.setRf 0x4018 24 23 1).twinOccur 0x31 1).levelOn { src := 23 }).checkSole))

/-! ### The mirror and the commands of the pair (10_twin_pairing.md) -/

/-- R315, R318, R326, R330, R331, R333: what the twins tell each other. A reliable frame that is next in order is taken
and acknowledged within 2 µs, and one with a wrong CRC-32C is only counted; on a twin that follows, its mirrored object
is applied; in a resynchronisation each class of objects is applied when all of it has come, and its end clears UNSYNC
and makes the follower STANDBY. The holder sends its groups' timers and its streams' numbers every 10 ms, each twin its
reference every 1 ms, and a received reference shows the difference of the times. Choices of the model that it rests on:
notes/assumptions/35, 42, 199 (log entries). -/
def Obligations.TwinMirror : Prop :=
  (∀ (s : State) (seq : Nat) (d : MirrorData) (f : LinkFrame), s.alive = true → s.twin.up = true →
      seq = nextSeq s.twin.rxSeq →
      f = { typ := 0x10, seq := seq, words := mirrorHead d.cls d.obj d.off d.words.length ++ d.words } →
      d.crc = none ∨ d.crc = some f.check →
      ∃ t : State, t = (s.modTwin fun w => { w with
            rxSeq := seq, ackAt := if w.ackAt.isSome then w.ackAt else some (s.owl + 2) })
        ∧ exec (.mirrorRx seq d) s = .next (if t.follows then t.applyMirror d else t))
    ∧ (∀ (s : State) (seq : Nat) (d : MirrorData) (f : LinkFrame), s.alive = true → s.twin.up = true →
      seq ≠ nextSeq s.twin.rxSeq →
      f = { typ := 0x10, seq := seq, words := mirrorHead d.cls d.obj d.off d.words.length ++ d.words } →
      d.crc = none ∨ d.crc = some f.check →
      exec (.mirrorRx seq d) s
        = .next (s.modTwin fun w => { w with ackAt := if w.ackAt.isSome then w.ackAt else some (s.owl + 2) }))
    ∧ (∀ (s : State) (seq n : Nat) (d : MirrorData) (f : LinkFrame) (x : Word), s.alive = true → s.rb 0x4000 31 = true →
      d.crc = some x →
      (f = { typ := 0x10, seq := seq, words := mirrorHead d.cls d.obj d.off d.words.length ++ d.words } → x ≠ f.check →
        exec (.mirrorRx seq d) s = .next (s.count 0x4024 15 0 1))
      ∧ (f =
        { typ := 0x11, seq := seq, words := BitVec.ofNat 32 n :: (mirrorHead d.cls d.obj d.off d.words.length ++ d.words) } →
        x ≠ f.check →
        exec (.bulkRx seq n d) s = .next (s.count 0x4024 15 0 1)))
    ∧ (∀ (s : State) (seq n : Nat) (d : MirrorData) (f : LinkFrame), s.alive = true → s.twin.up = true →
      seq = nextSeq s.twin.rxSeq →
      s.paired = true → s.twinRole = 2 →
      f =
        { typ := 0x11, seq := seq, words := BitVec.ofNat 32 n :: (mirrorHead d.cls d.obj d.off d.words.length ++ d.words) } →
      d.crc = none ∨ d.crc = some f.check →
      ∃ t : State, t = (s.modTwin fun w => { w with
            rxSeq := seq, ackAt := if w.ackAt.isSome then w.ackAt else some (s.owl + 2) })
        ∧ (n = s.twin.resync → s.twin.bulk = true → s.twin.bulkHeld.all (fun e => e.cls == d.cls) = true →
          exec (.bulkRx seq n d) s = .next (t.modTwin fun w => { w with bulkHeld := w.bulkHeld ++ [d] }))
        ∧ (n = s.twin.resync → s.twin.bulk = true → s.twin.bulkHeld.any (fun e => e.cls != d.cls) = true →
          exec (.bulkRx seq n d) s = .next ((s.twin.bulkHeld.foldl State.applyMirror
            (t.modTwin fun w => { w with bulkHeld := [] })).modTwin fun w => { w with bulkHeld := w.bulkHeld ++ [d] }))
        ∧ (n ≠ s.twin.resync ∨ s.twin.bulk = false → exec (.bulkRx seq n d) s
          = .next ((t.discardPair.modTwin fun w => { w with resync := n, bulk := true, bulkHeld := [] }).modTwin fun w =>
              { w with bulkHeld := w.bulkHeld ++ [d] })))
    ∧ (∀ s : State, s.alive = true → s.paired = true → s.twin.up = true → s.twin.bulk = true →
      ∃ t : State, t = ((s.twin.bulkHeld.foldl State.applyMirror (s.modTwin fun w => { w with bulkHeld := [] })).modTwin
          fun w => { w with bulk := false }).setUnsync false
        ∧ exec .bulkResyncDone s = .next (if t.twinRole = 2 then (t.setRole 3 0xFF).renewed.checkSole else t))
    ∧ (∀ s : State, s.alive = true → s.holder = true → s.due s.twin.mirrorAt = true →
      ∃ t : State, t = (s.modTwin fun w => { w with mirrorAt := some (s.owl + 10000) })
        ∧ exec .protectionTimerMirror s = .next (t.pgsOn.foldl (fun u p => u.mirror 2 p (u.pgMirror p)) t))
    ∧ (∀ s : State, s.alive = true → s.holder = true → s.twin.up = true → s.faults.safe = false →
      s.due s.twin.seqSyncAt = true →
      ∃ t : State, t = (s.modTwin fun w => { w with seqSyncAt := some (s.owl + 10000) }) ∧ exec .seqSyncTimer s
        = .next ((chunk32 64 (t.txStreams.flatMap fun n =>
            [BitVec.ofNat 32 n, BitVec.ofNat 32 ((t.red n).startAt.getD ((t.red n).outSeq, t.nowNs)).1,
              BitVec.ofNat 32 (((t.red n).startAt.getD ((t.red n).outSeq, t.nowNs)).2 / 1000000000),
              BitVec.ofNat 32 (((t.red n).startAt.getD ((t.red n).outSeq, t.nowNs)).2 % 1000000000)])).foldl (fun u l => u.linkSend 0x12 l) t))
    ∧ (∀ (s : State) (es : List SeqSync), s.alive = true → s.paired = true → s.twin.up = true → s.holder = false →
      exec (.seqSyncRx { val := es }) s = .next ((es.foldl State.seqEntry s).skewFollow))
    ∧ (∀ (s : State) (e : SeqSync) (own : Nat), s.redOn e.stream = true →
      s.redRole e.stream = 1 ∨ s.redRole e.stream = 3 →
      (s.nearStart e.stream e.at_ = some (own, true) → own = e.value % s.txMod e.stream →
        s.seqEntry e = s.modRed e.stream fun r => { r with skewed := false })
      ∧ (s.nearStart e.stream e.at_ = some (own, true) → own ≠ e.value % s.txMod e.stream →
        ∃ k : Nat, k = ahead (s.txMod e.stream) own (e.value % s.txMod e.stream)
          ∧ s.seqEntry e = ((s.modRed e.stream fun r => { r with skewed := false }).modRed e.stream fun r => { r with
            outSeq := (r.outSeq + k) % s.txMod e.stream
            startAt := r.startAt.map fun b => ((b.1 + k) % s.txMod e.stream, b.2)
            outBy := r.outBy.map fun x => (x.1, x.2.map fun v => (v + k) % s.txMod e.stream) }).count 0x4028 15 0 1)
      ∧ (s.nearStart e.stream e.at_ = some (own, false) ∨ s.nearStart e.stream e.at_ = none →
        s.seqEntry e = s.modRed e.stream fun r => { r with skewed := true }))
    ∧ (∀ (s : State) (ppt : Int) (sel sec ns : Nat), s.alive = true → s.paired = true → s.twin.up = true →
      exec (.refInfoRx ppt sel sec { val := ns }) s = .next ((s.modTwin fun t => { t with
        refInfoPpt := ppt, refInfoSel := sel, refInfoAt := some s.owl }).setReg 0x4020
          (satSigned ((s.nowNs : Int) - ((sec * 1000000000 + ns : Nat) : Int)))))
    ∧ (∀ s : State, s.alive = true → s.paired = true → s.twin.up = true → s.due s.twin.refInfoSend = true →
      exec .refInfoTimer s = .next ((s.modTwin fun t => { t with refInfoSend := some (s.owl + 1000) }).linkSend 0x14
        [ofSigned (s.refs.steer + s.nominal), BitVec.ofNat 32 s.refs.selected, BitVec.ofNat 32 s.time.sec, BitVec.ofNat 32 s.ns]))

/-- R334, R338, R340: the commands of the pair, each alone. TWIN_STATUS answers what the registers and the twin's frames
show; a yield of the holder claims the role and waits for the CLAIM; a forwarded packet waits for the twin's reply,
which completes it, and is refused while the link is down. Choices of the model that it rests on: notes/assumptions/37,
38, 39, 110, 115, 201 (log entries). -/
def Obligations.TwinCommands : Prop :=
  (∀ (s : State) (q : Req), s.ready 0x0A01 = true → exec (.twinStatus q []) s
      = .next ((s.finish q 0x0A01 stOk 0 [s.reg 0x4018, s.reg 0x401C, s.reg 0x4020, BitVec.ofNat 32 s.twin.epoch,
        BitVec.ofNat 32 s.leaseN, BitVec.ofNat 32 s.twin.farRole, BitVec.ofNat 32 s.twin.farEpoch,
        BitVec.ofNat 32 s.twin.farAt]).startHeld))
    ∧ (∀ (s : State) (q : Req) (ws : List Word), s.ready 0x0A02 = true → q.src ≠ .twin → 3 ≤ ws.length →
      (s.twin.up = true → exec (.twinForward q ws) s
        = .next (((s.linkSend 0x20 ws).pendOn q 0x0A02 (.forward (fld (wd ws 1) 31 16)) none).startHeld))
      ∧ (s.twin.up = false → exec (.twinForward q ws) s = .next ((s.finish q 0x0A02 eParam 0 []).startHeld)))
    ∧ (∀ (s : State) (q : Req), s.ready 0x0A03 = true → s.yieldStatus = stOk →
      s.claimed (fun c => c == .twinRole) = false →
      exec (.leaseYield q []) s
        = .next (((((s.setPend { req := q, opcode := 0x0A03, job := .leaseYield, pending := s.wasPending q }).claim
            .twinRole).doYield (some q))).startHeld))
    ∧ (∀ (s : State) (q : Req), s.ready 0x0A03 = true → s.claimed (fun c => c == .twinRole) = true →
      exec (.leaseYield q []) s = .next ((s.finish q 0x0A03 eBusy 0 []).startHeld))
    ∧ (∀ (s : State) (q : Req), s.ready 0x0A03 = true → s.claimed (fun c => c == .twinRole) = false → s.yieldStatus ≠ stOk →
      exec (.leaseYield q []) s = .next ((s.finish q 0x0A03 s.yieldStatus 0 []).startHeld))
    ∧ (∀ (s : State) (seq : Nat) (l : List Byte) (p : PendCmd), s.alive = true → s.twin.up = true →
      seq = nextSeq s.twin.rxSeq → beNum l 8 2 ≠ stPending → s.forwardOf (beNum l 4 2) = some p →
      (toWords l).length ≤ maxCount p.req → exec (.fwdReplyRx seq { val := l }) s = .next ((s.modTwin fun w => { w with
            rxSeq := seq, ackAt := if w.ackAt.isSome then w.ackAt else some (s.owl + 2) }).finish p.req p.opcode stOk 0 (toWords l)))

/-! ### Command packets (14_command_packets.md) -/

/-- R440, R446, R450, R452, R453, R464, R466, R468, R471, R482: the host port. While it receives, a packet beyond 16
outstanding commands is discarded, counted and reported; a whole packet that passes the checks of R440 waits for its
execution under its own request and is outstanding; one that fails a check of steps 4 to 10 is answered with the status
of the first that fails and the SOURCE it came with, and nothing waits; a write without a whole packet is counted. A
reply is read in full or stays; an empty queue reads as eight zero bytes; a final reply that is read ends its command,
and PENDING does not. READ_STATUS shows HOST_STAT. While the port is deaf each of these only wakes the device, a write
being counted as cut short. A pending KEY_A is dropped when its time is over, and a field that resets on a read takes
its present value. Choices of the model that it rests on: notes/assumptions/18, 105, 106, 107, 131 (log entries). -/
def Obligations.HostPort : Prop :=
  (∀ (s : State) (l : List Byte), s.alive = true → s.portUp = true → l ≠ [] → 16 ≤ s.outstanding .host →
      exec (.hostWrite l) s = .next ((s.count 0x6018 31 16 1).cmdOccur 0x01 0xFF))
    ∧ (∀ (s : State) (l : List Byte) (n op tag : Nat) (q : Req), s.alive = true → s.portUp = true →
      s.outstanding .host < 16 → n = beNum l 6 2 → n ≤ 1021 → l.length = 12 + 4 * n → crcGood l = true →
      op = beNum l 2 2 → tag = beNum l 4 2 → q = { src := .host, tag := tag, ordered := beNum l 0 1 % 2 == 1 } →
      ∃ ws : List Word, ws = toWords ((l.drop 8).take (4 * n))
        ∧ (s.judge .host l n op tag ws = stOk → exec (.hostWrite l) s = .next (s.modCmd fun c => { c with
            inbox := c.inbox ++ [{ req := q, opcode := op, words := ws }], awaiting := c.awaiting ++ [q] }))
        ∧ (s.judge .host l n op tag ws ≠ stOk → exec (.hostWrite l) s
            = .next ((s.refusalCounts .host l (s.judge .host l n op tag ws)).refuse { q with
                source := if (BitVec.ofNat 8 (beNum l 1 1)).toNat = srcCode .host then none
                  else some (BitVec.ofNat 8 (beNum l 1 1)) } (op % 0x8000) (s.judge .host l n op tag ws))))
    ∧ (∀ s : State, s.alive = true → s.portUp = true → exec (.hostWrite []) s = .next (s.count 0x6010 31 16 1))
    ∧ (∀ (s : State) (n : Nat), s.portUp = true → s.cmd.hostReplies = [] →
      exec (.readReply n) s = .next (s.modCmd fun c => { c with hostRead := readBytes (List.replicate 8 0) n }))
    ∧ (∀ (s : State) (n : Nat) (r : Reply) (t : List Reply), s.portUp = true → s.cmd.hostReplies = r :: t →
      (n < (s.replyBytes r).length → exec (.readReply n) s
        = .next (s.modCmd fun c => { c with hostRead := readBytes (s.replyBytes r) n }))
      ∧ ((s.replyBytes r).length ≤ n → exec (.readReply n) s = .next (s.modCmd fun c => { c with
            hostRead := readBytes (s.replyBytes r) n, hostReplies := t
            awaiting := if r.status = stPending then c.awaiting else c.awaiting.erase r.req })))
    ∧ (∀ s : State, s.portUp = true →
      exec .readStatus s = .next (s.modCmd fun c => { c with hostRead := wordBytes s.hostStat }))
    ∧ (∀ (s : State) (l : List Byte) (n : Nat), s.alive = true → s.portUp = false →
      exec (.hostWrite l) s = .next ((s.deepWake true).count 0x6010 31 16 1)
      ∧ exec (.readReply n) s = .next (s.deepWake true) ∧ exec .readStatus s = .next (s.deepWake true))
    ∧ (∀ (s : State) (code : Nat), s.alive = true → code < 256 → s.due (s.hold (holdCmd code)).at_ = true →
      exec (.commandEventHoldoffExpiry code) s = .next (owlOn s (((s.hold (holdCmd code)).reports.foldl (fun t e =>
        t.push (mkEvent e.2.suppressed 0x0D 0xFB (e.2.value % 256) code e.2.time)) s).modHold (holdCmd code)
          fun _ => (s.hold (holdCmd code)).settled)))
    ∧ (∀ (s : State) (a : Nat) (k : KeyA), s.alive = true → s.keyAt a = some k →
      (k.till ≤ s.owl → exec (.keyPendingExpiry a) s = .next (s.dropKey a))
      ∧ (s.owl < k.till → exec (.keyPendingExpiry a) s = .next s))
    ∧ (∀ (s : State) (c k : Nat), s.alive = true →
      (c < 192 → exec (.resetOnRead (.wmPeak c)) s = .next (s.setCrf c 16 15 8 (s.crf c 16 7 0)))
      ∧ (k < 1536 → exec (.resetOnRead (.depthMax k)) s = .next (s.setTbl 0x1B k 7 (s.tbl 0x1B k 5 &&& 0x0007FFFF)))
      ∧ (k < 1536 → exec (.resetOnRead (.holMax k)) s = .next (s.setTbl 0x1B k 8 (s.tbl 0x1B k 6)))
      ∧ exec (.resetOnRead .maxLat) s = .next (s.setRf 0x402C 31 16 0)
      ∧ exec (.resetOnRead .pktSharedMin) s = .next (s.setReg 0x700C (s.reg 0x7008)))

/-- R136, R338, R440, R443, R450: command packets that come in a stream or over the twin link meet the same checks. On
an aligned channel a frame of a command source with a bad FCS is counted and nothing else; a whole one with a good FCS
that passes R440 waits under its stream's request, at most four of them, its TAG taken by the session. A forwarded
packet that comes in order over the link is acknowledged, and waits under the twin's request, at most sixteen of them.
Choices of the model that it rests on: notes/assumptions/73, 105, 110 (log entries). -/
def Obligations.OtherSources : Prop :=
  (∀ (s : State) (slot c : Nat) (l : List Byte), s.alive = true → c = fld (s.streamWord slot) 23 16 →
      s.streamOn slot = true → bit (s.streamWord slot) 30 = true → s.enabled c = true → s.aligned c = true →
      s.clocked = true →
      exec (.inbandCommandFrame slot l false) s = .next (s.countTbl 0x12 slot 1 15 0 1)
      ∧ (4 ≤ s.outstanding (.inband slot) → exec (.inbandCommandFrame slot l true) s
          = .next ((s.count 0x6018 31 16 1).cmdOccur 0x01 c))
      ∧ (∀ (n op tag : Nat) (ws : List Word), s.outstanding (.inband slot) < 4 → n = beNum l 6 2 → n ≤ 1017 →
          l.length = 12 + 4 * n + 16 → crcGood l = true → op = beNum l 2 2 → tag = beNum l 4 2 →
          ws = toWords ((l.drop 8).take (4 * n)) → s.judge (.inband slot) l n op tag ws = stOk →
          ∃ q : Req, q = { src := .inband slot, tag := tag, ordered := beNum l 0 1 % 2 == 1 }
            ∧ exec (.inbandCommandFrame slot l true) s = .next ((s.tagTaken (.inband slot) op tag).modCmd fun c => { c with
                inbox := c.inbox ++ [{ req := q, opcode := op, words := ws }], awaiting := c.awaiting ++ [q] })))
    ∧ (∀ (s : State) (seq : Nat) (l : List Byte), s.alive = true → s.twin.up = true →
      ∃ t : State, t = (s.modTwin fun w => { w with ackAt := if w.ackAt.isSome then w.ackAt else some (s.owl + 2) })
        ∧ (seq ≠ nextSeq s.twin.rxSeq → exec (.fwdCmdRx seq { val := l }) s = .next t)
        ∧ (seq = nextSeq s.twin.rxSeq →
          (16 ≤ s.outstanding .twin → exec (.fwdCmdRx seq { val := l }) s
            = .next (((t.modTwin fun w => { w with rxSeq := seq }).count 0x6018 31 16 1).cmdOccur 0x01 0xFE))
          ∧ (∀ (n op tag : Nat) (ws : List Word), s.outstanding .twin < 16 → n = beNum l 6 2 → n ≤ 1021 →
            l.length = 12 + 4 * n → crcGood l = true → op = beNum l 2 2 → tag = beNum l 4 2 →
            ws = toWords ((l.drop 8).take (4 * n)) → s.judge .twin l n op tag ws = stOk →
            ∃ q : Req, q = { src := .twin, tag := tag, ordered := beNum l 0 1 % 2 == 1 }
              ∧ exec (.fwdCmdRx seq { val := l }) s = .next ((t.modTwin fun w => { w with rxSeq := seq }).modCmd fun c => { c with
                  inbox := c.inbox ++ [{ req := q, opcode := op, words := ws }], awaiting := c.awaiting ++ [q] }))))

/-! ### The opcodes of the command engine (14_command_packets.md) -/

/-- R454, R456, R457, R462, R465, R466, R469 to R474, R482: the opcodes that the command engine executes itself, each
alone. NOP answers OK; ECHO its words; IDENTIFY the part, the image and the boot; EVT_POP takes the oldest events off
the FIFO, at most 64, and answers one event with VALID 0 from an empty one. REG_RD answers the word and takes the reset
on a read; REG_WR answers the status of the write; the block opcodes go word by word, and DETAIL names the first word
that was ignored or refused; TBL_RD answers the words. Choices of the model that it rests on: notes/assumptions/17, 108,
134 (log entries). -/
def Obligations.HardwareOpcodes : Prop :=
  (∀ (s : State) (q : Req) (ws : List Word), s.ready 0x0001 = true →
      exec (.nop q ws) s = .next ((s.status q 0x0001 (if ws = [] then stOk else eLength)).startHeld))
    ∧ (∀ (s : State) (q : Req) (ws : List Word), s.ready 0x0002 = true →
      (ws.length ≤ maxCount q → exec (.echo q ws) s = .next ((s.reply q 0x0002 stOk 0 ws).startHeld))
      ∧ (maxCount q < ws.length → exec (.echo q ws) s = .next ((s.status q 0x0002 eLength).startHeld)))
    ∧ (∀ (s : State) (q : Req), s.ready 0x0003 = true → s.inRecovery = false →
      exec (.identify q []) s = .next ((s.reply q 0x0003 stOk 0 ([0x00019256, s.reg 0x0004 &&& 0xFF,
        s.reg (if s.rb 0x50B4 31 then 0x50D4 else 0x50D0),
        BitVec.ofNat 32 (b2n (s.rb 0x0010 29) * 4 + b2n (s.rb 0x50B4 31) * 2 + b2n s.straps.twinId)]
        ++ s.nonceWords q.src)).startHeld))
    ∧ (∀ (s : State) (q : Req), s.ready 0x0003 = true → s.inRecovery = true →
      exec (.identify q []) s = .next ((s.tookFree.reply q 0x0003 stOk 0 ([0x00019256, s.reg 0x0004 &&& 0xFF,
        Config.free s.freeCtr,
        BitVec.ofNat 32 (b2n (s.rb 0x0010 29) * 4 + b2n (s.rb 0x50B4 31) * 2 + b2n s.straps.twinId)]
        ++ s.nonceWords q.src)).startHeld))
    ∧ (∀ (s : State) (q : Req) (a : Word), s.ready 0x0101 = true → addrOk a = true →
      exec (.regRd q [a]) s = .next (((s.readEffect a.toNat).reply q 0x0101 stOk 0 [s.readVal a.toNat]).startHeld))
    ∧ (∀ (s : State) (q : Req) (a w : Word), s.ready 0x0102 = true → addrOk a = true →
      exec (.regWr q [a, w]) s
        = .next (((s.writeReg q.src a.toNat w).2.status q 0x0102 (s.writeReg q.src a.toNat w).1).startHeld))
    ∧ (∀ (s : State) (q : Req) (a n : Word), s.ready 0x0103 = true → addrOk a = true → 1 ≤ n.toNat →
      n.toNat ≤ maxCount q →
      exec (.regRdBlk q [a, n]) s
        = .next (((s.readBlk a.toNat 0 n.toNat).2.reply q 0x0103 stOk 0 (s.readBlk a.toNat 0 n.toNat).1).startHeld))
    ∧ (∀ (s : State) (q : Req) (a w : Word) (ws : List Word), s.ready 0x0104 = true → addrOk a = true →
      exec (.regWrBlk q (a :: w :: ws)) s = .next (((s.writeBlk q.src a.toNat 0 (w :: ws)).2.2.reply q 0x0104
        (s.writeBlk q.src a.toNat 0 (w :: ws)).1 ((s.writeBlk q.src a.toNat 0 (w :: ws)).2.1.getD 0) []).startHeld))
    ∧ (∀ (s : State) (q : Req) (a v nv : Word), s.ready 0x0105 = true → addrOk a = true →
      keyAddrs.contains (decodeAddr a.toNat).1.addr = true →
      exec (.regWrKey q [a, v, nv]) s = .next (((s.keyWrite (decodeAddr a.toNat).1.addr v nv).2.status q 0x0105
        (s.keyWrite (decodeAddr a.toNat).1.addr v nv).1).startHeld))
    ∧ (∀ (s : State) (q : Req) (w0 w1 w2 : Word) (n : Nat), s.ready 0x0201 = true → 1 ≤ w2.toNat →
      w2.toNat ≤ maxCount q → tblRange w0 w1 w2.toNat = some n →
      ∃ r : List Word × State, r = s.readWords (fld w0 31 24) (fld w0 23 23) n (fld w1 31 8) (fld w1 7 0) w2.toNat
        ∧ exec (.tblRd q [w0, w1, w2]) s = .next ((r.2.reply q 0x0201 stOk 0 r.1).startHeld))
    ∧ (∀ (s : State) (q : Req) (w : Word) (m : Nat), s.ready 0x0701 = true → onlyBits w 0xFF = true →
      m = (if fld w 7 0 = 0 ∨ fld w 7 0 > 64 then 64 else fld w 7 0) →
      (s.events = [] → exec (.evtPop q [w]) s = .next ((s.reply q 0x0701 stOk 0 [0, 0, 0]).startHeld))
      ∧ (s.events ≠ [] → exec (.evtPop q [w]) s = .next ((({ s with events := s.events.drop m }).reply q 0x0701 stOk 0
          (BitVec.ofNat 32 (min m s.events.length) :: (s.events.take m).flatMap eventWords)).startHeld)))

/-! ### Tables (14_command_packets.md, 06_cross_connect.md) -/

/-- R190, R191, R194, R196, R197, R457, R458, R269: writes of tables and of the inactive bank, each alone. TBL_WR writes
entry by entry until the first that its table's rule refuses, and answers that status with the number written; a REALIGN
bit discards its stream's schedule. XC_CONNECT takes the lowest free number of the inactive bank, or answers the lowest
reason; XC_DISCONNECT empties an entry; neither runs while a swap is armed, switching or copying. TBL_SWAP is taken for
validation under rows 1 to 3 of R191; a CANCEL disarms an armed swap, and is refused once the swap has started. Choices
of the model that it rests on: notes/assumptions/21, 22, 23, 24, 107, 113, 114, 146, 184, 185, 187 (log entries). -/
def Obligations.TableCommands : Prop :=
  (∀ (s : State) (q : Req) (w0 w1 v : Word) (ws : List Word) (n : Nat), s.ready 0x0202 = true →
      tblRange w0 w1 (ws.length + 1) = some n →
      (pairTable (fld w0 31 24) = true → s.notActive = true →
        exec (.tblWr q (w0 :: w1 :: v :: ws)) s = .next ((s.finish q 0x0202 eNotActive 0 []).startHeld))
      ∧ (pairTable (fld w0 31 24) = false ∨ s.notActive = false →
        ∃ r : State × Nat × Nat × List Word,
          r = s.writeEntries (fld w0 31 24) (fld w0 23 23) n (fld w1 31 8) (fld w1 7 0) (v :: ws) (ws.length + 3)
          ∧ exec (.tblWr q (w0 :: w1 :: v :: ws)) s
            = .next (((if r.2.2.1 = eEnabled then r.1.fault 14 else r.1).finish q 0x0202 r.2.2.1 (if r.2.2.1 = stOk then 0 else r.2.1) r.2.2.2).startHeld)))
    ∧ (∀ (s : State) (q : Req) (st : Nat), s.ready 0x0202 = true → st < 2048 → s.notActive = false →
      ∃ x : Edit, x = { t := 5, b := 0, e := st, w := 1, ws := [setBit (s.tbl 5 st 1) 31 true] }
        ∧ exec (.realign q st) s = .next (((s.applyEdit x).finish q 0x0202 stOk 0 []).startHeld))
    ∧ (∀ (s : State) (q : Req) (a b c d : Word), s.ready 0x0403 = true → s.notActive = false →
      (s.swap.st ≠ 0 → exec (.xcConnect q [a, b, c, d]) s = .next ((s.finish q 0x0403 eEnabled 0 []).startHeld))
      ∧ (s.swap.st = 0 → firstFree (s.conns s.bankOther) 0 32768 = none →
        exec (.xcConnect q [a, b, c, d]) s = .next ((s.finish q 0x0403 eParam 0 [reasonWord 18 0]).startHeld))
      ∧ (∀ (n why : Nat) (k : Conn), s.swap.st = 0 → firstFree (s.conns s.bankOther) 0 32768 = some n →
        k = { ctl := a, src := b, dest := c, alt := d } →
        why = s.connReason s.bankOther (s.bankConns s.bankOther) (s.bankConns s.bankOther) k →
        (why ≠ 0 → exec (.xcConnect q [a, b, c, d]) s = .next ((s.finish q 0x0403 eParam 0 [reasonWord why n]).startHeld))
        ∧ (why = 0 → exec (.xcConnect q [a, b, c, d]) s = .next ((((s.setConn s.bankOther n k).mirrorEntry 2 s.bankOther n
            4).finish q 0x0403 stOk 0 [BitVec.ofNat 32 n]).startHeld))))
    ∧ (∀ (s : State) (q : Req) (w : Word), s.ready 0x0404 = true → s.notActive = false →
      onlyBits w 0x00007FFF = true →
      (s.swap.st ≠ 0 → exec (.xcDisconnect q [w]) s = .next ((s.finish q 0x0404 eEnabled 0 []).startHeld))
      ∧ (s.swap.st = 0 → s.discTarget [w] = none → exec (.xcDisconnect q [w]) s
        = .next ((s.finish q 0x0404 eParam 0 [reasonWord 14 (fld w 14 0)]).startHeld))
      ∧ (∀ n : Nat, s.swap.st = 0 → s.discTarget [w] = some n → exec (.xcDisconnect q [w]) s
        = .next ((((s.setConn s.bankOther n { dest := 0, src := 0, ctl := 0, alt := 0 }).mirrorEntry 2 s.bankOther n
            4).finish q 0x0404 stOk 0 []).startHeld)))
    ∧ (∀ (s : State) (q : Req) (d : Word) (n : Nat), s.ready 0x0404 = true → s.notActive = false → s.swap.st = 0 →
      s.discTarget [0x80000000, d] = some n → exec (.xcDisconnect q [0x80000000, d]) s
        = .next ((((s.setConn s.bankOther n { dest := 0, src := 0, ctl := 0, alt := 0 }).mirrorEntry 2 s.bankOther n
            4).finish q 0x0404 stOk 0 []).startHeld))
    ∧ (∀ (s : State) (q : Req) (w a b : Word), s.ready 0x0203 = true → s.notActive = false → bit w 31 = false →
      onlyBits w 0xC00000FF = true → fld w 7 0 = 1 → fld b 31 30 = 0 → fld b 29 0 < 1000000000 →
      (s.swap.st ≠ 0 → exec (.tblSwap q [w, a, b]) s = .next ((s.finish q 0x0203 eParam 0 []).startHeld))
      ∧ (s.swapNs a.toNat (fld b 29 0) > s.nowNs + 1000000000000 →
        exec (.tblSwap q [w, a, b]) s = .next ((s.finish q 0x0203 eParam 0 []).startHeld))
      ∧ (s.swap.st = 0 → s.swap.validating = none → s.swapNs a.toNat (fld b 29 0) ≤ s.nowNs + 1000000000000 →
        exec (.tblSwap q [w, a, b]) s = .next ((({ s with swap := { s.swap with
          copy := bit w 30, sec := a.toNat, ns := fld b 29 0, validating := some q } }).setPend
            { req := q, opcode := 0x0203, job := .swap, pending := false, dueAt := s.after 2000 }).startHeld)))
    ∧ (∀ (s : State) (q : Req) (w a b : Word), s.ready 0x0203 = true → s.notActive = false → bit w 31 = true →
      (s.swap.st = 2 ∨ s.swap.st = 3 →
        exec (.tblSwapCancel q [w, a, b]) s = .next ((s.finish q 0x0203 eParam 0 []).startHeld))
      ∧ (s.swap.st = 1 → exec (.tblSwapCancel q [w, a, b]) s
        = .next (((({ s with swap := { s.swap with st := 0, copy := false, sec := 0, ns := 0 } }).mirror 1 mirrorCancel
            []).finish q 0x0203 stOk 0 []).startHeld))
      ∧ (s.swap.st = 0 → exec (.tblSwapCancel q [w, a, b]) s = .next ((s.finish q 0x0203 stOk 0 []).startHeld)))

/-! ### Bank swap and channels (06_cross_connect.md, 14_command_packets.md) -/

/-- R190 to R195, R199, R200, R464: the course of a swap. A bank that validates arms, unless SWAP_TIME is less than 250
µs ahead; a bank that fails is refused with its reason, and nothing changes. At SWAP_TIME the swap switches for 500 µs;
each destination changes once, at its boundary, and the structure of a multiplexed line with its first; then the other
bank is in use and XC_SWAP_DONE is raised; a copy, where one is asked for, ends with the second event and leaves the two
banks the same and free for edits. Choices of the model that it rests on: notes/assumptions/18, 129, 186 (log entries).
-/
def Obligations.BankSwap : Prop :=
  (∀ (s t : State) (q : Req), s.alive = true → s.swap.validating = some q →
      t = { s with swap := { s.swap with validating := none } } →
      (∀ w : Word, t.bankFail t.bankOther = some w → exec .tblSwapValidated s = .next (t.finish q 0x0203 eParam 0 [w]))
      ∧ (t.bankFail t.bankOther = none → s.swapNs s.swap.sec s.swap.ns < s.nowNs + 250000 →
        exec .tblSwapValidated s = .next (t.finish q 0x0203 eTimePast 0 []))
      ∧ (t.bankFail t.bankOther = none → s.nowNs + 250000 ≤ s.swapNs s.swap.sec s.swap.ns → s.paired = false →
        exec .tblSwapValidated s = .next (({ s with swap := { s.swap with
          validating := none, st := 1, sec := s.time.sec / 2 ^ 32 * 2 ^ 32 + s.swap.sec % 2 ^ 32 } }).finish q 0x0203 stOk 0 []))
      ∧ (t.bankFail t.bankOther = none → s.nowNs + 250000 ≤ s.swapNs s.swap.sec s.swap.ns → s.paired = true →
        ∃ u : State, u = { s with swap := { s.swap with
            validating := none, st := 1, sec := s.time.sec / 2 ^ 32 * 2 ^ 32 + s.swap.sec % 2 ^ 32 } }
          ∧ exec .tblSwapValidated s = .next (((if s.twin.up then u else u.setUnsync true).mirror 1 mirrorSwap
            [BitVec.ofNat 32 u.swap.sec, BitVec.ofNat 32 (b2n s.swap.copy * 2 ^ 30 + s.swap.ns)]).finish q 0x0203 stOk 0 [])))
    ∧ (∀ s : State, s.alive = true → s.swap.st = 1 →
      (s.swap.sec * 1000000000 + s.swap.ns ≤ s.nowNs → exec .swapTimeReached s
        = .next { s with swap := { s.swap with st := 2, switched := [], lines := [], endAt := some (s.owl + 500) } })
      ∧ (s.nowNs < s.swap.sec * 1000000000 + s.swap.ns → exec .swapTimeReached s = .next s))
    ∧ (∀ (s : State) (n : Nat) (d : Word), s.alive = true → s.swap.st = 2 → d = (s.conn s.bankOther n).dest →
      epKind d ≠ 0 →
      (epKind (s.conn s.bankUsed n).dest = 0 ∨ (s.conn s.bankUsed n).dest = d) →
      (epKind d ≠ 2 ∨ s.muxLine (epCh d) = false ∨ s.swap.lines.contains (epCh d) = true) →
      (s.hasSwitched d = true → exec (.swapDestinationSwitch n) s = .next s)
      ∧ (s.hasSwitched d = false → ∃ u : State, u = { s with swap := { s.swap with switched := d.toNat :: s.swap.switched } }
          ∧ (s.entryOf s.bankUsed d = s.entryOf s.bankOther d → exec (.swapDestinationSwitch n) s = .next u)
          ∧ (∀ (m : Nat) (k : Conn), s.entryOf s.bankUsed d = none → s.entryOf s.bankOther d = some (m, k) →
            exec (.swapDestinationSwitch n) s = .next (((((u.restartTrib m).takeSel k).restartE1 d).memberNone d).restartPtr d))
          ∧ (∀ (m o : Nat) (k p : Conn), s.entryOf s.bankUsed d = some (o, p) → s.entryOf s.bankOther d = some (m, k) →
            (p.src ≠ k.src ∨ p.alt ≠ k.alt → exec (.swapDestinationSwitch n) s
              = .next ((((((u.restartTrib o).restartTrib m).takeSel k).restartE1 d).memberNone d).restartPtr d))
            ∧ (p.src = k.src → p.alt = k.alt → o ≠ m ∨ p ≠ k → exec (.swapDestinationSwitch n) s
              = .next ((((u.restartTrib o).restartTrib m).takeSel k).restartE1 d)))))
    ∧ (∀ (s : State) (n o : Nat) (d : Word) (p : Conn), s.alive = true → s.swap.st = 2 → d = (s.conn s.bankUsed n).dest →
      epKind d ≠ 0 → epKind (s.conn s.bankOther n).dest = 0 → s.hasSwitched d = false →
      s.entryOf s.bankUsed d = some (o, p) → s.entryOf s.bankOther d = none →
      ∃ u : State, u = { s with swap := { s.swap with switched := d.toNat :: s.swap.switched } }
        ∧ exec (.swapDestinationSwitch n) s = .next ((((u.restartTrib o).restartE1 d).memberNone d).restartPtr d))
    ∧ (∀ (s : State) (c : Nat), s.swap.st = 2 → s.muxLine c = true →
      (s.swap.lines.contains c = true → s.switchLine c = s)
      ∧ (s.swap.lines.contains c = false → ∃ (u : State) (l : List Nat),
        u = { s with swap := { s.swap with lines := c :: s.swap.lines } }
        ∧ (∀ i, i ∈ l ↔ i < s.slotsOf c
          ∧ (s.line s.bankUsed c i 0 ≠ s.line s.bankOther c i 0 ∨ s.slotMask s.bankUsed c i ≠ s.slotMask s.bankOther c i))
        ∧ s.switchLine c = (u.modCh c fun h => { h with tx := { h.tx with
          just := l.foldl (fun m i => Store.set {} m (oduEp c (i + 1)).toNat {}) h.tx.just } }).msiJudge c))
    ∧ (∀ (s r u : State) (n : Nat) (d e : Word), s.alive = true → s.swap.st = 2 → d = (s.conn s.bankOther n).dest →
      e = (s.conn s.bankUsed n).dest → r = (if epKind d = 2 ∧ s.muxLine (epCh d) = true then s.switchLine (epCh d) else s) →
      u = (if epKind d = 0 then r else r.switchDest d) →
      exec (.swapDestinationSwitch n) s
        = .next (if epKind e ≠ 0 ∧ u.entryOf u.bankOther e = none then u.switchDest e else u))
    ∧ (∀ s r t : State, s.alive = true → s.swap.st = 2 → s.due s.swap.endAt = true →
      r = s.each (allCh.filter s.muxLine) State.switchLine → t = r.allDests.foldl State.switchDest r →
      ∃ u : State, u = { t with swap := { t.swap with
          st := if t.swap.copy then 3 else 0, bank := 1 - t.swap.bank, endAt := none, switched := [], lines := [] } }
        ∧ exec .swapSwitchingEnd s = .next (u.event 0x07 0xFC 0xFF 0x10))
    ∧ (∀ s t : State, s.alive = true → s.swap.st = 3 → t = s.copyBank → exec .bankCopyDone s
        = .next (({ t with swap := { t.swap with st := 0, copy := false } }).event 0x07 0xFC 0xFF 0x20))

/-- R45, R68, R99, R141, R198, R222, R459: the commands of a channel, each alone. CH_PROVISION is refused by the first
condition that holds, with its DETAIL, and then writes nothing; otherwise it writes CH_MODE, CH_LANE and CH_CTRL,
reserves the bond, clears the counters and wakes the group; with the enable bit clear it answers DETAIL 2 at once,
otherwise it writes CH_CTRL as given once the group's clock runs and waits for the lane: DETAIL 0 once every lane is
adapted, DETAIL 1 where the lane is dark or at its deadline. CH_RELEASE is refused with its DETAIL, or frees the
channel. Choices of the model that it rests on: notes/assumptions/86, 111, 145 (log entries). -/
def Obligations.ChannelCommands : Prop :=
  (∀ (s t : State) (q : Req) (w0 w1 w2 w3 : Word) (c : Nat), s.ready 0x0401 = true → onlyBits w0 0xFF000000 = true →
      c = fld w0 31 24 → c < 192 → t = s.provision q.src c w1 w2 w3 →
      ((s.provisionRefusal c w1 w3).1 ≠ stOk → exec (.chProvision q [w0, w1, w2, w3]) s = .next ((s.finish q 0x0401
        (s.provisionRefusal c w1 w3).1 (s.provisionRefusal c w1 w3).2 []).startHeld))
      ∧ ((s.provisionRefusal c w1 w3).1 = stOk → bit w3 31 = false →
        exec (.chProvision q [w0, w1, w2, w3]) s = .next ((t.finish q 0x0401 stOk 2 []).startHeld))
      ∧ ((s.provisionRefusal c w1 w3).1 = stOk → bit w3 31 = true →
        ∃ (p : PendCmd) (u : State), p = { req := q, opcode := 0x0401, job := .provision c (some w3) none
                                           pending := t.wasPending q, dueAt := t.after 2000 } ∧ u = t.setPend p
          ∧ exec (.chProvision q [w0, w1, w2, w3]) s = .next (if (u.grp (c / 16)).clk
            then ((u.put q.src (chReg c 0) w3).setPend { p with job := .provision c none (some u.owl) }).startHeld
            else u.startHeld)))
    ∧ (∀ (s : State) (c : Nat) (w : Option Word) (a : Option Nat) (p : PendCmd), s.alive = true → c < 192 →
      s.provisioning c = some p → p.job = .provision c w a →
      (s.enabled c = true → (∀ d ∈ s.bond c, (s.lane d).adapted = true) →
        exec (.chProvisionCompletion c) s = .next (s.finish p.req p.opcode stOk 0 []))
      ∧ (∀ d ∈ s.bond c, (s.lane d).adapted = false → s.due p.dueAt = true ∨ ((s.lane c).sd = false ∧ ∃ t, a = some t ∧ t + s.sdQual c ≤ s.owl) →
        exec (.chProvisionCompletion c) s = .next (s.finish p.req p.opcode stOk 1 []))
      ∧ (∀ d ∈ s.bond c, (s.lane d).adapted = false → (s.lane c).sd = true ∨ a = none → s.due p.dueAt = false →
        exec (.chProvisionCompletion c) s = .next s))
    ∧ (∀ (s : State) (q : Req) (w : Word) (c : Nat), s.ready 0x0402 = true → onlyBits w 0xFF000000 = true →
      c = fld w 31 24 → c < 192 →
      (s.namedCh c = true → exec (.chRelease q [w]) s = .next ((s.finish q 0x0402 eParam 1 []).startHeld))
      ∧ (s.namedCh c = false → s.pgNames c = true →
        exec (.chRelease q [w]) s = .next ((s.finish q 0x0402 eParam 2 []).startHeld))
      ∧ (s.namedCh c = false → s.pgNames c = false → s.isMember c = true →
        exec (.chRelease q [w]) s = .next ((s.finish q 0x0402 eParam 3 []).startHeld))
      ∧ (s.namedCh c = false → s.pgNames c = false → s.isMember c = false →
        exec (.chRelease q [w]) s = .next (((s.releaseCh c).finish q 0x0402 stOk 0 []).startHeld)))

/-! ### Lane tests (02_serial_lanes.md) -/

/-- R72 to R80, R460, R461, R561: the test functions of a lane. PRBS START claims the lane and starts the generator or
the checker, which takes the receive side; STOP gives back what it stops; READ and READ-CLEAR answer the five words. A
checker seeds itself, locks after 256 correct predictions, counts bits and errors while it is locked, and loses lock at
the 257th error of a 1,024-bit window. LOOPBACK claims the lane and sets its mode; mode 0 gives it back. EYE_SCAN START
claims the sampler and answers PENDING; STOP ends the scan; READ answers 1,024 points; the byte of a point rounds −10
log10 of its error ratio to 1 to 254. A START on a lane that is claimed is refused with E_BUSY_MAINT. Choices of the
model that it rests on: notes/assumptions/77, 78, 79, 136, 138, 144, 178 (log entries). -/
def Obligations.LaneTests : Prop :=
  (∀ (s t : State) (q : Req) (w : Word) (c dir pat : Nat), s.ready 0x0802 = true → onlyBits w 0x00FFF303 = true →
      c = fld w 23 16 → c < 192 → dir = fld w 9 8 → pat = fld w 14 12 → fld w 1 0 = 0 → dir ≠ 0 →
      (pat < 5 ∨ (pat = 5 ∧ s.pam4 c = true)) →
      (s.claimed (isLane c) = true → exec (.prbsStart q [w]) s = .next ((s.finish q 0x0802 eBusy 0 []).startHeld))
      ∧ (s.claimed (isLane c) = false → t = s.prbsStart c pat dir (bit w 15) →
        exec (.prbsStart q [w]) s = .next ((t.prbsReply t q c).startHeld)))
    ∧ (∀ (s t : State) (q : Req) (w : Word) (c : Nat), s.ready 0x0802 = true → onlyBits w 0x00FFF303 = true →
      c = fld w 23 16 → c < 192 → fld w 14 12 ≤ 5 →
      (fld w 1 0 = 1 → fld w 9 8 ≠ 0 → t = s.prbsStop c (fld w 9 8) →
        exec (.prbsStop q [w]) s = .next ((t.prbsReply t q c).startHeld))
      ∧ (fld w 1 0 = 2 → exec (.prbsRead q [w]) s = .next ((s.prbsReply s q c).startHeld))
      ∧ (fld w 1 0 = 3 → exec (.prbsReadClear q [w]) s = .next ((s.prbsReply
          (s.modPrbs c fun p => { p with losses := 0, bits := 0, errs := 0 }) q c).startHeld)))
    ∧ (∀ (s : State) (c : Nat) (a b : List Nat), s.alive = true → c < 192 → (s.lane c).prbs.chk = true →
      (s.lane c).sd = true →
      (exec (.prbsLock { lane := c, syms := a }) s = .next (s.modLane c fun x =>
          { x with prbs := (s.laneBits c 1 a).1.foldl Prbs.bit x.prbs, preRx := (s.laneBits c 1 a).2 }))
      ∧ (exec (.prbsLossOfLock c a b) s = .next (s.modLane c fun x =>
          { x with prbs := (s.laneBits c 1 (a ++ b)).1.foldl Prbs.bit x.prbs, preRx := (s.laneBits c 1 (a ++ b)).2 })))
    ∧ (∀ (p : Prbs) (b x want : Bool) (n : Nat), n = (prbsExps p.pattern).headD 1 → x = (b != p.inv) →
      want = prbsNext (prbsExps p.pattern) p.hist →
      (p.hist.length < n → p.bit b = { p with hist := x :: p.hist })
      ∧ (n ≤ p.hist.length → p.lock = false → want ≠ x →
        p.bit b = { p with hist := (x :: p.hist).take n, good := 0, winBits := 0, winErrs := 0 })
      ∧ (n ≤ p.hist.length → p.lock = false → want = x → p.good < 255 →
        p.bit b = { p with hist := (x :: p.hist).take n, good := p.good + 1, winBits := 0, winErrs := 0 })
      ∧ (n ≤ p.hist.length → p.lock = false → want = x → p.good = 255 →
        p.bit b = { p with hist := (x :: p.hist).take n, good := 0, lock := true, winBits := 0, winErrs := 0 })
      ∧ (n ≤ p.hist.length → p.lock = true → want = x → p.winErrs ≤ 256 → p.winBits < 1023 →
        p.bit b = { p with hist := (want :: p.hist).take n, bits := (p.bits + 1) % 2 ^ 64
                           errs := satAdd 0xFFFFFFFF p.errs 0, winBits := p.winBits + 1 })
      ∧ (n ≤ p.hist.length → p.lock = true → want ≠ x → p.winErrs < 256 → p.winBits < 1023 →
        p.bit b = { p with hist := (want :: p.hist).take n, bits := (p.bits + 1) % 2 ^ 64
                           errs := satAdd 0xFFFFFFFF p.errs 1, winBits := p.winBits + 1, winErrs := p.winErrs + 1 })
      ∧ (n ≤ p.hist.length → p.lock = true → want ≠ x → p.winErrs = 256 →
        p.bit b = { p with lock := false, losses := satAdd 0xFFFF p.losses 1, hist := [], good := 0
                           bits := (p.bits + 1) % 2 ^ 64, errs := satAdd 0xFFFFFFFF p.errs 1, winBits := 0, winErrs := 0 }))
    ∧ (∀ (s : State) (q : Req) (w : Word) (c : Nat), s.ready 0x0803 = true → onlyBits w 0x00FF0003 = true →
      c = fld w 23 16 → c < 192 →
      (fld w 1 0 = 0 → (s.lane c).loop = 0 → exec (.loopbackOff q [w]) s = .next ((s.finish q 0x0803 stOk 0 []).startHeld))
      ∧ (fld w 1 0 = 0 → (s.lane c).loop ≠ 0 → exec (.loopbackOff q [w]) s
        = .next (((((s.modLane c fun l => { l with loop := 0 }).release fun k => k == .lane c false).rehunt c).finish q
            0x0803 stOk 0 []).startHeld))
      ∧ (fld w 1 0 = 1 → s.claimed (isLane c) = false → exec (.loopbackNear q [w]) s
        = .next ((((s.claim (.lane c false)).modLane c fun l => { l with loop := 1 }).finish q 0x0803 stOk 0 []).startHeld))
      ∧ (fld w 1 0 = 2 → s.claimed (isLane c) = false → exec (.loopbackFar q [w]) s
        = .next ((((s.claim (.lane c false)).modLane c fun l => { l with loop := 2 }).finish q 0x0803 stOk 0 []).startHeld))
      ∧ (fld w 1 0 = 1 → s.claimed (isLane c) = true →
        exec (.loopbackNear q [w]) s = .next ((s.finish q 0x0803 eBusy 0 []).startHeld)))
    ∧ (∀ (s : State) (q : Req) (w : Word) (c : Nat), s.ready 0x0801 = true → onlyBits w 0x00FF7733 = true →
      c = fld w 23 16 → c < 192 →
      (fld w 1 0 = 0 → fld w 5 4 ≠ 3 → (s.lane c).eye.running = true →
        exec (.eyeScanStart q [w]) s = .next ((s.finish q 0x0801 eBusy 0 []).startHeld))
      ∧ (fld w 1 0 = 0 → fld w 5 4 ≠ 3 → (s.lane c).eye.running = false → s.chState c ≠ stAsleep →
      s.chState c ≠ stWaking →
        exec (.eyeScanStart q [w]) s
          = .next (((s.eyeStart c (fld w 5 4) (fld w 10 8) q).pendOn q 0x0801 (.eye c) none).startHeld))
      ∧ (fld w 1 0 = 1 → exec (.eyeScanStop q [w]) s = .next (((s.endScan c 1).finish q 0x0801 stOk 0 []).startHeld))
      ∧ (fld w 1 0 = 2 → exec (.eyeScanRead q [w]) s = .next ((s.finish q 0x0801 stOk 0
          (packWords ((List.range 1024).map fun i => s.eyeByte c (1024 * fld w 14 12 + i)))).startHeld)))
    ∧ (∀ (s : State) (c : Nat) (errs : List Nat), s.alive = true → c < 192 → (s.lane c).eye.running = true →
      eyePoints * s.pointNs c ≤ (s.owl - (s.lane c).eye.since) * 1000 → exec (.eyeScanDone c errs) s
        = .next ((s.modLane c fun l => { l with eye := { l.eye with
          points := (errs.take eyePoints).map (eyeCode (10 ^ (5 + l.eye.dwell))) } }).endScan c 0))
    ∧ (∀ bits : Nat, eyeCode bits 0 = 0)
    ∧ (∀ bits errs k : Nat, 0 < errs → 1 ≤ k → k ≤ 255 →
      (k ≤ (eyeCode bits errs).toNat ↔ k = 1 ∨ (k ≤ 254 ∧ errs ^ 20 * 10 ^ (2 * k - 1) ≤ bits ^ 20)))

/-! ### The fault collector (17_fault_collector.md) -/

/-- R483 to R485, R490, R513, R514, R519, R522, R523, R531, R534: what raises, injects and ends faults. FAULT_INJECT is
refused under the locks; it asserts a source that is free, a pulse for 10 µs, and a withdrawal ends either. The scrub
reports a parity mismatch once, in a channel window, a group block or a page, and a copy that differs. A transaction on
a path that does not exist is reported with its address, and one that exists is not. An edge is reported; a level stands
until its end; a wire fault is raised once and hides its source. A timer that runs out escalates, at S3 into the safe
state. A suppressed report raises one event at the end of its window. Choices of the model that it rests on:
notes/assumptions/10, 11, 12, 99, 103, 104 (log entries). -/
def Obligations.FaultCommands : Prop :=
  (∀ (s : State) (q : Req) (w : Word), s.ready 0x0804 = true → onlyBits w 0xC000003F = true → fld w 5 0 < 30 →
      s.keyLocked = true →
      (fld w 31 30 = 0 → exec (.faultInjectWithdraw q [w]) s = .next ((s.finish q 0x0804 eLocked 0 []).startHeld))
      ∧ (fld w 31 30 = 1 → exec (.faultInjectAssert q [w]) s = .next ((s.finish q 0x0804 eLocked 0 []).startHeld))
      ∧ (fld w 31 30 = 2 → exec (.faultInjectPulse q [w]) s = .next ((s.finish q 0x0804 eLocked 0 []).startHeld)))
    ∧ (∀ (s : State) (q : Req) (w : Word), s.ready 0x0804 = true → onlyBits w 0xC000003F = true → fld w 5 0 < 30 →
      s.keyLocked = false →
      (fld w 31 30 = 0 → exec (.faultInjectWithdraw q [w]) s = .next ((s.injOff.finish q 0x0804 stOk 0 []).startHeld))
      ∧ (fld w 31 30 = 1 → s.faults.injected = some (fld w 5 0) →
        exec (.faultInjectAssert q [w]) s = .next ((s.finish q 0x0804 stOk 0 []).startHeld))
      ∧ (s.faults.injected ≠ some (fld w 5 0) → s.claimed isInjector = true →
        (fld w 31 30 = 1 → exec (.faultInjectAssert q [w]) s = .next ((s.finish q 0x0804 eBusy 0 []).startHeld))
        ∧ (fld w 31 30 = 2 → exec (.faultInjectPulse q [w]) s = .next ((s.finish q 0x0804 eBusy 0 []).startHeld)))
      ∧ (s.faults.injected ≠ some (fld w 5 0) → s.claimed isInjector = false →
        ∃ t : State, t = (((s.claim .injector).modFaults fun f => { f with injected := some (fld w 5 0) }).setReg 0x1048
            (BitVec.ofNat 32 (2 ^ 31 + fld w 5 0))).report { src := fld w 5 0, injected := true }
          ∧ (fld w 31 30 = 1 → exec (.faultInjectAssert q [w]) s = .next ((t.finish q 0x0804 stOk 0 []).startHeld))
          ∧ (fld w 31 30 = 2 → exec (.faultInjectPulse q [w]) s
            = .next (((t.modFaults fun f => { f with pulseAt := some (s.owl + 10) }).setPend
                { req := q, opcode := 0x0804, job := .pulse, pending := s.wasPending q }).startHeld))))
    ∧ (∀ s : State, s.alive = true → s.due s.faults.pulseAt = true → exec .faultPulseEnd s = .next s.injOff)
    ∧ (∀ (s : State) (a : Nat) (p : Place) (r : RegInfo), s.alive = true → s.clocked = true → a < 2 ^ 24 →
      p = (decodeAddr a).1 → regInfo p = some r →
      exec (.registerScrub a .good) s = .next s
      ∧ (s.badPar.contains p.addr = true → exec (.registerScrub a .parity) s = .next s)
      ∧ (s.badPar.contains p.addr = false → r.cfg ≠ 0 → r.hold = false →
        ∃ t : State, t = { s with badPar := p.addr :: s.badPar }
          ∧ (∀ c n : Nat, p = .chan c n → exec (.registerScrub a .parity) s
            = .next (((t.toFaulted (t.owner c)).setCrb c 27 31 true).report
                { src := 3, group := some (c / 16), chan := some c, acc := scrubAcc p.addr }))
          ∧ (∀ g n : Nat, p = .group g n → exec (.registerScrub a .parity) s = .next (t.parGrp g (scrubAcc p.addr)))
          ∧ (∀ g n : Nat, p = .page g n → exec (.registerScrub a .parity) s
            = .next ((t.setRb (pgReg g 0xFC) 30 true).report { src := 1, acc := scrubAcc p.addr })))
      ∧ (isTrp p = false → exec (.registerScrub a .oneCopy) s = .next s ∧ exec (.registerScrub a .allDiffer) s = .next s)
      ∧ (∀ g n : Nat, p = .page g n → isTrp p = true →
        exec (.registerScrub a .oneCopy) s = .next (s.report { src := 5, acc := scrubAcc p.addr })))
    ∧ (∀ (s : State) (m t a : Nat) (w : Bool), s.alive = true →
      (pathExists m t w = true → exec (.busPathError m t w a) s = .next s)
      ∧ (pathExists m t w = false → exec (.busPathError m t w a) s = .next (s.report
          { src := 9, acc := { master := m, access := if w then 2 else 1, addr := a } })))
    ∧ (∀ (s : State) (n : Nat) (g c : Option Nat) (acc : FaultAccess) (r : Report), s.alive = true → n < 30 →
      r = { src := n, group := g, chan := c, acc := acc } →
      (levelSrc n = false → n ≠ 2 → n ≠ 3 → n ≠ 7 → n ≠ 18 → n ≠ 19 → n ≠ 28 →
        exec (.faultRaise n .edge g c acc) s = .next (s.report r))
      ∧ (levelSrc n = true → exec (.faultRaise n .levelOnset g c acc) s
          = .next ((s.report r).modFaults fun f => { f with levels := f.levels ++ [n] }))
      ∧ (levelSrc n = true → exec (.faultRaise n .levelEnd g c acc) s
          = .next (s.modFaults fun f => { f with levels := f.levels.erase n }))
      ∧ (s.faults.wires.contains n = true → exec (.faultRaise n .wireOnset g c acc) s = .next s)
      ∧ (s.faults.wires.contains n = false → n ≠ 0 → exec (.faultRaise n .wireOnset g c acc) s
          = .next ((s.raise { r with wire := true, acc := {} }).modFaults fun f => { f with wires := n :: f.wires }))
      ∧ exec (.faultRaise n .wireEnd g c acc) s
          = .next (s.modFaults fun f => { f with wires := f.wires.filter (· != n) }))
    ∧ (∀ s : State, s.alive = true →
      (s.due s.faults.t3 = true →
        exec (.faultAckTimerExpiry 3) s = .next (owlOn s (s.modFaults fun f => { f with t3 := none }).enterSafe))
      ∧ (s.due s.faults.t1 = true → exec (.faultAckTimerExpiry 1) s = .next (owlOn s (s.escalate 1)))
      ∧ (s.due s.faults.t2 = true → s.injCap = false → exec (.faultAckTimerExpiry 2) s = .next (owlOn s (s.escalate 2))))
    ∧ (∀ (s : State) (n : Nat) (w : Window), s.alive = true → Store.get none s.faults.windows n = some w →
      w.till ≤ s.owl →
      (w.again = none → exec (.faultEventWindowExpiry n) s = .next (s.setWindow n none))
      ∧ (∀ e : Event, w.again = some e → exec (.faultEventWindowExpiry n) s
        = .next ((s.push e).setWindow n (some { till := s.owl + 1000, again := none }))))

/-! ### The Badger and its units (18_management_subsystem.md) -/

/-- R38, R226, R227, R135, R448, R538 to R549, R564: the Badger and its units. It is ready 15 µs after its wake and then
takes the commands that wait, sleeps when it has nothing to do, and is reset by its watchdog with source 10; started
commands are cut off, and waiting ones go on after the restart. A conversion puts every reading; each expiry of a
management timer reports its events; the time of the buffered records wakes a Badger that sleeps, and they go to the
flash. SENSOR_RD, LOG_RD and PM_RD answer what they read, a LOG_RD that waited too; DCC_WR queues a frame where it fits,
and DCC_RD takes frames. Choices of the model that it rests on: notes/assumptions/13, 20, 95, 100, 101, 102 (log
entries). -/
def Obligations.BadgerUnits : Prop :=
  (∀ s : State, s.alive = true → s.fwUp = true → s.due s.mgmt.readyAt = true → exec .badgerReady s
      = .next ((s.modMgmt fun m => { m with readyAt := none, awake := true, wdtAt := some (s.owl + 49985) }).setRf 0x50B0
          31 30 1).startHeld)
    ∧ (∀ s : State, s.alive = true → s.fwUp = true → s.mgmt.awake = true → s.cmd.inbox = [] → s.cmd.pend = [] →
      s.due s.mgmt.foldAt = false → s.due s.mgmt.logAt = false → exec .badgerSleep s
        = .next (((s.modMgmt fun m => { m with awake := false, wdtAt := none }).setRf 0x50B0 31 30 0).mclkStop))
    ∧ (∀ (s : State) (a : Nat), s.alive = true → s.mgmt.awake = true → s.due s.mgmt.wdtAt = true →
      exec (.watchdogExpiry none) s = .next (s.badgerDown.report { src := 10, acc := { master := 1, access := 0, addr := 0 } })
      ∧ exec (.watchdogExpiry (some a)) s
        = .next (s.badgerDown.report { src := 10, acc := { master := 1, access := 2, addr := a } }))
    ∧ (∀ (s t : State) (reload ok : Bool), s.alive = true → s.rf 0x50B0 31 30 = 2 → t = s.badgerBack reload ok →
      exec (.badgerRestartDone reload ok) s = .next t.startHeld)
    ∧ (∀ (s : State) (ts : List Int) (vs : List Nat), s.alive = true → s.clocked = true → exec (.sensorConversion ts vs) s
        = .next (((List.range 6).zip vs).foldl (fun t e => t.readVolt e.1 e.2)
            (((List.range 16).zip ts).foldl (fun t e => t.readTemp e.1 e.2) s)))
    ∧ (∀ (s : State) (code ch : Nat), s.alive = true → code < 256 → ch < 256 →
      s.due (s.hold (holdMgmt code ch)).at_ = true →
      exec (.mgmtEventHoldoffExpiry code ch) s = .next (owlOn s (((s.hold (holdMgmt code ch)).reports.foldl (fun t e =>
        t.push (mkEvent e.2.suppressed 0x0C 0xF9 ch code e.2.time)) s).modHold (holdMgmt code ch)
          fun _ => (s.hold (holdMgmt code ch)).settled)))
    ∧ (∀ s : State, s.alive = true → s.fwUp = true → s.due s.mgmt.logAt = true →
      (s.mgmt.awake = false → exec .logFlush s = .next (owlOn s s.wakeBadger))
      ∧ (s.mgmt.awake = true → s.flashBusy = false → s.phase = .run → exec .logFlush s
        = .next (owlOn s ((s.mgmt.logBuf.foldl State.writeRec s).modMgmt fun m =>
            { m with logBuf := [], logAt := none }).mclkStop)))
    ∧ (∀ (s : State) (q : Req) (w : Word), s.ready 0x0901 = true → onlyBits w 1 = true →
      ∃ body : List Word, body = ((List.range 16).map fun n => s.reg (0x5000 + 4 * n))
          ++ ((List.range 6).map fun r => s.reg (0x5080 + 4 * r))
          ++ ((List.range 16).map fun n => BitVec.ofNat 32 (BitVec.ofInt 16 ((s.mgmt.tempMax[n]?).getD (s.tempNow n))).toNat)
        ∧ (bit w 0 = false ∨ s.mgmt.tempMax = [] →
          exec (.sensorRd q [w]) s = .next ((s.finish q 0x0901 stOk 0 body).startHeld))
        ∧ (bit w 0 = true → s.mgmt.tempMax ≠ [] → exec (.sensorRd q [w]) s
          = .next (((s.modMgmt fun m => { m with tempMax := (List.range 16).map s.tempNow }).finish q 0x0901 stOk 0
              body).startHeld)))
    ∧ (∀ (s : State) (q : Req) (i n : Word), s.ready 0x0902 = true → i.toNat < 262144 → 1 ≤ n.toNat → n.toNat ≤ 120 →
      exec (.logRd q [i, n]) s = .next ((s.finish q 0x0902 stOk 0 (s.logWords i.toNat n.toNat)).startHeld))
    ∧ (∀ (s : State) (p : PendCmd) (i n : Nat), s.alive = true →
      (s.cmd.pend.find? fun p => (logJob p.job).isSome) = some p → p.job = .logRead i n →
      exec .logRdCompletion s = .next (s.finish p.req 0x0902 stOk 0 (s.logWords i n)))
    ∧ (∀ (s : State) (q : Req) (w : Word), s.ready 0x0906 = true → onlyBits w 0xFF0000FF = true → fld w 31 24 < 192 →
      (fld w 7 0 ≤ 32 ∨ fld w 7 0 = 64 ∨ fld w 7 0 = 65) → exec (.pmRd q [w]) s
        = .next ((s.finish q 0x0906 stOk 0 (pmReply (s.mgmt.readBin (fld w 31 24) (fld w 7 0)))).startHeld))
    ∧ (∀ (s : State) (q : Req) (w v : Word) (vs : List Word) (n slot free : Nat), s.ready 0x0907 = true →
      onlyBits w 0xFF00FFFF = true → n = fld w 15 0 → slot = fld w 31 24 → 1 ≤ n → n ≤ 4000 → vs.length + 1 = cdiv n 4 →
      s.streamOn slot = true → free = streamBuf - (s.stream slot).txLen →
      (n ≤ free → exec (.dccWr q (w :: v :: vs)) s = .next (((s.modStream slot fun d => { d with
          tx := d.tx ++ [((unpackWords (v :: vs)).take n, none)] }).finish q 0x0907 stOk 0 []).startHeld))
      ∧ (free < n → exec (.dccWr q (w :: v :: vs)) s
          = .next ((s.finish q 0x0907 eLength 0 [BitVec.ofNat 32 free]).startHeld)))
    ∧ (∀ (s : State) (q : Req) (w : Word) (slot top : Nat) (r : List Word × State), s.ready 0x0908 = true →
      onlyBits w 0xFF00FFFF = true → slot = fld w 31 24 → (slot < 64 ∨ slot = 0xFF) →
      top = (if fld w 15 0 = 0 ∨ fld w 15 0 > 4080 then 4080 else max 8 (fld w 15 0)) →
      r = s.dccTake (if slot = 0xFF then List.range 64 else [slot]) (min (4 * maxCount q) top) 512
        (min (4 * maxCount q) top) true →
      exec (.dccRd q [w]) s = .next ((r.2.finish q 0x0908 stOk 0 r.1).startHeld))

/-! ### The flash (18_management_subsystem.md) -/

/-- R508, R513, R554 to R558, R561, R565: updates of the flash, each command alone. FW_WRITE BEGIN claims the flash,
clears its slot's VALID and erases; DATA programs bytes that follow the last; END verifies; ABORT releases the claim;
the controller's completion ends the oldest operation, and END's answers its result; MCLK stops after it where nothing
else needs it. FW_ACTIVATE chooses a slot whose header write then ends, or commits the running image by blowing fuses;
REBOOT sets its 10 ms. CFG_STORE saves the nominal, erases and programs the host area, and reads it; its completion
releases the claim. Choices of the model that it rests on: notes/assumptions/90, 91, 94, 96, 97, 98, 117 (log entries).
-/
def Obligations.FlashCommands : Prop :=
  (∀ (s : State) (q : Req) (k l : Word), s.ready 0x0903 = true → onlyBits k 1 = true → 384 ≤ l.toNat → l.toNat ≤ 8388608 →
      l.toNat % 4 = 0 → (fld k 0 0 ≠ s.bootSlot ∨ s.inRecovery = true) →
      (s.claimed isFlash = true → exec (.fwWriteBegin q [k, l]) s = .next ((s.finish q 0x0903 eBusy 0 []).startHeld))
      ∧ (s.claimed isFlash = false → exec (.fwWriteBegin q [k, l]) s
        = .next (((((((s.claim .flashUpload).setSlot (fld k 0 0) false).modMgmt fun m => { m with
            upload := some { slot := fld k 0 0, len := l.toNat }, unfit := fld k 0 0 :: m.unfit.filter (· != fld k 0 0) }).erase
              (slotBase (fld k 0 0)) (sector * cdiv l.toNat sector)).pendOn q 0x0903 (.erase (fld k 0 0) l.toNat) none).flashShow).startHeld)))
    ∧ (∀ (s : State) (q : Req) (w off v : Word) (vs : List Word) (u : Upload) (n : Nat), s.ready 0x0903 = true →
      onlyBits w 0xC0000FFF = true → fld w 31 30 = 1 → n = fld w 11 0 → 1 ≤ n → n ≤ 4000 → vs.length + 1 = cdiv n 4 →
      s.uploading = some u →
      (off.toNat ≠ u.next ∨ u.len < off.toNat + n →
        exec (.fwWriteData q (w :: off :: v :: vs)) s = .next ((s.finish q 0x0903 eParam 0 []).startHeld))
      ∧ (off.toNat = u.next → off.toNat + n ≤ u.len → exec (.fwWriteData q (w :: off :: v :: vs)) s
        = .next (((((s.program (slotBase u.slot + off.toNat) ((unpackWords (v :: vs)).take n)).modMgmt fun m => { m with
            upload := some { u with next := off.toNat + n } }).pendOn q 0x0903 .program none).flashShow).startHeld)))
    ∧ (∀ (s : State) (q : Req), s.ready 0x0903 = true →
      (s.uploading ≠ none → exec (.fwWriteEnd q [0x80000000]) s
        = .next (((s.pendOn q 0x0903 .verify none).flashShow).startHeld))
      ∧ (s.uploading = none → exec (.fwWriteEnd q [0x80000000]) s = .next ((s.finish q 0x0903 eParam 0 []).startHeld))
      ∧ exec (.fwWriteAbort q [0xC0000000]) s = .next ((s.endUpload.finish q 0x0903 stOk 0 []).startHeld))
    ∧ (∀ (s : State) (p : PendCmd), s.alive = true → (s.cmd.pend.find? fun p => isUploadJob p.job) = some p →
      (p.job = .program → exec (.fwWriteCompletion true) s = .next ((s.finish p.req 0x0903 stOk 0 []).flashShow.mclkStop)
        ∧ exec (.fwWriteCompletion false) s = .next ((s.flashFail.finish p.req 0x0903 eParam 0 []).flashShow.mclkStop))
      ∧ (∀ k n : Nat, p.job = .erase k n → exec (.fwWriteCompletion true) s = .next (((s.finish p.req 0x0903 stOk 0 []).modMgmt
          fun m => { m with upload := m.upload.map fun u => { u with erased := true } }).flashShow.mclkStop)
        ∧ exec (.fwWriteCompletion false) s = .next ((s.flashFail.finish p.req 0x0903 eParam 0 []).flashShow.mclkStop))
      ∧ (p.job = .verify → exec (.fwWriteCompletion true) s = .next ((s.verified true p.req).flashShow.mclkStop)
        ∧ exec (.fwWriteCompletion false) s = .next ((s.flashFail.verified false p.req).flashShow.mclkStop)))
    ∧ (∀ (s : State) (q : Req) (w : Word) (k : Nat), s.ready 0x0904 = true → onlyBits w 1 = true → k = fld w 0 0 →
      (s.slotValid k = false → exec (.fwActivateChoose q [w]) s = .next ((s.finish q 0x0904 eParam 0 []).startHeld))
      ∧ (s.slotValid k = true → s.claimed isFlash = true →
        exec (.fwActivateChoose q [w]) s = .next ((s.finish q 0x0904 eBusy 0 []).startHeld))
      ∧ (s.slotValid k = true → s.claimed isFlash = false → ∃ t : State,
          t = ((((s.claim .flashHeader).setRb 0x50D8 29 (k == 1)).modMgmt fun m => { m with headerNext := some k }).flashShow)
          ∧ exec (.fwActivateChoose q [w]) s
            = .next (((t.logRec 0x08 false k (t.reg (0x50D0 + 4 * k)) 0).finish q 0x0904 stOk 0 []).startHeld)))
    ∧ (∀ (s : State) (q : Req), s.ready 0x0904 = true →
      (s.inRecovery = true → exec (.fwActivateCommit q [0x40000000]) s = .next ((s.finish q 0x0904 eParam 0 []).startHeld))
      ∧ (s.inRecovery = false → s.imgByte s.bootSlot 12 ≤ s.mgmt.otpFuses →
        exec (.fwActivateCommit q [0x40000000]) s = .next ((s.finish q 0x0904 stOk 0 []).startHeld))
      ∧ (s.inRecovery = false → s.mgmt.otpFuses < s.imgByte s.bootSlot 12 → ∃ t : State,
          t = (((s.modMgmt fun m => { m with otpFuses := s.imgByte s.bootSlot 12 }).setReg 0x50DC
            (BitVec.ofNat 32 (s.imgByte s.bootSlot 12))).each [0, 1] State.rollSlot).setRb 0x50D8 29 (s.bootSlot == 1)
          ∧ exec (.fwActivateCommit q [0x40000000]) s = .next ((((t.logRec 0x09 false (s.imgByte s.bootSlot 12)
            (BitVec.ofNat 32 (t.imgWord s.bootSlot 8)) (BitVec.ofNat 32 s.mgmt.otpFuses)).mgmtEvent 0x32 0xFF).finish q
              0x0904 stOk 0 []).startHeld)))
    ∧ (∀ (s : State) (k : Nat), s.alive = true → s.mgmt.headerNext = some k →
      exec (.bootHeaderWritten true) s = .next ((((s.writeCopy true (BitVec.ofNat 32 (k * 2 ^ 24))).modMgmt fun m =>
          { m with headerNext := none }).release fun c => c == .flashHeader).flashShow.mclkStop)
      ∧ exec (.bootHeaderWritten false) s = .next (((((s.spoilCopy true).flashFail).modMgmt fun m =>
          { m with headerNext := none }).release fun c => c == .flashHeader).flashShow.mclkStop))
    ∧ (∀ (s : State) (q : Req), s.ready 0x0905 = true →
      (s.claimed (fun c => c == .flashHeader) = true →
        exec (.reboot q [0xA5, 0xFFFFFF5A]) s = .next ((s.finish q 0x0905 eBusy 0 []).startHeld))
      ∧ (s.claimed (fun c => c == .flashHeader) = false → exec (.reboot q [0xA5, 0xFFFFFF5A]) s
        = .next (((s.modMgmt fun m => { m with rebootAt := some (s.owl + 10000) }).finish q 0x0905 stOk 0 []).startHeld))
      ∧ (∀ a b : Word, a ≠ 0xA5 ∨ b ≠ 0xFFFFFF5A →
        exec (.reboot q [a, b]) s = .next ((s.finish q 0x0905 eParam 0 []).startHeld)))
    ∧ (∀ (s : State) (q : Req) (w a v : Word) (vs : List Word) (n : Nat), s.ready 0x0909 = true →
      n = fld w 11 0 → 1 ≤ n → n ≤ 4000 → onlyBits w 0xF0000FFF = true → inHostArea a.toNat n = true →
      (fld w 31 28 = 3 → exec (.cfgStoreRead q [w, a]) s
        = .next ((s.finish q 0x0909 stOk 0 (packWords (s.flashBytes a.toNat n))).startHeld))
      ∧ (fld w 31 28 = 2 → vs.length + 1 = cdiv n 4 → s.claimed isFlash = false →
        exec (.cfgStoreProgram q (w :: a :: v :: vs)) s = .next (((((s.claim .flashCfg).program a.toNat
          ((unpackWords (v :: vs)).take n)).pendOn q 0x0909 (.cfg 2 a.toNat) none).flashShow).startHeld)))
    ∧ (∀ (s : State) (q : Req) (a : Word), s.ready 0x0909 = true →
      (s.claimed isFlash = true → exec (.cfgStoreSaveNominal q [0]) s = .next ((s.finish q 0x0909 eBusy 0 []).startHeld))
      ∧ (s.claimed isFlash = false → exec (.cfgStoreSaveNominal q [0]) s = .next ((((s.claim .flashCfg).pendOn q 0x0909
          (.cfg 0 (s.reg 0x202C).toNat) none).flashShow).startHeld))
      ∧ (s.claimed isFlash = false → a.toNat % 65536 = 0 → inHostArea a.toNat 65536 = true →
        exec (.cfgStoreErase q [0x10000000, a]) s = .next (((((s.claim .flashCfg).erase a.toNat 65536).pendOn q 0x0909
          (.cfg 1 a.toNat) none).flashShow).startHeld)))
    ∧ (∀ (s : State) (p : PendCmd) (v : Nat), s.alive = true →
      (s.cmd.pend.find? fun p => (cfgJob p.job).isSome) = some p →
      (p.job = .cfg 0 v → exec (.cfgStoreCompletion true) s = .next ((((s.writeCopy false (BitVec.ofNat 32 v)).release
          fun c => c == .flashCfg).finish p.req 0x0909 stOk 0 []).flashShow.mclkStop)
        ∧ exec (.cfgStoreCompletion false) s = .next ((((s.spoilCopy false).flashFail.release
          fun c => c == .flashCfg).finish p.req 0x0909 eParam 0 []).flashShow.mclkStop))
      ∧ (p.job = .cfg 1 v ∨ p.job = .cfg 2 v → exec (.cfgStoreCompletion true) s = .next (((s.release
          fun c => c == .flashCfg).finish p.req 0x0909 stOk 0 []).flashShow.mclkStop)
        ∧ exec (.cfgStoreCompletion false) s = .next (((s.flashFail.release
          fun c => c == .flashCfg).finish p.req 0x0909 eParam 0 []).flashShow.mclkStop)))

/-! ### The whole block -/

/-- The block's step (the queue of waiting commands is the model's own): with a command at the front of the queue it is
that command's effect on the state with the queue's rest; with none it is one OWL edge (DESIGN CHOICE,
notes/assumptions/1.md), which does nothing in reset or without the master oscillator. Every step answers a next state.
-/
def Obligations.StepRunsFront : Prop :=
  (∀ (c : Instr) (s : State), step { s with pending := c :: s.pending } = exec c s)
    ∧ (∀ s : State, s.pending = [] → step s = .next s.tick)
    ∧ (∀ s : State, s.pending = [] → s.alive = false → step s = .next s)
    ∧ (∀ s : State, ∃ t : State, step s = .next t)

/-- R31, R573, R601: what the commands never touch. No row but those of the master oscillator, of RST_N, of a REBOOT's
reset and of the boundary-scan port changes the queue of waiting commands, the oscillator, the count of OWL edges, the
straps, the boundary-scan instruction or whether RST_N is low; a REBOOT's reset changes the count of OWL edges alone of
these. -/
def Obligations.CoreKept : Prop :=
  (∀ (c : Instr) (s t : State), (∀ st code, c ≠ .masterOscillatorStop ∧ c ≠ .masterOscillatorReturn ∧ c ≠ .rstNAssert
        ∧ c ≠ .rstNRelease st ∧ c ≠ .rebootReset ∧ c ≠ .boundaryScanInstruction code) →
      exec c s = .next t → t.core = s.core)
    ∧ (∀ s t : State, exec .rebootReset s = .next t → t = s ∨ t.core = (s.pending, s.osc, 0, s.straps, s.jtag, false))

/-- R31, R573: in reset, and while the master oscillator is stopped, every domain is held: no row but those of the
oscillator, of RST_N and of the boundary-scan port changes anything at all, and no tick does; so the device stays in
reset, or stopped, until RST_N rises, or the oscillator returns. Choices of the model that it rests on:
notes/assumptions/116 (log entries). -/
def Obligations.HeldStill : Prop :=
  (∀ (c : Instr) (s : State), s.alive = false → (∀ st code, c ≠ .masterOscillatorStop ∧ c ≠ .masterOscillatorReturn
        ∧ c ≠ .rstNAssert ∧ c ≠ .rstNRelease st ∧ c ≠ .boundaryScanInstruction code) → exec c s = .next s)
    ∧ (∀ s : State, s.alive = false → s.tick = s)
    ∧ (∀ s t : State, s.phase = .held → s.pending = [] → step s = .next t → t.phase = .held)
    ∧ (∀ (c : Instr) (s t : State), s.phase = .held → (∀ st, c ≠ .rstNRelease st) → exec c s = .next t → t.phase = .held)

/-- R466, R504, R573: the machine after reset meets the invariant: no event waits, every store lists nothing; RST_N is
low and no command waits, so that the first row to have an effect is RST_N_RELEASE. Choices of the model that it rests
on: notes/assumptions/2, 3 (log entries). -/
def Obligations.ResetInvariant : Prop :=
  State.reset.wf = true ∧ State.reset.phase = .held ∧ State.reset.pending = [] ∧ State.reset.osc = true
    ∧ State.reset.events = [] ∧ (∀ a, State.reset.reg a = resetWord a) ∧ (∀ n b e w, State.reset.tblB n b e w = tblReset n w)
    ∧ (∀ a, State.reset.flashByte a = 0xFF)

/-- R464, R466: the invariant that every step keeps: the event FIFO never holds more than 1,024 events, and every sparse
store of the state, the registers, their copies, the tables, the channels and the flash among them, keeps its one
canonical form, whatever command is at the front of the queue, and at a tick. -/
def Obligations.InvariantKept : Prop :=
  (∀ s t : State, s.wf = true → step s = .next t → t.wf = true)
    ∧ (∀ (c : Instr) (s t : State), s.wf = true → exec c s = .next t → t.wf = true)
end

