-- ==== Sys2Proof/Laws/Store.lean ====
section
/-!
SUPPORT. The laws of the sparse stores: every operation keeps the canonical form, a key written reads what was
written, and every other key reads as before.
-/
namespace Sys2Proof.Machine

theorem Store.okFrom_weaken {α : Type} [DecidableEq α] (d : α) (m : Store α) (j k : Nat) (h : j ≤ k)
    (hm : Store.okFrom d (some k) m = true) : Store.okFrom d (some j) m = true := by
  cases m with
  | nil => rfl
  | cons e r =>
    obtain ⟨a, v⟩ := e
    simp only [Store.okFrom, Bool.and_eq_true, decide_eq_true_eq] at hm ⊢
    exact ⟨⟨by omega, hm.1.2⟩, hm.2⟩

theorem Store.okFrom_none {α : Type} [DecidableEq α] (d : α) (m : Store α) (k : Nat)
    (hm : Store.okFrom d (some k) m = true) : Store.okFrom d none m = true := by
  cases m with
  | nil => rfl
  | cons e r =>
    obtain ⟨a, v⟩ := e
    simp only [Store.okFrom, Bool.and_eq_true, decide_eq_true_eq] at hm ⊢
    exact ⟨⟨trivial, hm.1.2⟩, hm.2⟩

theorem Store.okFrom_set {α : Type} [DecidableEq α] (d : α) (m : Store α) (b : Option Nat) (k : Nat) (v : α)
    (hb : ∀ j, b = some j → j < k) (hm : Store.okFrom d b m = true) : Store.okFrom d b (Store.set d m k v) = true := by
  induction m generalizing b with
  | nil =>
    simp only [Store.set]
    split
    · rfl
    · rename_i hv
      cases b with
      | none => simp [Store.okFrom, hv]
      | some j => simp [Store.okFrom, hv, hb j rfl]
  | cons e r ih =>
    obtain ⟨a, w⟩ := e
    simp only [Store.okFrom, Bool.and_eq_true] at hm
    simp only [Store.set]
    split
    · rename_i hlt
      simp only [Store.okFrom, Bool.and_eq_true]
      exact ⟨⟨hm.1.1, hm.1.2⟩, ih (some a) (by intro j hj; cases hj; exact hlt) hm.2⟩
    · rename_i hge
      split
      · rename_i heq
        subst heq
        split
        · cases b with
          | none => exact Store.okFrom_none d r a hm.2
          | some j => exact Store.okFrom_weaken d r j a (Nat.le_of_lt (hb j rfl)) hm.2
        · rename_i hv
          simp only [Store.okFrom, Bool.and_eq_true]
          exact ⟨⟨hm.1.1, by simp [hv]⟩, hm.2⟩
      · rename_i hne
        split
        · simp only [Store.okFrom, Bool.and_eq_true]
          exact ⟨⟨hm.1.1, hm.1.2⟩, hm.2⟩
        · rename_i hv
          have hka : k < a := by omega
          cases b with
          | none => simp [Store.okFrom, hv, hka, hm.2, hm.1.2]
          | some j => simp [Store.okFrom, hv, hka, hm.2, hb j rfl, hm.1.2]

@[simp] theorem Store.wf_nil {α : Type} [DecidableEq α] (d : α) : Store.wf d ([] : Store α) = true := rfl

@[simp] theorem Store.wf_set {α : Type} [DecidableEq α] (d : α) (m : Store α) (k : Nat) (v : α) (hm : Store.wf d m = true) :
    Store.wf d (Store.set d m k v) = true := Store.okFrom_set d m none k v (by simp) hm

@[simp] theorem Store.wf_mod {α : Type} [DecidableEq α] (d : α) (m : Store α) (k : Nat) (f : α → α) (hm : Store.wf d m = true) :
    Store.wf d (Store.mod d m k f) = true := Store.wf_set d m k _ hm

theorem Store.okFrom_filter {α : Type} [DecidableEq α] (d : α) (m : Store α) (b : Option Nat) (p : Nat × α → Bool)
    (hm : Store.okFrom d b m = true) : Store.okFrom d b (m.filter p) = true := by
  induction m generalizing b with
  | nil => rfl
  | cons e r ih =>
    obtain ⟨a, w⟩ := e
    simp only [Store.okFrom, Bool.and_eq_true] at hm
    simp only [List.filter_cons]
    split
    · simp only [Store.okFrom, Bool.and_eq_true]
      exact ⟨hm.1, ih _ hm.2⟩
    · have h := ih (some a) hm.2
      cases b with
      | none => exact Store.okFrom_none d _ a h
      | some j =>
        simp only [decide_eq_true_eq] at hm
        exact Store.okFrom_weaken d _ j a (Nat.le_of_lt hm.1.1) h

@[simp] theorem Store.wf_filter {α : Type} [DecidableEq α] (d : α) (m : Store α) (p : Nat × α → Bool) (hm : Store.wf d m = true) :
    Store.wf d (m.filter p) = true := Store.okFrom_filter d m none p hm

@[simp] theorem Store.wf_drop {α : Type} [DecidableEq α] (d : α) (m : Store α) (p : Nat → Bool) (hm : Store.wf d m = true) :
    Store.wf d (Store.drop m p) = true := Store.okFrom_filter d m none _ hm

/-! ### Reading after writing -/

theorem Store.get_above {α : Type} [DecidableEq α] (d : α) (m : Store α) (j k : Nat)
    (hm : Store.okFrom d (some j) m = true) (h : k ≤ j) : Store.get d m k = d := by
  induction m generalizing j with
  | nil => rfl
  | cons e r ih =>
    obtain ⟨a, v⟩ := e
    simp only [Store.okFrom, Bool.and_eq_true, decide_eq_true_eq] at hm
    have hne : ¬ a = k := by omega
    simp only [Store.get, if_neg hne]
    exact ih a hm.2 (by omega)

/-- The key written reads the value written: no key occurs twice. -/
theorem Store.get_set_same {α : Type} [DecidableEq α] (d : α) (m : Store α) (b : Option Nat) (k : Nat) (v : α)
    (hm : Store.okFrom d b m = true) : Store.get d (Store.set d m k v) k = v := by
  induction m generalizing b with
  | nil =>
    simp only [Store.set]
    split
    · rename_i hv; simp [Store.get, hv]
    · simp [Store.get]
  | cons e r ih =>
    obtain ⟨a, w⟩ := e
    simp only [Store.okFrom, Bool.and_eq_true] at hm
    simp only [Store.set]
    split
    · rename_i hlt
      have hne : ¬ a = k := by omega
      simp only [Store.get, if_neg hne]
      exact ih (some a) hm.2
    · split
      · rename_i heq
        subst heq
        split
        · rename_i hv
          rw [Store.get_above d r a a hm.2 (Nat.le_refl a), hv]
        · simp [Store.get]
      · rename_i hge hne
        split
        · rename_i hv
          have hg : Store.get d r k = d := Store.get_above d r a k hm.2 (by omega)
          simp [Store.get, hne, hg, hv]
        · simp [Store.get]

/-- Every other key reads as before. -/
theorem Store.get_set_other {α : Type} [DecidableEq α] (d : α) (m : Store α) (k j : Nat) (v : α) (h : j ≠ k) :
    Store.get d (Store.set d m k v) j = Store.get d m j := by
  induction m with
  | nil =>
    simp only [Store.set]
    split
    · rfl
    · simp [Store.get, h.symm]
  | cons e r ih =>
    obtain ⟨a, w⟩ := e
    simp only [Store.set]
    split
    · simp only [Store.get]
      split
      · rfl
      · exact ih
    · split
      · rename_i heq
        have hne : ¬ a = j := by omega
        split
        · simp [Store.get, hne]
        · simp [Store.get, hne, h.symm]
      · split
        · rfl
        · simp [Store.get, h.symm]

theorem Store.get_set {α : Type} [DecidableEq α] (d : α) (m : Store α) (k j : Nat) (v : α) (hm : Store.wf d m = true) :
    Store.get d (Store.set d m k v) j = if j = k then v else Store.get d m j := by
  split
  · rename_i h; subst h; exact Store.get_set_same d m none j v hm
  · rename_i h; exact Store.get_set_other d m k j v h

theorem Store.get_mod {α : Type} [DecidableEq α] (d : α) (m : Store α) (k j : Nat) (f : α → α) (hm : Store.wf d m = true) :
    Store.get d (Store.mod d m k f) j = if j = k then f (Store.get d m k) else Store.get d m j := Store.get_set d m k j _ hm

end Sys2Proof.Machine
end

