-- ==== Sys2Proof/Laws/Canon.lean ====
section
/-!
SUPPORT. Every operation of the machine keeps the invariant `State.wf` (Safety.lean), the canonical form of every store
included: one lemma per operation, in the order of the machine's files.
-/
namespace Sys2Proof.Machine

set_option maxRecDepth 4000

@[simp] theorem State.wf_regs (s : State) (h : s.wf = true) : Store.wf 0#32 s.regs = true := by
  unfold State.wf at h
  iterate 15 replace h := (Bool.and_eq_true_iff.mp h).1
  exact (Bool.and_eq_true_iff.mp h).2
@[simp] theorem State.wf_copies (s : State) (h : s.wf = true) : Store.wf 0#32 s.copies = true := by
  unfold State.wf at h
  iterate 14 replace h := (Bool.and_eq_true_iff.mp h).1
  exact (Bool.and_eq_true_iff.mp h).2
@[simp] theorem State.wf_tables (s : State) (h : s.wf = true) : Store.wf 0#32 s.tables = true := by
  unfold State.wf at h
  iterate 13 replace h := (Bool.and_eq_true_iff.mp h).1
  exact (Bool.and_eq_true_iff.mp h).2
@[simp] theorem State.wf_chans (s : State) (h : s.wf = true) : Store.wf {} s.chans = true := by
  unfold State.wf at h
  iterate 12 replace h := (Bool.and_eq_true_iff.mp h).1
  exact (Bool.and_eq_true_iff.mp h).2
@[simp] theorem State.wf_groups (s : State) (h : s.wf = true) : Store.wf {} s.groups = true := by
  unfold State.wf at h
  iterate 11 replace h := (Bool.and_eq_true_iff.mp h).1
  exact (Bool.and_eq_true_iff.mp h).2
@[simp] theorem State.wf_policers (s : State) (h : s.wf = true) : Store.wf {} s.policers = true := by
  unfold State.wf at h
  iterate 10 replace h := (Bool.and_eq_true_iff.mp h).1
  exact (Bool.and_eq_true_iff.mp h).2
@[simp] theorem State.wf_foxes (s : State) (h : s.wf = true) : Store.wf {} s.foxes = true := by
  unfold State.wf at h
  iterate 9 replace h := (Bool.and_eq_true_iff.mp h).1
  exact (Bool.and_eq_true_iff.mp h).2
@[simp] theorem State.wf_pgs (s : State) (h : s.wf = true) : Store.wf {} s.pgs = true := by
  unfold State.wf at h
  iterate 8 replace h := (Bool.and_eq_true_iff.mp h).1
  exact (Bool.and_eq_true_iff.mp h).2
@[simp] theorem State.wf_reds (s : State) (h : s.wf = true) : Store.wf {} s.reds = true := by
  unfold State.wf at h
  iterate 7 replace h := (Bool.and_eq_true_iff.mp h).1
  exact (Bool.and_eq_true_iff.mp h).2
@[simp] theorem State.wf_frers (s : State) (h : s.wf = true) : Store.wf {} s.frers = true := by
  unfold State.wf at h
  iterate 6 replace h := (Bool.and_eq_true_iff.mp h).1
  exact (Bool.and_eq_true_iff.mp h).2
@[simp] theorem State.wf_snoopRest (s : State) (h : s.wf = true) : Store.wf 0 s.snoopRest = true := by
  unfold State.wf at h
  iterate 5 replace h := (Bool.and_eq_true_iff.mp h).1
  exact (Bool.and_eq_true_iff.mp h).2
@[simp] theorem State.wf_sessions (s : State) (h : s.wf = true) : Store.wf { nonce := 0#64 } s.sessions = true := by
  unfold State.wf at h
  iterate 4 replace h := (Bool.and_eq_true_iff.mp h).1
  exact (Bool.and_eq_true_iff.mp h).2
@[simp] theorem State.wf_streams (s : State) (h : s.wf = true) : Store.wf {} s.streams = true := by
  unfold State.wf at h
  iterate 3 replace h := (Bool.and_eq_true_iff.mp h).1
  exact (Bool.and_eq_true_iff.mp h).2
@[simp] theorem State.wf_holds (s : State) (h : s.wf = true) : Store.wf {} s.holds = true := by
  unfold State.wf at h
  iterate 2 replace h := (Bool.and_eq_true_iff.mp h).1
  exact (Bool.and_eq_true_iff.mp h).2
@[simp] theorem State.wf_tribs (s : State) (h : s.wf = true) : Store.wf {} s.tribs = true := by
  unfold State.wf at h
  iterate 1 replace h := (Bool.and_eq_true_iff.mp h).1
  exact (Bool.and_eq_true_iff.mp h).2
@[simp] theorem State.wf_flash (s : State) (h : s.wf = true) : Store.wf 0xFF#8 s.mgmt.flash = true := by
  unfold State.wf at h
  exact (Bool.and_eq_true_iff.mp h).2
theorem State.wf_events (s : State) (h : s.wf = true) : s.events.length ≤ 1024 := by
  unfold State.wf at h
  iterate 16 replace h := (Bool.and_eq_true_iff.mp h).1
  exact of_decide_eq_true h
@[simp] theorem State.wf_mk x_pending x_phase x_osc x_owl x_straps x_regs x_copies x_badPar x_trpBad x_tables x_tblBad x_chans x_groups x_policers x_foxes x_lastRoam x_pgs x_reds x_frers x_snoopRest x_memWake x_memSleep x_memNoteTill x_twin x_refs x_time x_cmd x_sessions x_streams x_events x_holds x_swap x_tribs x_faults x_mgmt x_deepAt x_wakeAt x_jtag x_ppsOut x_sampledAt x_mapped x_started x_freeCtr : (State.mk x_pending x_phase x_osc x_owl x_straps x_regs x_copies x_badPar x_trpBad x_tables x_tblBad x_chans x_groups x_policers x_foxes x_lastRoam x_pgs x_reds x_frers x_snoopRest x_memWake x_memSleep x_memNoteTill x_twin x_refs x_time x_cmd x_sessions x_streams x_events x_holds x_swap x_tribs x_faults x_mgmt x_deepAt x_wakeAt x_jtag x_ppsOut x_sampledAt x_mapped x_started x_freeCtr).wf = (decide (x_events.length ≤ 1024) && Store.wf 0#32 x_regs && Store.wf 0#32 x_copies && Store.wf 0#32 x_tables && Store.wf {} x_chans && Store.wf {} x_groups && Store.wf {} x_policers && Store.wf {} x_foxes && Store.wf {} x_pgs && Store.wf {} x_reds && Store.wf {} x_frers && Store.wf 0 x_snoopRest && Store.wf { nonce := 0#64 } x_sessions && Store.wf {} x_streams && Store.wf {} x_holds && Store.wf {} x_tribs && Store.wf 0xFF#8 x_mgmt.flash) := rfl
@[simp] theorem State.wf_events' (s : State) (h : s.wf = true) : s.events.length ≤ 1024 := s.wf_events h
@[simp] theorem State.ite_wf {c : Prop} [Decidable c] (a b : State) : (if c then a else b).wf = if c then a.wf else b.wf := by split <;> rfl
@[simp] theorem State.ite_wf2 {α : Type} {c : Prop} [Decidable c] (a b : α × State) : (if c then a else b).2.wf = if c then a.2.wf else b.2.wf := by split <;> rfl
@[simp] theorem State.each_wf (s : State) (l : List Nat) (f : State → Nat → State) (hs : s.wf = true) (h : ∀ t n, t.wf = true → (f t n).wf = true) : (s.each l f).wf = true := by
  unfold State.each
  induction l generalizing s with
  | nil => exact hs
  | cons a r ih => exact ih _ (h _ _ hs)
@[simp] theorem State.foldl_wf {α : Type} (l : List α) (s : State) (f : State → α → State) (hs : s.wf = true) (h : ∀ t n, t.wf = true → (f t n).wf = true) : (l.foldl f s).wf = true := by
  induction l generalizing s with
  | nil => exact hs
  | cons a r ih => exact ih _ (h _ _ hs)
theorem Store.wf_foldl_set {α β : Type} [DecidableEq α] (d : α) (l : List β) (k : β → Nat) (v : β → α) (m : Store α) (hm : Store.wf d m = true) :
    Store.wf d (l.foldl (fun m e => Store.set d m (k e) (v e)) m) = true := by
  induction l generalizing m with
  | nil => exact hm
  | cons a r ih => exact ih _ (Store.wf_set d m _ _ hm)
theorem Store.okFrom_map_filter {α : Type} [DecidableEq α] (d : α) (g : Nat × α → α) (m : Store α) (b : Option Nat)
    (hm : Store.okFrom d b m = true) : Store.okFrom d b ((m.map (fun e => (e.1, g e))).filter (fun e => e.2 != d)) = true := by
  induction m generalizing b with
  | nil => rfl
  | cons e r ih =>
    obtain ⟨a, w⟩ := e
    simp only [Store.okFrom, Bool.and_eq_true] at hm
    simp only [List.map_cons, List.filter_cons]
    split
    · rename_i h
      simp only [Store.okFrom, Bool.and_eq_true]
      exact ⟨⟨hm.1.1, by simpa using h⟩, ih _ hm.2⟩
    · have h := ih (some a) hm.2
      cases b with
      | none => exact Store.okFrom_none d _ a h
      | some j =>
        simp only [decide_eq_true_eq] at hm
        exact Store.okFrom_weaken d _ j a (Nat.le_of_lt hm.1.1) h
theorem Store.wf_map_filter {α : Type} [DecidableEq α] (d : α) (g : Nat × α → α) (m : Store α) (hm : Store.wf d m = true) :
    Store.wf d ((m.map (fun e => (e.1, g e))).filter (fun e => e.2 != d)) = true := Store.okFrom_map_filter d g m none hm
@[simp] theorem Mgmt.setBin_flash (m : Mgmt) (c n : Nat) (b : List Nat) : (m.setBin c n b).flash = m.flash := rfl
@[simp] theorem Mgmt.shiftBins_flash (m : Mgmt) (c n : Nat) : (m.shiftBins c n).flash = m.flash := by
  induction n generalizing m with
  | zero => rfl
  | succ n ih => simp [Mgmt.shiftBins, ih]
@[simp] theorem Mgmt.roll_flash (m : Mgmt) (c sec : Nat) : (m.roll c sec).flash = m.flash := by
  unfold Mgmt.roll; dsimp only; (repeat' split) <;> simp
@[simp] theorem Mgmt.inBins_flash (m : Mgmt) (c sec : Nat) (f : List Nat → List Nat) : (m.inBins c sec f).flash = m.flash := by
  unfold Mgmt.inBins; dsimp only; (repeat' split) <;> simp
@[simp] theorem Mgmt.flush_flash (m : Mgmt) (c : Nat) (u : Bool) (l : List Nat) : (m.flush c u l).flash = m.flash := by
  unfold Mgmt.flush; try dsimp only
  first | rfl | (induction l generalizing m <;> simp_all) | ((repeat' split) <;> simp)
@[simp] theorem Mgmt.second_flash (m : Mgmt) (c e : Nat) : (m.second c e).flash = m.flash := by
  unfold Mgmt.second; dsimp only; (repeat' split) <;> simp
@[simp] theorem Mgmt.deepMark_flash (m : Mgmt) (c : Nat) : (m.deepMark c).flash = m.flash := by
  unfold Mgmt.deepMark; dsimp only; (repeat' split) <;> simp
@[simp] theorem Mgmt.inDeep_flash (m : Mgmt) (sec : Nat) : (m.inDeep sec).flash = m.flash := by
  unfold Mgmt.inDeep
  have h : ∀ (l : List Nat) (k : Mgmt), (l.foldl Mgmt.deepMark k).flash = k.flash := by
    intro l
    induction l with
    | nil => intro k; rfl
    | cons a r ih => intro k; rw [List.foldl_cons, ih, Mgmt.deepMark_flash]
  exact h _ _
@[simp] theorem Mgmt.wipeBins_flash (m : Mgmt) : m.wipeBins.flash = m.flash := rfl

@[simp] theorem State.setReg_wf (s : State) (a : Nat) (w : Word) (hs : s.wf = true) : (State.setReg s a w).wf = true := by
  simp (maxDischargeDepth := 60) [State.setReg, hs]
@[simp] theorem State.setRf_wf (s : State) (a : Nat) (hi : Nat) (lo : Nat) (v : Nat) (hs : s.wf = true) : (State.setRf s a hi lo v).wf = true := by
  simp (maxDischargeDepth := 60) [State.setRf, hs]
@[simp] theorem State.setRb_wf (s : State) (a : Nat) (i : Nat) (b : Bool) (hs : s.wf = true) : (State.setRb s a i b).wf = true := by
  simp (maxDischargeDepth := 60) [State.setRb, hs]
@[simp] theorem State.count_wf (s : State) (a : Nat) (hi : Nat) (lo : Nat) (n : Nat) (hs : s.wf = true) : (State.count s a hi lo n).wf = true := by
  simp (maxDischargeDepth := 60) [State.count, hs]
@[simp] theorem State.setCrf_wf (s : State) (c : Nat) (n : Nat) (hi : Nat) (lo : Nat) (v : Nat) (hs : s.wf = true) : (State.setCrf s c n hi lo v).wf = true := by
  simp (maxDischargeDepth := 60) [State.setCrf, hs]
@[simp] theorem State.setCrb_wf (s : State) (c : Nat) (n : Nat) (i : Nat) (b : Bool) (hs : s.wf = true) : (State.setCrb s c n i b).wf = true := by
  simp (maxDischargeDepth := 60) [State.setCrb, hs]
@[simp] theorem State.modCh_wf (s : State) (c : Nat) (f : Chan → Chan) (hs : s.wf = true) : (State.modCh s c f).wf = true := by
  simp (maxDischargeDepth := 60) [State.modCh, hs]
@[simp] theorem State.modLane_wf (s : State) (c : Nat) (f : Lane → Lane) (hs : s.wf = true) : (State.modLane s c f).wf = true := by
  simp (maxDischargeDepth := 60) [State.modLane, hs]
@[simp] theorem State.modFrm_wf (s : State) (c : Nat) (f : Framer → Framer) (hs : s.wf = true) : (State.modFrm s c f).wf = true := by
  simp (maxDischargeDepth := 60) [State.modFrm, hs]
@[simp] theorem State.modMon_wf (s : State) (c : Nat) (f : Monitor → Monitor) (hs : s.wf = true) : (State.modMon s c f).wf = true := by
  simp (maxDischargeDepth := 60) [State.modMon, hs]
@[simp] theorem State.modGrp_wf (s : State) (g : Nat) (f : Group → Group) (hs : s.wf = true) : (State.modGrp s g f).wf = true := by
  simp (maxDischargeDepth := 60) [State.modGrp, hs]
@[simp] theorem State.modFox_wf (s : State) (e : Nat) (f : Fox → Fox) (hs : s.wf = true) : (State.modFox s e f).wf = true := by
  simp (maxDischargeDepth := 60) [State.modFox, hs]
@[simp] theorem State.modPg_wf (s : State) (p : Nat) (f : Pg → Pg) (hs : s.wf = true) : (State.modPg s p f).wf = true := by
  simp (maxDischargeDepth := 60) [State.modPg, hs]
@[simp] theorem State.modRed_wf (s : State) (n : Nat) (f : Red → Red) (hs : s.wf = true) : (State.modRed s n f).wf = true := by
  simp (maxDischargeDepth := 60) [State.modRed, hs]
@[simp] theorem State.modFrer_wf (s : State) (n : Nat) (f : Frer → Frer) (hs : s.wf = true) : (State.modFrer s n f).wf = true := by
  simp (maxDischargeDepth := 60) [State.modFrer, hs]
@[simp] theorem State.modTwin_wf (s : State) (f : Twin → Twin) (hs : s.wf = true) : (State.modTwin s f).wf = true := by
  simp (maxDischargeDepth := 60) [State.modTwin, hs]
@[simp] theorem State.modRefs_wf (s : State) (f : Refs → Refs) (hs : s.wf = true) : (State.modRefs s f).wf = true := by
  simp (maxDischargeDepth := 60) [State.modRefs, hs]
@[simp] theorem State.modMgmt_wf (s : State) (f : Mgmt → Mgmt) (hs : s.wf = true) (hf : ∀ m, Store.wf 0xFF#8 m.flash = true → Store.wf 0xFF#8 (f m).flash = true) : (State.modMgmt s f).wf = true := by
  simp (maxDischargeDepth := 60) [State.modMgmt, hs, hf]
@[simp] theorem State.modCmd_wf (s : State) (f : Cmd → Cmd) (hs : s.wf = true) : (State.modCmd s f).wf = true := by
  simp (maxDischargeDepth := 60) [State.modCmd, hs]
@[simp] theorem State.modFaults_wf (s : State) (f : Faults → Faults) (hs : s.wf = true) : (State.modFaults s f).wf = true := by
  simp (maxDischargeDepth := 60) [State.modFaults, hs]
@[simp] theorem State.setTblB_wf (s : State) (t : Nat) (b : Nat) (e : Nat) (w : Nat) (v : Word) (hs : s.wf = true) : (State.setTblB s t b e w v).wf = true := by
  simp (maxDischargeDepth := 60) [State.setTblB, hs]
@[simp] theorem State.setTbl_wf (s : State) (t : Nat) (e : Nat) (w : Nat) (v : Word) (hs : s.wf = true) : (State.setTbl s t e w v).wf = true := by
  simp (maxDischargeDepth := 60) [State.setTbl, hs]
@[simp] theorem State.setTblWords_wf (s : State) (t : Nat) (b : Nat) (e : Nat) (w : Nat) (z5 : List Word) (hs : s.wf = true) : (State.setTblWords s t b e w z5).wf = true := by
  induction z5 generalizing s w with
  | nil => exact hs
  | cons v r ih =>
    simp only [State.setTblWords]
    (repeat' split) <;> first | exact hs | (apply ih; simp (maxDischargeDepth := 60) +contextual [hs])
@[simp] theorem State.countTbl_wf (s : State) (t : Nat) (e : Nat) (w : Nat) (hi : Nat) (lo : Nat) (n : Nat) (hs : s.wf = true) : (State.countTbl s t e w hi lo n).wf = true := by
  simp (maxDischargeDepth := 60) [State.countTbl, hs]
@[simp] theorem State.push_wf (s : State) (e : Event) (hs : s.wf = true) : (State.push s e).wf = true := by
  unfold State.push evtMax
  split
  · simp (maxDischargeDepth := 60) [hs]; omega
  · simp (maxDischargeDepth := 60) [hs]
@[simp] theorem State.event_wf (s : State) (cls : Nat) (grp : Nat) (chn : Nat) (code : Nat) (hs : s.wf = true) : (State.event s cls grp chn code).wf = true := by
  simp (maxDischargeDepth := 60) [State.event, hs]
@[simp] theorem State.modHold_wf (s : State) (k : Nat) (f : Hold → Hold) (hs : s.wf = true) : (State.modHold s k f).wf = true := by
  simp (maxDischargeDepth := 60) [State.modHold, hs]
@[simp] theorem State.change_wf (s : State) (k : Nat) (i : Nat) (v : Nat) (us : Nat) (hs : s.wf = true) : (State.change s k i v us).wf = true := by
  simp (maxDischargeDepth := 60) [State.change, hs]
@[simp] theorem State.occur_wf (s : State) (k : Nat) (i : Nat) (us : Nat) (hs : s.wf = true) : (State.occur s k i us).wf = true := by
  simp (maxDischargeDepth := 60) [State.occur, hs]
@[simp] theorem State.expireHold_wf (s : State) (k : Nat) (mk : Nat → Item → Event) (hs : s.wf = true) : (State.expireHold s k mk).wf = true := by
  simp (maxDischargeDepth := 60) +contextual [State.expireHold, hs]
@[simp] theorem State.tookFree_wf (s : State) (hs : s.wf = true) : (State.tookFree s).wf = true := by
  simp (maxDischargeDepth := 60) [State.tookFree, hs]
@[simp] theorem State.claim_wf (s : State) (c : Claim) (hs : s.wf = true) : (State.claim s c).wf = true := by
  simp (maxDischargeDepth := 60) [State.claim, hs]
@[simp] theorem State.release_wf (s : State) (p : Claim → Bool) (hs : s.wf = true) : (State.release s p).wf = true := by
  simp (maxDischargeDepth := 60) [State.release, hs]
@[simp] theorem State.setChState_wf (s : State) (c : Nat) (v : Nat) (hs : s.wf = true) : (State.setChState s c v).wf = true := by
  simp (maxDischargeDepth := 60) +contextual [State.setChState, hs]
@[simp] theorem whileOn_wf (s : State) (t : State) (hs : s.wf = true) (hk : t.wf = true) : (whileOn s t).wf = true := by
  simp (maxDischargeDepth := 60) [whileOn, hs, hk]
@[simp] theorem State.wakeBadger_wf (s : State) (hs : s.wf = true) : (State.wakeBadger s).wf = true := by
  simp (maxDischargeDepth := 60) [State.wakeBadger, hs]
@[simp] theorem State.mgmtEvent_wf (s : State) (code : Nat) (ch : Nat) (hs : s.wf = true) : (State.mgmtEvent s code ch).wf = true := by
  simp (maxDischargeDepth := 60) [State.mgmtEvent, hs]
@[simp] theorem State.putRec_wf (s : State) (typ : Nat) (inj : Bool) (code : Nat) (d0 : Word) (d1 : Word) (hs : s.wf = true) : (State.putRec s typ inj code d0 d1).wf = true := by
  simp (maxDischargeDepth := 60) [State.putRec, hs]
@[simp] theorem State.logRec_wf (s : State) (typ : Nat) (inj : Bool) (code : Nat) (d0 : Word) (d1 : Word) (hs : s.wf = true) : (State.logRec s typ inj code d0 d1).wf = true := by
  simp (maxDischargeDepth := 60) [State.logRec, hs]
@[simp] theorem State.putRecord_wf (s : State) (base : Nat) (sev : Nat) (r : Report) (hs : s.wf = true) : (State.putRecord s base sev r).wf = true := by
  simp (maxDischargeDepth := 60) [State.putRecord, hs]
@[simp] theorem State.record_wf (s : State) (sev : Nat) (r : Report) (hs : s.wf = true) : (State.record s sev r).wf = true := by
  simp (maxDischargeDepth := 60) [State.record, hs]
@[simp] theorem State.startAck_wf (s : State) (sev : Nat) (hs : s.wf = true) : (State.startAck s sev).wf = true := by
  simp (maxDischargeDepth := 60) [State.startAck, hs]
@[simp] theorem State.setWindow_wf (s : State) (src : Nat) (w : Option Window) (hs : s.wf = true) : (State.setWindow s src w).wf = true := by
  simp (maxDischargeDepth := 60) [State.setWindow, hs]
@[simp] theorem State.faultEvent_wf (s : State) (sev : Nat) (r : Report) (hs : s.wf = true) : (State.faultEvent s sev r).wf = true := by
  unfold State.faultEvent; (repeat' split) <;> simp (maxDischargeDepth := 60) [hs]
@[simp] theorem State.enterSafe_wf (s : State) (hs : s.wf = true) : (State.enterSafe s).wf = true := by
  simp (maxDischargeDepth := 60) [State.enterSafe, hs]
@[simp] theorem State.raise_wf (s : State) (r : Report) (hs : s.wf = true) : (State.raise s r).wf = true := by
  simp (maxDischargeDepth := 60) [State.raise, hs]
@[simp] theorem State.report_wf (s : State) (r : Report) (hs : s.wf = true) : (State.report s r).wf = true := by
  simp (maxDischargeDepth := 60) [State.report, hs]
@[simp] theorem State.fault_wf (s : State) (src : Nat) (hs : s.wf = true) : (State.fault s src).wf = true := by
  simp (maxDischargeDepth := 60) [State.fault, hs]
@[simp] theorem State.levelOn_wf (s : State) (r : Report) (hs : s.wf = true) : (State.levelOn s r).wf = true := by
  simp (maxDischargeDepth := 60) [State.levelOn, hs]
@[simp] theorem State.levelOff_wf (s : State) (src : Nat) (hs : s.wf = true) : (State.levelOff s src).wf = true := by
  simp (maxDischargeDepth := 60) [State.levelOff, hs]
@[simp] theorem State.escalate_wf (s : State) (sev : Nat) (hs : s.wf = true) : (State.escalate s sev).wf = true := by
  simp (maxDischargeDepth := 60) [State.escalate, hs]
@[simp] theorem State.ackExpiry_wf (s : State) (sev : Nat) (hs : s.wf = true) : (State.ackExpiry s sev).wf = true := by
  simp (maxDischargeDepth := 60) [State.ackExpiry, hs]
@[simp] theorem State.ackSev_wf (s : State) (sev : Nat) (hs : s.wf = true) : (State.ackSev s sev).wf = true := by
  simp (maxDischargeDepth := 60) [State.ackSev, hs]
@[simp] theorem State.trpAgree_wf (s : State) (a : Nat) (hs : s.wf = true) : (State.trpAgree s a).wf = true := by
  unfold State.trpAgree; (repeat' split) <;> simp (maxDischargeDepth := 60) [hs]
@[simp] theorem State.flagIgnored_wf (s : State) (p : Place) (hs : s.wf = true) : (State.flagIgnored s p).wf = true := by
  unfold State.flagIgnored; (repeat' split) <;> simp (maxDischargeDepth := 60) [hs]
@[simp] theorem State.keyFail_wf (s : State) (a : Nat) (hs : s.wf = true) : (State.keyFail s a).wf = true := by
  simp (maxDischargeDepth := 60) [State.keyFail, hs]
@[simp] theorem State.twinOccur_wf (s : State) (code : Nat) (v : Nat) (hs : s.wf = true) : (State.twinOccur s code v).wf = true := by
  simp (maxDischargeDepth := 60) [State.twinOccur, hs]
@[simp] theorem State.twinEvent_wf (s : State) (code : Nat) (chan : Nat) (hs : s.wf = true) : (State.twinEvent s code chan).wf = true := by
  simp (maxDischargeDepth := 60) [State.twinEvent, hs]
@[simp] theorem State.twinHoldExpiry_wf (s : State) (code : Nat) (hs : s.wf = true) : (State.twinHoldExpiry s code).wf = true := by
  simp (maxDischargeDepth := 60) [State.twinHoldExpiry, hs]
@[simp] theorem State.setUnsync_wf (s : State) (v : Bool) (hs : s.wf = true) : (State.setUnsync s v).wf = true := by
  simp (maxDischargeDepth := 60) [State.setUnsync, hs]
@[simp] theorem State.crcGate_wf (s : State) (f : LinkFrame) (got : Option Word) (t : State) (hs : s.wf = true) (hk : t.wf = true) : (State.crcGate s f got t).wf = true := by
  simp (maxDischargeDepth := 60) [State.crcGate, hs, hk]
@[simp] theorem State.gotFrame_wf (s : State) (typ : Nat) (ws : List Word) (got : Option Word) (t : State) (hs : s.wf = true) (ht : t.wf = true) : (State.gotFrame s typ ws got t).wf = true := by
  simp (maxDischargeDepth := 60) [State.gotFrame, *]
@[simp] theorem State.linkSendFor_wf (s : State) (typ : Nat) (ws : List Word) (q : Option Req) (hs : s.wf = true) : (State.linkSendFor s typ ws q).wf = true := by
  simp (maxDischargeDepth := 60) [State.linkSendFor, *]
@[simp] theorem State.linkSend_wf (s : State) (typ : Nat) (ws : List Word) (hs : s.wf = true) : (State.linkSend s typ ws).wf = true := by
  simp (maxDischargeDepth := 60) [State.linkSend, hs]
@[simp] theorem State.mirror_wf (s : State) (cls : Nat) (obj : Nat) (ws : List Word) (hs : s.wf = true) : (State.mirror s cls obj ws).wf = true := by
  simp (maxDischargeDepth := 60) [State.mirror, hs]
@[simp] theorem State.mirrorEntry_wf (s : State) (t : Nat) (b : Nat) (e : Nat) (n : Nat) (hs : s.wf = true) : (State.mirrorEntry s t b e n).wf = true := by
  simp (maxDischargeDepth := 60) [State.mirrorEntry, hs]
@[simp] theorem State.modSession_wf (s : State) (slot : Nat) (f : Session → Session) (hs : s.wf = true) : (State.modSession s slot f).wf = true := by
  simp (maxDischargeDepth := 60) [State.modSession, hs]
@[simp] theorem State.queueStream_wf (s : State) (slot : Nat) (l : List Byte) (q : Option Req) (hs : s.wf = true) : (State.queueStream s slot l q).wf = true := by
  simp (maxDischargeDepth := 60) [State.queueStream, hs]
@[simp] theorem State.settle_wf (s : State) (q : Req) (hs : s.wf = true) : (State.settle s q).wf = true := by
  simp (maxDischargeDepth := 60) [State.settle, hs]
@[simp] theorem State.putReply_wf (s : State) (r : Reply) (hs : s.wf = true) : (State.putReply s r).wf = true := by
  unfold State.putReply; (repeat' split) <;> simp (maxDischargeDepth := 60) [hs]
@[simp] theorem State.reply_wf (s : State) (q : Req) (op : Nat) (st : Nat) (det : Nat) (ws : List Word) (hs : s.wf = true) : (State.reply s q op st det ws).wf = true := by
  simp (maxDischargeDepth := 60) [State.reply, hs]
@[simp] theorem State.status_wf (s : State) (q : Req) (op : Nat) (st : Nat) (hs : s.wf = true) : (State.status s q op st).wf = true := by
  simp (maxDischargeDepth := 60) [State.status, hs]
@[simp] theorem State.ok_wf (s : State) (q : Req) (op : Nat) (hs : s.wf = true) : (State.ok s q op).wf = true := by
  simp (maxDischargeDepth := 60) [State.ok, hs]
@[simp] theorem State.finish_wf (s : State) (q : Req) (op : Nat) (st : Nat) (det : Nat) (ws : List Word) (hs : s.wf = true) : (State.finish s q op st det ws).wf = true := by
  simp (maxDischargeDepth := 60) [State.finish, hs]
@[simp] theorem State.setPend_wf (s : State) (p : PendCmd) (hs : s.wf = true) : (State.setPend s p).wf = true := by
  simp (maxDischargeDepth := 60) [State.setPend, hs]
@[simp] theorem State.pendOn_wf (s : State) (q : Req) (op : Nat) (j : Job) (due : Option Nat) (hs : s.wf = true) : (State.pendOn s q op j due).wf = true := by
  simp (maxDischargeDepth := 60) [State.pendOn, hs]
@[simp] theorem State.defChange_wf (s : State) (c : Nat) (d : Nat) (v : Bool) (hs : s.wf = true) : (State.defChange s c d v).wf = true := by
  simp (maxDischargeDepth := 60) [State.defChange, hs]
@[simp] theorem State.putDef_wf (s : State) (c : Nat) (d : Nat) (v : Bool) (hs : s.wf = true) : (State.putDef s c d v).wf = true := by
  simp (maxDischargeDepth := 60) [State.putDef, hs]
@[simp] theorem State.setDef_wf (s : State) (c : Nat) (d : Nat) (v : Bool) (hs : s.wf = true) : (State.setDef s c d v).wf = true := by
  simp (maxDischargeDepth := 60) [State.setDef, hs]
@[simp] theorem State.syncSsf_wf (s : State) (c : Nat) (hs : s.wf = true) : (State.syncSsf s c).wf = true := by
  simp (maxDischargeDepth := 60) [State.syncSsf, hs]
@[simp] theorem State.clearOverhead_wf (s : State) (c : Nat) (hs : s.wf = true) : (State.clearOverhead s c).wf = true := by
  simp (maxDischargeDepth := 60) +contextual [State.clearOverhead, hs]
@[simp] theorem State.oofOn_wf (s : State) (c : Nat) (hs : s.wf = true) : (State.oofOn s c).wf = true := by
  simp (maxDischargeDepth := 60) [State.oofOn, hs]
@[simp] theorem State.oofOff_wf (s : State) (c : Nat) (hs : s.wf = true) : (State.oofOff s c).wf = true := by
  simp (maxDischargeDepth := 60) [State.oofOff, hs]
@[simp] theorem State.endScan_wf (s : State) (c : Nat) (det : Nat) (hs : s.wf = true) : (State.endScan s c det).wf = true := by
  unfold State.endScan; try dsimp only; (repeat' split) <;> simp_all (maxDischargeDepth := 60)
@[simp] theorem State.captureLost_wf (s : State) (c : Nat) (hs : s.wf = true) : (State.captureLost s c).wf = true := by
  simp (maxDischargeDepth := 60) [State.captureLost, hs]
@[simp] theorem State.toState_wf (s : State) (c : Nat) (v : Nat) (hs : s.wf = true) : (State.toState s c v).wf = true := by
  simp (maxDischargeDepth := 60) +contextual [State.toState, hs]
@[simp] theorem State.syncDeg_wf (s : State) (c : Nat) (hs : s.wf = true) : (State.syncDeg s c).wf = true := by
  simp (maxDischargeDepth := 60) [State.syncDeg, hs]
@[simp] theorem State.sendBack_wf (s : State) (c d : Nat) (bits : List Bool) (hs : s.wf = true) : (State.sendBack s c d bits).wf = true := by
  unfold State.sendBack
  try dsimp only
  (repeat' split) <;> simp_all (maxDischargeDepth := 60)
@[simp] theorem State.lanesIn_wf (s : State) (c : Nat) (ls : List (List Nat)) (hs : s.wf = true) : (State.lanesIn s c ls).2.wf = true := by
  unfold State.lanesIn
  try dsimp only
  (repeat' split) <;> simp_all (maxDischargeDepth := 60)
@[simp] theorem State.lanesOut_wf (s : State) (c : Nat) (sub : List (List Bool)) (hs : s.wf = true) : (State.lanesOut s c sub).wf = true := by
  unfold State.lanesOut
  try dsimp only
  (repeat' split) <;> simp_all (maxDischargeDepth := 60)
@[simp] theorem State.withdraw_wf (s : State) (c : Nat) (hs : s.wf = true) : (State.withdraw s c).wf = true := by
  simp (maxDischargeDepth := 60) [State.withdraw, hs]
@[simp] theorem State.request_wf (s : State) (c : Nat) (hs : s.wf = true) : (State.request s c).wf = true := by
  simp (maxDischargeDepth := 60) [State.request, hs]
@[simp] theorem State.attemptFailed_wf (s : State) (c : Nat) (hs : s.wf = true) : (State.attemptFailed s c).wf = true := by
  simp (maxDischargeDepth := 60) [State.attemptFailed, hs]
@[simp] theorem State.clearBackoff_wf (s : State) (c : Nat) (hs : s.wf = true) : (State.clearBackoff s c).wf = true := by
  simp (maxDischargeDepth := 60) [State.clearBackoff, hs]
@[simp] theorem State.releaseFox_wf (s : State) (c : Nat) (slip : Bool) (hs : s.wf = true) : (State.releaseFox s c slip).wf = true := by
  unfold State.releaseFox; (repeat' split) <;> simp (maxDischargeDepth := 60) [hs]
@[simp] theorem State.rerequest_wf (s : State) (c : Nat) (hs : s.wf = true) : (State.rerequest s c).wf = true := by
  simp (maxDischargeDepth := 60) [State.rerequest, hs]
@[simp] theorem State.outOfFrame_wf (s : State) (c : Nat) (slip : Bool) (hs : s.wf = true) : (State.outOfFrame s c slip).wf = true := by
  simp (maxDischargeDepth := 60) [State.outOfFrame, hs]
@[simp] theorem State.toFaulted_wf (s : State) (c : Nat) (hs : s.wf = true) : (State.toFaulted s c).wf = true := by
  simp (maxDischargeDepth := 60) [State.toFaulted, hs]
@[simp] theorem State.grant_wf (s : State) (e : Nat) (c : Nat) (hs : s.wf = true) : (State.grant s e c).wf = true := by
  simp (maxDischargeDepth := 60) [State.grant, hs]
@[simp] theorem State.foxGrant_wf (s : State) (e : Nat) (hs : s.wf = true) : (State.foxGrant s e).wf = true := by
  unfold State.foxGrant; (repeat' split) <;> simp (maxDischargeDepth := 60) [hs]
@[simp] theorem State.roamGrant_wf (s : State) (e : Nat) (hs : s.wf = true) : (State.roamGrant s e).wf = true := by
  unfold State.roamGrant; (repeat' split) <;> simp (maxDischargeDepth := 60) [hs]
@[simp] theorem State.roamingEpoch_wf (s : State) (hs : s.wf = true) : (State.roamingEpoch s).wf = true := by
  simp (maxDischargeDepth := 60) +contextual [State.roamingEpoch, hs]
@[simp] theorem State.foxFail_wf (s : State) (e : Nat) (hs : s.wf = true) : (State.foxFail s e).wf = true := by
  unfold State.foxFail; (repeat' split) <;> simp (maxDischargeDepth := 60) [hs]
@[simp] theorem State.foxHandback_wf (s : State) (e : Nat) (hs : s.wf = true) : (State.foxHandback s e).wf = true := by
  unfold State.foxHandback; (repeat' split) <;> simp (maxDischargeDepth := 60) [hs]
@[simp] theorem State.foxMatch_wf (s : State) (e : Nat) (off : Nat) (w : Nat) (hs : s.wf = true) : (State.foxMatch s e off w).wf = true := by
  simp (maxDischargeDepth := 60) [State.foxMatch, hs]
@[simp] theorem State.foxNoMatch_wf (s : State) (e : Nat) (hs : s.wf = true) : (State.foxNoMatch s e).wf = true := by
  simp (maxDischargeDepth := 60) [State.foxNoMatch, hs]
@[simp] theorem State.foxCandidate_wf (s : State) (e : Nat) (w : Nat) (hs : s.wf = true) : (State.foxCandidate s e w).wf = true := by
  simp (maxDischargeDepth := 60) [State.foxCandidate, hs]
@[simp] theorem State.foxConfirm_wf (s : State) (e : Nat) (w : Nat) (hs : s.wf = true) : (State.foxConfirm s e w).wf = true := by
  simp (maxDischargeDepth := 60) [State.foxConfirm, hs]
@[simp] theorem State.foxHandbackEnd_wf (s : State) (e : Nat) (hs : s.wf = true) : (State.foxHandbackEnd s e).wf = true := by
  unfold State.foxHandbackEnd; try dsimp only; (repeat' split) <;> simp_all (maxDischargeDepth := 60)
@[simp] theorem State.foxReleaseEnd_wf (s : State) (e : Nat) (hs : s.wf = true) : (State.foxReleaseEnd s e).wf = true := by
  unfold State.foxReleaseEnd; try dsimp only; (repeat' split) <;> simp_all (maxDischargeDepth := 60)
@[simp] theorem State.backoffExpiry_wf (s : State) (c : Nat) (hs : s.wf = true) : (State.backoffExpiry s c).wf = true := by
  simp (maxDischargeDepth := 60) [State.backoffExpiry, hs]
@[simp] theorem State.foxParityFail_wf (s : State) (e : Nat) (hs : s.wf = true) : (State.foxParityFail s e).wf = true := by
  unfold State.foxParityFail; try dsimp only; (repeat' split) <;> simp_all (maxDischargeDepth := 60)
@[simp] theorem State.dlofExpiry_wf (s : State) (c : Nat) (hs : s.wf = true) : (State.dlofExpiry s c).wf = true := by
  simp (maxDischargeDepth := 60) [State.dlofExpiry, hs]
@[simp] theorem onCh_wf (c : Nat) (s : State) (t : State) (hs : s.wf = true) (hk : t.wf = true) : (onCh c s t).wf = true := by
  simp (maxDischargeDepth := 60) [onCh, hs, hk]
@[simp] theorem onGrp_wf (g : Nat) (s : State) (t : State) (hs : s.wf = true) (hk : t.wf = true) : (onGrp g s t).wf = true := by
  simp (maxDischargeDepth := 60) [onGrp, hs, hk]
@[simp] theorem State.deepWake_wf (s : State) (hostCs : Bool) (hs : s.wf = true) : (State.deepWake s hostCs).wf = true := by
  simp (maxDischargeDepth := 60) [State.deepWake, hs]
@[simp] theorem State.checkStop_wf (s : State) (g : Nat) (hs : s.wf = true) : (State.checkStop s g).wf = true := by
  simp (maxDischargeDepth := 60) [State.checkStop, hs]
@[simp] theorem State.wakeGroup_wf (s : State) (g : Nat) (us : Nat) (hs : s.wf = true) : (State.wakeGroup s g us).wf = true := by
  simp (maxDischargeDepth := 60) [State.wakeGroup, hs]
@[simp] theorem State.groupStop_wf (s : State) (g : Nat) (hs : s.wf = true) : (State.groupStop s g).wf = true := by
  simp (maxDischargeDepth := 60) [State.groupStop, hs]
@[simp] theorem State.startWaking_wf (s : State) (c : Nat) (hs : s.wf = true) : (State.startWaking s c).wf = true := by
  simp (maxDischargeDepth := 60) [State.startWaking, hs]
@[simp] theorem State.groupRun_wf (s : State) (g : Nat) (hs : s.wf = true) : (State.groupRun s g).wf = true := by
  simp (maxDischargeDepth := 60) +contextual [State.groupRun, hs]
@[simp] theorem State.clearAdapt_wf (s : State) (c : Nat) (hs : s.wf = true) : (State.clearAdapt s c).wf = true := by
  simp (maxDischargeDepth := 60) [State.clearAdapt, hs]
@[simp] theorem State.wakeRx_wf (s : State) (c : Nat) (us : Nat) (hs : s.wf = true) : (State.wakeRx s c us).wf = true := by
  simp (maxDischargeDepth := 60) +contextual [State.wakeRx, hs]
@[simp] theorem State.startHold_wf (s : State) (c : Nat) (hs : s.wf = true) : (State.startHold s c).wf = true := by
  simp (maxDischargeDepth := 60) [State.startHold, hs]
@[simp] theorem State.partBond_wf (s : State) (c : Nat) (hs : s.wf = true) : (State.partBond s c).wf = true := by
  simp (maxDischargeDepth := 60) +contextual [State.partBond, hs]
@[simp] theorem State.sleepRx_wf (s : State) (o : Nat) (hs : s.wf = true) : (State.sleepRx s o).wf = true := by
  simp (maxDischargeDepth := 60) +contextual [State.sleepRx, hs]
@[simp] theorem State.sleepExpiry_wf (s : State) (c : Nat) (hs : s.wf = true) : (State.sleepExpiry s c).wf = true := by
  simp (maxDischargeDepth := 60) [State.sleepExpiry, hs]
@[simp] theorem State.losOn_wf (s : State) (c : Nat) (hs : s.wf = true) : (State.losOn s c).wf = true := by
  simp (maxDischargeDepth := 60) [State.losOn, hs]
@[simp] theorem State.sdOff_wf (s : State) (c : Nat) (hs : s.wf = true) : (State.sdOff s c).wf = true := by
  simp (maxDischargeDepth := 60) [State.sdOff, hs]
@[simp] theorem State.sdOn_wf (s : State) (c : Nat) (hs : s.wf = true) : (State.sdOn s c).wf = true := by
  simp (maxDischargeDepth := 60) [State.sdOn, hs]
@[simp] theorem State.sdRise_wf (s : State) (c : Nat) (lv : List Nat) (hs : s.wf = true) : (State.sdRise s c lv).wf = true := by
  simp (maxDischargeDepth := 60) [State.sdRise, hs]
@[simp] theorem State.sdFall_wf (s : State) (c : Nat) (lv : List Nat) (hs : s.wf = true) : (State.sdFall s c lv).wf = true := by
  simp (maxDischargeDepth := 60) [State.sdFall, hs]
@[simp] theorem State.pllLock_wf (s : State) (c : Nat) (ppm : Int) (hs : s.wf = true) : (State.pllLock s c ppm).wf = true := by
  simp (maxDischargeDepth := 60) [State.pllLock, hs]
@[simp] theorem State.adaptTable_wf (s : State) (c : Nat) (again : Bool) (hs : s.wf = true) : (State.adaptTable s c again).wf = true := by
  simp (maxDischargeDepth := 60) [State.adaptTable, hs]
@[simp] theorem State.adaptShow_wf (s : State) (c : Nat) (hs : s.wf = true) : (State.adaptShow s c).wf = true := by
  simp (maxDischargeDepth := 60) [State.adaptShow, hs]
@[simp] theorem State.adaptDone_wf (s : State) (c : Nat) (hs : s.wf = true) : (State.adaptDone s c).wf = true := by
  simp (maxDischargeDepth := 60) [State.adaptDone, hs]
@[simp] theorem State.unalign_wf (s : State) (c : Nat) (hs : s.wf = true) : (State.unalign s c).wf = true := by
  simp (maxDischargeDepth := 60) [State.unalign, hs]
@[simp] theorem State.enableCh_wf (s : State) (c : Nat) (hs : s.wf = true) : (State.enableCh s c).wf = true := by
  simp (maxDischargeDepth := 60) +contextual [State.enableCh, hs]
@[simp] theorem State.clearDefects_wf (s : State) (c : Nat) (hs : s.wf = true) : (State.clearDefects s c).wf = true := by
  simp (maxDischargeDepth := 60) +contextual [State.clearDefects, hs]
@[simp] theorem State.disableCh_wf (s : State) (c : Nat) (hs : s.wf = true) : (State.disableCh s c).wf = true := by
  simp (maxDischargeDepth := 60) +contextual [State.disableCh, hs]
@[simp] theorem State.watermark_wf (s : State) (c : Nat) (v : Nat) (hs : s.wf = true) : (State.watermark s c v).wf = true := by
  simp (maxDischargeDepth := 60) [State.watermark, hs]
@[simp] theorem State.slipped_wf (s : State) (c : Nat) (hs : s.wf = true) : (State.slipped s c).wf = true := by
  simp (maxDischargeDepth := 60) [State.slipped, hs]
@[simp] theorem State.storeShow_wf (s : State) (c : Nat) (f : StoreFill) (hs : s.wf = true) : (State.storeShow s c f).wf = true := by
  simp (maxDischargeDepth := 60) [State.storeShow, *]
@[simp] theorem State.slip_wf (s : State) (c : Nat) (f : StoreFill) (hs : s.wf = true) : (State.slip s c f).wf = true := by
  simp (maxDischargeDepth := 60) [State.slip, hs]
@[simp] theorem State.slipEnd_wf (s : State) (c : Nat) (hs : s.wf = true) : (State.slipEnd s c).wf = true := by
  simp (maxDischargeDepth := 60) [State.slipEnd, hs]
@[simp] theorem State.alignerLock_wf (s : State) (a : LaneAlign) (hs : s.wf = true) : (State.alignerLock s a).wf = true := by
  simp (maxDischargeDepth := 60) [State.alignerLock, *]
@[simp] theorem State.alignerLoss_wf (s : State) (c : Nat) (hs : s.wf = true) : (State.alignerLoss s c).wf = true := by
  simp (maxDischargeDepth := 60) [State.alignerLoss, hs]
@[simp] theorem State.bmpFollow_wf (s : State) (line : Nat) (client : Nat) (hs : s.wf = true) : (State.bmpFollow s line client).wf = true := by
  simp (maxDischargeDepth := 60) [State.bmpFollow, hs]
@[simp] theorem State.pcsLock_wf (s : State) (a : LaneAlign) (hs : s.wf = true) : (State.pcsLock s a).wf = true := by
  simp (maxDischargeDepth := 60) [State.pcsLock, *]
@[simp] theorem State.setFault_wf (s : State) (c : Nat) (st : LinkFault) (hs : s.wf = true) : (State.setFault s c st).wf = true := by
  simp (maxDischargeDepth := 60) [State.setFault, hs]
@[simp] theorem State.pcsLost_wf (s : State) (c : Nat) (block : Bool) (am : Bool) (hs : s.wf = true) : (State.pcsLost s c block am).wf = true := by
  simp (maxDischargeDepth := 60) [State.pcsLost, hs]
@[simp] theorem State.hiBer_wf (s : State) (c : Nat) (on : Bool) (hs : s.wf = true) : (State.hiBer s c on).wf = true := by
  simp (maxDischargeDepth := 60) [State.hiBer, hs]
@[simp] theorem State.linkFault_wf (s : State) (c : Nat) (st : LinkFault) (hs : s.wf = true) : (State.linkFault s c st).wf = true := by
  simp (maxDischargeDepth := 60) [State.linkFault, hs]
@[simp] theorem State.calibrate_wf (s : State) (resistorOk : Bool) (failed : List Nat) (hs : s.wf = true) : (State.calibrate s resistorOk failed).wf = true := by
  simp (maxDischargeDepth := 60) +contextual [State.calibrate, hs]
@[simp] theorem State.countCh_wf (s : State) (c : Nat) (n : Nat) (v : Nat) (hs : s.wf = true) : (State.countCh s c n v).wf = true := by
  simp (maxDischargeDepth := 60) [State.countCh, hs]
@[simp] theorem State.clearCnt_wf (s : State) (c : Nat) (hs : s.wf = true) : (State.clearCnt s c).wf = true := by
  simp (maxDischargeDepth := 60) [State.clearCnt, hs]
@[simp] theorem State.openSecond_wf (s : State) (c : Nat) (hs : s.wf = true) : (State.openSecond s c).wf = true := by
  simp (maxDischargeDepth := 60) [State.openSecond, hs]
@[simp] theorem State.closeCh_wf (short : Bool) (s : State) (c : Nat) (hs : s.wf = true) : (State.closeCh short s c).wf = true := by
  simp (maxDischargeDepth := 60) [State.closeCh, hs]
@[simp] theorem State.closeSecond_wf (s : State) (short : Bool) (hs : s.wf = true) : (State.closeSecond s short).wf = true := by
  simp (maxDischargeDepth := 60) +contextual [State.closeSecond, hs]
@[simp] theorem State.crossings_wf (s : State) (c : Nat) (n : Nat) (w : Nat) (code : Nat) (hs : s.wf = true) : (State.crossings s c n w code).wf = true := by
  unfold State.crossings
  apply State.each_wf _ _ _ hs
  intro t n ht
  dsimp only
  (repeat' split) <;> simp (maxDischargeDepth := 60) +contextual [ht]
@[simp] theorem State.lostRec_wf (sec : Nat) (s : State) (c : Nat) (hs : s.wf = true) : (State.lostRec sec s c).wf = true := by
  simp (maxDischargeDepth := 60) [State.lostRec, hs]
@[simp] theorem State.foldRec_wf (sec : Nat) (s : State) (c : Nat) (hs : s.wf = true) : (State.foldRec sec s c).wf = true := by
  unfold State.foldRec
  dsimp only
  (repeat' split) <;> simp (maxDischargeDepth := 60) +contextual [hs]
@[simp] theorem State.foldAll_wf (s : State) (z1 : List Nat) (hs : s.wf = true) : (State.foldAll s z1).wf = true := by
  induction z1 generalizing s with
  | nil => exact hs
  | cons v r ih => simp only [State.foldAll]; apply ih; split <;> simp (maxDischargeDepth := 60) +contextual [hs]
@[simp] theorem State.pmFold_wf (s : State) (hs : s.wf = true) : (State.pmFold s).wf = true := by
  unfold State.pmFold
  split
  · simp [hs]
  · split
    · extract_lets l s1 day s2
      have h2 : s2.wf = true := by simp (maxDischargeDepth := 60) +contextual [s1, s2, hs]
      split <;> simp [h2]
    · exact hs
@[simp] theorem State.fxPmRd_wf (q : Req) (ws : List Word) (s : State) (hs : s.wf = true) : (State.fxPmRd q ws s).wf = true := by
  simp (maxDischargeDepth := 60) [State.fxPmRd, hs]
@[simp] theorem State.defExpiry_wf (s : State) (c : Nat) (d : Nat) (hs : s.wf = true) : (State.defExpiry s c d).wf = true := by
  simp (maxDischargeDepth := 60) [State.defExpiry, hs]
@[simp] theorem State.tribExpiry_wf (s : State) (c : Nat) (hs : s.wf = true) : (State.tribExpiry s c).wf = true := by
  simp (maxDischargeDepth := 60) [State.tribExpiry, hs]
@[simp] theorem State.setConn_wf (s : State) (b : Nat) (n : Nat) (k : Conn) (hs : s.wf = true) : (State.setConn s b n k).wf = true := by
  simp (maxDischargeDepth := 60) [State.setConn, hs]
@[simp] theorem State.fxXcConnect_wf (q : Req) (ws : List Word) (s : State) (hs : s.wf = true) : (State.fxXcConnect q ws s).wf = true := by
  unfold State.fxXcConnect; try dsimp only; (repeat' split) <;> simp_all (maxDischargeDepth := 60)
@[simp] theorem State.fxXcDisconnect_wf (q : Req) (ws : List Word) (s : State) (hs : s.wf = true) : (State.fxXcDisconnect q ws s).wf = true := by
  unfold State.fxXcDisconnect; (repeat' split) <;> simp (maxDischargeDepth := 60) [hs]
@[simp] theorem State.windowEnd_wf (s : State) (c : Nat) (exc : Bool) (hs : s.wf = true) : (State.windowEnd s c exc).wf = true := by
  simp (maxDischargeDepth := 60) [State.windowEnd, hs]
@[simp] theorem State.armSwap_wf (s : State) (hs : s.wf = true) : (State.armSwap s).wf = true := by
  simp (maxDischargeDepth := 60) [State.armSwap, hs]
@[simp] theorem State.disarm_wf (s : State) (hs : s.wf = true) : (State.disarm s).wf = true := by
  simp (maxDischargeDepth := 60) [State.disarm, hs]
@[simp] theorem State.fxTblSwap_wf (q : Req) (ws : List Word) (s : State) (hs : s.wf = true) : (State.fxTblSwap q ws s).wf = true := by
  simp (maxDischargeDepth := 60) [State.fxTblSwap, hs]
@[simp] theorem State.swapValidated_wf (s : State) (hs : s.wf = true) : (State.swapValidated s).wf = true := by
  unfold State.swapValidated; try dsimp only; (repeat' split) <;> simp_all (maxDischargeDepth := 60)
@[simp] theorem State.swapReached_wf (s : State) (hs : s.wf = true) : (State.swapReached s).wf = true := by
  simp (maxDischargeDepth := 60) [State.swapReached, hs]
@[simp] theorem State.unmarkDup_wf (s : State) (n : Nat) (m : Nat) (hs : s.wf = true) : (State.unmarkDup s n m).wf = true := by
  simp (maxDischargeDepth := 60) +contextual [State.unmarkDup, hs]
@[simp] theorem State.restartE1_wf (s : State) (d : Word) (hs : s.wf = true) : (State.restartE1 s d).wf = true := by
  simp (maxDischargeDepth := 60) [State.restartE1, *]
@[simp] theorem State.moveDup_wf (s : State) (d : Word) (src : Word) (hs : s.wf = true) : (State.moveDup s d src).wf = true := by
  simp (maxDischargeDepth := 60) [State.moveDup, *]
@[simp] theorem State.memberNone_wf (s : State) (d : Word) (hs : s.wf = true) : (State.memberNone s d).wf = true := by
  simp (maxDischargeDepth := 60) [State.memberNone, hs]
@[simp] theorem State.restartPtr_wf (s : State) (d : Word) (hs : s.wf = true) : (State.restartPtr s d).wf = true := by
  simp (maxDischargeDepth := 60) [State.restartPtr, hs]
@[simp] theorem State.restartTrib_wf (s : State) (n : Nat) (hs : s.wf = true) : (State.restartTrib s n).wf = true := by
  simp (maxDischargeDepth := 60) [State.restartTrib, hs]
@[simp] theorem State.msiJudge_wf (s : State) (c : Nat) (hs : s.wf = true) : (State.msiJudge s c).wf = true := by
  unfold State.msiJudge; (repeat' split) <;> simp (maxDischargeDepth := 60) +contextual [hs]
@[simp] theorem State.switchLine_wf (s : State) (c : Nat) (hs : s.wf = true) : (State.switchLine s c).wf = true := by
  simp (maxDischargeDepth := 60) [State.switchLine, hs]
@[simp] theorem State.takeSel_wf (s : State) (k : Conn) (hs : s.wf = true) : (State.takeSel s k).wf = true := by
  simp (maxDischargeDepth := 60) [State.takeSel, hs]
@[simp] theorem State.switchDest_wf (s : State) (d : Word) (hs : s.wf = true) : (State.switchDest s d).wf = true := by
  unfold State.switchDest; try dsimp only; (repeat' split) <;> simp_all (maxDischargeDepth := 60)
@[simp] theorem State.swapSwitch_wf (s : State) (n : Nat) (hs : s.wf = true) : (State.swapSwitch s n).wf = true := by
  simp (maxDischargeDepth := 60) [State.swapSwitch, hs]
@[simp] theorem State.swapEnd_wf (s : State) (hs : s.wf = true) : (State.swapEnd s).wf = true := by
  simp (maxDischargeDepth := 60) +contextual [State.swapEnd, hs]
@[simp] theorem State.copyBank_wf (s : State) (hs : s.wf = true) : (State.copyBank s).wf = true := by
  unfold State.copyBank
  simp (maxDischargeDepth := 60) [hs, Store.wf_foldl_set]
@[simp] theorem State.bankCopied_wf (s : State) (hs : s.wf = true) : (State.bankCopied s).wf = true := by
  simp (maxDischargeDepth := 60) [State.bankCopied, hs]
@[simp] theorem State.pgItem_wf (s : State) (p : Nat) (i : Nat) (v : Nat) (hs : s.wf = true) : (State.pgItem s p i v).wf = true := by
  simp (maxDischargeDepth := 60) [State.pgItem, hs]
@[simp] theorem State.pgOccur_wf (s : State) (p : Nat) (i : Nat) (v : Nat) (hs : s.wf = true) : (State.pgOccur s p i v).wf = true := by
  simp (maxDischargeDepth := 60) [State.pgOccur, hs]
@[simp] theorem State.pgEvents_wf (s : State) (p : Nat) (hs : s.wf = true) : (State.pgEvents s p).wf = true := by
  simp (maxDischargeDepth := 60) +contextual [State.pgEvents, hs]
@[simp] theorem State.pgFlag_wf (s : State) (p : Nat) (b : Nat) (v : Bool) (hs : s.wf = true) : (State.pgFlag s p b v).wf = true := by
  simp (maxDischargeDepth := 60) [State.pgFlag, hs]
@[simp] theorem State.endExer_wf (s : State) (p : Nat) (out : Nat) (hs : s.wf = true) : (State.endExer s p out).wf = true := by
  simp (maxDischargeDepth := 60) [State.endExer, hs]
@[simp] theorem State.pgClaim_wf (s : State) (p : Nat) (hs : s.wf = true) : (State.pgClaim s p).wf = true := by
  simp (maxDischargeDepth := 60) [State.pgClaim, *]
@[simp] theorem State.pgReport_wf (s : State) (p : Nat) (g : Pg) (hs : s.wf = true) : (State.pgReport s p g).wf = true := by
  simp (maxDischargeDepth := 60) [State.pgReport, *]
@[simp] theorem State.pgApply_wf (s : State) (p : Nat) (ws : List Word) (hs : s.wf = true) : (State.pgApply s p ws).wf = true := by
  simp (maxDischargeDepth := 60) [State.pgApply, hs]
@[simp] theorem State.pgAgree_wf (s : State) (p : Nat) (hs : s.wf = true) : (State.pgAgree s p).wf = true := by
  simp (maxDischargeDepth := 60) [State.pgAgree, *]
@[simp] theorem State.pgSample_wf (s : State) (p : Nat) (hs : s.wf = true) : (State.pgSample s p).wf = true := by
  simp (maxDischargeDepth := 60) [State.pgSample, hs]
@[simp] theorem State.pgFlags_wf (s : State) (p : Nat) (hs : s.wf = true) : (State.pgFlags s p).wf = true := by
  unfold State.pgFlags; try dsimp only; (repeat' split) <;> simp_all (maxDischargeDepth := 60)
@[simp] theorem State.pgNoResp_wf (s : State) (p : Nat) (hs : s.wf = true) : (State.pgNoResp s p).wf = true := by
  simp (maxDischargeDepth := 60) [State.pgNoResp, hs]
@[simp] theorem State.pgRestore_wf (s : State) (p : Nat) (hs : s.wf = true) : (State.pgRestore s p).wf = true := by
  simp (maxDischargeDepth := 60) [State.pgRestore, hs]
@[simp] theorem State.pgSupersede_wf (s : State) (p : Nat) (hs : s.wf = true) : (State.pgSupersede s p).wf = true := by
  simp (maxDischargeDepth := 60) [State.pgSupersede, hs]
@[simp] theorem State.pgDecide_wf (s : State) (p : Nat) (hs : s.wf = true) : (State.pgDecide s p).wf = true := by
  simp (maxDischargeDepth := 60) [State.pgDecide, hs]
@[simp] theorem State.pgTell_wf (s : State) (t : State) (p : Nat) (hs : s.wf = true) (ht : t.wf = true) : (State.pgTell s t p).wf = true := by
  simp (maxDischargeDepth := 60) [State.pgTell, *]
@[simp] theorem State.pgEvaluate_wf (s : State) (p : Nat) (hs : s.wf = true) : (State.pgEvaluate s p).wf = true := by
  simp (maxDischargeDepth := 60) [State.pgEvaluate, hs]
@[simp] theorem State.pgHoldExpiry_wf (s : State) (p : Nat) (k : PgCond) (hs : s.wf = true) : (State.pgHoldExpiry s p k).wf = true := by
  simp (maxDischargeDepth := 60) [State.pgHoldExpiry, hs]
@[simp] theorem State.pgWtrExpiry_wf (s : State) (p : Nat) (hs : s.wf = true) : (State.pgWtrExpiry s p).wf = true := by
  simp (maxDischargeDepth := 60) [State.pgWtrExpiry, hs]
@[simp] theorem State.pgNoRespExpiry_wf (s : State) (p : Nat) (hs : s.wf = true) : (State.pgNoRespExpiry s p).wf = true := by
  simp (maxDischargeDepth := 60) [State.pgNoRespExpiry, hs]
@[simp] theorem State.pgExerExpiry_wf (s : State) (p : Nat) (hs : s.wf = true) : (State.pgExerExpiry s p).wf = true := by
  simp (maxDischargeDepth := 60) [State.pgExerExpiry, hs]
@[simp] theorem State.pgBoundary_wf (s : State) (p : Nat) (hs : s.wf = true) : (State.pgBoundary s p).wf = true := by
  simp (maxDischargeDepth := 60) +contextual [State.pgBoundary, hs]
@[simp] theorem State.apsAccept_wf (s : State) (p : Nat) (l : List Byte) (hs : s.wf = true) : (State.apsAccept s p l).wf = true := by
  simp (maxDischargeDepth := 60) [State.apsAccept, hs]
@[simp] theorem State.pgAps_wf (s : State) (p : Nat) (l : List Byte) (hs : s.wf = true) : (State.pgAps s p l).wf = true := by
  simp (maxDischargeDepth := 60) [State.pgAps, hs]
@[simp] theorem State.fxApsCmd_wf (q : Req) (ws : List Word) (s : State) (hs : s.wf = true) : (State.fxApsCmd q ws s).wf = true := by
  simp (maxDischargeDepth := 60) [State.fxApsCmd, hs]
@[simp] theorem State.ovrWrite_wf (s : State) (w : Word) (hs : s.wf = true) : (State.ovrWrite s w).2.wf = true := by
  simp (maxDischargeDepth := 60) [State.ovrWrite, hs]
@[simp] theorem State.pgEnable_wf (s : State) (p : Nat) (hs : s.wf = true) : (State.pgEnable s p).wf = true := by
  simp (maxDischargeDepth := 60) [State.pgEnable, hs]
@[simp] theorem State.pgDisable_wf (s : State) (p : Nat) (hs : s.wf = true) : (State.pgDisable s p).wf = true := by
  simp (maxDischargeDepth := 60) +contextual [State.pgDisable, hs]
@[simp] theorem State.pgFreeze_wf (s : State) (p : Nat) (hs : s.wf = true) : (State.pgFreeze s p).wf = true := by
  simp (maxDischargeDepth := 60) [State.pgFreeze, hs]
@[simp] theorem State.pgRefresh_wf (s : State) (p : Nat) (hs : s.wf = true) : (State.pgRefresh s p).wf = true := by
  simp (maxDischargeDepth := 60) [State.pgRefresh, hs]
@[simp] theorem State.pgTakeover_wf (s : State) (hs : s.wf = true) : (State.pgTakeover s).wf = true := by
  simp (maxDischargeDepth := 60) +contextual [State.pgTakeover, hs]
@[simp] theorem onPg_wf (p : Nat) (s : State) (t : State) (hs : s.wf = true) (hk : t.wf = true) : (onPg p s t).wf = true := by
  simp (maxDischargeDepth := 60) [onPg, hs, hk]
@[simp] theorem State.modTrib_wf (s : State) (w : Word) (f : Trib → Trib) (hs : s.wf = true) : (State.modTrib s w f).wf = true := by
  simp (maxDischargeDepth := 60) [State.modTrib, hs]
@[simp] theorem State.countTrib_wf (s : State) (w : Word) (i : Nat) (hi : Nat) (lo : Nat) (n : Nat) (hs : s.wf = true) : (State.countTrib s w i hi lo n).wf = true := by
  simp (maxDischargeDepth := 60) +contextual [State.countTrib, hs]
@[simp] theorem State.setRun_wf (s : State) (x : Nat) (r : Nat) (hs : s.wf = true) : (State.setRun s x r).wf = true := by
  simp (maxDischargeDepth := 60) [State.setRun, hs]
@[simp] theorem State.snoopBytes_wf (s : State) (x : Nat) (l : List Byte) (hs : s.wf = true) : (State.snoopBytes s x l).wf = true := by
  simp (maxDischargeDepth := 60) [State.snoopBytes, hs]
@[simp] theorem State.snoopOn_wf (s : State) (red : Bool) (n : Nat) (l : List Byte) (hs : s.wf = true) : (State.snoopOn s red n l).wf = true := by
  simp (maxDischargeDepth := 60) +contextual [State.snoopOn, hs]
@[simp] theorem State.remapIn_wf (ds1 : Bool) (bits : List Bool) (s : State) (e : Nat × Conn) (hs : s.wf = true) : (State.remapIn ds1 bits s e).wf = true := by
  simp (maxDischargeDepth := 60) +contextual [State.remapIn, hs]
@[simp] theorem State.remapFeed_wf (s : State) (w : Word) (ds1 : Bool) (bits : List Bool) (hs : s.wf = true) : (State.remapFeed s w ds1 bits).wf = true := by
  simp (maxDischargeDepth := 60) +contextual [State.remapFeed, hs]
@[simp] theorem State.memberTo_wf (s : State) (n : Nat) (m : Nat) (st : Nat) (hs : s.wf = true) : (State.memberTo s n m st).wf = true := by
  simp (maxDischargeDepth := 60) [State.memberTo, hs]
@[simp] theorem State.redLate_wf (s : State) (n : Nat) (hs : s.wf = true) : (State.redLate s n).wf = true := by
  simp (maxDischargeDepth := 60) [State.redLate, hs]
@[simp] theorem State.keep_wf (s : State) (n : Nat) (m : Nat) (h : Held) (hs : s.wf = true) : (State.keep s n m h).wf = true := by
  simp (maxDischargeDepth := 60) [State.keep, *]
@[simp] theorem State.windowMiss_wf (s : State) (n : Nat) (m : Nat) (counted : Bool) (hs : s.wf = true) : (State.windowMiss s n m counted).wf = true := by
  simp (maxDischargeDepth := 60) [State.windowMiss, *]
@[simp] theorem State.windowHit_wf (s : State) (n : Nat) (m : Nat) (hs : s.wf = true) : (State.windowHit s n m).wf = true := by
  simp (maxDischargeDepth := 60) [State.windowHit, hs]
@[simp] theorem State.arrival_wf (s : State) (n : Nat) (m : Nat) (inOrder : Bool) (hs : s.wf = true) : (State.arrival s n m inOrder).wf = true := by
  simp (maxDischargeDepth := 60) [State.arrival, *]
@[simp] theorem State.hlHunt_wf (s : State) (n : Nat) (m : Nat) (q : Nat) (hs : s.wf = true) : (State.hlHunt s n m q).wf = true := by
  simp (maxDischargeDepth := 60) [State.hlHunt, hs]
@[simp] theorem State.hlFrame_wf (s : State) (n : Nat) (m : Nat) (f : MemberFrame) (hs : s.wf = true) : (State.hlFrame s n m f).wf = true := by
  simp (maxDischargeDepth := 60) [State.hlFrame, hs]
@[simp] theorem State.hlMember_wf (s : State) (n : Nat) (m : Nat) (f : MemberFrame) (hs : s.wf = true) : (State.hlMember s n m f).wf = true := by
  simp (maxDischargeDepth := 60) [State.hlMember, hs]
@[simp] theorem State.schedSet_wf (s : State) (n : Nat) (hs : s.wf = true) : (State.schedSet s n).wf = true := by
  unfold State.schedSet; (repeat' split) <;> simp (maxDischargeDepth := 60) [hs]
@[simp] theorem State.schedDrop_wf (s : State) (n : Nat) (hs : s.wf = true) : (State.schedDrop s n).wf = true := by
  simp (maxDischargeDepth := 60) [State.schedDrop, hs]
@[simp] theorem State.schedDiscard_wf (s : State) (n : Nat) (hs : s.wf = true) : (State.schedDiscard s n).wf = true := by
  simp (maxDischargeDepth := 60) [State.schedDiscard, hs]
@[simp] theorem State.redRealign_wf (s : State) (n : Nat) (hs : s.wf = true) : (State.redRealign s n).wf = true := by
  simp (maxDischargeDepth := 60) [State.redRealign, hs]
@[simp] theorem State.hlPlay_wf (s : State) (n : Nat) (hs : s.wf = true) : (State.hlPlay s n).wf = true := by
  simp (maxDischargeDepth := 60) [State.hlPlay, hs]
@[simp] theorem State.dupExpiry_wf (s : State) (c : Nat) (n : Nat) (m : Nat) (hs : s.wf = true) : (State.dupExpiry s c n m).wf = true := by
  simp (maxDischargeDepth := 60) [State.dupExpiry, hs]
@[simp] theorem State.voteHunt_wf (s : State) (n : Nat) (m : Nat) (b : VoteBlock) (hs : s.wf = true) : (State.voteHunt s n m b).wf = true := by
  simp (maxDischargeDepth := 60) [State.voteHunt, hs]
@[simp] theorem State.voteSlot_wf (s : State) (n : Nat) (m : Nat) (b : VoteBlock) (hs : s.wf = true) : (State.voteSlot s n m b).wf = true := by
  simp (maxDischargeDepth := 60) [State.voteSlot, hs]
@[simp] theorem State.voteMember_wf (s : State) (n : Nat) (m : Nat) (b : VoteBlock) (hs : s.wf = true) : (State.voteMember s n m b).wf = true := by
  simp (maxDischargeDepth := 60) [State.voteMember, hs]
@[simp] theorem State.markDis_wf (n : Nat) (s : State) (m : Nat) (hs : s.wf = true) : (State.markDis n s m).wf = true := by
  unfold State.markDis; (repeat' split) <;> simp (maxDischargeDepth := 60) [hs]
@[simp] theorem State.voteEmit_wf (s : State) (n : Nat) (hs : s.wf = true) : (State.voteEmit s n).wf = true := by
  simp (maxDischargeDepth := 60) +contextual [State.voteEmit, hs]
@[simp] theorem State.voteClear_wf (s : State) (c : Nat) (hs : s.wf = true) : (State.voteClear s c).wf = true := by
  simp (maxDischargeDepth := 60) [State.voteClear, hs]
@[simp] theorem State.voteTx_wf (s : State) (n : Nat) (data : Option VoteData) (hs : s.wf = true) : (State.voteTx s n data).wf = true := by
  simp (maxDischargeDepth := 60) [State.voteTx, *]
@[simp] theorem State.frerOut_wf (s : State) (n : Nat) (f : FrerFrame) (hs : s.wf = true) : (State.frerOut s n f).wf = true := by
  simp (maxDischargeDepth := 60) [State.frerOut, hs]
@[simp] theorem State.frerDemap_wf (s : State) (n : Nat) (m : Nat) (f : FrerFrame) (hs : s.wf = true) : (State.frerDemap s n m f).1.wf = true := by
  unfold State.frerDemap
  try dsimp only
  (repeat' split) <;> simp_all (maxDischargeDepth := 60)
@[simp] theorem State.frerPass_wf (s : State) (n : Nat) (e : Nat) (f : FrerFrame) (hs : s.wf = true) : (State.frerPass s n e f).wf = true := by
  simp (maxDischargeDepth := 60) [State.frerPass, hs]
@[simp] theorem State.frerRecover_wf (s : State) (n : Nat) (e : Nat) (f : FrerFrame) (q : Nat) (hs : s.wf = true) : (State.frerRecover s n e f q).wf = true := by
  simp (maxDischargeDepth := 60) [State.frerRecover, hs]
@[simp] theorem State.frerRx_wf (s : State) (n : Nat) (m : Nat) (f : FrerFrame) (hs : s.wf = true) : (State.frerRx s n m f).wf = true := by
  have hd := State.frerDemap_wf s n m f hs
  unfold State.frerRx; try dsimp only
  generalize s.frerDemap n m f = r at hd ⊢
  (repeat' split) <;> simp_all (maxDischargeDepth := 60)
@[simp] theorem State.frerTag_wf (s : State) (n : Nat) (e : Nat) (f : FrerFrame) (q : Nat) (hs : s.wf = true) : (State.frerTag s n e f q).wf = true := by
  simp (maxDischargeDepth := 60) [State.frerTag, hs]
@[simp] theorem State.frerSend_wf (s : State) (n : Nat) (f : FrerFrame) (hs : s.wf = true) : (State.frerSend s n f).wf = true := by
  unfold State.frerSend
  try dsimp only
  (repeat' split) <;> simp_all (maxDischargeDepth := 60)
@[simp] theorem State.frerTx_wf (s : State) (n : Nat) (f : FrerFrame) (hs : s.wf = true) : (State.frerTx s n f).wf = true := by
  have hd := State.frerDemap_wf s n 0 f hs
  unfold State.frerTx; try dsimp only
  generalize s.frerDemap n 0 f = r at hd ⊢
  (repeat' split) <;> simp_all (maxDischargeDepth := 60)
@[simp] theorem State.frerResetExpiry_wf (s : State) (e : Nat) (hs : s.wf = true) : (State.frerResetExpiry s e).wf = true := by
  simp (maxDischargeDepth := 60) [State.frerResetExpiry, hs]
@[simp] theorem State.frerSeq_wf (s : State) (n : Nat) (vid : Nat) (q : Nat) (fcs : Word) (hs : s.wf = true) : (State.frerSeq s n vid q fcs).wf = true := by
  unfold State.frerSeq; (repeat' split) <;> simp (maxDischargeDepth := 60) [hs]
@[simp] theorem State.frerTimeout_wf (s : State) (n : Nat) (vid : Nat) (fcs : Word) (hs : s.wf = true) : (State.frerTimeout s n vid fcs).wf = true := by
  unfold State.frerTimeout; (repeat' split) <;> simp (maxDischargeDepth := 60) [hs]
@[simp] theorem State.memFollow_wf (s : State) (hs : s.wf = true) : (State.memFollow s).wf = true := by
  simp (maxDischargeDepth := 60) [State.memFollow, hs]
@[simp] theorem State.memReady_wf (s : State) (ok : Bool) (hs : s.wf = true) : (State.memReady s ok).wf = true := by
  simp (maxDischargeDepth := 60) [State.memReady, hs]
@[simp] theorem State.memRest_wf (s : State) (hs : s.wf = true) : (State.memRest s).wf = true := by
  simp (maxDischargeDepth := 60) [State.memRest, hs]
@[simp] theorem State.memSpoil_wf (s : State) (e : MemErr) (hs : s.wf = true) : (State.memSpoil s e).wf = true := by
  simp (maxDischargeDepth := 60) [State.memSpoil, *]
@[simp] theorem State.memScrub_wf (s : State) (corrected : Nat) (bad : List MemErr) (hs : s.wf = true) : (State.memScrub s corrected bad).wf = true := by
  unfold State.memScrub
  try dsimp only
  (repeat' split) <;> simp_all (maxDischargeDepth := 60)
@[simp] theorem State.redEnable_wf (s : State) (n : Nat) (hs : s.wf = true) : (State.redEnable s n).wf = true := by
  simp (maxDischargeDepth := 60) [State.redEnable, hs]
@[simp] theorem State.redDefs_wf (s : State) (c : Nat) (hs : s.wf = true) : (State.redDefs s c).wf = true := by
  simp (maxDischargeDepth := 60) [State.redDefs, hs]
@[simp] theorem State.redDisable_wf (s : State) (n : Nat) (hs : s.wf = true) : (State.redDisable s n).wf = true := by
  simp (maxDischargeDepth := 60) +contextual [State.redDisable, hs]
@[simp] theorem State.frerEnable_wf (s : State) (e : Nat) (hs : s.wf = true) : (State.frerEnable s e).wf = true := by
  simp (maxDischargeDepth := 60) [State.frerEnable, hs]
@[simp] theorem State.redRefresh_wf (s : State) (n : Nat) (hs : s.wf = true) : (State.redRefresh s n).wf = true := by
  simp (maxDischargeDepth := 60) +contextual [State.redRefresh, hs]
@[simp] theorem State.snoopResult_wf (s : State) (t : State) (n : Nat) (hs : s.wf = true) (hk : t.wf = true) : (State.snoopResult s t n).wf = true := by
  simp (maxDischargeDepth := 60) [State.snoopResult, hs, hk]
@[simp] theorem onRed_wf (n : Nat) (s : State) (t : State) (hs : s.wf = true) (hk : t.wf = true) : (onRed n s t).wf = true := by
  simp (maxDischargeDepth := 60) [onRed, hs, hk]
@[simp] theorem State.modCand_wf (s : State) (n : Nat) (f : Cand → Cand) (hs : s.wf = true) : (State.modCand s n f).wf = true := by
  simp (maxDischargeDepth := 60) [State.modCand, hs]
@[simp] theorem State.refOccur_wf (s : State) (n : Nat) (kind : Nat) (v : Nat) (hs : s.wf = true) : (State.refOccur s n kind v).wf = true := by
  simp (maxDischargeDepth := 60) [State.refOccur, hs]
@[simp] theorem State.selEvent_wf (s : State) (hs : s.wf = true) : (State.selEvent s).wf = true := by
  simp (maxDischargeDepth := 60) [State.selEvent, hs]
@[simp] theorem State.refExpiry_wf (s : State) (n : Nat) (hs : s.wf = true) : (State.refExpiry s n).wf = true := by
  simp (maxDischargeDepth := 60) [State.refExpiry, hs]
@[simp] theorem State.setSteer_wf (s : State) (x : Int) (hs : s.wf = true) : (State.setSteer s x).wf = true := by
  simp (maxDischargeDepth := 60) [State.setSteer, hs]
@[simp] theorem State.refEvaluate_wf (s : State) (hs : s.wf = true) : (State.refEvaluate s).wf = true := by
  simp (maxDischargeDepth := 60) [State.refEvaluate, hs]
@[simp] theorem State.disqualify_wf (s : State) (n : Nat) (why : Nat) (hs : s.wf = true) : (State.disqualify s n why).wf = true := by
  simp (maxDischargeDepth := 60) [State.disqualify, hs]
@[simp] theorem State.refLost_wf (s : State) (n : Nat) (hs : s.wf = true) : (State.refLost s n).wf = true := by
  simp (maxDischargeDepth := 60) [State.refLost, hs]
@[simp] theorem State.refActivityLoss_wf (s : State) (n : Nat) (hs : s.wf = true) : (State.refActivityLoss s n).wf = true := by
  simp (maxDischargeDepth := 60) [State.refActivityLoss, hs]
@[simp] theorem State.refRestart_wf (s : State) (n : Nat) (hs : s.wf = true) : (State.refRestart s n).wf = true := by
  simp (maxDischargeDepth := 60) [State.refRestart, hs]
@[simp] theorem State.refSsm_wf (s : State) (c : Nat) (hs : s.wf = true) : (State.refSsm s c).wf = true := by
  simp (maxDischargeDepth := 60) +contextual [State.refSsm, hs]
@[simp] theorem State.refRun_wf (s : State) (n : Nat) (ppb : Int) (hs : s.wf = true) : (State.refRun s n ppb).wf = true := by
  simp (maxDischargeDepth := 60) [State.refRun, hs]
@[simp] theorem State.refMeasure_wf (s : State) (n : Nat) (ppt : Int) (hs : s.wf = true) : (State.refMeasure s n ppt).wf = true := by
  simp (maxDischargeDepth := 60) [State.refMeasure, hs]
@[simp] theorem State.refFreqMeasure_wf (s : State) (l : List (Nat × Int)) (hs : s.wf = true) : (State.refFreqMeasure s l).wf = true := by
  simp (maxDischargeDepth := 60) +contextual [State.refFreqMeasure, hs]
@[simp] theorem State.refSwitchEnd_wf (s : State) (hs : s.wf = true) : (State.refSwitchEnd s).wf = true := by
  simp (maxDischargeDepth := 60) [State.refSwitchEnd, hs]
@[simp] theorem State.refLock_wf (s : State) (hs : s.wf = true) : (State.refLock s).wf = true := by
  simp (maxDischargeDepth := 60) [State.refLock, hs]
@[simp] theorem State.refWtr_wf (s : State) (hs : s.wf = true) : (State.refWtr s).wf = true := by
  simp (maxDischargeDepth := 60) [State.refWtr, hs]
@[simp] theorem State.softTimeout_wf (s : State) (hs : s.wf = true) : (State.softTimeout s).wf = true := by
  simp (maxDischargeDepth := 60) [State.softTimeout, hs]
@[simp] theorem State.refFreeze_wf (s : State) (hs : s.wf = true) : (State.refFreeze s).wf = true := by
  simp (maxDischargeDepth := 60) [State.refFreeze, hs]
@[simp] theorem State.refSelChanged_wf (s : State) (old : Word) (hs : s.wf = true) : (State.refSelChanged s old).wf = true := by
  simp (maxDischargeDepth := 60) [State.refSelChanged, hs]
@[simp] theorem State.setNominal_wf (s : State) (w : Word) (hs : s.wf = true) : (State.setNominal s w).wf = true := by
  simp (maxDischargeDepth := 60) +contextual [State.setNominal, hs]
@[simp] theorem State.refLockRun_wf (s : State) (hs : s.wf = true) : (State.refLockRun s).wf = true := by
  simp (maxDischargeDepth := 60) [State.refLockRun, hs]
@[simp] theorem State.pull_wf (s : State) (y : Int) (hs : s.wf = true) : (State.pull s y).wf = true := by
  simp (maxDischargeDepth := 60) [State.pull, *]
@[simp] theorem State.refLoop_wf (s : State) (ref : Int) (hs : s.wf = true) : (State.refLoop s ref).wf = true := by
  simp (maxDischargeDepth := 60) [State.refLoop, *]
@[simp] theorem State.refSlew_wf (s : State) (hs : s.wf = true) : (State.refSlew s).wf = true := by
  simp (maxDischargeDepth := 60) [State.refSlew, hs]
@[simp] theorem State.refActive_wf (s : State) (n : Nat) (hs : s.wf = true) : (State.refActive s n).wf = true := by
  simp (maxDischargeDepth := 60) [State.refActive, *]
@[simp] theorem State.refShow_wf (s : State) (hs : s.wf = true) : (State.refShow s).wf = true := by
  simp (maxDischargeDepth := 60) [State.refShow, hs]
@[simp] theorem State.refTick_wf (s : State) (hs : s.wf = true) : (State.refTick s).wf = true := by
  unfold State.refTick
  try dsimp only
  (repeat' split) <;> simp_all (maxDischargeDepth := 60)
@[simp] theorem State.refHistory_wf (s : State) (sec : Nat) (hs : s.wf = true) : (State.refHistory s sec).wf = true := by
  simp (maxDischargeDepth := 60) +contextual [State.refHistory, hs]
@[simp] theorem State.fxRefSelect_wf (q : Req) (ws : List Word) (s : State) (hs : s.wf = true) : (State.fxRefSelect q ws s).wf = true := by
  simp (maxDischargeDepth := 60) [State.fxRefSelect, hs]
@[simp] theorem State.fxDcoSet_wf (q : Req) (ws : List Word) (s : State) (hs : s.wf = true) : (State.fxDcoSet q ws s).wf = true := by
  simp (maxDischargeDepth := 60) [State.fxDcoSet, hs]
@[simp] theorem State.showSlew_wf (s : State) (hs : s.wf = true) : (State.showSlew s).wf = true := by
  simp (maxDischargeDepth := 60) [State.showSlew, hs]
@[simp] theorem State.timeTick_wf (s : State) (hs : s.wf = true) : (State.timeTick s).wf = true := by
  simp (maxDischargeDepth := 60) [State.timeTick, hs]
@[simp] theorem State.timeEvent_wf (s : State) (code : Nat) (hs : s.wf = true) : (State.timeEvent s code).wf = true := by
  simp (maxDischargeDepth := 60) [State.timeEvent, hs]
@[simp] theorem State.setStamps_wf (s : State) (g : Nat) (l : List Stamp) (hs : s.wf = true) : (State.setStamps s g l).wf = true := by
  simp (maxDischargeDepth := 60) [State.setStamps, hs]
@[simp] theorem State.pushStamp_wf (s : State) (c : Nat) (e : Stamp) (hs : s.wf = true) : (State.pushStamp s c e).wf = true := by
  simp (maxDischargeDepth := 60) [State.pushStamp, hs]
@[simp] theorem State.frameStart_wf (s : State) (c : Nat) (tx : Bool) (hs : s.wf = true) : (State.frameStart s c tx).wf = true := by
  simp (maxDischargeDepth := 60) [State.frameStart, hs]
@[simp] theorem State.popStamps_wf (s : State) (z1 : List Nat) (z2 : Nat) (hs : s.wf = true) : (State.popStamps s z1 z2).2.wf = true := by
  induction z1 generalizing s z2 with
  | nil => exact hs
  | cons v r ih =>
    simp only [State.popStamps]
    (repeat' split) <;> first | exact hs | (apply ih; simp (maxDischargeDepth := 60) +contextual [hs])
@[simp] theorem State.fxTsPop_wf (q : Req) (ws : List Word) (s : State) (hs : s.wf = true) : (State.fxTsPop q ws s).wf = true := by
  simp (maxDischargeDepth := 60) [State.fxTsPop, hs]
@[simp] theorem State.markNearStep_wf (s : State) (hs : s.wf = true) : (State.markNearStep s).wf = true := by
  simp (maxDischargeDepth := 60) +contextual [State.markNearStep, hs]
@[simp] theorem State.holdWord_wf (c : Nat) (s : State) (i : Nat) (hs : s.wf = true) : (State.holdWord c s i).wf = true := by
  simp (maxDischargeDepth := 60) [State.holdWord, hs]
@[simp] theorem State.holdCh_wf (s : State) (c : Nat) (hs : s.wf = true) : (State.holdCh s c).wf = true := by
  simp (maxDischargeDepth := 60) +contextual [State.holdCh, hs]
@[simp] theorem State.holdQueue_wf (s : State) (e : Nat) (hs : s.wf = true) : (State.holdQueue s e).wf = true := by
  simp (maxDischargeDepth := 60) [State.holdQueue, hs]
@[simp] theorem State.clearQueue_wf (s : State) (e : Nat) (hs : s.wf = true) : (State.clearQueue s e).wf = true := by
  simp (maxDischargeDepth := 60) [State.clearQueue, hs]
@[simp] theorem State.snapshot_wf (s : State) (clear : Bool) (hs : s.wf = true) : (State.snapshot s clear).wf = true := by
  simp (maxDischargeDepth := 60) +contextual [State.snapshot, hs]
@[simp] theorem State.fxSnapshot_wf (q : Req) (ws : List Word) (s : State) (hs : s.wf = true) : (State.fxSnapshot q ws s).wf = true := by
  simp (maxDischargeDepth := 60) [State.fxSnapshot, hs]
@[simp] theorem State.clearAllOf_wf (s : State) (c : Nat) (hs : s.wf = true) : (State.clearAllOf s c).wf = true := by
  simp (maxDischargeDepth := 60) +contextual [State.clearAllOf, hs]
@[simp] theorem State.clearEvery_wf (s : State) (hs : s.wf = true) : (State.clearEvery s).wf = true := by
  unfold State.clearEvery
  extract_lets s1 s2
  have h1 : s1.wf = true := by simp (maxDischargeDepth := 60) +contextual [s1, hs]
  have h2 : s2.wf = true := State.each_wf _ _ _ h1 (by intro t n ht; (try dsimp only); split <;> simp (maxDischargeDepth := 60) +contextual [ht])
  exact State.each_wf _ _ _ h2 (by intro t n ht; (try dsimp only); split <;> simp (maxDischargeDepth := 60) +contextual [ht])
@[simp] theorem State.fxCntClear_wf (q : Req) (ws : List Word) (s : State) (hs : s.wf = true) : (State.fxCntClear q ws s).wf = true := by
  simp (maxDischargeDepth := 60) +contextual [State.fxCntClear, hs]
@[simp] theorem State.timeLatch_wf (s : State) (hs : s.wf = true) : (State.timeLatch s).wf = true := by
  simp (maxDischargeDepth := 60) [State.timeLatch, hs]
@[simp] theorem State.ppsIn_wf (s : State) (n : Nat) (rising : Bool) (hs : s.wf = true) : (State.ppsIn s n rising).wf = true := by
  simp (maxDischargeDepth := 60) [State.ppsIn, hs]
@[simp] theorem State.ppsArm_wf (s : State) (n : Nat) (hs : s.wf = true) : (State.ppsArm s n).wf = true := by
  simp (maxDischargeDepth := 60) [State.ppsArm, hs]
@[simp] theorem State.clkSync_wf (s : State) (n : Nat) (hs : s.wf = true) : (State.clkSync s n).wf = true := by
  simp (maxDischargeDepth := 60) [State.clkSync, *]
@[simp] theorem State.clkStart_wf (s : State) (n : Nat) (hs : s.wf = true) : (State.clkStart s n).wf = true := by
  simp (maxDischargeDepth := 60) [State.clkStart, *]
@[simp] theorem State.ppsOutEdge_wf (s : State) (n : Nat) (hs : s.wf = true) : (State.ppsOutEdge s n).wf = true := by
  simp (maxDischargeDepth := 60) [State.ppsOutEdge, hs]
@[simp] theorem State.ppsTick_wf (s : State) (hs : s.wf = true) : (State.ppsTick s).wf = true := by
  simp (maxDischargeDepth := 60) [State.ppsTick, hs]
@[simp] theorem State.trigOff_wf (s : State) (n : Nat) (hs : s.wf = true) : (State.trigOff s n).wf = true := by
  simp (maxDischargeDepth := 60) [State.trigOff, hs]
@[simp] theorem State.trigArm_wf (s : State) (n : Nat) (hs : s.wf = true) : (State.trigArm s n).2.wf = true := by
  simp (maxDischargeDepth := 60) [State.trigArm, hs]
@[simp] theorem State.trigFire_wf (s : State) (n : Nat) (hs : s.wf = true) : (State.trigFire s n).wf = true := by
  simp (maxDischargeDepth := 60) [State.trigFire, hs]
@[simp] theorem State.trigCancel_wf (s : State) (hs : s.wf = true) : (State.trigCancel s).wf = true := by
  simp (maxDischargeDepth := 60) +contextual [State.trigCancel, hs]
@[simp] theorem State.loseTime_wf (s : State) (hs : s.wf = true) : (State.loseTime s).wf = true := by
  simp (maxDischargeDepth := 60) [State.loseTime, hs]
@[simp] theorem State.stepRearm_wf (s : State) (w : Word) (hs : s.wf = true) : (State.stepRearm s w).wf = true := by
  simp (maxDischargeDepth := 60) [State.stepRearm, hs]
@[simp] theorem State.stepArmExpiry_wf (s : State) (hs : s.wf = true) : (State.stepArmExpiry s).wf = true := by
  simp (maxDischargeDepth := 60) [State.stepArmExpiry, hs]
@[simp] theorem State.slewDone_wf (s : State) (hs : s.wf = true) : (State.slewDone s).wf = true := by
  simp (maxDischargeDepth := 60) [State.slewDone, hs]
@[simp] theorem State.fxTimeAdjRate_wf (q : Req) (ws : List Word) (s : State) (hs : s.wf = true) : (State.fxTimeAdjRate q ws s).wf = true := by
  simp (maxDischargeDepth := 60) [State.fxTimeAdjRate, hs]
@[simp] theorem State.fxTimeOffsetAdj_wf (q : Req) (ws : List Word) (s : State) (hs : s.wf = true) : (State.fxTimeOffsetAdj q ws s).wf = true := by
  simp (maxDischargeDepth := 60) [State.fxTimeOffsetAdj, hs]
@[simp] theorem State.pmSecond_wf (s : State) (hs : s.wf = true) : (State.pmSecond s).wf = true := by
  simp (maxDischargeDepth := 60) [State.pmSecond, hs]
@[simp] theorem State.setOhByte_wf (s : State) (c : Nat) (o : Nat) (b : Byte) (hs : s.wf = true) : (State.setOhByte s c o b).wf = true := by
  simp (maxDischargeDepth := 60) [State.setOhByte, hs]
@[simp] theorem State.setOhBytes_wf (s : State) (c : Nat) (o : Nat) (z3 : List Byte) (hs : s.wf = true) : (State.setOhBytes s c o z3).wf = true := by
  induction z3 generalizing s o with
  | nil => exact hs
  | cons v r ih =>
    simp only [State.setOhBytes]
    (repeat' split) <;> first | exact hs | (apply ih; simp (maxDischargeDepth := 60) +contextual [hs])
@[simp] theorem State.countAps_wf (s : State) (c : Nat) (hi : Nat) (lo : Nat) (hs : s.wf = true) : (State.countAps s c hi lo).wf = true := by
  simp (maxDischargeDepth := 60) [State.countAps, hs]
@[simp] theorem State.verify_wf (s : State) (c : Nat) (ok : Bool) (hs : s.wf = true) : (State.verify s c ok).wf = true := by
  simp (maxDischargeDepth := 60) [State.verify, hs]
@[simp] theorem State.rxMfas_wf (s : State) (c : Nat) (v : Nat) (hs : s.wf = true) : (State.rxMfas s c v).wf = true := by
  simp (maxDischargeDepth := 60) [State.rxMfas, hs]
@[simp] theorem State.rxSdhMaint_wf (s : State) (c : Nat) (k2 : Byte) (hs : s.wf = true) : (State.rxSdhMaint s c k2).wf = true := by
  simp (maxDischargeDepth := 60) [State.rxSdhMaint, hs]
@[simp] theorem State.rxOtnMaint_wf (s : State) (c : Nat) (f : RxFrame) (hs : s.wf = true) : (State.rxOtnMaint s c f).wf = true := by
  simp (maxDischargeDepth := 60) [State.rxOtnMaint, hs]
@[simp] theorem State.rxTcm_wf (s : State) (c : Nat) (f : RxFrame) (hs : s.wf = true) : (State.rxTcm s c f).wf = true := by
  simp (maxDischargeDepth := 60) +contextual [State.rxTcm, hs]
@[simp] theorem State.rxAps_wf (s : State) (c : Nat) (l : List Byte) (hs : s.wf = true) : (State.rxAps s c l).wf = true := by
  simp (maxDischargeDepth := 60) [State.rxAps, hs]
@[simp] theorem State.rxS1_wf (s : State) (c : Nat) (v : Byte) (hs : s.wf = true) : (State.rxS1 s c v).wf = true := by
  simp (maxDischargeDepth := 60) [State.rxS1, hs]
@[simp] theorem State.rxTrace_wf (s : State) (c : Nat) (l : List Byte) (ok : Bool) (hs : s.wf = true) : (State.rxTrace s c l ok).wf = true := by
  simp (maxDischargeDepth := 60) [State.rxTrace, hs]
@[simp] theorem State.rxTraceByte_wf (s : State) (c : Nat) (mfas : Nat) (b : Byte) (hs : s.wf = true) : (State.rxTraceByte s c mfas b).wf = true := by
  unfold State.rxTraceByte; try dsimp only; (repeat' split) <;> simp_all (maxDischargeDepth := 60)
@[simp] theorem State.traceSeen_wf (s : State) (c : Nat) (mfas : Nat) (b : Byte) (hs : s.wf = true) : (State.traceSeen s c mfas b).wf = true := by
  simp (maxDischargeDepth := 60) [State.traceSeen, *]
@[simp] theorem State.rxTraceOf_wf (s : State) (c : Nat) (f : RxFrame) (hs : s.wf = true) : (State.rxTraceOf s c f).wf = true := by
  unfold State.rxTraceOf; (repeat' split) <;> simp (maxDischargeDepth := 60) [hs]
@[simp] theorem State.rxPtype_wf (s : State) (c : Nat) (v : Nat) (hs : s.wf = true) : (State.rxPtype s c v).wf = true := by
  unfold State.rxPtype; try dsimp only; (repeat' split) <;> simp_all (maxDischargeDepth := 60)
@[simp] theorem State.rxMsi_wf (s : State) (c : Nat) (l : List Byte) (hs : s.wf = true) : (State.rxMsi s c l).wf = true := by
  simp (maxDischargeDepth := 60) [State.rxMsi, hs]
@[simp] theorem State.rxVc_wf (s : State) (f : RxFrame) (r : TribRx) (hs : s.wf = true) : (State.rxVc s f r).wf = true := by
  unfold State.rxVc
  extract_lets t ptr moved s1 s2 s3
  clear_value ptr
  have h1 : s1.wf = true := by simp only [s1]; split <;> simp [hs]
  have h2 : s2.wf = true := by simp [s2, h1]
  have h3 : s3.wf = true := by simp only [s3]; (repeat' split) <;> simp [h2]
  split <;> simp [h3]
@[simp] theorem State.rxLoOdu_wf (s : State) (r : TribRx) (hs : s.wf = true) : (State.rxLoOdu s r).wf = true := by
  unfold State.rxLoOdu; (repeat' split) <;> simp (maxDischargeDepth := 60) [hs]
@[simp] theorem State.rxE1_wf (s : State) (r : TribRx) (hs : s.wf = true) : (State.rxE1 s r).wf = true := by
  simp (maxDischargeDepth := 60) +contextual [State.rxE1, hs]
@[simp] theorem State.rxOduMon_wf (s : State) (r : TribRx) (hs : s.wf = true) : (State.rxOduMon s r).wf = true := by
  unfold State.rxOduMon; try dsimp only; (repeat' split) <;> simp_all (maxDischargeDepth := 60)
@[simp] theorem State.rxLoTrace_wf (s : State) (c : Nat) (r : TribRx) (hs : s.wf = true) : (State.rxLoTrace s c r).wf = true := by
  unfold State.rxLoTrace; try dsimp only; (repeat' split) <;> simp_all (maxDischargeDepth := 60)
@[simp] theorem State.rxTrib_wf (c : Nat) (f : RxFrame) (s : State) (r : TribRx) (hs : s.wf = true) : (State.rxTrib c f s r).wf = true := by
  simp (maxDischargeDepth := 60) [State.rxTrib, hs]
@[simp] theorem State.syncVc4_wf (s : State) (c : Nat) (hs : s.wf = true) : (State.syncVc4 s c).wf = true := by
  simp (maxDischargeDepth := 60) [State.syncVc4, hs]
@[simp] theorem State.dlomExpiry_wf (s : State) (c : Nat) (hs : s.wf = true) : (State.dlomExpiry s c).wf = true := by
  simp (maxDischargeDepth := 60) +contextual [State.dlomExpiry, hs]
@[simp] theorem State.rxCount_wf (s : State) (c : Nat) (f : RxFrame) (hs : s.wf = true) : (State.rxCount s c f).wf = true := by
  simp (maxDischargeDepth := 60) [State.rxCount, hs]
@[simp] theorem State.modCap_wf (s : State) (c : Nat) (f : Capture → Capture) (hs : s.wf = true) : (State.modCap s c f).wf = true := by
  simp (maxDischargeDepth := 60) [State.modCap, hs]
@[simp] theorem State.captArm_wf (s : State) (c : Nat) (hs : s.wf = true) : (State.captArm s c).wf = true := by
  simp (maxDischargeDepth := 60) [State.captArm, hs]
@[simp] theorem State.traceArm_wf (s : State) (c : Nat) (hs : s.wf = true) : (State.traceArm s c).wf = true := by
  simp (maxDischargeDepth := 60) [State.traceArm, hs]
@[simp] theorem State.capture_wf (s : State) (c : Nat) (f : RxFrame) (hs : s.wf = true) : (State.capture s c f).wf = true := by
  simp (maxDischargeDepth := 60) [State.capture, hs]
@[simp] theorem State.byteTrace_wf (s : State) (c : Nat) (f : RxFrame) (hs : s.wf = true) : (State.byteTrace s c f).wf = true := by
  simp (maxDischargeDepth := 60) [State.byteTrace, hs]
@[simp] theorem State.captureDone_wf (s : State) (c : Nat) (hs : s.wf = true) : (State.captureDone s c).wf = true := by
  simp (maxDischargeDepth := 60) [State.captureDone, hs]
@[simp] theorem State.traceDone_wf (s : State) (c : Nat) (hs : s.wf = true) : (State.traceDone s c).wf = true := by
  simp (maxDischargeDepth := 60) [State.traceDone, hs]
@[simp] theorem State.rxJ0_wf (s : State) (c : Nat) (b : Byte) (hs : s.wf = true) : (State.rxJ0 s c b).wf = true := by
  simp (maxDischargeDepth := 60) [State.rxJ0, *]
@[simp] theorem State.rxSdh_wf (s : State) (c : Nat) (f : RxFrame) (hs : s.wf = true) : (State.rxSdh s c f).wf = true := by
  unfold State.rxSdh; try dsimp only; (repeat' split) <;> simp_all (maxDischargeDepth := 60)
@[simp] theorem State.rxOtn_wf (s : State) (c : Nat) (f : RxFrame) (hs : s.wf = true) : (State.rxOtn s c f).wf = true := by
  unfold State.rxOtn
  extract_lets s1 s2 s3 s4
  have h1 : s1.wf = true := by simp (maxDischargeDepth := 60) [s1, hs]
  have h2 : s2.wf = true := by simp only [s2]; split <;> simp [h1]
  have h3 : s3.wf = true := by simp only [s3]; split <;> simp [h2]
  have h4 : s4.wf = true := by simp only [s4]; (repeat' split) <;> simp [h3]
  split <;> simp [h4]
@[simp] theorem State.rxInFrame_wf (s : State) (c : Nat) (f : RxFrame) (hs : s.wf = true) : (State.rxInFrame s c f).wf = true := by
  unfold State.rxInFrame
  extract_lets r g s1 s2 s3 s4 s5
  have h1 : s1.wf = true := by simp (maxDischargeDepth := 60) [s1, hs]
  have h2 : s2.wf = true := by simp only [s2]; split <;> simp [h1]
  have h3 : s3.wf = true := by simp only [s3]; split <;> simp [h2]
  have h4 : s4.wf = true := by simp only [s4]; split <;> simp [h3]
  have h5 : s5.wf = true := by simp (maxDischargeDepth := 60) +contextual [s5, h4]
  simp (maxDischargeDepth := 60) +contextual [h5]
@[simp] theorem State.rxOutOfFrame_wf (s : State) (c : Nat) (f : RxFrame) (hs : s.wf = true) : (State.rxOutOfFrame s c f).wf = true := by
  simp (maxDischargeDepth := 60) [State.rxOutOfFrame, hs]
@[simp] theorem State.rxCodes_wf (s : State) (c : Nat) (l : List (List Bool)) (hs : s.wf = true) : (State.rxCodes s c l).wf = true := by
  simp (maxDischargeDepth := 60) [State.rxCodes, hs]
@[simp] theorem State.rxLanes_wf (s : State) (c : Nat) (f : RxFrame) (hs : s.wf = true) : (State.rxLanes s c f).2.wf = true := by
  simp (maxDischargeDepth := 60) [State.rxLanes, *]
@[simp] theorem State.rxTaken_wf (s : State) (c : Nat) (f : RxFrame) (hs : s.wf = true) : (State.rxTaken s c f).wf = true := by
  unfold State.rxTaken
  try dsimp only
  (repeat' split) <;> simp_all (maxDischargeDepth := 60)
@[simp] theorem State.rxFrame_wf (s : State) (c : Nat) (f : RxFrame) (hs : s.wf = true) : (State.rxFrame s c f).wf = true := by
  unfold State.rxFrame; (repeat' split) <;> simp (maxDischargeDepth := 60) [hs]
@[simp] theorem State.modPkt_wf (s : State) (c : Nat) (f : Packet → Packet) (hs : s.wf = true) : (State.modPkt s c f).wf = true := by
  simp (maxDischargeDepth := 60) [State.modPkt, hs]
@[simp] theorem State.dropped_wf (s : State) (c : Nat) (hs : s.wf = true) : (State.dropped s c).wf = true := by
  simp (maxDischargeDepth := 60) [State.dropped, hs]
@[simp] theorem State.fixedErr_wf (s : State) (c : Nat) (sel : Nat) (n : Nat) (hs : s.wf = true) : (State.fixedErr s c sel n).wf = true := by
  simp (maxDischargeDepth := 60) [State.fixedErr, hs]
@[simp] theorem State.add48_wf (s : State) (t : Nat) (e : Nat) (w : Nat) (n : Nat) (hs : s.wf = true) : (State.add48 s t e w n).wf = true := by
  simp (maxDischargeDepth := 60) [State.add48, hs]
@[simp] theorem State.dropOther_wf (s : State) (c : Nat) (q : Nat) (hs : s.wf = true) : (State.dropOther s c q).wf = true := by
  simp (maxDischargeDepth := 60) [State.dropOther, hs]
@[simp] theorem State.bufSync_wf (s : State) (hs : s.wf = true) : (State.bufSync s).wf = true := by
  simp (maxDischargeDepth := 60) [State.bufSync, hs]
@[simp] theorem State.setPolicer_wf (s : State) (p : Nat) (k : Policer) (hs : s.wf = true) : (State.setPolicer s p k).wf = true := by
  simp (maxDischargeDepth := 60) [State.setPolicer, hs]
@[simp] theorem State.fillPolicer_wf (s : State) (p : Nat) (hs : s.wf = true) : (State.fillPolicer s p).wf = true := by
  simp (maxDischargeDepth := 60) [State.fillPolicer, hs]
@[simp] theorem State.police_wf (s : State) (p : Nat) (l : Nat) (dei : Bool) (hs : s.wf = true) : (State.police s p l dei).2.wf = true := by
  simp (maxDischargeDepth := 60) [State.police, hs]
@[simp] theorem State.showPolicer_wf (s : State) (p : Nat) (hs : s.wf = true) : (State.showPolicer s p).wf = true := by
  simp (maxDischargeDepth := 60) [State.showPolicer, hs]
@[simp] theorem State.snoopAppend_wf (s : State) (z1 : List Nat) (z2 : List Byte) (hs : s.wf = true) : (State.snoopAppend s z1 z2).2.wf = true := by
  induction z1 generalizing s z2 with
  | nil => exact hs
  | cons v r ih =>
    simp only [State.snoopAppend]
    (repeat' split) <;> first | exact hs | (apply ih; simp (maxDischargeDepth := 60) +contextual [hs])
@[simp] theorem State.snoopCheck_wf (s : State) (z1 : List Nat) (z2 : List Byte) (hs : s.wf = true) : (State.snoopCheck s z1 z2).2.2.wf = true := by
  induction z1 generalizing s z2 with
  | nil => exact hs
  | cons v r ih =>
    simp only [State.snoopCheck]
    (repeat' split) <;> first | exact hs | (simp (maxDischargeDepth := 60) +contextual [hs]; done) | (apply ih; simp (maxDischargeDepth := 60) +contextual [hs])
@[simp] theorem State.toStore_wf (s : State) (c : Nat) (m : Mapped) (l : List Byte) (hs : s.wf = true) : (State.toStore s c m l).wf = true := by
  simp (maxDischargeDepth := 60) [State.toStore, hs]
@[simp] theorem State.ingressPass_wf (s : State) (c : Nat) (f : EthFrame) (dei : Option Bool) (taf : Bool) (hs : s.wf = true) : (State.ingressPass s c f dei taf).wf = true := by
  simp (maxDischargeDepth := 60) [State.ingressPass, hs]
@[simp] theorem State.classify_wf (s : State) (c : Nat) (f : EthFrame) (hs : s.wf = true) : (State.classify s c f).wf = true := by
  unfold State.classify; try dsimp only; (repeat' split) <;> simp_all (maxDischargeDepth := 60)
@[simp] theorem State.ethIngress_wf (s : State) (c : Nat) (f : EthFrame) (hs : s.wf = true) : (State.ethIngress s c f).wf = true := by
  simp (maxDischargeDepth := 60) [State.ethIngress, hs]
@[simp] theorem State.mapTick_wf (s : State) (c : Nat) (hs : s.wf = true) : (State.mapTick s c).wf = true := by
  simp (maxDischargeDepth := 60) [State.mapTick, hs]
@[simp] theorem State.gateActivate_wf (s : State) (c : Nat) (hs : s.wf = true) : (State.gateActivate s c).wf = true := by
  unfold State.gateActivate; (repeat' split) <;> simp (maxDischargeDepth := 60) [hs]
@[simp] theorem State.gateApply_wf (s : State) (c : Nat) (hs : s.wf = true) : (State.gateApply s c).wf = true := by
  simp (maxDischargeDepth := 60) [State.gateApply, hs]
@[simp] theorem State.resetQueue_wf (s : State) (c : Nat) (q : Nat) (hs : s.wf = true) : (State.resetQueue s c q).wf = true := by
  simp (maxDischargeDepth := 60) [State.resetQueue, hs]
@[simp] theorem State.resetPort_wf (s : State) (c : Nat) (hs : s.wf = true) : (State.resetPort s c).wf = true := by
  simp (maxDischargeDepth := 60) [State.resetPort, hs]
@[simp] theorem State.showQueue_wf (s : State) (e : Nat) (hs : s.wf = true) : (State.showQueue s e).wf = true := by
  unfold State.showQueue; (repeat' split) <;> simp (maxDischargeDepth := 60) [hs]
@[simp] theorem State.showPort_wf (s : State) (c : Nat) (hs : s.wf = true) : (State.showPort s c).wf = true := by
  unfold State.showPort; try dsimp only; (repeat' split) <;> simp_all (maxDischargeDepth := 60)
@[simp] theorem State.enqueue_wf (s : State) (c : Nat) (l : List Byte) (hs : s.wf = true) : (State.enqueue s c l).wf = true := by
  unfold State.enqueue; try dsimp only; (repeat' split) <;> simp_all (maxDischargeDepth := 60)
@[simp] theorem State.csfSeen_wf (s : State) (c : Nat) (on : Bool) (hs : s.wf = true) : (State.csfSeen s c on).wf = true := by
  simp (maxDischargeDepth := 60) [State.csfSeen, hs]
@[simp] theorem State.delineate_wf (s : State) (c : Nat) (core : Nat) (hs : s.wf = true) : (State.delineate s c core).wf = true := by
  simp (maxDischargeDepth := 60) [State.delineate, hs]
@[simp] theorem State.gfpTake_wf (s : State) (c : Nat) (f : EthFrame) (hs : s.wf = true) : (State.gfpTake s c f).wf = true := by
  simp (maxDischargeDepth := 60) [State.gfpTake, hs]
@[simp] theorem State.gfpEgress_wf (s : State) (c : Nat) (f : EthFrame) (hs : s.wf = true) : (State.gfpEgress s c f).wf = true := by
  simp (maxDischargeDepth := 60) [State.gfpEgress, hs]
@[simp] theorem State.purge_wf (s : State) (c : Nat) (q : Nat) (z3 : List QFrame) (hs : s.wf = true) : (State.purge s c q z3).2.wf = true := by
  induction z3 generalizing s with
  | nil => exact hs
  | cons v r ih =>
    simp only [State.purge]
    (repeat' split) <;> first | exact hs | (apply ih; simp (maxDischargeDepth := 60) +contextual [hs])
@[simp] theorem State.purgeQueue_wf (c : Nat) (s : State) (q : Nat) (hs : s.wf = true) : (State.purgeQueue c s q).wf = true := by
  simp (maxDischargeDepth := 60) [State.purgeQueue, hs]
@[simp] theorem State.takeHead_wf (s : State) (c : Nat) (q : Nat) (f : QFrame) (r : List QFrame) (hs : s.wf = true) : (State.takeHead s c q f r).wf = true := by
  simp (maxDischargeDepth := 60) [State.takeHead, hs]
@[simp] theorem State.countStart_wf (s : State) (c : Nat) (q : Nat) (f : QFrame) (hs : s.wf = true) : (State.countStart s c q f).wf = true := by
  unfold State.countStart; (repeat' split) <;> simp (maxDischargeDepth := 60) [hs]
@[simp] theorem State.stampStart_wf (s : State) (c : Nat) (f : QFrame) (hs : s.wf = true) : (State.stampStart s c f).wf = true := by
  unfold State.stampStart; (repeat' split) <;> simp (maxDischargeDepth := 60) [hs]
@[simp] theorem State.startFrame_wf (s : State) (c : Nat) (q : Nat) (hs : s.wf = true) : (State.startFrame s c q).wf = true := by
  unfold State.startFrame
  split
  · exact hs
  · dsimp only
    apply State.stampStart_wf
    simp (maxDischargeDepth := 60) [hs]
@[simp] theorem State.schedule_wf (s : State) (c : Nat) (hs : s.wf = true) : (State.schedule s c).wf = true := by
  unfold State.schedule; try dsimp only; (repeat' split) <;> simp_all (maxDischargeDepth := 60)
@[simp] theorem State.frameEnd_wf (s : State) (c : Nat) (hs : s.wf = true) : (State.frameEnd s c).wf = true := by
  simp (maxDischargeDepth := 60) [State.frameEnd, hs]
@[simp] theorem State.tafLate_wf (s : State) (c : Nat) (q : Nat) (hs : s.wf = true) : (State.tafLate s c q).wf = true := by
  simp (maxDischargeDepth := 60) [State.tafLate, hs]
@[simp] theorem State.queueMark_wf (s : State) (e : Nat) (lvl : Nat) (was : Nat) (now : Nat) (flag : Nat) (code : Nat) (hs : s.wf = true) : (State.queueMark s e lvl was now flag code).wf = true := by
  simp (maxDischargeDepth := 60) [State.queueMark, hs]
@[simp] theorem State.sampleQueue_wf (s : State) (e : Nat) (hs : s.wf = true) : (State.sampleQueue s e).wf = true := by
  simp (maxDischargeDepth := 60) [State.sampleQueue, hs]
@[simp] theorem State.queueSample_wf (s : State) (hs : s.wf = true) : (State.queueSample s).wf = true := by
  simp (maxDischargeDepth := 60) +contextual [State.queueSample, hs]
@[simp] theorem State.pktRefuse_wf (s : State) (c : Nat) (hs : s.wf = true) : (State.pktRefuse s c).2.wf = true := by
  simp (maxDischargeDepth := 60) [State.pktRefuse, hs]
@[simp] theorem State.pktEnable_wf (s : State) (c : Nat) (hs : s.wf = true) : (State.pktEnable s c).2.wf = true := by
  simp (maxDischargeDepth := 60) [State.pktEnable, hs]
@[simp] theorem State.flushQueue_wf (c : Nat) (s : State) (q : Nat) (hs : s.wf = true) : (State.flushQueue c s q).wf = true := by
  simp (maxDischargeDepth := 60) +contextual [State.flushQueue, hs]
@[simp] theorem State.pktDisable_wf (s : State) (c : Nat) (hs : s.wf = true) : (State.pktDisable s c).wf = true := by
  simp (maxDischargeDepth := 60) +contextual [State.pktDisable, hs]
@[simp] theorem State.csfTimer_wf (s : State) (c : Nat) (hs : s.wf = true) : (State.csfTimer s c).wf = true := by
  simp (maxDischargeDepth := 60) [State.csfTimer, hs]
@[simp] theorem State.dcsfExpiry_wf (s : State) (c : Nat) (hs : s.wf = true) : (State.dcsfExpiry s c).wf = true := by
  simp (maxDischargeDepth := 60) [State.dcsfExpiry, hs]
@[simp] theorem State.delineation_wf (s : State) (c : Nat) (core : Nat) (hs : s.wf = true) : (State.delineation s c core).wf = true := by
  simp (maxDischargeDepth := 60) [State.delineation, hs]
@[simp] theorem State.fxPolicerSet_wf (q : Req) (ws : List Word) (s : State) (hs : s.wf = true) : (State.fxPolicerSet q ws s).wf = true := by
  simp (maxDischargeDepth := 60) [State.fxPolicerSet, hs]
@[simp] theorem State.fxShaperSet_wf (q : Req) (ws : List Word) (s : State) (hs : s.wf = true) : (State.fxShaperSet q ws s).wf = true := by
  simp (maxDischargeDepth := 60) [State.fxShaperSet, hs]
@[simp] theorem State.fxGateArm_wf (q : Req) (ws : List Word) (s : State) (hs : s.wf = true) : (State.fxGateArm q ws s).wf = true := by
  simp (maxDischargeDepth := 60) [State.fxGateArm, hs]
@[simp] theorem State.gateCancel_wf (s : State) (hs : s.wf = true) : (State.gateCancel s).wf = true := by
  simp (maxDischargeDepth := 60) +contextual [State.gateCancel, hs]
@[simp] theorem State.modStream_wf (s : State) (slot : Nat) (f : DccStream → DccStream) (hs : s.wf = true) : (State.modStream s slot f).wf = true := by
  simp (maxDischargeDepth := 60) [State.modStream, hs]
@[simp] theorem State.pullStream_wf (s : State) (slot : Nat) (hs : s.wf = true) : (State.pullStream s slot).2.wf = true := by
  unfold State.pullStream
  dsimp only
  apply State.foldl_wf
  · simp (maxDischargeDepth := 60) [hs]
  · intro t n ht; simp [ht]
@[simp] theorem State.pullAll_wf (s : State) (z1 : List Nat) (hs : s.wf = true) : (State.pullAll s z1).2.wf = true := by
  induction z1 generalizing s with
  | nil => exact hs
  | cons v r ih =>
    simp only [State.pullAll]
    (repeat' split) <;> first | exact hs | (apply ih; simp (maxDischargeDepth := 60) +contextual [hs])
@[simp] theorem State.latchTrace_wf (s : State) (c : Nat) (mfas : Nat) (hs : s.wf = true) : (State.latchTrace s c mfas).wf = true := by
  simp (maxDischargeDepth := 60) [State.latchTrace, hs]
@[simp] theorem State.latchLow_wf (s : State) (c : Nat) (f : TxFrame) (hs : s.wf = true) : (State.latchLow s c f).wf = true := by
  simp (maxDischargeDepth := 60) [State.latchLow, hs]
@[simp] theorem State.pseqStep_wf (s : State) (l : List Word) (hs : s.wf = true) : (State.pseqStep s l).wf = true := by
  unfold State.pseqStep
  apply State.foldl_wf _ _ _ hs
  intro t d ht
  (repeat' split) <;> simp (maxDischargeDepth := 60) +contextual [ht]
@[simp] theorem State.mapFilled_wf (s : State) (d : Word) (fill : Nat) (hs : s.wf = true) : (State.mapFilled s d fill).wf = true := by
  unfold State.mapFilled; (repeat' split) <;> simp (maxDischargeDepth := 60) [hs]
@[simp] theorem State.mapStep_wf (c : Nat) (s : State) (m : MapTx) (hs : s.wf = true) : (State.mapStep c s m).wf = true := by
  simp (maxDischargeDepth := 60) [State.mapStep, hs]
@[simp] theorem State.txParity_wf (s : State) (c : Nat) (f : TxFrame) (hs : s.wf = true) : (State.txParity s c f).wf = true := by
  simp (maxDischargeDepth := 60) [State.txParity, hs]
@[simp] theorem State.loBegun_wf (c : Nat) (s : State) (k : ContTx) (hs : s.wf = true) : (State.loBegun c s k).wf = true := by
  simp (maxDischargeDepth := 60) [State.loBegun, hs]
@[simp] theorem State.pointers_wf (c : Nat) (s : State) (p : PtrTx) (hs : s.wf = true) : (State.pointers c s p).wf = true := by
  simp (maxDischargeDepth := 60) [State.pointers, hs]
@[simp] theorem State.modTx_wf (s : State) (c : Nat) (f : Tx → Tx) (hs : s.wf = true) : (State.modTx s c f).wf = true := by
  simp (maxDischargeDepth := 60) [State.modTx, hs]
@[simp] theorem State.xcParity_wf (c : Nat) (s : State) (n : Nat) (hs : s.wf = true) : (State.xcParity c s n).wf = true := by
  unfold State.xcParity; (repeat' split) <;> simp (maxDischargeDepth := 60) [hs]
@[simp] theorem State.structParity_wf (c : Nat) (s : State) (i : Nat) (hs : s.wf = true) : (State.structParity c s i).wf = true := by
  simp (maxDischargeDepth := 60) [State.structParity, hs]
@[simp] theorem State.showAps_wf (s : State) (c : Nat) (mfas : Nat) (hs : s.wf = true) : (State.showAps s c mfas).wf = true := by
  simp (maxDischargeDepth := 60) [State.showAps, hs]
@[simp] theorem State.lineSwap_wf (s : State) (c : Nat) (mfas : Nat) (hs : s.wf = true) : (State.lineSwap s c mfas).wf = true := by
  simp (maxDischargeDepth := 60) [State.lineSwap, hs]
@[simp] theorem State.txBegin_wf (s : State) (c : Nat) (f : TxFrame) (hs : s.wf = true) : (State.txBegin s c f).wf = true := by
  simp (maxDischargeDepth := 60) +contextual [State.txBegin, hs]
@[simp] theorem State.txBytes_wf (s : State) (c : Nat) (f : TxFrame) (hs : s.wf = true) : (State.txBytes s c f).wf = true := by
  simp (maxDischargeDepth := 60) [State.txBytes, hs]
@[simp] theorem State.txSnoop_wf (c : Nat) (f : TxFrame) (s : State) (d : Word) (hs : s.wf = true) : (State.txSnoop c f s d).wf = true := by
  unfold State.txSnoop
  try dsimp only
  (repeat' split) <;> simp_all (maxDischargeDepth := 60)
@[simp] theorem State.txLine_wf (s : State) (c : Nat) (f : TxFrame) (hs : s.wf = true) : (State.txLine s c f).wf = true := by
  simp (maxDischargeDepth := 60) +contextual [State.txLine, hs]
@[simp] theorem State.txCodes_wf (s : State) (c : Nat) (f : TxFrame) (hs : s.wf = true) : (State.txCodes s c f).wf = true := by
  simp (maxDischargeDepth := 60) [State.txCodes, *]
@[simp] theorem State.txFrame_wf (s : State) (c : Nat) (f : TxFrame) (hs : s.wf = true) : (State.txFrame s c f).wf = true := by
  simp (maxDischargeDepth := 60) +contextual [State.txFrame, hs]
@[simp] theorem State.streamTake_wf (s : State) (slot : Nat) (l : List Byte) (hs : s.wf = true) : (State.streamTake s slot l).wf = true := by
  simp (maxDischargeDepth := 60) [State.streamTake, hs]
@[simp] theorem State.dccRx_wf (s : State) (slot : Nat) (l : List Byte) (fcsOk : Bool) (hs : s.wf = true) : (State.dccRx s slot l fcsOk).wf = true := by
  simp (maxDischargeDepth := 60) [State.dccRx, hs]
@[simp] theorem State.fxDccWr_wf (q : Req) (ws : List Word) (s : State) (hs : s.wf = true) : (State.fxDccWr q ws s).wf = true := by
  simp (maxDischargeDepth := 60) [State.fxDccWr, hs]
@[simp] theorem State.dccTake_wf (slots : List Nat) (top : Nat) (z2 : Nat) (z3 : Nat) (z4 : Bool) (z5 : State) (hs : z5.wf = true) : (State.dccTake slots top z2 z3 z4 z5).2.wf = true := by
  induction z2 generalizing z3 z4 z5 with
  | zero => exact hs
  | succ n ih =>
    simp only [State.dccTake]
    (repeat' split) <;> first | exact hs | (apply ih; simp (maxDischargeDepth := 60) +contextual [hs])
@[simp] theorem State.fxDccRd_wf (q : Req) (ws : List Word) (s : State) (hs : s.wf = true) : (State.fxDccRd q ws s).wf = true := by
  simp (maxDischargeDepth := 60) [State.fxDccRd, hs]
@[simp] theorem State.remapSlip_wf (s : State) (c : Nat) (hs : s.wf = true) : (State.remapSlip s c).wf = true := by
  simp (maxDischargeDepth := 60) +contextual [State.remapSlip, hs]
@[simp] theorem State.mapperSlip_wf (s : State) (c : Nat) (hs : s.wf = true) : (State.mapperSlip s c).wf = true := by
  simp (maxDischargeDepth := 60) [State.mapperSlip, hs]
@[simp] theorem State.bmpEnd_wf (s : State) (hs : s.wf = true) : (State.bmpEnd s).wf = true := by
  simp (maxDischargeDepth := 60) +contextual [State.bmpEnd, hs]
@[simp] theorem State.bmpTick_wf (s : State) (hs : s.wf = true) : (State.bmpTick s).wf = true := by
  unfold State.bmpTick
  refine State.foldl_wf _ _ _ (by simp [hs]) ?_
  intro t e ht
  dsimp only
  (repeat' split) <;> simp [ht]
@[simp] theorem State.bmpBack_wf (s : State) (c : Nat) (hs : s.wf = true) : (State.bmpBack s c).wf = true := by
  unfold State.bmpBack; (repeat' split) <;> simp (maxDischargeDepth := 60) [hs]
@[simp] theorem State.timeTo_wf (s : State) (ns : Nat) (sub : Nat) (hs : s.wf = true) : (State.timeTo s ns sub).wf = true := by
  simp (maxDischargeDepth := 60) +contextual [State.timeTo, hs]
@[simp] theorem State.fxTimeStep_wf (q : Req) (ws : List Word) (s : State) (hs : s.wf = true) : (State.fxTimeStep q ws s).wf = true := by
  simp (maxDischargeDepth := 60) [State.fxTimeStep, hs]
@[simp] theorem State.setEpoch_wf (s : State) (e : Nat) (hs : s.wf = true) : (State.setEpoch s e).wf = true := by
  simp (maxDischargeDepth := 60) [State.setEpoch, hs]
@[simp] theorem State.setSole_wf (s : State) (v : Bool) (hs : s.wf = true) : (State.setSole s v).wf = true := by
  simp (maxDischargeDepth := 60) [State.setSole, hs]
@[simp] theorem State.setRole_wf (s : State) (r : Nat) (why : Nat) (hs : s.wf = true) : (State.setRole s r why).wf = true := by
  simp (maxDischargeDepth := 60) [State.setRole, hs]
@[simp] theorem State.restLease_wf (s : State) (hs : s.wf = true) : (State.restLease s).wf = true := by
  simp (maxDischargeDepth := 60) [State.restLease, hs]
@[simp] theorem State.claimLease_wf (s : State) (why : Nat) (hs : s.wf = true) : (State.claimLease s why).wf = true := by
  simp (maxDischargeDepth := 60) [State.claimLease, hs]
@[simp] theorem State.checkSole_wf (s : State) (hs : s.wf = true) : (State.checkSole s).wf = true := by
  simp (maxDischargeDepth := 60) [State.checkSole, hs]
@[simp] theorem State.dropForwards_wf (s : State) (hs : s.wf = true) : (State.dropForwards s).wf = true := by
  simp (maxDischargeDepth := 60) +contextual [State.dropForwards, hs]
@[simp] theorem State.settleFrames_wf (s : State) (l : List LinkFrame) (hs : s.wf = true) : (State.settleFrames s l).wf = true := by
  exact State.foldl_wf _ _ _ hs fun t n h => by simp [h]
@[simp] theorem State.linkDown_wf (s : State) (why : Nat) (hs : s.wf = true) : (State.linkDown s why).wf = true := by
  simp (maxDischargeDepth := 60) [State.linkDown, hs]
@[simp] theorem State.startBulk_wf (s : State) (hs : s.wf = true) : (State.startBulk s).wf = true := by
  simp (maxDischargeDepth := 60) +contextual [State.startBulk, hs]
@[simp] theorem State.seeFar_wf (s : State) (role : Nat) (epoch : Nat) (hs : s.wf = true) : (State.seeFar s role epoch).wf = true := by
  simp (maxDischargeDepth := 60) [State.seeFar, hs]
@[simp] theorem State.higherEpoch_wf (s : State) (e : Nat) (renewal : Bool) (hs : s.wf = true) : (State.higherEpoch s e renewal).wf = true := by
  simp (maxDischargeDepth := 60) [State.higherEpoch, hs]
@[simp] theorem State.meet_wf (s : State) (h : Hello) (hs : s.wf = true) : (State.meet s h).wf = true := by
  simp (maxDischargeDepth := 60) [State.meet, hs]
@[simp] theorem State.helloTake_wf (s : State) (h : Hello) (hs : s.wf = true) : (State.helloTake s h).wf = true := by
  simp (maxDischargeDepth := 60) [State.helloTake, hs]
@[simp] theorem State.lanesUp_wf (s : State) (hs : s.wf = true) : (State.lanesUp s).wf = true := by
  simp (maxDischargeDepth := 60) [State.lanesUp, *]
@[simp] theorem State.hello_wf (s : State) (h : Hello) (hs : s.wf = true) : (State.hello s h).wf = true := by
  simp (maxDischargeDepth := 60) [State.hello, hs]
@[simp] theorem State.laneLoss_wf (s : State) (lane : Nat) (deskew : Bool) (hs : s.wf = true) : (State.laneLoss s lane deskew).wf = true := by
  simp (maxDischargeDepth := 60) [State.laneLoss, hs]
@[simp] theorem State.retransmit_wf (s : State) (hs : s.wf = true) : (State.retransmit s).wf = true := by
  simp (maxDischargeDepth := 60) [State.retransmit, hs]
@[simp] theorem State.linkAck_wf (s : State) (seq : Nat) (hs : s.wf = true) : (State.linkAck s seq).wf = true := by
  simp (maxDischargeDepth := 60) [State.linkAck, hs]
@[simp] theorem State.linkAckTimer_wf (s : State) (hs : s.wf = true) : (State.linkAckTimer s).wf = true := by
  simp (maxDischargeDepth := 60) [State.linkAckTimer, hs]
@[simp] theorem State.rxReliable_wf (s : State) (seq : Nat) (hs : s.wf = true) : (State.rxReliable s seq).2.wf = true := by
  simp (maxDischargeDepth := 60) [State.rxReliable, hs]
@[simp] theorem State.helloTimer_wf (s : State) (hs : s.wf = true) : (State.helloTimer s).wf = true := by
  simp (maxDischargeDepth := 60) [State.helloTimer, hs]
@[simp] theorem State.toggle_wf (s : State) (hs : s.wf = true) : (State.toggle s).wf = true := by
  simp (maxDischargeDepth := 60) [State.toggle, hs]
@[simp] theorem State.renewed_wf (s : State) (hs : s.wf = true) : (State.renewed s).wf = true := by
  simp (maxDischargeDepth := 60) [State.renewed, hs]
@[simp] theorem State.renewRx_wf (s : State) (e : Nat) (k : Nat) (hs : s.wf = true) : (State.renewRx s e k).wf = true := by
  simp (maxDischargeDepth := 60) [State.renewRx, hs]
@[simp] theorem State.acked_wf (s : State) (a : Nat) (hs : s.wf = true) : (State.acked s a).wf = true := by
  simp (maxDischargeDepth := 60) [State.acked, hs]
@[simp] theorem State.ackRx_wf (s : State) (e : Nat) (k : Nat) (hs : s.wf = true) : (State.ackRx s e k).wf = true := by
  simp (maxDischargeDepth := 60) [State.ackRx, hs]
@[simp] theorem State.yieldDone_wf (s : State) (ok : Bool) (hs : s.wf = true) : (State.yieldDone s ok).wf = true := by
  unfold State.yieldDone; try dsimp only; (repeat' split) <;> simp_all (maxDischargeDepth := 60)
@[simp] theorem State.unbeat_wf (s : State) (hs : s.wf = true) : (State.unbeat s).wf = true := by
  simp (maxDischargeDepth := 60) [State.unbeat, hs]
@[simp] theorem State.claimRx_wf (s : State) (e : Nat) (_why : Nat) (hs : s.wf = true) : (State.claimRx s e _why).wf = true := by
  simp (maxDischargeDepth := 60) [State.claimRx, hs]
@[simp] theorem State.yieldRx_wf (s : State) (e : Nat) (_k : Nat) (hs : s.wf = true) : (State.yieldRx s e _k).wf = true := by
  simp (maxDischargeDepth := 60) [State.yieldRx, hs]
@[simp] theorem State.leaseBeat_wf (s : State) (hs : s.wf = true) : (State.leaseBeat s).wf = true := by
  simp (maxDischargeDepth := 60) [State.leaseBeat, hs]
@[simp] theorem State.leaseOver_wf (s : State) (hs : s.wf = true) : (State.leaseOver s).wf = true := by
  simp (maxDischargeDepth := 60) [State.leaseOver, hs]
@[simp] theorem State.claimedAt_wf (s : State) (a : Nat) (hs : s.wf = true) : (State.claimedAt s a).wf = true := by
  simp (maxDischargeDepth := 60) [State.claimedAt, hs]
@[simp] theorem State.claimDue_wf (s : State) (hs : s.wf = true) : (State.claimDue s).wf = true := by
  simp (maxDischargeDepth := 60) [State.claimDue, hs]
@[simp] theorem State.yieldTimeout_wf (s : State) (hs : s.wf = true) : (State.yieldTimeout s).wf = true := by
  simp (maxDischargeDepth := 60) [State.yieldTimeout, hs]
@[simp] theorem State.setPins_wf (s : State) (v : Nat) (hs : s.wf = true) : (State.setPins s v).wf = true := by
  simp (maxDischargeDepth := 60) [State.setPins, hs]
@[simp] theorem State.pinToggle_wf (s : State) (hs : s.wf = true) : (State.pinToggle s).wf = true := by
  simp (maxDischargeDepth := 60) [State.pinToggle, hs]
@[simp] theorem State.leaseIn_wf (s : State) (p : Bool) (n : Bool) (hs : s.wf = true) : (State.leaseIn s p n).wf = true := by
  simp (maxDischargeDepth := 60) [State.leaseIn, hs]
@[simp] theorem State.leaseStill_wf (s : State) (hs : s.wf = true) : (State.leaseStill s).wf = true := by
  simp (maxDischargeDepth := 60) [State.leaseStill, hs]
@[simp] theorem State.twfIn_wf (s : State) (p : Bool) (n : Bool) (hs : s.wf = true) : (State.twfIn s p n).wf = true := by
  simp (maxDischargeDepth := 60) [State.twfIn, hs]
@[simp] theorem State.doYield_wf (s : State) (q : Option Req) (hs : s.wf = true) : (State.doYield s q).wf = true := by
  simp (maxDischargeDepth := 60) [State.doYield, hs]
@[simp] theorem State.forceSole_wf (s : State) (hs : s.wf = true) : (State.forceSole s).2.wf = true := by
  simp (maxDischargeDepth := 60) [State.forceSole, hs]
@[simp] theorem State.leaseCmdWrite_wf (s : State) (w : Word) (hs : s.wf = true) : (State.leaseCmdWrite s w).2.wf = true := by
  simp (maxDischargeDepth := 60) [State.leaseCmdWrite, hs]
@[simp] theorem State.twinRoleWrite_wf (s : State) (w : Word) (hs : s.wf = true) : (State.twinRoleWrite s w).2.wf = true := by
  simp (maxDischargeDepth := 60) [State.twinRoleWrite, hs]
@[simp] theorem State.linkEnable_wf (s : State) (hs : s.wf = true) : (State.linkEnable s).wf = true := by
  simp (maxDischargeDepth := 60) [State.linkEnable, hs]
@[simp] theorem State.linkDisable_wf (s : State) (hs : s.wf = true) : (State.linkDisable s).wf = true := by
  simp (maxDischargeDepth := 60) [State.linkDisable, hs]
@[simp] theorem State.applyEntry_wf (s : State) (t : Nat) (b : Nat) (e : Nat) (off : Nat) (ws : List Word) (hs : s.wf = true) : (State.applyEntry s t b e off ws).wf = true := by
  simp (maxDischargeDepth := 60) [State.applyEntry, hs]
@[simp] theorem State.applySwap_wf (s : State) (obj : Nat) (ws : List Word) (hs : s.wf = true) : (State.applySwap s obj ws).wf = true := by
  simp (maxDischargeDepth := 60) [State.applySwap, hs]
@[simp] theorem State.mirrorLease_wf (s : State) (w : Word) (hs : s.wf = true) : (State.mirrorLease s w).wf = true := by
  simp (maxDischargeDepth := 60) [State.mirrorLease, hs]
@[simp] theorem State.applyMirror_wf (s : State) (d : MirrorData) (hs : s.wf = true) : (State.applyMirror s d).wf = true := by
  simp (maxDischargeDepth := 60) [State.applyMirror, hs]
@[simp] theorem State.mirrorRx_wf (s : State) (seq : Nat) (d : MirrorData) (hs : s.wf = true) : (State.mirrorRx s seq d).wf = true := by
  simp (maxDischargeDepth := 60) [State.mirrorRx, hs]
@[simp] theorem State.discardPair_wf (s : State) (hs : s.wf = true) : (State.discardPair s).wf = true := by
  simp (maxDischargeDepth := 60) +contextual [State.discardPair, hs]
@[simp] theorem State.bulkApply_wf (s : State) (hs : s.wf = true) : (State.bulkApply s).wf = true := by
  exact State.foldl_wf _ _ _ (by simp [hs]) fun t n h => by simp [h]
@[simp] theorem State.bulkTake_wf (s : State) (n : Nat) (d : MirrorData) (hs : s.wf = true) : (State.bulkTake s n d).wf = true := by
  simp (maxDischargeDepth := 60) [State.bulkTake, hs]
@[simp] theorem State.bulkRx_wf (s : State) (seq : Nat) (n : Nat) (d : MirrorData) (hs : s.wf = true) : (State.bulkRx s seq n d).wf = true := by
  simp (maxDischargeDepth := 60) [State.bulkRx, hs]
@[simp] theorem State.bulkDone_wf (s : State) (hs : s.wf = true) : (State.bulkDone s).wf = true := by
  simp (maxDischargeDepth := 60) [State.bulkDone, hs]
@[simp] theorem State.timerMirror_wf (s : State) (hs : s.wf = true) : (State.timerMirror s).wf = true := by
  simp (maxDischargeDepth := 60) +contextual [State.timerMirror, hs]
@[simp] theorem State.seqSyncSend_wf (s : State) (hs : s.wf = true) : (State.seqSyncSend s).wf = true := by
  simp (maxDischargeDepth := 60) +contextual [State.seqSyncSend, hs]
@[simp] theorem State.skewFollow_wf (s : State) (hs : s.wf = true) : (State.skewFollow s).wf = true := by
  simp (maxDischargeDepth := 60) [State.skewFollow, hs]
@[simp] theorem State.seqEntry_wf (s : State) (e : SeqSync) (hs : s.wf = true) : (State.seqEntry s e).wf = true := by
  unfold State.seqEntry; dsimp only; (repeat' split) <;> simp (maxDischargeDepth := 60) +contextual [hs]
@[simp] theorem State.seqSyncRx_wf (s : State) (es : List SeqSync) (hs : s.wf = true) : (State.seqSyncRx s es).wf = true := by
  simp (maxDischargeDepth := 60) +contextual [State.seqSyncRx, hs]
@[simp] theorem State.frerSeqRx_wf (s : State) (n : Nat) (vid : Nat) (q : Nat) (fcs : Word) (hs : s.wf = true) : (State.frerSeqRx s n vid q fcs).wf = true := by
  simp (maxDischargeDepth := 60) [State.frerSeqRx, hs]
@[simp] theorem State.refInfoRx_wf (s : State) (ppt : Int) (sel : Nat) (sec : Nat) (ns : Nat) (hs : s.wf = true) : (State.refInfoRx s ppt sel sec ns).wf = true := by
  simp (maxDischargeDepth := 60) [State.refInfoRx, hs]
@[simp] theorem State.refInfoSend_wf (s : State) (hs : s.wf = true) : (State.refInfoSend s).wf = true := by
  simp (maxDischargeDepth := 60) [State.refInfoSend, hs]
@[simp] theorem State.fxTwinStatus_wf (q : Req) (ws : List Word) (s : State) (hs : s.wf = true) : (State.fxTwinStatus q ws s).wf = true := by
  simp (maxDischargeDepth := 60) [State.fxTwinStatus, hs]
@[simp] theorem State.fxTwinForward_wf (q : Req) (ws : List Word) (s : State) (hs : s.wf = true) : (State.fxTwinForward q ws s).wf = true := by
  simp (maxDischargeDepth := 60) [State.fxTwinForward, hs]
@[simp] theorem State.fxLeaseYield_wf (q : Req) (ws : List Word) (s : State) (hs : s.wf = true) : (State.fxLeaseYield q ws s).wf = true := by
  simp (maxDischargeDepth := 60) [State.fxLeaseYield, hs]
@[simp] theorem State.program_wf (s : State) (a : Nat) (z2 : List Byte) (hs : s.wf = true) : (State.program s a z2).wf = true := by
  induction z2 generalizing s a with
  | nil => exact hs
  | cons v r ih =>
    simp only [State.program]
    (repeat' split) <;> first | exact hs | (apply ih; simp (maxDischargeDepth := 60) +contextual [hs])
@[simp] theorem State.erase_wf (s : State) (a : Nat) (n : Nat) (hs : s.wf = true) : (State.erase s a n).wf = true := by
  simp (maxDischargeDepth := 60) +contextual [State.erase, hs]
@[simp] theorem State.mclkStop_wf (s : State) (hs : s.wf = true) : (State.mclkStop s).wf = true := by
  simp (maxDischargeDepth := 60) [State.mclkStop, hs]
@[simp] theorem State.flashShow_wf (s : State) (hs : s.wf = true) : (State.flashShow s).wf = true := by
  simp (maxDischargeDepth := 60) [State.flashShow, hs]
@[simp] theorem State.flashFail_wf (s : State) (hs : s.wf = true) : (State.flashFail s).wf = true := by
  simp (maxDischargeDepth := 60) [State.flashFail, hs]
@[simp] theorem State.writeCopy_wf (s : State) (hdr : Bool) (w : Word) (hs : s.wf = true) : (State.writeCopy s hdr w).wf = true := by
  simp (maxDischargeDepth := 60) [State.writeCopy, hs]
@[simp] theorem State.spoilCopy_wf (s : State) (hdr : Bool) (hs : s.wf = true) : (State.spoilCopy s hdr).wf = true := by
  simp (maxDischargeDepth := 60) [State.spoilCopy, hs]
@[simp] theorem State.setSlot_wf (s : State) (k : Nat) (valid : Bool) (hs : s.wf = true) : (State.setSlot s k valid).wf = true := by
  simp (maxDischargeDepth := 60) [State.setSlot, hs]
@[simp] theorem State.fxFwBegin_wf (q : Req) (ws : List Word) (s : State) (hs : s.wf = true) : (State.fxFwBegin q ws s).wf = true := by
  simp (maxDischargeDepth := 60) [State.fxFwBegin, hs]
@[simp] theorem State.fxFwData_wf (q : Req) (ws : List Word) (s : State) (hs : s.wf = true) : (State.fxFwData q ws s).wf = true := by
  unfold State.fxFwData; (repeat' split) <;> simp (maxDischargeDepth := 60) [hs]
@[simp] theorem State.fxFwEnd_wf (q : Req) (ws : List Word) (s : State) (hs : s.wf = true) : (State.fxFwEnd q ws s).wf = true := by
  simp (maxDischargeDepth := 60) [State.fxFwEnd, hs]
@[simp] theorem State.endUpload_wf (s : State) (hs : s.wf = true) : (State.endUpload s).wf = true := by
  simp (maxDischargeDepth := 60) [State.endUpload, hs]
@[simp] theorem State.fxFwAbort_wf (q : Req) (ws : List Word) (s : State) (hs : s.wf = true) : (State.fxFwAbort q ws s).wf = true := by
  simp (maxDischargeDepth := 60) [State.fxFwAbort, hs]
@[simp] theorem State.verified_wf (s : State) (ok : Bool) (q : Req) (hs : s.wf = true) : (State.verified s ok q).wf = true := by
  simp (maxDischargeDepth := 60) [State.verified, hs]
@[simp] theorem State.fwDone_wf (s : State) (ok : Bool) (hs : s.wf = true) : (State.fwDone s ok).wf = true := by
  unfold State.fwDone; (repeat' split) <;> simp (maxDischargeDepth := 60) [hs]
@[simp] theorem State.chooseSlot_wf (s : State) (k : Nat) (hs : s.wf = true) : (State.chooseSlot s k).2.wf = true := by
  simp (maxDischargeDepth := 60) [State.chooseSlot, hs]
@[simp] theorem State.fxFwChoose_wf (q : Req) (ws : List Word) (s : State) (hs : s.wf = true) : (State.fxFwChoose q ws s).wf = true := by
  simp (maxDischargeDepth := 60) [State.fxFwChoose, hs]
@[simp] theorem State.rollSlot_wf (s : State) (k : Nat) (hs : s.wf = true) : (State.rollSlot s k).wf = true := by
  simp (maxDischargeDepth := 60) [State.rollSlot, hs]
@[simp] theorem State.fxFwCommit_wf (q : Req) (ws : List Word) (s : State) (hs : s.wf = true) : (State.fxFwCommit q ws s).wf = true := by
  simp (maxDischargeDepth := 60) +contextual [State.fxFwCommit, hs]
@[simp] theorem State.fwAct_wf (s : State) (w : Word) (hs : s.wf = true) : (State.fwAct s w).2.wf = true := by
  simp (maxDischargeDepth := 60) [State.fwAct, hs]
@[simp] theorem State.headerDone_wf (s : State) (ok : Bool) (hs : s.wf = true) : (State.headerDone s ok).wf = true := by
  unfold State.headerDone; (repeat' split) <;> simp (maxDischargeDepth := 60) [hs]
@[simp] theorem State.fxReboot_wf (q : Req) (ws : List Word) (s : State) (hs : s.wf = true) : (State.fxReboot q ws s).wf = true := by
  simp (maxDischargeDepth := 60) [State.fxReboot, hs]
@[simp] theorem State.fxCfgSave_wf (q : Req) (ws : List Word) (s : State) (hs : s.wf = true) : (State.fxCfgSave q ws s).wf = true := by
  simp (maxDischargeDepth := 60) [State.fxCfgSave, hs]
@[simp] theorem State.fxCfgErase_wf (q : Req) (ws : List Word) (s : State) (hs : s.wf = true) : (State.fxCfgErase q ws s).wf = true := by
  simp (maxDischargeDepth := 60) [State.fxCfgErase, hs]
@[simp] theorem State.fxCfgProgram_wf (q : Req) (ws : List Word) (s : State) (hs : s.wf = true) : (State.fxCfgProgram q ws s).wf = true := by
  simp (maxDischargeDepth := 60) [State.fxCfgProgram, hs]
@[simp] theorem State.fxCfgRead_wf (q : Req) (ws : List Word) (s : State) (hs : s.wf = true) : (State.fxCfgRead q ws s).wf = true := by
  simp (maxDischargeDepth := 60) [State.fxCfgRead, hs]
@[simp] theorem State.cfgDone_wf (s : State) (ok : Bool) (hs : s.wf = true) : (State.cfgDone s ok).wf = true := by
  unfold State.cfgDone; (repeat' split) <;> simp (maxDischargeDepth := 60) [hs]
@[simp] theorem State.writeRec_wf (s : State) (l : List Byte) (hs : s.wf = true) : (State.writeRec s l).wf = true := by
  simp (maxDischargeDepth := 60) [State.writeRec, hs]
@[simp] theorem State.logFlush_wf (s : State) (hs : s.wf = true) : (State.logFlush s).wf = true := by
  simp (maxDischargeDepth := 60) +contextual [State.logFlush, hs]
@[simp] theorem State.fxLogRd_wf (q : Req) (ws : List Word) (s : State) (hs : s.wf = true) : (State.fxLogRd q ws s).wf = true := by
  simp (maxDischargeDepth := 60) [State.fxLogRd, hs]
@[simp] theorem State.logDone_wf (s : State) (hs : s.wf = true) : (State.logDone s).wf = true := by
  unfold State.logDone; (repeat' split) <;> simp (maxDischargeDepth := 60) [hs]
@[simp] theorem State.crossed_wf (s : State) (code : Nat) (n : Nat) (rd : Word) (lim : Word) (hs : s.wf = true) : (State.crossed s code n rd lim).wf = true := by
  simp (maxDischargeDepth := 60) [State.crossed, hs]
@[simp] theorem State.readTemp_wf (s : State) (n : Nat) (v : Int) (hs : s.wf = true) : (State.readTemp s n v).wf = true := by
  simp (maxDischargeDepth := 60) [State.readTemp, hs]
@[simp] theorem State.readVolt_wf (s : State) (r : Nat) (v : Nat) (hs : s.wf = true) : (State.readVolt s r v).wf = true := by
  simp (maxDischargeDepth := 60) [State.readVolt, hs]
@[simp] theorem State.convert_wf (s : State) (temps : List Int) (mv : List Nat) (hs : s.wf = true) : (State.convert s temps mv).wf = true := by
  simp (maxDischargeDepth := 60) +contextual [State.convert, hs]
@[simp] theorem State.fxSensorRd_wf (q : Req) (ws : List Word) (s : State) (hs : s.wf = true) : (State.fxSensorRd q ws s).wf = true := by
  simp (maxDischargeDepth := 60) [State.fxSensorRd, hs]
@[simp] theorem State.mgmtExpiry_wf (s : State) (code : Nat) (ch : Nat) (hs : s.wf = true) : (State.mgmtExpiry s code ch).wf = true := by
  simp (maxDischargeDepth := 60) [State.mgmtExpiry, hs]
@[simp] theorem State.badgerReady_wf (s : State) (hs : s.wf = true) : (State.badgerReady s).wf = true := by
  simp (maxDischargeDepth := 60) [State.badgerReady, hs]
@[simp] theorem State.badgerSleep_wf (s : State) (hs : s.wf = true) : (State.badgerSleep s).wf = true := by
  simp (maxDischargeDepth := 60) [State.badgerSleep, hs]
@[simp] theorem State.cutCmd_wf (s : State) (p : PendCmd) (hs : s.wf = true) : (State.cutCmd s p).wf = true := by
  simp (maxDischargeDepth := 60) [State.cutCmd, hs]
@[simp] theorem State.parkCmd_wf (s : State) (p : PendCmd) (hs : s.wf = true) : (State.parkCmd s p).wf = true := by
  unfold State.parkCmd; (repeat' split) <;> simp (maxDischargeDepth := 60) [hs]
@[simp] theorem State.badgerDown_wf (s : State) (hs : s.wf = true) : (State.badgerDown s).wf = true := by
  simp (maxDischargeDepth := 60) +contextual [State.badgerDown, hs]
@[simp] theorem State.watchdog_wf (s : State) (at_ : Option Nat) (hs : s.wf = true) : (State.watchdog s at_).wf = true := by
  simp (maxDischargeDepth := 60) [State.watchdog, hs]
@[simp] theorem State.fwStarts_wf (s : State) (hs : s.wf = true) : (State.fwStarts s).wf = true := by
  simp (maxDischargeDepth := 60) [State.fwStarts, hs]
@[simp] theorem State.badgerBack_wf (s : State) (reload : Bool) (binsOk : Bool) (hs : s.wf = true) : (State.badgerBack s reload binsOk).wf = true := by
  unfold State.badgerBack
  cases binsOk <;> simp (maxDischargeDepth := 60) +contextual [hs]
@[simp] theorem State.injOn_wf (s : State) (src : Nat) (hs : s.wf = true) : (State.injOn s src).2.wf = true := by
  simp (maxDischargeDepth := 60) [State.injOn, hs]
@[simp] theorem State.injOff_wf (s : State) (hs : s.wf = true) : (State.injOff s).wf = true := by
  simp (maxDischargeDepth := 60) +contextual [State.injOff, hs]
@[simp] theorem State.injKey_wf (s : State) (w : Word) (hs : s.wf = true) : (State.injKey s w).2.wf = true := by
  simp (maxDischargeDepth := 60) [State.injKey, hs]
@[simp] theorem State.fxFaultInject_wf (act : Nat) (q : Req) (ws : List Word) (s : State) (hs : s.wf = true) : (State.fxFaultInject act q ws s).wf = true := by
  simp (maxDischargeDepth := 60) [State.fxFaultInject, hs]
@[simp] theorem State.pulseEnd_wf (s : State) (hs : s.wf = true) : (State.pulseEnd s).wf = true := by
  simp (maxDischargeDepth := 60) [State.pulseEnd, hs]
@[simp] theorem State.parCh_wf (s : State) (c : Nat) (acc : FaultAccess) (hs : s.wf = true) : (State.parCh s c acc).wf = true := by
  simp (maxDischargeDepth := 60) [State.parCh, hs]
@[simp] theorem State.parGrp_wf (s : State) (g : Nat) (acc : FaultAccess) (hs : s.wf = true) : (State.parGrp s g acc).wf = true := by
  simp (maxDischargeDepth := 60) +contextual [State.parGrp, hs]
@[simp] theorem State.parity_wf (s : State) (p : Place) (hs : s.wf = true) : (State.parity s p).wf = true := by
  unfold State.parity; (repeat' split) <;> simp (maxDischargeDepth := 60) [hs]
@[simp] theorem State.trpOne_wf (s : State) (p : Place) (hs : s.wf = true) : (State.trpOne s p).wf = true := by
  unfold State.trpOne; (repeat' split) <;> simp (maxDischargeDepth := 60) [hs]
@[simp] theorem State.trpAll_wf (s : State) (p : Place) (hs : s.wf = true) : (State.trpAll s p).wf = true := by
  unfold State.trpAll; (repeat' split) <;> simp (maxDischargeDepth := 60) +contextual [hs]
@[simp] theorem State.scrubPg_wf (s : State) (p : Nat) (f : ScrubFinding) (hs : s.wf = true) : (State.scrubPg s p f).wf = true := by
  unfold State.scrubPg; (repeat' split) <;> simp (maxDischargeDepth := 60) [hs]
@[simp] theorem State.scrub_wf (s : State) (a : Nat) (f : ScrubFinding) (hs : s.wf = true) : (State.scrub s a f).wf = true := by
  unfold State.scrub; (repeat' split) <;> simp (maxDischargeDepth := 60) [hs]
@[simp] theorem State.busError_wf (s : State) (m : Nat) (t : Nat) (write : Bool) (a : Nat) (hs : s.wf = true) : (State.busError s m t write a).wf = true := by
  simp (maxDischargeDepth := 60) [State.busError, hs]
@[simp] theorem State.dropHead_wf (s : State) (c : Nat) (q : Nat) (hs : s.wf = true) : (State.dropHead s c q).wf = true := by
  simp (maxDischargeDepth := 60) [State.dropHead, hs]
@[simp] theorem State.parTbl_wf (s : State) (acc : FaultAccess) (hs : s.wf = true) : (State.parTbl s acc).wf = true := by
  simp (maxDischargeDepth := 60) [State.parTbl, hs]
@[simp] theorem State.edge_wf (s : State) (r : Report) (hs : s.wf = true) : (State.edge s r).wf = true := by
  unfold State.edge; (repeat' split) <;> simp (maxDischargeDepth := 60) [hs]
@[simp] theorem State.raiseCmd_wf (s : State) (src : Nat) (k : FaultKind) (g : Option Nat) (c : Option Nat) (acc : FaultAccess) (hs : s.wf = true) : (State.raiseCmd s src k g c acc).wf = true := by
  unfold State.raiseCmd; (repeat' split) <;> simp (maxDischargeDepth := 60) [hs]
@[simp] theorem State.ackDue_wf (s : State) (sev : Nat) (hs : s.wf = true) : (State.ackDue s sev).wf = true := by
  simp (maxDischargeDepth := 60) [State.ackDue, hs]
@[simp] theorem State.windowOver_wf (s : State) (src : Nat) (hs : s.wf = true) : (State.windowOver s src).wf = true := by
  unfold State.windowOver; (repeat' split) <;> simp (maxDischargeDepth := 60) [hs]
@[simp] theorem State.ackWrite_wf (s : State) (w : Word) (hs : s.wf = true) : (State.ackWrite s w).wf = true := by
  simp (maxDischargeDepth := 60) [State.ackWrite, hs]
@[simp] theorem State.rehunt_wf (s : State) (c : Nat) (hs : s.wf = true) : (State.rehunt s c).wf = true := by
  simp (maxDischargeDepth := 60) [State.rehunt, hs]
@[simp] theorem State.holdRx_wf (s : State) (c : Nat) (hs : s.wf = true) : (State.holdRx s c).wf = true := by
  simp (maxDischargeDepth := 60) [State.holdRx, hs]
@[simp] theorem State.modPrbs_wf (s : State) (c : Nat) (f : Prbs → Prbs) (hs : s.wf = true) : (State.modPrbs s c f).wf = true := by
  simp (maxDischargeDepth := 60) [State.modPrbs, hs]
@[simp] theorem State.prbsReply_wf (s : State) (t : State) (q : Req) (c : Nat) (hs : s.wf = true) (hk : t.wf = true) : (State.prbsReply s t q c).wf = true := by
  simp (maxDischargeDepth := 60) [State.prbsReply, hs, hk]
@[simp] theorem State.prbsStart_wf (s : State) (c : Nat) (pat : Nat) (dir : Nat) (inv : Bool) (hs : s.wf = true) : (State.prbsStart s c pat dir inv).wf = true := by
  simp (maxDischargeDepth := 60) [State.prbsStart, hs]
@[simp] theorem State.prbsStop_wf (s : State) (c : Nat) (dir : Nat) (hs : s.wf = true) : (State.prbsStop s c dir).wf = true := by
  simp (maxDischargeDepth := 60) [State.prbsStop, hs]
@[simp] theorem State.fxPrbs_wf (act : Nat) (q : Req) (ws : List Word) (s : State) (hs : s.wf = true) : (State.fxPrbs act q ws s).wf = true := by
  simp (maxDischargeDepth := 60) [State.fxPrbs, hs]
@[simp] theorem State.prbsTake_wf (s : State) (c : Nat) (syms : List Nat) (hs : s.wf = true) : (State.prbsTake s c syms).wf = true := by
  simp (maxDischargeDepth := 60) [State.prbsTake, hs]
@[simp] theorem State.fxLoopback_wf (mode : Nat) (q : Req) (ws : List Word) (s : State) (hs : s.wf = true) : (State.fxLoopback mode q ws s).wf = true := by
  simp (maxDischargeDepth := 60) [State.fxLoopback, hs]
@[simp] theorem State.eyeStart_wf (s : State) (c : Nat) (eye : Nat) (dwell : Nat) (q : Req) (hs : s.wf = true) : (State.eyeStart s c eye dwell q).wf = true := by
  simp (maxDischargeDepth := 60) [State.eyeStart, hs]
@[simp] theorem State.fxEye_wf (act : Nat) (q : Req) (ws : List Word) (s : State) (hs : s.wf = true) : (State.fxEye act q ws s).wf = true := by
  simp (maxDischargeDepth := 60) [State.fxEye, hs]
@[simp] theorem State.eyeDone_wf (s : State) (c : Nat) (errs : List Nat) (hs : s.wf = true) : (State.eyeDone s c errs).wf = true := by
  simp (maxDischargeDepth := 60) [State.eyeDone, hs]
@[simp] theorem State.reserve_wf (s : State) (c : Nat) (k : Nat) (hs : s.wf = true) : (State.reserve s c k).wf = true := by
  simp (maxDischargeDepth := 60) +contextual [State.reserve, hs]
@[simp] theorem State.freeBond_wf (s : State) (c : Nat) (hs : s.wf = true) : (State.freeBond s c).wf = true := by
  simp (maxDischargeDepth := 60) +contextual [State.freeBond, hs]
@[simp] theorem State.store_wf (s : State) (p : Place) (r : RegInfo) (w : Word) (hs : s.wf = true) : (State.store s p r w).wf = true := by
  simp (maxDischargeDepth := 60) [State.store, hs]
@[simp] theorem State.enableRefused_wf (s : State) (p : Place) (i : Nat) (hs : s.wf = true) : (State.enableRefused s p i).2.wf = true := by
  simp (maxDischargeDepth := 60) [State.enableRefused, hs]
@[simp] theorem State.flagIf_wf (s : State) (p : Place) (b : Bool) (hs : s.wf = true) : (State.flagIf s p b).wf = true := by
  simp (maxDischargeDepth := 60) [State.flagIf, hs]
@[simp] theorem State.ctrlWritten_wf (s : State) (c : Nat) (old : Word) (hs : s.wf = true) : (State.ctrlWritten s c old).2.wf = true := by
  simp (maxDischargeDepth := 60) +contextual [State.ctrlWritten, hs]
@[simp] theorem State.clearTrace_wf (s : State) (c : Nat) (hs : s.wf = true) : (State.clearTrace s c).wf = true := by
  simp (maxDischargeDepth := 60) [State.clearTrace, hs]
@[simp] theorem State.modeWritten_wf (s : State) (c : Nat) (old : Word) (hs : s.wf = true) : (State.modeWritten s c old).wf = true := by
  simp (maxDischargeDepth := 60) [State.modeWritten, hs]
@[simp] theorem State.degWritten_wf (s : State) (c : Nat) (old : Word) (hs : s.wf = true) : (State.degWritten s c old).wf = true := by
  simp (maxDischargeDepth := 60) [State.degWritten, hs]
@[simp] theorem State.ttiWritten_wf (s : State) (c : Nat) (hs : s.wf = true) : (State.ttiWritten s c).wf = true := by
  simp (maxDischargeDepth := 60) [State.ttiWritten, hs]
@[simp] theorem State.captWritten_wf (s : State) (c : Nat) (old : Word) (w : Word) (hs : s.wf = true) : (State.captWritten s c old w).wf = true := by
  simp (maxDischargeDepth := 60) [State.captWritten, hs]
@[simp] theorem State.pktWritten_wf (s : State) (c : Nat) (old : Word) (hs : s.wf = true) : (State.pktWritten s c old).2.wf = true := by
  simp (maxDischargeDepth := 60) [State.pktWritten, hs]
@[simp] theorem State.tsWritten_wf (s : State) (c : Nat) (hs : s.wf = true) : (State.tsWritten s c).wf = true := by
  simp (maxDischargeDepth := 60) [State.tsWritten, hs]
@[simp] theorem State.evtWritten_wf (s : State) (c : Nat) (old : Word) (hs : s.wf = true) : (State.evtWritten s c old).wf = true := by
  simp (maxDischargeDepth := 60) +contextual [State.evtWritten, hs]
@[simp] theorem State.chkWritten_wf (s : State) (c : Nat) (old : Word) (hs : s.wf = true) : (State.chkWritten s c old).wf = true := by
  simp (maxDischargeDepth := 60) [State.chkWritten, hs]
@[simp] theorem State.chanWritten_wf (s : State) (c : Nat) (n : Nat) (old : Word) (w : Word) (hs : s.wf = true) : (State.chanWritten s c n old w).2.wf = true := by
  simp (maxDischargeDepth := 60) [State.chanWritten, hs]
@[simp] theorem State.lockWritten_wf (s : State) (old : Word) (hs : s.wf = true) : (State.lockWritten s old).wf = true := by
  simp (maxDischargeDepth := 60) [State.lockWritten, hs]
@[simp] theorem State.refSelWritten_wf (s : State) (old : Word) (hs : s.wf = true) : (State.refSelWritten s old).wf = true := by
  simp (maxDischargeDepth := 60) [State.refSelWritten, hs]
@[simp] theorem State.refInWritten_wf (s : State) (old : Word) (hs : s.wf = true) : (State.refInWritten s old).wf = true := by
  simp (maxDischargeDepth := 60) +contextual [State.refInWritten, hs]
@[simp] theorem State.lrWritten_wf (s : State) (m : Nat) (old : Word) (hs : s.wf = true) : (State.lrWritten s m old).wf = true := by
  simp (maxDischargeDepth := 60) [State.lrWritten, hs]
@[simp] theorem State.clkoutWritten_wf (s : State) (n : Nat) (old : Word) (hs : s.wf = true) : (State.clkoutWritten s n old).2.wf = true := by
  simp (maxDischargeDepth := 60) [State.clkoutWritten, hs]
@[simp] theorem State.ppsWritten_wf (s : State) (old : Word) (hs : s.wf = true) : (State.ppsWritten s old).wf = true := by
  simp (maxDischargeDepth := 60) [State.ppsWritten, hs]
@[simp] theorem State.twinWritten_wf (s : State) (old : Word) (hs : s.wf = true) : (State.twinWritten s old).wf = true := by
  simp (maxDischargeDepth := 60) [State.twinWritten, hs]
@[simp] theorem State.pageWritten_wf (s : State) (g : Nat) (i : Nat) (old : Word) (w : Word) (hs : s.wf = true) : (State.pageWritten s g i old w).2.wf = true := by
  simp (maxDischargeDepth := 60) [State.pageWritten, hs]
@[simp] theorem State.keyEffect_wf (s : State) (a : Nat) (v : Word) (hs : s.wf = true) : (State.keyEffect s a v).2.wf = true := by
  simp (maxDischargeDepth := 60) [State.keyEffect, hs]
@[simp] theorem State.keyAccept_wf (s : State) (a : Nat) (w : Word) (hs : s.wf = true) : (State.keyAccept s a w).2.wf = true := by
  simp (maxDischargeDepth := 60) [State.keyAccept, hs]
@[simp] theorem State.dropKey_wf (s : State) (a : Nat) (hs : s.wf = true) : (State.dropKey s a).wf = true := by
  simp (maxDischargeDepth := 60) [State.dropKey, hs]
@[simp] theorem State.keyAWrite_wf (s : State) (src : Src) (a : Nat) (w : Word) (hs : s.wf = true) : (State.keyAWrite s src a w).2.wf = true := by
  simp (maxDischargeDepth := 60) [State.keyAWrite, hs]
@[simp] theorem State.keyBWrite_wf (s : State) (src : Src) (a : Nat) (w : Word) (hs : s.wf = true) : (State.keyBWrite s src a w).2.wf = true := by
  unfold State.keyBWrite; (repeat' split) <;> simp (maxDischargeDepth := 60) [hs]
@[simp] theorem State.keyExpiry_wf (s : State) (a : Nat) (hs : s.wf = true) : (State.keyExpiry s a).wf = true := by
  unfold State.keyExpiry; (repeat' split) <;> simp (maxDischargeDepth := 60) [hs]
@[simp] theorem State.keyWrite_wf (s : State) (a : Nat) (v : Word) (nv : Word) (hs : s.wf = true) : (State.keyWrite s a v nv).2.wf = true := by
  simp (maxDischargeDepth := 60) [State.keyWrite, hs]
@[simp] theorem State.placeWritten_wf (s : State) (p : Place) (old : Word) (w : Word) (hs : s.wf = true) : (State.placeWritten s p old w).2.wf = true := by
  cases p <;> simp (maxDischargeDepth := 60) [State.placeWritten, hs]
@[simp] theorem State.writeReg_wf (s : State) (src : Src) (addr : Nat) (w : Word) (hs : s.wf = true) : (State.writeReg s src addr w).2.wf = true := by
  unfold State.writeReg; try dsimp only; (repeat' split) <;> simp_all (maxDischargeDepth := 60)
@[simp] theorem State.readReset_wf (s : State) (z1 : RorField) (hs : s.wf = true) : (State.readReset s z1).wf = true := by
  unfold State.readReset; (repeat' split) <;> simp (maxDischargeDepth := 60) [hs]
@[simp] theorem State.readEffect_wf (s : State) (addr : Nat) (hs : s.wf = true) : (State.readEffect s addr).wf = true := by
  unfold State.readEffect; (repeat' split) <;> simp (maxDischargeDepth := 60) [hs]
@[simp] theorem State.readBlk_wf (s : State) (a : Nat) (i : Nat) (z3 : Nat) (hs : s.wf = true) : (State.readBlk s a i z3).2.wf = true := by
  induction z3 generalizing s i with
  | zero => exact hs
  | succ n ih =>
    simp only [State.readBlk]
    (repeat' split) <;> first | exact hs | (apply ih; simp (maxDischargeDepth := 60) +contextual [hs])
@[simp] theorem State.writeBlk_wf (s : State) (src : Src) (a : Nat) (i : Nat) (z4 : List Word) (hs : s.wf = true) : (State.writeBlk s src a i z4).2.2.wf = true := by
  induction z4 generalizing s i with
  | nil => exact hs
  | cons v r ih =>
    simp only [State.writeBlk]
    (repeat' split) <;> first | exact hs | (apply ih; simp (maxDischargeDepth := 60) +contextual [hs])
@[simp] theorem State.fxRegRd_wf (q : Req) (ws : List Word) (s : State) (hs : s.wf = true) : (State.fxRegRd q ws s).wf = true := by
  simp (maxDischargeDepth := 60) [State.fxRegRd, hs]
@[simp] theorem State.fxRegWr_wf (q : Req) (ws : List Word) (s : State) (hs : s.wf = true) : (State.fxRegWr q ws s).wf = true := by
  simp (maxDischargeDepth := 60) [State.fxRegWr, hs]
@[simp] theorem State.fxRegRdBlk_wf (q : Req) (ws : List Word) (s : State) (hs : s.wf = true) : (State.fxRegRdBlk q ws s).wf = true := by
  simp (maxDischargeDepth := 60) [State.fxRegRdBlk, hs]
@[simp] theorem State.fxRegWrBlk_wf (q : Req) (ws : List Word) (s : State) (hs : s.wf = true) : (State.fxRegWrBlk q ws s).wf = true := by
  simp (maxDischargeDepth := 60) [State.fxRegWrBlk, hs]
@[simp] theorem State.fxRegWrKey_wf (q : Req) (ws : List Word) (s : State) (hs : s.wf = true) : (State.fxRegWrKey q ws s).wf = true := by
  simp (maxDischargeDepth := 60) [State.fxRegWrKey, hs]
@[simp] theorem State.put_wf (s : State) (src : Src) (a : Nat) (w : Word) (hs : s.wf = true) : (State.put s src a w).wf = true := by
  simp (maxDischargeDepth := 60) [State.put, hs]
@[simp] theorem State.provision_wf (s : State) (src : Src) (c : Nat) (w1 : Word) (w2 : Word) (w3 : Word) (hs : s.wf = true) : (State.provision s src c w1 w2 w3).wf = true := by
  simp (maxDischargeDepth := 60) [State.provision, hs]
@[simp] theorem State.provisionOn_wf (s : State) (p : PendCmd) (hs : s.wf = true) : (State.provisionOn s p).wf = true := by
  unfold State.provisionOn; (repeat' split) <;> simp (maxDischargeDepth := 60) [hs]
@[simp] theorem State.fxChProvision_wf (q : Req) (ws : List Word) (s : State) (hs : s.wf = true) : (State.fxChProvision q ws s).wf = true := by
  simp (maxDischargeDepth := 60) [State.fxChProvision, hs]
@[simp] theorem State.provisionDone_wf (s : State) (c : Nat) (hs : s.wf = true) : (State.provisionDone s c).wf = true := by
  unfold State.provisionDone; (repeat' split) <;> simp (maxDischargeDepth := 60) [hs]
@[simp] theorem State.releaseCh_wf (s : State) (c : Nat) (hs : s.wf = true) : (State.releaseCh s c).wf = true := by
  simp (maxDischargeDepth := 60) [State.releaseCh, hs]
@[simp] theorem State.fxChRelease_wf (q : Req) (ws : List Word) (s : State) (hs : s.wf = true) : (State.fxChRelease q ws s).wf = true := by
  simp (maxDischargeDepth := 60) [State.fxChRelease, hs]
@[simp] theorem State.drawNonce_wf (s : State) (slot : Nat) (hs : s.wf = true) : (State.drawNonce s slot).wf = true := by
  simp (maxDischargeDepth := 60) [State.drawNonce, hs]
@[simp] theorem State.writeOh_wf (s : State) (e : Nat) (i : Nat) (v : Word) (hs : s.wf = true) : (State.writeOh s e i v).wf = true := by
  simp (maxDischargeDepth := 60) [State.writeOh, hs]
@[simp] theorem State.storeEdit_wf (s : State) (x : Edit) (hs : s.wf = true) : (State.storeEdit s x).wf = true := by
  simp (maxDischargeDepth := 60) +contextual [State.storeEdit, hs]
@[simp] theorem State.editEffect_wf (s : State) (x : Edit) (was : Bool) (now : Bool) (hs : s.wf = true) : (State.editEffect s x was now).wf = true := by
  simp (maxDischargeDepth := 60) [State.editEffect, hs]
@[simp] theorem State.applyEdit_wf (s : State) (x : Edit) (hs : s.wf = true) : (State.applyEdit s x).wf = true := by
  simp (maxDischargeDepth := 60) [State.applyEdit, hs]
@[simp] theorem State.writeEntries_wf (s : State) (t : Nat) (b : Nat) (n : Nat) (z4 : Nat) (z5 : Nat) (z6 : List Word) (z7 : Nat) (hs : s.wf = true) : (State.writeEntries s t b n z4 z5 z6 z7).1.wf = true := by
  induction z7 generalizing s z4 z5 z6 with
  | zero => exact hs
  | succ n ih =>
    simp only [State.writeEntries]
    (repeat' split) <;> first | exact hs | (apply ih; simp (maxDischargeDepth := 60) +contextual [hs])
@[simp] theorem State.fxTblWr_wf (q : Req) (ws : List Word) (s : State) (hs : s.wf = true) : (State.fxTblWr q ws s).wf = true := by
  unfold State.fxTblWr; try dsimp only; (repeat' split) <;> simp_all (maxDischargeDepth := 60)
@[simp] theorem State.showEntry_wf (s : State) (t : Nat) (e : Nat) (hs : s.wf = true) : (State.showEntry s t e).wf = true := by
  simp (maxDischargeDepth := 60) [State.showEntry, hs]
@[simp] theorem State.readWords_wf (s : State) (t : Nat) (b : Nat) (n : Nat) (z4 : Nat) (z5 : Nat) (z6 : Nat) (hs : s.wf = true) : (State.readWords s t b n z4 z5 z6).2.wf = true := by
  induction z6 generalizing s z4 z5 with
  | zero => exact hs
  | succ n ih =>
    simp only [State.readWords]
    (repeat' split) <;> first | exact hs | (apply ih; simp (maxDischargeDepth := 60) +contextual [hs])
@[simp] theorem State.fxTblRd_wf (q : Req) (ws : List Word) (s : State) (hs : s.wf = true) : (State.fxTblRd q ws s).wf = true := by
  unfold State.fxTblRd; try dsimp only; (repeat' split) <;> simp_all (maxDischargeDepth := 60)
@[simp] theorem State.fxNop_wf (q : Req) (ws : List Word) (s : State) (hs : s.wf = true) : (State.fxNop q ws s).wf = true := by
  simp (maxDischargeDepth := 60) [State.fxNop, hs]
@[simp] theorem State.fxEcho_wf (q : Req) (ws : List Word) (s : State) (hs : s.wf = true) : (State.fxEcho q ws s).wf = true := by
  simp (maxDischargeDepth := 60) [State.fxEcho, hs]
@[simp] theorem State.fxIdentify_wf (q : Req) (ws : List Word) (s : State) (hs : s.wf = true) : (State.fxIdentify q ws s).wf = true := by
  simp (maxDischargeDepth := 60) [State.fxIdentify, hs]
@[simp] theorem State.fxEvtPop_wf (q : Req) (ws : List Word) (s : State) (hs : s.wf = true) : (State.fxEvtPop q ws s).wf = true := by
  unfold State.fxEvtPop
  dsimp only
  have hl := s.wf_events hs
  split
  · simp (maxDischargeDepth := 60) [hs]
  · split
    · simp (maxDischargeDepth := 60) [hs]
    · apply State.reply_wf
      simp (maxDischargeDepth := 60) [hs]
      omega
@[simp] theorem State.runHardware_wf (op : Nat) (q : Req) (ws : List Word) (s : State) (hs : s.wf = true) : (State.runHardware op q ws s).wf = true := by
  simp (maxDischargeDepth := 60) [State.runHardware, hs]
@[simp] theorem State.runFirmware_wf (op : Nat) (q : Req) (ws : List Word) (s : State) (hs : s.wf = true) : (State.runFirmware op q ws s).wf = true := by
  simp (maxDischargeDepth := 60) [State.runFirmware, hs]
@[simp] theorem State.fxFwWrite_wf (q : Req) (ws : List Word) (s : State) (hs : s.wf = true) : (State.fxFwWrite q ws s).wf = true := by
  simp (maxDischargeDepth := 60) [State.fxFwWrite, hs]
@[simp] theorem State.fxFwActivate_wf (q : Req) (ws : List Word) (s : State) (hs : s.wf = true) : (State.fxFwActivate q ws s).wf = true := by
  simp (maxDischargeDepth := 60) [State.fxFwActivate, hs]
@[simp] theorem State.fxCfgStore_wf (q : Req) (ws : List Word) (s : State) (hs : s.wf = true) : (State.fxCfgStore q ws s).wf = true := by
  simp (maxDischargeDepth := 60) [State.fxCfgStore, hs]
@[simp] theorem State.runMaintenance_wf (op : Nat) (q : Req) (ws : List Word) (s : State) (hs : s.wf = true) : (State.runMaintenance op q ws s).wf = true := by
  simp (maxDischargeDepth := 60) [State.runMaintenance, hs]
@[simp] theorem State.runOpcode_wf (op : Nat) (q : Req) (ws : List Word) (s : State) (hs : s.wf = true) : (State.runOpcode op q ws s).wf = true := by
  simp (maxDischargeDepth := 60) [State.runOpcode, hs]
@[simp] theorem State.runHeld_wf (s : State) (z1 : Nat) (hs : s.wf = true) : (State.runHeld s z1).wf = true := by
  induction z1 generalizing s with
  | zero => exact hs
  | succ n ih =>
    simp only [State.runHeld]
    (repeat' split) <;> first | exact hs | (apply ih; simp (maxDischargeDepth := 60) +contextual [hs])
@[simp] theorem State.take_wf (s : State) (q : Req) (hs : s.wf = true) : (State.take s q).wf = true := by
  simp (maxDischargeDepth := 60) [State.take, hs]
@[simp] theorem State.holdCommand_wf (s : State) (q : Req) (op : Nat) (ws : List Word) (hs : s.wf = true) : (State.holdCommand s q op ws).wf = true := by
  simp (maxDischargeDepth := 60) [State.holdCommand, hs]
@[simp] theorem State.start_wf (s : State) (q : Req) (op : Nat) (ws : List Word) (fx : State → State) (hs : s.wf = true) (hfx : ∀ t, t.wf = true → (fx t).wf = true) : (State.start s q op ws fx).wf = true := by
  simp (maxDischargeDepth := 60) [State.start, *]
@[simp] theorem State.startAll_wf (s : State) (z0 : List Accepted) (hs : s.wf = true) : (State.startAll s z0).wf = true := by
  induction z0 generalizing s with
  | nil => exact hs
  | cons a r ih =>
    exact ih _ (State.start_wf _ _ _ _ _ hs fun t ht => by simp [ht])
@[simp] theorem State.command_wf (s : State) (q : Req) (op : Nat) (ws : List Word) (fx : State → State) (hs : s.wf = true) (hfx : ∀ x0, x0.wf = true → (fx x0).wf = true) : (State.command s q op ws fx).wf = true := by
  unfold State.command; split
  · have h := State.start_wf _ q op ws fx (State.startAll_wf s (s.cmd.inbox.takeWhile (·.req != q)) hs) hfx
    simp [h]
  · exact hs
@[simp] theorem State.rowWrite_wf (s : State) (q : Req) (a : Nat) (w : Word) (hs : s.wf = true) : (State.rowWrite s q a w).wf = true := by
  simp (maxDischargeDepth := 60) +contextual [State.rowWrite, hs]
@[simp] theorem State.rowKey_wf (s : State) (q : Req) (a : Nat) (w : Word) (hs : s.wf = true) : (State.rowKey s q a w).wf = true := by
  simp (maxDischargeDepth := 60) +contextual [State.rowKey, hs]
@[simp] theorem State.badgerStart_wf (s : State) (hs : s.wf = true) : (State.badgerStart s).wf = true := by
  simp (maxDischargeDepth := 60) [State.badgerStart, hs]
@[simp] theorem State.restartDone_wf (s : State) (reload : Bool) (binsOk : Bool) (hs : s.wf = true) : (State.restartDone s reload binsOk).wf = true := by
  simp (maxDischargeDepth := 60) [State.restartDone, hs]
@[simp] theorem State.cmdOccur_wf (s : State) (code : Nat) (chn : Nat) (hs : s.wf = true) : (State.cmdOccur s code chn).wf = true := by
  simp (maxDischargeDepth := 60) [State.cmdOccur, hs]
@[simp] theorem State.cmdHoldExpiry_wf (s : State) (code : Nat) (hs : s.wf = true) : (State.cmdHoldExpiry s code).wf = true := by
  simp (maxDischargeDepth := 60) [State.cmdHoldExpiry, hs]
@[simp] theorem State.tagTaken_wf (s : State) (src : Src) (op : Nat) (tag : Nat) (hs : s.wf = true) : (State.tagTaken s src op tag).wf = true := by
  unfold State.tagTaken; (repeat' split) <;> simp (maxDischargeDepth := 60) [hs]
@[simp] theorem State.refuse_wf (s : State) (q : Req) (op : Nat) (st : Nat) (hs : s.wf = true) : (State.refuse s q op st).wf = true := by
  simp (maxDischargeDepth := 60) [State.refuse, hs]
@[simp] theorem State.refusalCounts_wf (s : State) (src : Src) (l : List Byte) (st : Nat) (hs : s.wf = true) : (State.refusalCounts s src l st).wf = true := by
  simp (maxDischargeDepth := 60) [State.refusalCounts, hs]
@[simp] theorem State.crcUnit_wf (s : State) (z1 : Src) (hs : s.wf = true) : (State.crcUnit s z1).wf = true := by
  unfold State.crcUnit; (repeat' split) <;> simp (maxDischargeDepth := 60) [hs]
@[simp] theorem State.packet_wf (s : State) (src : Src) (l : List Byte) (hs : s.wf = true) : (State.packet s src l).wf = true := by
  simp (maxDischargeDepth := 60) [State.packet, hs]
@[simp] theorem State.hostWrite_wf (s : State) (l : List Byte) (hs : s.wf = true) : (State.hostWrite s l).wf = true := by
  simp (maxDischargeDepth := 60) [State.hostWrite, hs]
@[simp] theorem State.readReply_wf (s : State) (n : Nat) (hs : s.wf = true) : (State.readReply s n).wf = true := by
  unfold State.readReply; (repeat' split) <;> simp (maxDischargeDepth := 60) [hs]
@[simp] theorem State.readStat_wf (s : State) (hs : s.wf = true) : (State.readStat s).wf = true := by
  simp (maxDischargeDepth := 60) [State.readStat, hs]
@[simp] theorem State.inbandFrame_wf (s : State) (slot : Nat) (l : List Byte) (fcsOk : Bool) (hs : s.wf = true) : (State.inbandFrame s slot l fcsOk).wf = true := by
  simp (maxDischargeDepth := 60) [State.inbandFrame, hs]
@[simp] theorem State.fwdCmd_wf (s : State) (seq : Nat) (l : List Byte) (hs : s.wf = true) : (State.fwdCmd s seq l).wf = true := by
  simp (maxDischargeDepth := 60) [State.fwdCmd, hs]
@[simp] theorem State.fwdReply_wf (s : State) (seq : Nat) (l : List Byte) (hs : s.wf = true) : (State.fwdReply s seq l).wf = true := by
  unfold State.fwdReply; try dsimp only; (repeat' split) <;> simp_all (maxDischargeDepth := 60)
@[simp] theorem State.assertReset_wf (s : State) (hs : s.wf = true) : (State.assertReset s).wf = true := by
  unfold State.assertReset
  dsimp only
  (repeat' split) <;> simp (maxDischargeDepth := 60) [hs, State.reset]
@[simp] theorem State.startBoot_wf (s : State) (st : Straps) (pin : Bool) (hs : s.wf = true) : (State.startBoot s st pin).wf = true := by
  simp (maxDischargeDepth := 60) [State.startBoot, hs]
@[simp] theorem State.releaseReset_wf (s : State) (st : Straps) (hs : s.wf = true) : (State.releaseReset s st).wf = true := by
  simp (maxDischargeDepth := 60) [State.releaseReset, hs]
@[simp] theorem State.rebootNow_wf (s : State) (hs : s.wf = true) : (State.rebootNow s).wf = true := by
  simp (maxDischargeDepth := 60) [State.rebootNow, hs]
@[simp] theorem State.loadProt_wf (s : State) (slot : Option Nat) (hs : s.wf = true) : (State.loadProt s slot).wf = true := by
  simp (maxDischargeDepth := 60) +contextual [State.loadProt, hs]
@[simp] theorem State.applyInit_wf (s : State) (k : Nat) (hs : s.wf = true) : (State.applyInit s k).wf = true := by
  unfold State.applyInit
  split
  · apply State.each_wf _ _ _ hs
    intro t i ht
    simp (maxDischargeDepth := 60) +contextual [ht]
  · exact hs
@[simp] theorem State.loadNominal_wf (s : State) (hs : s.wf = true) : (State.loadNominal s).1.wf = true := by
  unfold State.loadNominal; (repeat' split) <;> simp (maxDischargeDepth := 60) [hs]
@[simp] theorem State.loadLog_wf (s : State) (hs : s.wf = true) : (State.loadLog s).wf = true := by
  simp (maxDischargeDepth := 60) [State.loadLog, hs]
@[simp] theorem State.loadSlots_wf (s : State) (hs : s.wf = true) : (State.loadSlots s).wf = true := by
  simp (maxDischargeDepth := 60) +contextual [State.loadSlots, hs]
@[simp] theorem State.bootRecord_wf (s : State) (slot : Option Nat) (nominal : Bool) (hs : s.wf = true) : (State.bootRecord s slot nominal).wf = true := by
  simp (maxDischargeDepth := 60) [State.bootRecord, hs]
@[simp] theorem State.bootLoad_wf (s : State) (ms : Nat) (hs : s.wf = true) : (State.bootLoad s ms).wf = true := by
  unfold State.bootLoad
  dsimp only
  (repeat' split) <;> simp (maxDischargeDepth := 60) [hs]
@[simp] theorem State.bootEnd_wf (s : State) (hs : s.wf = true) : (State.bootEnd s).wf = true := by
  simp (maxDischargeDepth := 60) [State.bootEnd, hs]
@[simp] theorem State.boot_wf (s : State) (ms : Nat) (hs : s.wf = true) : (State.boot s ms).wf = true := by
  unfold State.boot
  split <;> simp (maxDischargeDepth := 60) [hs]
@[simp] theorem State.oscBack_wf (s : State) (hs : s.wf = true) : (State.oscBack s).wf = true := by
  simp (maxDischargeDepth := 60) [State.oscBack, hs]
@[simp] theorem State.deepWatch_wf (s : State) (hs : s.wf = true) : (State.deepWatch s).wf = true := by
  simp (maxDischargeDepth := 60) [State.deepWatch, hs]
@[simp] theorem State.deepEnter_wf (s : State) (hs : s.wf = true) : (State.deepEnter s).wf = true := by
  simp (maxDischargeDepth := 60) +contextual [State.deepEnter, hs]
@[simp] theorem State.deepCause_wf (s : State) (z1 : WakeCause) (hs : s.wf = true) : (State.deepCause s z1).wf = true := by
  unfold State.deepCause; (repeat' split) <;> simp (maxDischargeDepth := 60) [hs]
@[simp] theorem State.deepLeave_wf (s : State) (hs : s.wf = true) : (State.deepLeave s).wf = true := by
  simp (maxDischargeDepth := 60) +contextual [State.deepLeave, hs]
@[simp] theorem State.loadTap_wf (s : State) (z1 : Option Nat) (hs : s.wf = true) : (State.loadTap s z1).wf = true := by
  cases z1 <;> exact hs
@[simp] theorem State.latePending_wf (s : State) (p : PendCmd) (hs : s.wf = true) : (State.latePending s p).wf = true := by
  unfold State.latePending; (repeat' split) <;> simp (maxDischargeDepth := 60) [hs]
@[simp] theorem State.cmdTick_wf (s : State) (hs : s.wf = true) : (State.cmdTick s).wf = true := by
  simp (maxDischargeDepth := 60) +contextual [State.cmdTick, hs]
@[simp] theorem State.tribShow_wf (s : State) (e : Nat × Nat × Conn) (hs : s.wf = true) : (State.tribShow s e).wf = true := by
  unfold State.tribShow; try dsimp only; (repeat' split) <;> simp_all (maxDischargeDepth := 60)
@[simp] theorem State.clientSsf_wf (s : State) (c : Nat) (hs : s.wf = true) : (State.clientSsf s c).wf = true := by
  simp (maxDischargeDepth := 60) [State.clientSsf, hs]
@[simp] theorem State.blockTick_wf (s : State) (hs : s.wf = true) : (State.blockTick s).wf = true := by
  simp (maxDischargeDepth := 60) +contextual [State.blockTick, hs]
@[simp] theorem State.waitShow_wf (s : State) (c : Nat) (hs : s.wf = true) : (State.waitShow s c).wf = true := by
  simp (maxDischargeDepth := 60) [State.waitShow, hs]
@[simp] theorem State.memberShow_wf (s : State) (e : Nat × Chan) (hs : s.wf = true) : (State.memberShow s e).wf = true := by
  unfold State.memberShow; (repeat' split) <;> simp (maxDischargeDepth := 60) [hs]
@[simp] theorem State.grpShow_wf (s : State) (g : Nat) (hs : s.wf = true) : (State.grpShow s g).wf = true := by
  simp (maxDischargeDepth := 60) [State.grpShow, hs]
@[simp] theorem State.pageMaps_wf (s : State) (i : Nat) (hs : s.wf = true) : (State.pageMaps s i).wf = true := by
  simp (maxDischargeDepth := 60) [State.pageMaps, hs]
@[simp] theorem State.faultShow_wf (s : State) (hs : s.wf = true) : (State.faultShow s).wf = true := by
  simp (maxDischargeDepth := 60) [State.faultShow, hs]
@[simp] theorem State.redShow_wf (s : State) (hs : s.wf = true) : (State.redShow s).wf = true := by
  simp (maxDischargeDepth := 60) [State.redShow, hs]
@[simp] theorem State.pageShow_wf (s : State) (hs : s.wf = true) : (State.pageShow s).wf = true := by
  simp (maxDischargeDepth := 60) +contextual [State.pageShow, hs]
@[simp] theorem State.refresh_wf (s : State) (p : Nat → Bool) (hs : s.wf = true) : (State.refresh s p).wf = true := by
  unfold State.refresh
  simp (maxDischargeDepth := 60) [hs, Store.wf_foldl_set]
@[simp] theorem State.show_wf (s : State) (hs : s.wf = true) : (State.show s).wf = true := by
  simp (maxDischargeDepth := 60) +contextual [State.show, hs]
@[simp] theorem State.clearOut_wf (s : State) (hs : s.wf = true) : (State.clearOut s).wf = true := by
  unfold State.clearOut
  simp (maxDischargeDepth := 60) [hs, Store.wf_map_filter]
@[simp] theorem State.tick_wf (s : State) (hs : s.wf = true) : (State.tick s).wf = true := by
  simp (maxDischargeDepth := 60) [State.tick, hs]

end Sys2Proof.Machine
end

