-- ==== Sys2Proof/Laws/Frame.lean ====
section
/-!
SUPPORT. No operation of the machine touches the core of the state (Safety.lean): one lemma per operation, in the order
of the machine's files.
-/
namespace Sys2Proof.Machine

set_option maxRecDepth 4000

@[simp] theorem State.each_core (s : State) (l : List Nat) (f : State → Nat → State) (h : ∀ t n, (f t n).core = t.core) : (s.each l f).core = s.core := by
  unfold State.each
  induction l generalizing s with
  | nil => rfl
  | cons a r ih => simp [ih, h]
@[simp] theorem State.foldl_core {α : Type} (l : List α) (s : State) (f : State → α → State) (h : ∀ t n, (f t n).core = t.core) : (l.foldl f s).core = s.core := by
  induction l generalizing s with
  | nil => rfl
  | cons a r ih => simp [ih, h]
@[simp] theorem State.core_fold (s : State) : (s.pending, s.osc, s.owl, s.straps, s.jtag, s.phase == .held) = s.core := rfl
@[simp] theorem State.core_mk x_pending x_phase x_osc x_owl x_straps x_regs x_copies x_badPar x_trpBad x_tables x_tblBad x_chans x_groups x_policers x_foxes x_lastRoam x_pgs x_reds x_frers x_snoopRest x_memWake x_memSleep x_memNoteTill x_twin x_refs x_time x_cmd x_sessions x_streams x_events x_holds x_swap x_tribs x_faults x_mgmt x_deepAt x_wakeAt x_jtag x_ppsOut x_sampledAt x_mapped x_started x_freeCtr : (State.mk x_pending x_phase x_osc x_owl x_straps x_regs x_copies x_badPar x_trpBad x_tables x_tblBad x_chans x_groups x_policers x_foxes x_lastRoam x_pgs x_reds x_frers x_snoopRest x_memWake x_memSleep x_memNoteTill x_twin x_refs x_time x_cmd x_sessions x_streams x_events x_holds x_swap x_tribs x_faults x_mgmt x_deepAt x_wakeAt x_jtag x_ppsOut x_sampledAt x_mapped x_started x_freeCtr).core = (x_pending, x_osc, x_owl, x_straps, x_jtag, x_phase == .held) := rfl
@[simp] theorem State.ite_core {c : Prop} [Decidable c] (a b : State) : (if c then a else b).core = if c then a.core else b.core := by split <;> rfl
@[simp] theorem State.ite_core2 {α : Type} {c : Prop} [Decidable c] (a b : α × State) : (if c then a else b).2.core = if c then a.2.core else b.2.core := by split <;> rfl

@[simp] theorem State.setReg_core (s : State) (a : Nat) (w : Word) : (State.setReg s a w).core = s.core := by
  simp [State.setReg]
@[simp] theorem State.setRf_core (s : State) (a : Nat) (hi : Nat) (lo : Nat) (v : Nat) : (State.setRf s a hi lo v).core = s.core := by
  simp [State.setRf]
@[simp] theorem State.setRb_core (s : State) (a : Nat) (i : Nat) (b : Bool) : (State.setRb s a i b).core = s.core := by
  simp [State.setRb]
@[simp] theorem State.count_core (s : State) (a : Nat) (hi : Nat) (lo : Nat) (n : Nat) : (State.count s a hi lo n).core = s.core := by
  simp [State.count]
@[simp] theorem State.setCrf_core (s : State) (c : Nat) (n : Nat) (hi : Nat) (lo : Nat) (v : Nat) : (State.setCrf s c n hi lo v).core = s.core := by
  simp [State.setCrf]
@[simp] theorem State.setCrb_core (s : State) (c : Nat) (n : Nat) (i : Nat) (b : Bool) : (State.setCrb s c n i b).core = s.core := by
  simp [State.setCrb]
@[simp] theorem State.modCh_core (s : State) (c : Nat) (f : Chan → Chan) : (State.modCh s c f).core = s.core := by
  simp [State.modCh]
@[simp] theorem State.modLane_core (s : State) (c : Nat) (f : Lane → Lane) : (State.modLane s c f).core = s.core := by
  simp [State.modLane]
@[simp] theorem State.modFrm_core (s : State) (c : Nat) (f : Framer → Framer) : (State.modFrm s c f).core = s.core := by
  simp [State.modFrm]
@[simp] theorem State.modMon_core (s : State) (c : Nat) (f : Monitor → Monitor) : (State.modMon s c f).core = s.core := by
  simp [State.modMon]
@[simp] theorem State.modGrp_core (s : State) (g : Nat) (f : Group → Group) : (State.modGrp s g f).core = s.core := by
  simp [State.modGrp]
@[simp] theorem State.modFox_core (s : State) (e : Nat) (f : Fox → Fox) : (State.modFox s e f).core = s.core := by
  simp [State.modFox]
@[simp] theorem State.modPg_core (s : State) (p : Nat) (f : Pg → Pg) : (State.modPg s p f).core = s.core := by
  simp [State.modPg]
@[simp] theorem State.modRed_core (s : State) (n : Nat) (f : Red → Red) : (State.modRed s n f).core = s.core := by
  simp [State.modRed]
@[simp] theorem State.modFrer_core (s : State) (n : Nat) (f : Frer → Frer) : (State.modFrer s n f).core = s.core := by
  simp [State.modFrer]
@[simp] theorem State.modTwin_core (s : State) (f : Twin → Twin) : (State.modTwin s f).core = s.core := by
  simp [State.modTwin]
@[simp] theorem State.modRefs_core (s : State) (f : Refs → Refs) : (State.modRefs s f).core = s.core := by
  simp [State.modRefs]
@[simp] theorem State.modMgmt_core (s : State) (f : Mgmt → Mgmt) : (State.modMgmt s f).core = s.core := by
  simp [State.modMgmt]
@[simp] theorem State.modCmd_core (s : State) (f : Cmd → Cmd) : (State.modCmd s f).core = s.core := by
  simp [State.modCmd]
@[simp] theorem State.modFaults_core (s : State) (f : Faults → Faults) : (State.modFaults s f).core = s.core := by
  simp [State.modFaults]
@[simp] theorem State.setTblB_core (s : State) (t : Nat) (b : Nat) (e : Nat) (w : Nat) (v : Word) : (State.setTblB s t b e w v).core = s.core := by
  simp [State.setTblB]
@[simp] theorem State.setTbl_core (s : State) (t : Nat) (e : Nat) (w : Nat) (v : Word) : (State.setTbl s t e w v).core = s.core := by
  simp [State.setTbl]
@[simp] theorem State.setTblWords_core (s : State) (t : Nat) (b : Nat) (e : Nat) (w : Nat) (z5 : List Word) : (State.setTblWords s t b e w z5).core = s.core := by
  induction z5 generalizing s w with
  | nil => rfl
  | cons v r ih => simp [State.setTblWords, ih]
@[simp] theorem State.countTbl_core (s : State) (t : Nat) (e : Nat) (w : Nat) (hi : Nat) (lo : Nat) (n : Nat) : (State.countTbl s t e w hi lo n).core = s.core := by
  simp [State.countTbl]
@[simp] theorem State.push_core (s : State) (e : Event) : (State.push s e).core = s.core := by
  simp [State.push]
@[simp] theorem State.event_core (s : State) (cls : Nat) (grp : Nat) (chn : Nat) (code : Nat) : (State.event s cls grp chn code).core = s.core := by
  simp [State.event]
@[simp] theorem State.modHold_core (s : State) (k : Nat) (f : Hold → Hold) : (State.modHold s k f).core = s.core := by
  simp [State.modHold]
@[simp] theorem State.change_core (s : State) (k : Nat) (i : Nat) (v : Nat) (us : Nat) : (State.change s k i v us).core = s.core := by
  simp [State.change]
@[simp] theorem State.occur_core (s : State) (k : Nat) (i : Nat) (us : Nat) : (State.occur s k i us).core = s.core := by
  simp [State.occur]
@[simp] theorem State.expireHold_core (s : State) (k : Nat) (mk : Nat → Item → Event) : (State.expireHold s k mk).core = s.core := by
  simp [State.expireHold]
@[simp] theorem State.tookFree_core (s : State) : (State.tookFree s).core = s.core := by
  simp [State.tookFree]
@[simp] theorem State.claim_core (s : State) (c : Claim) : (State.claim s c).core = s.core := by
  simp [State.claim]
@[simp] theorem State.release_core (s : State) (p : Claim → Bool) : (State.release s p).core = s.core := by
  simp [State.release]
@[simp] theorem State.setChState_core (s : State) (c : Nat) (v : Nat) : (State.setChState s c v).core = s.core := by
  simp [State.setChState]
@[simp] theorem whileOn_core (s : State) (t : State) (hk : t.core = s.core) : (whileOn s t).core = s.core := by
  simp [whileOn, hk]
@[simp] theorem State.wakeBadger_core (s : State) : (State.wakeBadger s).core = s.core := by
  simp [State.wakeBadger]
@[simp] theorem State.mgmtEvent_core (s : State) (code : Nat) (ch : Nat) : (State.mgmtEvent s code ch).core = s.core := by
  simp [State.mgmtEvent]
@[simp] theorem State.putRec_core (s : State) (typ : Nat) (inj : Bool) (code : Nat) (d0 : Word) (d1 : Word) : (State.putRec s typ inj code d0 d1).core = s.core := by
  simp [State.putRec]
@[simp] theorem State.logRec_core (s : State) (typ : Nat) (inj : Bool) (code : Nat) (d0 : Word) (d1 : Word) : (State.logRec s typ inj code d0 d1).core = s.core := by
  simp [State.logRec]
@[simp] theorem State.putRecord_core (s : State) (base : Nat) (sev : Nat) (r : Report) : (State.putRecord s base sev r).core = s.core := by
  simp [State.putRecord]
@[simp] theorem State.record_core (s : State) (sev : Nat) (r : Report) : (State.record s sev r).core = s.core := by
  simp [State.record]
@[simp] theorem State.startAck_core (s : State) (sev : Nat) : (State.startAck s sev).core = s.core := by
  simp [State.startAck]
@[simp] theorem State.setWindow_core (s : State) (src : Nat) (w : Option Window) : (State.setWindow s src w).core = s.core := by
  simp [State.setWindow]
@[simp] theorem State.faultEvent_core (s : State) (sev : Nat) (r : Report) : (State.faultEvent s sev r).core = s.core := by
  unfold State.faultEvent; (repeat' split) <;> simp
@[simp] theorem State.enterSafe_core (s : State) : (State.enterSafe s).core = s.core := by
  simp [State.enterSafe]
@[simp] theorem State.raise_core (s : State) (r : Report) : (State.raise s r).core = s.core := by
  simp [State.raise]
@[simp] theorem State.report_core (s : State) (r : Report) : (State.report s r).core = s.core := by
  simp [State.report]
@[simp] theorem State.fault_core (s : State) (src : Nat) : (State.fault s src).core = s.core := by
  simp [State.fault]
@[simp] theorem State.levelOn_core (s : State) (r : Report) : (State.levelOn s r).core = s.core := by
  simp [State.levelOn]
@[simp] theorem State.levelOff_core (s : State) (src : Nat) : (State.levelOff s src).core = s.core := by
  simp [State.levelOff]
@[simp] theorem State.escalate_core (s : State) (sev : Nat) : (State.escalate s sev).core = s.core := by
  simp [State.escalate]
@[simp] theorem State.ackExpiry_core (s : State) (sev : Nat) : (State.ackExpiry s sev).core = s.core := by
  simp [State.ackExpiry]
@[simp] theorem State.ackSev_core (s : State) (sev : Nat) : (State.ackSev s sev).core = s.core := by
  simp [State.ackSev]
@[simp] theorem State.trpAgree_core (s : State) (a : Nat) : (State.trpAgree s a).core = s.core := by
  unfold State.trpAgree; (repeat' split) <;> simp
@[simp] theorem State.flagIgnored_core (s : State) (p : Place) : (State.flagIgnored s p).core = s.core := by
  unfold State.flagIgnored; (repeat' split) <;> simp
@[simp] theorem State.keyFail_core (s : State) (a : Nat) : (State.keyFail s a).core = s.core := by
  simp [State.keyFail]
@[simp] theorem State.twinOccur_core (s : State) (code : Nat) (v : Nat) : (State.twinOccur s code v).core = s.core := by
  simp [State.twinOccur]
@[simp] theorem State.twinEvent_core (s : State) (code : Nat) (chan : Nat) : (State.twinEvent s code chan).core = s.core := by
  simp [State.twinEvent]
@[simp] theorem State.twinHoldExpiry_core (s : State) (code : Nat) : (State.twinHoldExpiry s code).core = s.core := by
  simp [State.twinHoldExpiry]
@[simp] theorem State.setUnsync_core (s : State) (v : Bool) : (State.setUnsync s v).core = s.core := by
  simp [State.setUnsync]
@[simp] theorem State.crcGate_core (s : State) (f : LinkFrame) (got : Option Word) (t : State) (hk : t.core = s.core) : (State.crcGate s f got t).core = s.core := by
  simp [State.crcGate, hk]
@[simp] theorem State.gotFrame_core (s : State) (typ : Nat) (ws : List Word) (got : Option Word) (t : State) (h : t.core = s.core) :
    (s.gotFrame typ ws got t).core = s.core := by
  simp [State.gotFrame, h]
@[simp] theorem State.linkSendFor_core (s : State) (typ : Nat) (ws : List Word) (q : Option Req) : (State.linkSendFor s typ ws q).core = s.core := by
  simp [State.linkSendFor]
@[simp] theorem State.linkSend_core (s : State) (typ : Nat) (ws : List Word) : (State.linkSend s typ ws).core = s.core := by
  simp [State.linkSend]
@[simp] theorem State.mirror_core (s : State) (cls : Nat) (obj : Nat) (ws : List Word) : (State.mirror s cls obj ws).core = s.core := by
  simp [State.mirror]
@[simp] theorem State.mirrorEntry_core (s : State) (t : Nat) (b : Nat) (e : Nat) (n : Nat) : (State.mirrorEntry s t b e n).core = s.core := by
  simp [State.mirrorEntry]
@[simp] theorem State.modSession_core (s : State) (slot : Nat) (f : Session → Session) : (State.modSession s slot f).core = s.core := by
  simp [State.modSession]
@[simp] theorem State.queueStream_core (s : State) (slot : Nat) (l : List Byte) (q : Option Req) : (State.queueStream s slot l q).core = s.core := by
  simp [State.queueStream]
@[simp] theorem State.settle_core (s : State) (q : Req) : (State.settle s q).core = s.core := by
  simp [State.settle]
@[simp] theorem State.putReply_core (s : State) (r : Reply) : (State.putReply s r).core = s.core := by
  unfold State.putReply; (repeat' split) <;> simp
@[simp] theorem State.reply_core (s : State) (q : Req) (op : Nat) (st : Nat) (det : Nat) (ws : List Word) : (State.reply s q op st det ws).core = s.core := by
  simp [State.reply]
@[simp] theorem State.status_core (s : State) (q : Req) (op : Nat) (st : Nat) : (State.status s q op st).core = s.core := by
  simp [State.status]
@[simp] theorem State.ok_core (s : State) (q : Req) (op : Nat) : (State.ok s q op).core = s.core := by
  simp [State.ok]
@[simp] theorem State.finish_core (s : State) (q : Req) (op : Nat) (st : Nat) (det : Nat) (ws : List Word) : (State.finish s q op st det ws).core = s.core := by
  simp [State.finish]
@[simp] theorem State.setPend_core (s : State) (p : PendCmd) : (State.setPend s p).core = s.core := by
  simp [State.setPend]
@[simp] theorem State.pendOn_core (s : State) (q : Req) (op : Nat) (j : Job) (due : Option Nat) : (State.pendOn s q op j due).core = s.core := by
  simp [State.pendOn]
@[simp] theorem State.defChange_core (s : State) (c : Nat) (d : Nat) (v : Bool) : (State.defChange s c d v).core = s.core := by
  simp [State.defChange]
@[simp] theorem State.putDef_core (s : State) (c : Nat) (d : Nat) (v : Bool) : (State.putDef s c d v).core = s.core := by
  simp [State.putDef]
@[simp] theorem State.setDef_core (s : State) (c : Nat) (d : Nat) (v : Bool) : (State.setDef s c d v).core = s.core := by
  simp [State.setDef]
@[simp] theorem State.syncSsf_core (s : State) (c : Nat) : (State.syncSsf s c).core = s.core := by
  simp [State.syncSsf]
@[simp] theorem State.clearOverhead_core (s : State) (c : Nat) : (State.clearOverhead s c).core = s.core := by
  unfold State.clearOverhead
  extract_lets l s1
  have h1 : s1.core = s.core := by simp [s1]
  refine (State.each_core s1 _ _ ?_).trans h1
  intro t n; rfl
@[simp] theorem State.oofOn_core (s : State) (c : Nat) : (State.oofOn s c).core = s.core := by
  simp [State.oofOn]
@[simp] theorem State.oofOff_core (s : State) (c : Nat) : (State.oofOff s c).core = s.core := by
  simp [State.oofOff]
@[simp] theorem State.endScan_core (s : State) (c : Nat) (det : Nat) : (State.endScan s c det).core = s.core := by
  unfold State.endScan; try dsimp only; (repeat' split) <;> simp_all
@[simp] theorem State.captureLost_core (s : State) (c : Nat) : (State.captureLost s c).core = s.core := by
  simp [State.captureLost]
@[simp] theorem State.toState_core (s : State) (c : Nat) (v : Nat) : (State.toState s c v).core = s.core := by
  simp [State.toState]
@[simp] theorem State.syncDeg_core (s : State) (c : Nat) : (State.syncDeg s c).core = s.core := by
  simp [State.syncDeg]
@[simp] theorem State.sendBack_core (s : State) (c d : Nat) (bits : List Bool) : (State.sendBack s c d bits).core = s.core := by
  unfold State.sendBack; try dsimp only; (repeat' split) <;> simp_all
@[simp] theorem State.lanesIn_core (s : State) (c : Nat) (ls : List (List Nat)) : (State.lanesIn s c ls).2.core = s.core := by
  simp [State.lanesIn]
@[simp] theorem State.lanesOut_core (s : State) (c : Nat) (sub : List (List Bool)) : (State.lanesOut s c sub).core = s.core := by
  simp [State.lanesOut]
@[simp] theorem State.withdraw_core (s : State) (c : Nat) : (State.withdraw s c).core = s.core := by
  simp [State.withdraw]
@[simp] theorem State.request_core (s : State) (c : Nat) : (State.request s c).core = s.core := by
  simp [State.request]
@[simp] theorem State.attemptFailed_core (s : State) (c : Nat) : (State.attemptFailed s c).core = s.core := by
  simp [State.attemptFailed]
@[simp] theorem State.clearBackoff_core (s : State) (c : Nat) : (State.clearBackoff s c).core = s.core := by
  simp [State.clearBackoff]
@[simp] theorem State.releaseFox_core (s : State) (c : Nat) (slip : Bool) : (State.releaseFox s c slip).core = s.core := by
  unfold State.releaseFox; (repeat' split) <;> simp
@[simp] theorem State.rerequest_core (s : State) (c : Nat) : (State.rerequest s c).core = s.core := by
  simp [State.rerequest]
@[simp] theorem State.outOfFrame_core (s : State) (c : Nat) (slip : Bool) : (State.outOfFrame s c slip).core = s.core := by
  simp [State.outOfFrame]
@[simp] theorem State.toFaulted_core (s : State) (c : Nat) : (State.toFaulted s c).core = s.core := by
  simp [State.toFaulted]
@[simp] theorem State.grant_core (s : State) (e : Nat) (c : Nat) : (State.grant s e c).core = s.core := by
  simp [State.grant]
@[simp] theorem State.foxGrant_core (s : State) (e : Nat) : (State.foxGrant s e).core = s.core := by
  unfold State.foxGrant; (repeat' split) <;> simp
@[simp] theorem State.roamGrant_core (s : State) (e : Nat) : (State.roamGrant s e).core = s.core := by
  unfold State.roamGrant; (repeat' split) <;> simp
@[simp] theorem State.roamingEpoch_core (s : State) : (State.roamingEpoch s).core = s.core := by
  simp [State.roamingEpoch]
@[simp] theorem State.foxFail_core (s : State) (e : Nat) : (State.foxFail s e).core = s.core := by
  unfold State.foxFail; (repeat' split) <;> simp
@[simp] theorem State.foxHandback_core (s : State) (e : Nat) : (State.foxHandback s e).core = s.core := by
  unfold State.foxHandback; (repeat' split) <;> simp
@[simp] theorem State.foxMatch_core (s : State) (e : Nat) (off : Nat) (w : Nat) : (State.foxMatch s e off w).core = s.core := by
  simp [State.foxMatch]
@[simp] theorem State.foxNoMatch_core (s : State) (e : Nat) : (State.foxNoMatch s e).core = s.core := by
  simp [State.foxNoMatch]
@[simp] theorem State.foxCandidate_core (s : State) (e : Nat) (w : Nat) : (State.foxCandidate s e w).core = s.core := by
  simp [State.foxCandidate]
@[simp] theorem State.foxConfirm_core (s : State) (e : Nat) (w : Nat) : (State.foxConfirm s e w).core = s.core := by
  simp [State.foxConfirm]
@[simp] theorem State.foxHandbackEnd_core (s : State) (e : Nat) : (State.foxHandbackEnd s e).core = s.core := by
  unfold State.foxHandbackEnd; try dsimp only; (repeat' split) <;> simp_all
@[simp] theorem State.foxReleaseEnd_core (s : State) (e : Nat) : (State.foxReleaseEnd s e).core = s.core := by
  unfold State.foxReleaseEnd; try dsimp only; (repeat' split) <;> simp_all
@[simp] theorem State.backoffExpiry_core (s : State) (c : Nat) : (State.backoffExpiry s c).core = s.core := by
  simp [State.backoffExpiry]
@[simp] theorem State.foxParityFail_core (s : State) (e : Nat) : (State.foxParityFail s e).core = s.core := by
  unfold State.foxParityFail; try dsimp only; (repeat' split) <;> simp_all
@[simp] theorem State.dlofExpiry_core (s : State) (c : Nat) : (State.dlofExpiry s c).core = s.core := by
  simp [State.dlofExpiry]
@[simp] theorem onCh_core (c : Nat) (s : State) (t : State) (hk : t.core = s.core) : (onCh c s t).core = s.core := by
  simp [onCh, hk]
@[simp] theorem onGrp_core (g : Nat) (s : State) (t : State) (hk : t.core = s.core) : (onGrp g s t).core = s.core := by
  simp [onGrp, hk]
@[simp] theorem State.deepWake_core (s : State) (hostCs : Bool) : (State.deepWake s hostCs).core = s.core := by
  unfold State.deepWake; split
  · rename_i h; simp only [beq_iff_eq] at h; simp [State.core, h] <;> decide
  · rfl
@[simp] theorem State.checkStop_core (s : State) (g : Nat) : (State.checkStop s g).core = s.core := by
  simp [State.checkStop]
@[simp] theorem State.wakeGroup_core (s : State) (g : Nat) (us : Nat) : (State.wakeGroup s g us).core = s.core := by
  simp [State.wakeGroup]
@[simp] theorem State.groupStop_core (s : State) (g : Nat) : (State.groupStop s g).core = s.core := by
  simp [State.groupStop]
@[simp] theorem State.startWaking_core (s : State) (c : Nat) : (State.startWaking s c).core = s.core := by
  simp [State.startWaking]
@[simp] theorem State.groupRun_core (s : State) (g : Nat) : (State.groupRun s g).core = s.core := by
  simp [State.groupRun]
@[simp] theorem State.clearAdapt_core (s : State) (c : Nat) : (State.clearAdapt s c).core = s.core := by
  simp [State.clearAdapt]
@[simp] theorem State.wakeRx_core (s : State) (c : Nat) (us : Nat) : (State.wakeRx s c us).core = s.core := by
  simp [State.wakeRx]
@[simp] theorem State.startHold_core (s : State) (c : Nat) : (State.startHold s c).core = s.core := by
  simp [State.startHold]
@[simp] theorem State.partBond_core (s : State) (c : Nat) : (State.partBond s c).core = s.core := by
  simp [State.partBond]
@[simp] theorem State.sleepRx_core (s : State) (o : Nat) : (State.sleepRx s o).core = s.core := by
  simp [State.sleepRx]
@[simp] theorem State.sleepExpiry_core (s : State) (c : Nat) : (State.sleepExpiry s c).core = s.core := by
  simp [State.sleepExpiry]
@[simp] theorem State.losOn_core (s : State) (c : Nat) : (State.losOn s c).core = s.core := by
  simp [State.losOn]
@[simp] theorem State.sdOff_core (s : State) (c : Nat) : (State.sdOff s c).core = s.core := by
  simp [State.sdOff]
@[simp] theorem State.sdOn_core (s : State) (c : Nat) : (State.sdOn s c).core = s.core := by
  simp [State.sdOn]
@[simp] theorem State.sdRise_core (s : State) (c : Nat) (lv : List Nat) : (State.sdRise s c lv).core = s.core := by
  simp [State.sdRise]
@[simp] theorem State.sdFall_core (s : State) (c : Nat) (lv : List Nat) : (State.sdFall s c lv).core = s.core := by
  simp [State.sdFall]
@[simp] theorem State.pllLock_core (s : State) (c : Nat) (ppm : Int) : (State.pllLock s c ppm).core = s.core := by
  simp [State.pllLock]
@[simp] theorem State.adaptTable_core (s : State) (c : Nat) (again : Bool) : (State.adaptTable s c again).core = s.core := by
  simp [State.adaptTable]
@[simp] theorem State.adaptShow_core (s : State) (c : Nat) : (State.adaptShow s c).core = s.core := by
  simp [State.adaptShow]
@[simp] theorem State.adaptDone_core (s : State) (c : Nat) : (State.adaptDone s c).core = s.core := by
  simp [State.adaptDone]
@[simp] theorem State.unalign_core (s : State) (c : Nat) : (State.unalign s c).core = s.core := by
  simp [State.unalign]
@[simp] theorem State.enableCh_core (s : State) (c : Nat) : (State.enableCh s c).core = s.core := by
  simp [State.enableCh]
@[simp] theorem State.clearDefects_core (s : State) (c : Nat) : (State.clearDefects s c).core = s.core := by
  simp [State.clearDefects]
@[simp] theorem State.disableCh_core (s : State) (c : Nat) : (State.disableCh s c).core = s.core := by
  simp [State.disableCh]
@[simp] theorem State.watermark_core (s : State) (c : Nat) (v : Nat) : (State.watermark s c v).core = s.core := by
  simp [State.watermark]
@[simp] theorem State.slipped_core (s : State) (c : Nat) : (State.slipped s c).core = s.core := by
  simp [State.slipped]
@[simp] theorem State.storeShow_core (s : State) (c : Nat) (f : StoreFill) : (State.storeShow s c f).core = s.core := by
  simp [State.storeShow]
@[simp] theorem State.slip_core (s : State) (c : Nat) (f : StoreFill) : (State.slip s c f).core = s.core := by
  simp [State.slip]
@[simp] theorem State.slipEnd_core (s : State) (c : Nat) : (State.slipEnd s c).core = s.core := by
  simp [State.slipEnd]
@[simp] theorem State.alignerLock_core (s : State) (a : LaneAlign) : (State.alignerLock s a).core = s.core := by
  simp [State.alignerLock]
@[simp] theorem State.alignerLoss_core (s : State) (c : Nat) : (State.alignerLoss s c).core = s.core := by
  simp [State.alignerLoss]
@[simp] theorem State.bmpFollow_core (s : State) (line : Nat) (client : Nat) : (State.bmpFollow s line client).core = s.core := by
  simp [State.bmpFollow]
@[simp] theorem State.pcsLock_core (s : State) (a : LaneAlign) : (State.pcsLock s a).core = s.core := by
  simp [State.pcsLock]
@[simp] theorem State.setFault_core (s : State) (c : Nat) (st : LinkFault) : (State.setFault s c st).core = s.core := by
  simp [State.setFault]
@[simp] theorem State.pcsLost_core (s : State) (c : Nat) (block : Bool) (am : Bool) : (State.pcsLost s c block am).core = s.core := by
  simp [State.pcsLost]
@[simp] theorem State.hiBer_core (s : State) (c : Nat) (on : Bool) : (State.hiBer s c on).core = s.core := by
  simp [State.hiBer]
@[simp] theorem State.linkFault_core (s : State) (c : Nat) (st : LinkFault) : (State.linkFault s c st).core = s.core := by
  simp [State.linkFault]
@[simp] theorem State.calibrate_core (s : State) (resistorOk : Bool) (failed : List Nat) : (State.calibrate s resistorOk failed).core = s.core := by
  simp [State.calibrate]
@[simp] theorem State.countCh_core (s : State) (c : Nat) (n : Nat) (v : Nat) : (State.countCh s c n v).core = s.core := by
  simp [State.countCh]
@[simp] theorem State.clearCnt_core (s : State) (c : Nat) : (State.clearCnt s c).core = s.core := by
  simp [State.clearCnt]
@[simp] theorem State.openSecond_core (s : State) (c : Nat) : (State.openSecond s c).core = s.core := by
  simp [State.openSecond]
@[simp] theorem State.closeCh_core (short : Bool) (s : State) (c : Nat) : (State.closeCh short s c).core = s.core := by
  simp [State.closeCh]
@[simp] theorem State.closeSecond_core (s : State) (short : Bool) : (State.closeSecond s short).core = s.core := by
  simp [State.closeSecond]
@[simp] theorem State.crossings_core (s : State) (c : Nat) (n : Nat) (w : Nat) (code : Nat) : (State.crossings s c n w code).core = s.core := by
  simp [State.crossings]
@[simp] theorem State.lostRec_core (sec : Nat) (s : State) (c : Nat) : (State.lostRec sec s c).core = s.core := by
  simp [State.lostRec]
@[simp] theorem State.foldRec_core (sec : Nat) (s : State) (c : Nat) : (State.foldRec sec s c).core = s.core := by
  simp [State.foldRec]
@[simp] theorem State.foldAll_core (s : State) (z1 : List Nat) : (State.foldAll s z1).core = s.core := by
  induction z1 generalizing s with
  | nil => rfl
  | cons v r ih => simp only [State.foldAll]; rw [ih]; split <;> simp
@[simp] theorem State.pmFold_core (s : State) : (State.pmFold s).core = s.core := by
  unfold State.pmFold; try dsimp only; (repeat' split) <;> simp_all
@[simp] theorem State.fxPmRd_core (q : Req) (ws : List Word) (s : State) : (State.fxPmRd q ws s).core = s.core := by
  simp [State.fxPmRd]
@[simp] theorem State.defExpiry_core (s : State) (c : Nat) (d : Nat) : (State.defExpiry s c d).core = s.core := by
  simp [State.defExpiry]
@[simp] theorem State.tribExpiry_core (s : State) (c : Nat) : (State.tribExpiry s c).core = s.core := by
  simp [State.tribExpiry]
@[simp] theorem State.setConn_core (s : State) (b : Nat) (n : Nat) (k : Conn) : (State.setConn s b n k).core = s.core := by
  simp [State.setConn]
@[simp] theorem State.fxXcConnect_core (q : Req) (ws : List Word) (s : State) : (State.fxXcConnect q ws s).core = s.core := by
  unfold State.fxXcConnect; try dsimp only; (repeat' split) <;> simp_all
@[simp] theorem State.fxXcDisconnect_core (q : Req) (ws : List Word) (s : State) : (State.fxXcDisconnect q ws s).core = s.core := by
  unfold State.fxXcDisconnect; (repeat' split) <;> simp
@[simp] theorem State.windowEnd_core (s : State) (c : Nat) (exc : Bool) : (State.windowEnd s c exc).core = s.core := by
  simp [State.windowEnd]
@[simp] theorem State.armSwap_core (s : State) : (State.armSwap s).core = s.core := by
  rfl
@[simp] theorem State.disarm_core (s : State) : (State.disarm s).core = s.core := by
  simp [State.disarm]
@[simp] theorem State.fxTblSwap_core (q : Req) (ws : List Word) (s : State) : (State.fxTblSwap q ws s).core = s.core := by
  simp [State.fxTblSwap]
@[simp] theorem State.swapValidated_core (s : State) : (State.swapValidated s).core = s.core := by
  unfold State.swapValidated; try dsimp only; (repeat' split) <;> simp_all
@[simp] theorem State.swapReached_core (s : State) : (State.swapReached s).core = s.core := by
  simp [State.swapReached]
@[simp] theorem State.unmarkDup_core (s : State) (n : Nat) (m : Nat) : (State.unmarkDup s n m).core = s.core := by
  simp [State.unmarkDup]
@[simp] theorem State.restartE1_core (s : State) (d : Word) : (State.restartE1 s d).core = s.core := by
  simp [State.restartE1]
@[simp] theorem State.moveDup_core (s : State) (d : Word) (src : Word) : (State.moveDup s d src).core = s.core := by
  simp [State.moveDup]
@[simp] theorem State.memberNone_core (s : State) (d : Word) : (State.memberNone s d).core = s.core := by
  simp [State.memberNone]
@[simp] theorem State.restartPtr_core (s : State) (d : Word) : (State.restartPtr s d).core = s.core := by
  simp [State.restartPtr]
@[simp] theorem State.restartTrib_core (s : State) (n : Nat) : (State.restartTrib s n).core = s.core := by
  simp [State.restartTrib]
@[simp] theorem State.msiJudge_core (s : State) (c : Nat) : (State.msiJudge s c).core = s.core := by
  unfold State.msiJudge; split
  · rfl
  · exact State.each_core _ _ _ (fun _ _ => rfl)
@[simp] theorem State.switchLine_core (s : State) (c : Nat) : (State.switchLine s c).core = s.core := by
  simp [State.switchLine]
@[simp] theorem State.takeSel_core (s : State) (k : Conn) : (State.takeSel s k).core = s.core := by
  simp [State.takeSel]
@[simp] theorem State.switchDest_core (s : State) (d : Word) : (State.switchDest s d).core = s.core := by
  unfold State.switchDest; try dsimp only; (repeat' split) <;> simp_all
@[simp] theorem State.swapSwitch_core (s : State) (n : Nat) : (State.swapSwitch s n).core = s.core := by
  simp [State.swapSwitch]
@[simp] theorem State.swapEnd_core (s : State) : (State.swapEnd s).core = s.core := by
  simp [State.swapEnd]
@[simp] theorem State.copyBank_core (s : State) : (State.copyBank s).core = s.core := by
  simp [State.copyBank]
@[simp] theorem State.bankCopied_core (s : State) : (State.bankCopied s).core = s.core := by
  simp [State.bankCopied]
@[simp] theorem State.pgItem_core (s : State) (p : Nat) (i : Nat) (v : Nat) : (State.pgItem s p i v).core = s.core := by
  simp [State.pgItem]
@[simp] theorem State.pgOccur_core (s : State) (p : Nat) (i : Nat) (v : Nat) : (State.pgOccur s p i v).core = s.core := by
  simp [State.pgOccur]
@[simp] theorem State.pgEvents_core (s : State) (p : Nat) : (State.pgEvents s p).core = s.core := by
  simp [State.pgEvents]
@[simp] theorem State.pgFlag_core (s : State) (p : Nat) (b : Nat) (v : Bool) : (State.pgFlag s p b v).core = s.core := by
  simp [State.pgFlag]
@[simp] theorem State.endExer_core (s : State) (p : Nat) (out : Nat) : (State.endExer s p out).core = s.core := by
  simp [State.endExer]
@[simp] theorem State.pgClaim_core (s : State) (p : Nat) : (State.pgClaim s p).core = s.core := by
  simp [State.pgClaim]
@[simp] theorem State.pgReport_core (s : State) (p : Nat) (g : Pg) : (State.pgReport s p g).core = s.core := by
  simp [State.pgReport]
@[simp] theorem State.pgApply_core (s : State) (p : Nat) (ws : List Word) : (State.pgApply s p ws).core = s.core := by
  simp [State.pgApply]
@[simp] theorem State.pgAgree_core (s : State) (p : Nat) : (State.pgAgree s p).core = s.core := by
  simp [State.pgAgree]
@[simp] theorem State.pgSample_core (s : State) (p : Nat) : (State.pgSample s p).core = s.core := by
  simp [State.pgSample]
@[simp] theorem State.pgFlags_core (s : State) (p : Nat) : (State.pgFlags s p).core = s.core := by
  unfold State.pgFlags; try dsimp only; (repeat' split) <;> simp_all
@[simp] theorem State.pgNoResp_core (s : State) (p : Nat) : (State.pgNoResp s p).core = s.core := by
  simp [State.pgNoResp]
@[simp] theorem State.pgRestore_core (s : State) (p : Nat) : (State.pgRestore s p).core = s.core := by
  simp [State.pgRestore]
@[simp] theorem State.pgSupersede_core (s : State) (p : Nat) : (State.pgSupersede s p).core = s.core := by
  simp [State.pgSupersede]
@[simp] theorem State.pgDecide_core (s : State) (p : Nat) : (State.pgDecide s p).core = s.core := by
  simp [State.pgDecide]
@[simp] theorem State.pgTell_core (s t : State) (p : Nat) : (State.pgTell s t p).core = t.core := by
  simp [State.pgTell]
@[simp] theorem State.pgEvaluate_core (s : State) (p : Nat) : (State.pgEvaluate s p).core = s.core := by
  simp [State.pgEvaluate]
@[simp] theorem State.pgHoldExpiry_core (s : State) (p : Nat) (k : PgCond) : (State.pgHoldExpiry s p k).core = s.core := by
  simp [State.pgHoldExpiry]
@[simp] theorem State.pgWtrExpiry_core (s : State) (p : Nat) : (State.pgWtrExpiry s p).core = s.core := by
  simp [State.pgWtrExpiry]
@[simp] theorem State.pgNoRespExpiry_core (s : State) (p : Nat) : (State.pgNoRespExpiry s p).core = s.core := by
  simp [State.pgNoRespExpiry]
@[simp] theorem State.pgExerExpiry_core (s : State) (p : Nat) : (State.pgExerExpiry s p).core = s.core := by
  simp [State.pgExerExpiry]
@[simp] theorem State.pgBoundary_core (s : State) (p : Nat) : (State.pgBoundary s p).core = s.core := by
  simp [State.pgBoundary]
@[simp] theorem State.apsAccept_core (s : State) (p : Nat) (l : List Byte) : (State.apsAccept s p l).core = s.core := by
  simp [State.apsAccept]
@[simp] theorem State.pgAps_core (s : State) (p : Nat) (l : List Byte) : (State.pgAps s p l).core = s.core := by
  simp [State.pgAps]
@[simp] theorem State.fxApsCmd_core (q : Req) (ws : List Word) (s : State) : (State.fxApsCmd q ws s).core = s.core := by
  simp [State.fxApsCmd]
@[simp] theorem State.ovrWrite_core (s : State) (w : Word) : (State.ovrWrite s w).2.core = s.core := by
  simp [State.ovrWrite]
@[simp] theorem State.pgEnable_core (s : State) (p : Nat) : (State.pgEnable s p).core = s.core := by
  simp [State.pgEnable]
@[simp] theorem State.pgDisable_core (s : State) (p : Nat) : (State.pgDisable s p).core = s.core := by
  simp [State.pgDisable]
@[simp] theorem State.pgFreeze_core (s : State) (p : Nat) : (State.pgFreeze s p).core = s.core := by
  simp [State.pgFreeze]
@[simp] theorem State.pgRefresh_core (s : State) (p : Nat) : (State.pgRefresh s p).core = s.core := by
  simp [State.pgRefresh]
@[simp] theorem State.pgTakeover_core (s : State) : (State.pgTakeover s).core = s.core := by
  simp [State.pgTakeover]
@[simp] theorem onPg_core (p : Nat) (s : State) (t : State) (hk : t.core = s.core) : (onPg p s t).core = s.core := by
  simp [onPg, hk]
@[simp] theorem State.modTrib_core (s : State) (w : Word) (f : Trib → Trib) : (State.modTrib s w f).core = s.core := by
  simp [State.modTrib]
@[simp] theorem State.countTrib_core (s : State) (w : Word) (i : Nat) (hi : Nat) (lo : Nat) (n : Nat) : (State.countTrib s w i hi lo n).core = s.core := by
  simp [State.countTrib]
@[simp] theorem State.setRun_core (s : State) (x : Nat) (r : Nat) : (State.setRun s x r).core = s.core := by
  simp [State.setRun]
@[simp] theorem State.snoopBytes_core (s : State) (x : Nat) (l : List Byte) : (State.snoopBytes s x l).core = s.core := by
  simp [State.snoopBytes]
@[simp] theorem State.snoopOn_core (s : State) (red : Bool) (n : Nat) (l : List Byte) : (State.snoopOn s red n l).core = s.core := by
  simp [State.snoopOn]
@[simp] theorem State.remapIn_core (ds1 : Bool) (bits : List Bool) (s : State) (e : Nat × Conn) : (State.remapIn ds1 bits s e).core = s.core := by
  simp [State.remapIn]
@[simp] theorem State.remapFeed_core (s : State) (w : Word) (ds1 : Bool) (bits : List Bool) : (State.remapFeed s w ds1 bits).core = s.core := by
  simp [State.remapFeed]
@[simp] theorem State.memberTo_core (s : State) (n : Nat) (m : Nat) (st : Nat) : (State.memberTo s n m st).core = s.core := by
  simp [State.memberTo]
@[simp] theorem State.redLate_core (s : State) (n : Nat) : (State.redLate s n).core = s.core := by
  simp [State.redLate]
@[simp] theorem State.keep_core (s : State) (n : Nat) (m : Nat) (h : Held) : (State.keep s n m h).core = s.core := by
  simp [State.keep]
@[simp] theorem State.windowMiss_core (s : State) (n : Nat) (m : Nat) (counted : Bool) : (State.windowMiss s n m counted).core = s.core := by
  simp [State.windowMiss]
@[simp] theorem State.windowHit_core (s : State) (n : Nat) (m : Nat) : (State.windowHit s n m).core = s.core := by
  simp [State.windowHit]
@[simp] theorem State.arrival_core (s : State) (n : Nat) (m : Nat) (inOrder : Bool) : (State.arrival s n m inOrder).core = s.core := by
  simp [State.arrival]
@[simp] theorem State.hlHunt_core (s : State) (n : Nat) (m : Nat) (q : Nat) : (State.hlHunt s n m q).core = s.core := by
  simp [State.hlHunt]
@[simp] theorem State.hlFrame_core (s : State) (n : Nat) (m : Nat) (f : MemberFrame) : (State.hlFrame s n m f).core = s.core := by
  simp [State.hlFrame]
@[simp] theorem State.hlMember_core (s : State) (n : Nat) (m : Nat) (f : MemberFrame) : (State.hlMember s n m f).core = s.core := by
  simp [State.hlMember]
@[simp] theorem State.schedSet_core (s : State) (n : Nat) : (State.schedSet s n).core = s.core := by
  unfold State.schedSet; (repeat' split) <;> simp
@[simp] theorem State.schedDrop_core (s : State) (n : Nat) : (State.schedDrop s n).core = s.core := by
  simp [State.schedDrop]
@[simp] theorem State.schedDiscard_core (s : State) (n : Nat) : (State.schedDiscard s n).core = s.core := by
  simp [State.schedDiscard]
@[simp] theorem State.redRealign_core (s : State) (n : Nat) : (State.redRealign s n).core = s.core := by
  simp [State.redRealign]
@[simp] theorem State.hlPlay_core (s : State) (n : Nat) : (State.hlPlay s n).core = s.core := by
  simp [State.hlPlay]
@[simp] theorem State.dupExpiry_core (s : State) (c : Nat) (n : Nat) (m : Nat) : (State.dupExpiry s c n m).core = s.core := by
  simp [State.dupExpiry]
@[simp] theorem State.voteHunt_core (s : State) (n : Nat) (m : Nat) (b : VoteBlock) : (State.voteHunt s n m b).core = s.core := by
  simp [State.voteHunt]
@[simp] theorem State.voteSlot_core (s : State) (n : Nat) (m : Nat) (b : VoteBlock) : (State.voteSlot s n m b).core = s.core := by
  simp [State.voteSlot]
@[simp] theorem State.voteMember_core (s : State) (n : Nat) (m : Nat) (b : VoteBlock) : (State.voteMember s n m b).core = s.core := by
  simp [State.voteMember]
@[simp] theorem State.markDis_core (n : Nat) (s : State) (m : Nat) : (State.markDis n s m).core = s.core := by
  unfold State.markDis; (repeat' split) <;> simp
@[simp] theorem State.voteEmit_core (s : State) (n : Nat) : (State.voteEmit s n).core = s.core := by
  simp [State.voteEmit]
@[simp] theorem State.voteClear_core (s : State) (c : Nat) : (State.voteClear s c).core = s.core := by
  simp [State.voteClear]
@[simp] theorem State.voteTx_core (s : State) (n : Nat) (data : Option VoteData) : (State.voteTx s n data).core = s.core := by
  simp [State.voteTx]
@[simp] theorem State.frerOut_core (s : State) (n : Nat) (f : FrerFrame) : (State.frerOut s n f).core = s.core := by
  simp [State.frerOut]
@[simp] theorem State.frerDemap_core (s : State) (n : Nat) (m : Nat) (f : FrerFrame) : (State.frerDemap s n m f).1.core = s.core := by
  unfold State.frerDemap
  try dsimp only
  (repeat' split) <;> simp_all
@[simp] theorem State.frerPass_core (s : State) (n : Nat) (e : Nat) (f : FrerFrame) : (State.frerPass s n e f).core = s.core := by
  simp [State.frerPass]
@[simp] theorem State.frerRecover_core (s : State) (n : Nat) (e : Nat) (f : FrerFrame) (q : Nat) : (State.frerRecover s n e f q).core = s.core := by
  simp [State.frerRecover]
@[simp] theorem State.frerRx_core (s : State) (n : Nat) (m : Nat) (f : FrerFrame) : (State.frerRx s n m f).core = s.core := by
  have hd := State.frerDemap_core s n m f
  unfold State.frerRx; try dsimp only
  generalize s.frerDemap n m f = r at hd ⊢
  (repeat' split) <;> simp_all
@[simp] theorem State.frerTag_core (s : State) (n : Nat) (e : Nat) (f : FrerFrame) (q : Nat) : (State.frerTag s n e f q).core = s.core := by
  simp [State.frerTag]
@[simp] theorem State.frerSend_core (s : State) (n : Nat) (f : FrerFrame) : (State.frerSend s n f).core = s.core := by
  unfold State.frerSend
  try dsimp only
  (repeat' split) <;> simp_all
@[simp] theorem State.frerTx_core (s : State) (n : Nat) (f : FrerFrame) : (State.frerTx s n f).core = s.core := by
  have hd := State.frerDemap_core s n 0 f
  unfold State.frerTx; try dsimp only
  generalize s.frerDemap n 0 f = r at hd ⊢
  (repeat' split) <;> simp_all
@[simp] theorem State.frerResetExpiry_core (s : State) (e : Nat) : (State.frerResetExpiry s e).core = s.core := by
  simp [State.frerResetExpiry]
@[simp] theorem State.frerSeq_core (s : State) (n : Nat) (vid : Nat) (q : Nat) (fcs : Word) : (State.frerSeq s n vid q fcs).core = s.core := by
  unfold State.frerSeq; (repeat' split) <;> simp
@[simp] theorem State.frerTimeout_core (s : State) (n : Nat) (vid : Nat) (fcs : Word) : (State.frerTimeout s n vid fcs).core = s.core := by
  unfold State.frerTimeout; (repeat' split) <;> simp
@[simp] theorem State.memFollow_core (s : State) : (State.memFollow s).core = s.core := by
  simp [State.memFollow]
@[simp] theorem State.memReady_core (s : State) (ok : Bool) : (State.memReady s ok).core = s.core := by
  simp [State.memReady]
@[simp] theorem State.memRest_core (s : State) : (State.memRest s).core = s.core := by
  simp [State.memRest]
@[simp] theorem State.memSpoil_core (s : State) (e : MemErr) : (State.memSpoil s e).core = s.core := by
  simp [State.memSpoil]
@[simp] theorem State.memScrub_core (s : State) (corrected : Nat) (bad : List MemErr) : (State.memScrub s corrected bad).core = s.core := by
  simp [State.memScrub]
@[simp] theorem State.redEnable_core (s : State) (n : Nat) : (State.redEnable s n).core = s.core := by
  simp [State.redEnable]
@[simp] theorem State.redDefs_core (s : State) (c : Nat) : (State.redDefs s c).core = s.core := by
  simp [State.redDefs]
@[simp] theorem State.redDisable_core (s : State) (n : Nat) : (State.redDisable s n).core = s.core := by
  simp [State.redDisable]
@[simp] theorem State.frerEnable_core (s : State) (e : Nat) : (State.frerEnable s e).core = s.core := by
  simp [State.frerEnable]
@[simp] theorem State.redRefresh_core (s : State) (n : Nat) : (State.redRefresh s n).core = s.core := by
  simp [State.redRefresh]
@[simp] theorem State.snoopResult_core (s : State) (t : State) (n : Nat) (hk : t.core = s.core) : (State.snoopResult s t n).core = s.core := by
  simp [State.snoopResult, hk]
@[simp] theorem onRed_core (n : Nat) (s : State) (t : State) (hk : t.core = s.core) : (onRed n s t).core = s.core := by
  simp [onRed, hk]
@[simp] theorem State.modCand_core (s : State) (n : Nat) (f : Cand → Cand) : (State.modCand s n f).core = s.core := by
  simp [State.modCand]
@[simp] theorem State.refOccur_core (s : State) (n : Nat) (kind : Nat) (v : Nat) : (State.refOccur s n kind v).core = s.core := by
  simp [State.refOccur]
@[simp] theorem State.selEvent_core (s : State) : (State.selEvent s).core = s.core := by
  simp [State.selEvent]
@[simp] theorem State.refExpiry_core (s : State) (n : Nat) : (State.refExpiry s n).core = s.core := by
  simp [State.refExpiry]
@[simp] theorem State.setSteer_core (s : State) (x : Int) : (State.setSteer s x).core = s.core := by
  simp [State.setSteer]
@[simp] theorem State.refEvaluate_core (s : State) : (State.refEvaluate s).core = s.core := by
  simp [State.refEvaluate]
@[simp] theorem State.disqualify_core (s : State) (n : Nat) (why : Nat) : (State.disqualify s n why).core = s.core := by
  simp [State.disqualify]
@[simp] theorem State.refLost_core (s : State) (n : Nat) : (State.refLost s n).core = s.core := by
  simp [State.refLost]
@[simp] theorem State.refActivityLoss_core (s : State) (n : Nat) : (State.refActivityLoss s n).core = s.core := by
  simp [State.refActivityLoss]
@[simp] theorem State.refRestart_core (s : State) (n : Nat) : (State.refRestart s n).core = s.core := by
  simp [State.refRestart]
@[simp] theorem State.refSsm_core (s : State) (c : Nat) : (State.refSsm s c).core = s.core := by
  simp [State.refSsm]
@[simp] theorem State.refRun_core (s : State) (n : Nat) (ppb : Int) : (State.refRun s n ppb).core = s.core := by
  simp [State.refRun]
@[simp] theorem State.refMeasure_core (s : State) (n : Nat) (ppt : Int) : (State.refMeasure s n ppt).core = s.core := by
  simp [State.refMeasure]
@[simp] theorem State.refFreqMeasure_core (s : State) (l : List (Nat × Int)) : (State.refFreqMeasure s l).core = s.core := by
  simp [State.refFreqMeasure]
@[simp] theorem State.refSwitchEnd_core (s : State) : (State.refSwitchEnd s).core = s.core := by
  simp [State.refSwitchEnd]
@[simp] theorem State.refLock_core (s : State) : (State.refLock s).core = s.core := by
  simp [State.refLock]
@[simp] theorem State.refWtr_core (s : State) : (State.refWtr s).core = s.core := by
  simp [State.refWtr]
@[simp] theorem State.softTimeout_core (s : State) : (State.softTimeout s).core = s.core := by
  simp [State.softTimeout]
@[simp] theorem State.refFreeze_core (s : State) : (State.refFreeze s).core = s.core := by
  simp [State.refFreeze]
@[simp] theorem State.refSelChanged_core (s : State) (old : Word) : (State.refSelChanged s old).core = s.core := by
  simp [State.refSelChanged]
@[simp] theorem State.setNominal_core (s : State) (w : Word) : (State.setNominal s w).core = s.core := by
  simp [State.setNominal]
@[simp] theorem State.refLockRun_core (s : State) : (State.refLockRun s).core = s.core := by
  simp [State.refLockRun]
@[simp] theorem State.pull_core (s : State) (y : Int) : (State.pull s y).core = s.core := by
  simp [State.pull]
@[simp] theorem State.refLoop_core (s : State) (ref : Int) : (State.refLoop s ref).core = s.core := by
  simp [State.refLoop]
@[simp] theorem State.refSlew_core (s : State) : (State.refSlew s).core = s.core := by
  simp [State.refSlew]
@[simp] theorem State.refActive_core (s : State) (n : Nat) : (State.refActive s n).core = s.core := by
  simp [State.refActive]
@[simp] theorem State.refShow_core (s : State) : (State.refShow s).core = s.core := by
  simp [State.refShow]
@[simp] theorem State.refTick_core (s : State) : (State.refTick s).core = s.core := by
  simp [State.refTick]
@[simp] theorem State.refHistory_core (s : State) (sec : Nat) : (State.refHistory s sec).core = s.core := by
  simp [State.refHistory]
@[simp] theorem State.fxRefSelect_core (q : Req) (ws : List Word) (s : State) : (State.fxRefSelect q ws s).core = s.core := by
  simp [State.fxRefSelect]
@[simp] theorem State.fxDcoSet_core (q : Req) (ws : List Word) (s : State) : (State.fxDcoSet q ws s).core = s.core := by
  simp [State.fxDcoSet]
@[simp] theorem State.showSlew_core (s : State) : (State.showSlew s).core = s.core := by
  simp [State.showSlew]
@[simp] theorem State.timeTick_core (s : State) : (State.timeTick s).core = s.core := by
  simp [State.timeTick]
@[simp] theorem State.timeEvent_core (s : State) (code : Nat) : (State.timeEvent s code).core = s.core := by
  simp [State.timeEvent]
@[simp] theorem State.setStamps_core (s : State) (g : Nat) (l : List Stamp) : (State.setStamps s g l).core = s.core := by
  simp [State.setStamps]
@[simp] theorem State.pushStamp_core (s : State) (c : Nat) (e : Stamp) : (State.pushStamp s c e).core = s.core := by
  simp [State.pushStamp]
@[simp] theorem State.frameStart_core (s : State) (c : Nat) (tx : Bool) : (State.frameStart s c tx).core = s.core := by
  simp [State.frameStart]
@[simp] theorem State.popStamps_core (s : State) (z1 : List Nat) (z2 : Nat) : (State.popStamps s z1 z2).2.core = s.core := by
  induction z1 generalizing s z2 with
  | nil => rfl
  | cons v r ih => (simp only [State.popStamps]; rw [ih]; split <;> simp)
@[simp] theorem State.fxTsPop_core (q : Req) (ws : List Word) (s : State) : (State.fxTsPop q ws s).core = s.core := by
  simp [State.fxTsPop]
@[simp] theorem State.markNearStep_core (s : State) : (State.markNearStep s).core = s.core := by
  simp [State.markNearStep]
@[simp] theorem State.holdWord_core (c : Nat) (s : State) (i : Nat) : (State.holdWord c s i).core = s.core := by
  simp [State.holdWord]
@[simp] theorem State.holdCh_core (s : State) (c : Nat) : (State.holdCh s c).core = s.core := by
  simp [State.holdCh]
@[simp] theorem State.holdQueue_core (s : State) (e : Nat) : (State.holdQueue s e).core = s.core := by
  simp [State.holdQueue]
@[simp] theorem State.clearQueue_core (s : State) (e : Nat) : (State.clearQueue s e).core = s.core := by
  simp [State.clearQueue]
@[simp] theorem State.snapshot_core (s : State) (clear : Bool) : (State.snapshot s clear).core = s.core := by
  simp [State.snapshot]
@[simp] theorem State.fxSnapshot_core (q : Req) (ws : List Word) (s : State) : (State.fxSnapshot q ws s).core = s.core := by
  simp [State.fxSnapshot]
@[simp] theorem State.clearAllOf_core (s : State) (c : Nat) : (State.clearAllOf s c).core = s.core := by
  simp [State.clearAllOf]
@[simp] theorem State.clearEvery_core (s : State) : (State.clearEvery s).core = s.core := by
  unfold State.clearEvery
  extract_lets s1 s2
  have h2 : s2.core = s.core := (State.each_core _ _ _ (by intro t n; (try dsimp only); split <;> simp)).trans (by simp [s1])
  exact (State.each_core _ _ _ (by intro t n; (try dsimp only); split <;> simp)).trans h2
@[simp] theorem State.fxCntClear_core (q : Req) (ws : List Word) (s : State) : (State.fxCntClear q ws s).core = s.core := by
  simp [State.fxCntClear]
@[simp] theorem State.timeLatch_core (s : State) : (State.timeLatch s).core = s.core := by
  simp [State.timeLatch]
@[simp] theorem State.ppsIn_core (s : State) (n : Nat) (rising : Bool) : (State.ppsIn s n rising).core = s.core := by
  simp [State.ppsIn]
@[simp] theorem State.ppsArm_core (s : State) (n : Nat) : (State.ppsArm s n).core = s.core := by
  simp [State.ppsArm]
@[simp] theorem State.clkSync_core (s : State) (n : Nat) : (State.clkSync s n).core = s.core := by
  simp [State.clkSync]
@[simp] theorem State.clkStart_core (s : State) (n : Nat) : (State.clkStart s n).core = s.core := by
  simp [State.clkStart]
@[simp] theorem State.ppsOutEdge_core (s : State) (n : Nat) : (State.ppsOutEdge s n).core = s.core := by
  simp [State.ppsOutEdge]
@[simp] theorem State.ppsTick_core (s : State) : (State.ppsTick s).core = s.core := by
  simp [State.ppsTick]
@[simp] theorem State.trigOff_core (s : State) (n : Nat) : (State.trigOff s n).core = s.core := by
  simp [State.trigOff]
@[simp] theorem State.trigArm_core (s : State) (n : Nat) : (State.trigArm s n).2.core = s.core := by
  simp [State.trigArm]
@[simp] theorem State.trigFire_core (s : State) (n : Nat) : (State.trigFire s n).core = s.core := by
  simp [State.trigFire]
@[simp] theorem State.trigCancel_core (s : State) : (State.trigCancel s).core = s.core := by
  simp [State.trigCancel]
@[simp] theorem State.loseTime_core (s : State) : (State.loseTime s).core = s.core := by
  simp [State.loseTime]
@[simp] theorem State.stepRearm_core (s : State) (w : Word) : (State.stepRearm s w).core = s.core := by
  simp [State.stepRearm]
@[simp] theorem State.stepArmExpiry_core (s : State) : (State.stepArmExpiry s).core = s.core := by
  simp [State.stepArmExpiry]
@[simp] theorem State.slewDone_core (s : State) : (State.slewDone s).core = s.core := by
  simp [State.slewDone]
@[simp] theorem State.fxTimeAdjRate_core (q : Req) (ws : List Word) (s : State) : (State.fxTimeAdjRate q ws s).core = s.core := by
  simp [State.fxTimeAdjRate]
@[simp] theorem State.fxTimeOffsetAdj_core (q : Req) (ws : List Word) (s : State) : (State.fxTimeOffsetAdj q ws s).core = s.core := by
  simp [State.fxTimeOffsetAdj]
@[simp] theorem State.pmSecond_core (s : State) : (State.pmSecond s).core = s.core := by
  simp [State.pmSecond]
@[simp] theorem State.setOhByte_core (s : State) (c : Nat) (o : Nat) (b : Byte) : (State.setOhByte s c o b).core = s.core := by
  simp [State.setOhByte]
@[simp] theorem State.setOhBytes_core (s : State) (c : Nat) (o : Nat) (z3 : List Byte) : (State.setOhBytes s c o z3).core = s.core := by
  induction z3 generalizing s o with
  | nil => rfl
  | cons v r ih => simp [State.setOhBytes, ih]
@[simp] theorem State.countAps_core (s : State) (c : Nat) (hi : Nat) (lo : Nat) : (State.countAps s c hi lo).core = s.core := by
  simp [State.countAps]
@[simp] theorem State.verify_core (s : State) (c : Nat) (ok : Bool) : (State.verify s c ok).core = s.core := by
  simp [State.verify]
@[simp] theorem State.rxMfas_core (s : State) (c : Nat) (v : Nat) : (State.rxMfas s c v).core = s.core := by
  simp [State.rxMfas]
@[simp] theorem State.rxSdhMaint_core (s : State) (c : Nat) (k2 : Byte) : (State.rxSdhMaint s c k2).core = s.core := by
  simp [State.rxSdhMaint]
@[simp] theorem State.rxOtnMaint_core (s : State) (c : Nat) (f : RxFrame) : (State.rxOtnMaint s c f).core = s.core := by
  simp [State.rxOtnMaint]
@[simp] theorem State.rxTcm_core (s : State) (c : Nat) (f : RxFrame) : (State.rxTcm s c f).core = s.core := by
  simp [State.rxTcm]
@[simp] theorem State.rxAps_core (s : State) (c : Nat) (l : List Byte) : (State.rxAps s c l).core = s.core := by
  simp [State.rxAps]
@[simp] theorem State.rxS1_core (s : State) (c : Nat) (v : Byte) : (State.rxS1 s c v).core = s.core := by
  simp [State.rxS1]
@[simp] theorem State.rxTrace_core (s : State) (c : Nat) (l : List Byte) (ok : Bool) : (State.rxTrace s c l ok).core = s.core := by
  simp [State.rxTrace]
@[simp] theorem State.rxTraceByte_core (s : State) (c : Nat) (mfas : Nat) (b : Byte) : (State.rxTraceByte s c mfas b).core = s.core := by
  unfold State.rxTraceByte; try dsimp only; (repeat' split) <;> simp
@[simp] theorem State.traceSeen_core (s : State) (c : Nat) (mfas : Nat) (b : Byte) : (State.traceSeen s c mfas b).core = s.core := by
  simp [State.traceSeen]
@[simp] theorem State.rxTraceOf_core (s : State) (c : Nat) (f : RxFrame) : (State.rxTraceOf s c f).core = s.core := by
  unfold State.rxTraceOf; (repeat' split) <;> simp
@[simp] theorem State.rxPtype_core (s : State) (c : Nat) (v : Nat) : (State.rxPtype s c v).core = s.core := by
  unfold State.rxPtype; try dsimp only; (repeat' split) <;> simp_all
@[simp] theorem State.rxMsi_core (s : State) (c : Nat) (l : List Byte) : (State.rxMsi s c l).core = s.core := by
  simp [State.rxMsi]
@[simp] theorem State.rxVc_core (s : State) (f : RxFrame) (r : TribRx) : (State.rxVc s f r).core = s.core := by
  unfold State.rxVc
  extract_lets t ptr moved s1 s2 s3
  clear_value ptr
  have h1 : s1.core = s.core := by simp only [s1]; split <;> simp
  have h2 : s2.core = s.core := by simp [s2, h1]
  have h3 : s3.core = s.core := by simp only [s3]; (repeat' split) <;> simp [h2]
  split <;> simp [h3]
@[simp] theorem State.rxLoOdu_core (s : State) (r : TribRx) : (State.rxLoOdu s r).core = s.core := by
  unfold State.rxLoOdu; (repeat' split) <;> simp
@[simp] theorem State.rxE1_core (s : State) (r : TribRx) : (State.rxE1 s r).core = s.core := by
  simp [State.rxE1]
@[simp] theorem State.rxOduMon_core (s : State) (r : TribRx) : (State.rxOduMon s r).core = s.core := by
  unfold State.rxOduMon; try dsimp only; (repeat' split) <;> simp_all
@[simp] theorem State.rxLoTrace_core (s : State) (c : Nat) (r : TribRx) : (State.rxLoTrace s c r).core = s.core := by
  unfold State.rxLoTrace; try dsimp only; (repeat' split) <;> simp
@[simp] theorem State.rxTrib_core (c : Nat) (f : RxFrame) (s : State) (r : TribRx) : (State.rxTrib c f s r).core = s.core := by
  simp [State.rxTrib]
@[simp] theorem State.syncVc4_core (s : State) (c : Nat) : (State.syncVc4 s c).core = s.core := by
  simp [State.syncVc4]
@[simp] theorem State.dlomExpiry_core (s : State) (c : Nat) : (State.dlomExpiry s c).core = s.core := by
  simp [State.dlomExpiry]
@[simp] theorem State.rxCount_core (s : State) (c : Nat) (f : RxFrame) : (State.rxCount s c f).core = s.core := by
  simp [State.rxCount]
@[simp] theorem State.modCap_core (s : State) (c : Nat) (f : Capture → Capture) : (State.modCap s c f).core = s.core := by
  simp [State.modCap]
@[simp] theorem State.captArm_core (s : State) (c : Nat) : (State.captArm s c).core = s.core := by
  simp [State.captArm]
@[simp] theorem State.traceArm_core (s : State) (c : Nat) : (State.traceArm s c).core = s.core := by
  simp [State.traceArm]
@[simp] theorem State.capture_core (s : State) (c : Nat) (f : RxFrame) : (State.capture s c f).core = s.core := by
  simp [State.capture]
@[simp] theorem State.byteTrace_core (s : State) (c : Nat) (f : RxFrame) : (State.byteTrace s c f).core = s.core := by
  simp [State.byteTrace]
@[simp] theorem State.captureDone_core (s : State) (c : Nat) : (State.captureDone s c).core = s.core := by
  simp [State.captureDone]
@[simp] theorem State.traceDone_core (s : State) (c : Nat) : (State.traceDone s c).core = s.core := by
  simp [State.traceDone]
@[simp] theorem State.rxJ0_core (s : State) (c : Nat) (b : Byte) : (State.rxJ0 s c b).core = s.core := by
  simp [State.rxJ0]
@[simp] theorem State.rxSdh_core (s : State) (c : Nat) (f : RxFrame) : (State.rxSdh s c f).core = s.core := by
  unfold State.rxSdh; try dsimp only; (repeat' split) <;> simp_all
@[simp] theorem State.rxOtn_core (s : State) (c : Nat) (f : RxFrame) : (State.rxOtn s c f).core = s.core := by
  unfold State.rxOtn
  extract_lets s1 s2 s3 s4
  have h2 : s2.core = s.core := by simp only [s2]; split <;> simp [s1]
  have h3 : s3.core = s.core := by simp only [s3]; split <;> simp [h2]
  have h4 : s4.core = s.core := by simp only [s4]; (repeat' split) <;> simp [h3]
  split <;> simp [h4]
@[simp] theorem State.rxInFrame_core (s : State) (c : Nat) (f : RxFrame) : (State.rxInFrame s c f).core = s.core := by
  unfold State.rxInFrame
  extract_lets r g s1 s2 s3 s4 s5
  have h2 : s2.core = s.core := by simp only [s2]; split <;> simp [s1]
  have h3 : s3.core = s.core := by simp only [s3]; split <;> simp [h2]
  have h4 : s4.core = s.core := by simp only [s4]; split <;> simp [h3]
  have h5 : s5.core = s.core := by simp [s5, h4]
  simp [h5]
@[simp] theorem State.rxOutOfFrame_core (s : State) (c : Nat) (f : RxFrame) : (State.rxOutOfFrame s c f).core = s.core := by
  simp [State.rxOutOfFrame]
@[simp] theorem State.rxCodes_core (s : State) (c : Nat) (l : List (List Bool)) : (State.rxCodes s c l).core = s.core := by
  simp [State.rxCodes]
@[simp] theorem State.rxLanes_core (s : State) (c : Nat) (f : RxFrame) : (State.rxLanes s c f).2.core = s.core := by
  simp [State.rxLanes]
@[simp] theorem State.rxTaken_core (s : State) (c : Nat) (f : RxFrame) : (State.rxTaken s c f).core = s.core := by
  unfold State.rxTaken
  try dsimp only
  (repeat' split) <;> simp_all
@[simp] theorem State.rxFrame_core (s : State) (c : Nat) (f : RxFrame) : (State.rxFrame s c f).core = s.core := by
  unfold State.rxFrame; (repeat' split) <;> simp
@[simp] theorem State.modPkt_core (s : State) (c : Nat) (f : Packet → Packet) : (State.modPkt s c f).core = s.core := by
  simp [State.modPkt]
@[simp] theorem State.dropped_core (s : State) (c : Nat) : (State.dropped s c).core = s.core := by
  simp [State.dropped]
@[simp] theorem State.fixedErr_core (s : State) (c : Nat) (sel : Nat) (n : Nat) : (State.fixedErr s c sel n).core = s.core := by
  simp [State.fixedErr]
@[simp] theorem State.add48_core (s : State) (t : Nat) (e : Nat) (w : Nat) (n : Nat) : (State.add48 s t e w n).core = s.core := by
  simp [State.add48]
@[simp] theorem State.dropOther_core (s : State) (c : Nat) (q : Nat) : (State.dropOther s c q).core = s.core := by
  simp [State.dropOther]
@[simp] theorem State.bufSync_core (s : State) : (State.bufSync s).core = s.core := by
  simp [State.bufSync]
@[simp] theorem State.setPolicer_core (s : State) (p : Nat) (k : Policer) : (State.setPolicer s p k).core = s.core := by
  simp [State.setPolicer]
@[simp] theorem State.fillPolicer_core (s : State) (p : Nat) : (State.fillPolicer s p).core = s.core := by
  simp [State.fillPolicer]
@[simp] theorem State.police_core (s : State) (p : Nat) (l : Nat) (dei : Bool) : (State.police s p l dei).2.core = s.core := by
  simp [State.police]
@[simp] theorem State.showPolicer_core (s : State) (p : Nat) : (State.showPolicer s p).core = s.core := by
  simp [State.showPolicer]
@[simp] theorem State.snoopAppend_core (s : State) (z1 : List Nat) (z2 : List Byte) : (State.snoopAppend s z1 z2).2.core = s.core := by
  induction z1 generalizing s z2 with
  | nil => rfl
  | cons v r ih => simp [State.snoopAppend, ih]
@[simp] theorem State.snoopCheck_core (s : State) (z1 : List Nat) (z2 : List Byte) : (State.snoopCheck s z1 z2).2.2.core = s.core := by
  induction z1 generalizing s z2 with
  | nil => rfl
  | cons v r ih => (simp only [State.snoopCheck]; split <;> simp [ih])
@[simp] theorem State.toStore_core (s : State) (c : Nat) (m : Mapped) (l : List Byte) : (State.toStore s c m l).core = s.core := by
  simp [State.toStore]
@[simp] theorem State.ingressPass_core (s : State) (c : Nat) (f : EthFrame) (dei : Option Bool) (taf : Bool) : (State.ingressPass s c f dei taf).core = s.core := by
  simp [State.ingressPass]
@[simp] theorem State.classify_core (s : State) (c : Nat) (f : EthFrame) : (State.classify s c f).core = s.core := by
  unfold State.classify; try dsimp only; (repeat' split) <;> simp_all
@[simp] theorem State.ethIngress_core (s : State) (c : Nat) (f : EthFrame) : (State.ethIngress s c f).core = s.core := by
  simp [State.ethIngress]
@[simp] theorem State.mapTick_core (s : State) (c : Nat) : (State.mapTick s c).core = s.core := by
  simp [State.mapTick]
@[simp] theorem State.gateActivate_core (s : State) (c : Nat) : (State.gateActivate s c).core = s.core := by
  unfold State.gateActivate; (repeat' split) <;> simp
@[simp] theorem State.gateApply_core (s : State) (c : Nat) : (State.gateApply s c).core = s.core := by
  simp [State.gateApply]
@[simp] theorem State.resetQueue_core (s : State) (c : Nat) (q : Nat) : (State.resetQueue s c q).core = s.core := by
  simp [State.resetQueue]
@[simp] theorem State.resetPort_core (s : State) (c : Nat) : (State.resetPort s c).core = s.core := by
  simp [State.resetPort]
@[simp] theorem State.showQueue_core (s : State) (e : Nat) : (State.showQueue s e).core = s.core := by
  unfold State.showQueue; (repeat' split) <;> simp
@[simp] theorem State.showPort_core (s : State) (c : Nat) : (State.showPort s c).core = s.core := by
  unfold State.showPort; try dsimp only; (repeat' split) <;> simp_all
@[simp] theorem State.enqueue_core (s : State) (c : Nat) (l : List Byte) : (State.enqueue s c l).core = s.core := by
  unfold State.enqueue; try dsimp only; (repeat' split) <;> simp_all
@[simp] theorem State.csfSeen_core (s : State) (c : Nat) (on : Bool) : (State.csfSeen s c on).core = s.core := by
  simp [State.csfSeen]
@[simp] theorem State.delineate_core (s : State) (c : Nat) (core : Nat) : (State.delineate s c core).core = s.core := by
  simp [State.delineate]
@[simp] theorem State.gfpTake_core (s : State) (c : Nat) (f : EthFrame) : (State.gfpTake s c f).core = s.core := by
  rfl
@[simp] theorem State.gfpEgress_core (s : State) (c : Nat) (f : EthFrame) : (State.gfpEgress s c f).core = s.core := by
  simp [State.gfpEgress]
@[simp] theorem State.purge_core (s : State) (c : Nat) (q : Nat) (z3 : List QFrame) : (State.purge s c q z3).2.core = s.core := by
  induction z3 generalizing s with
  | nil => rfl
  | cons v r ih => (simp only [State.purge]; split <;> (try split) <;> simp [ih])
@[simp] theorem State.purgeQueue_core (c : Nat) (s : State) (q : Nat) : (State.purgeQueue c s q).core = s.core := by
  simp [State.purgeQueue]
@[simp] theorem State.takeHead_core (s : State) (c : Nat) (q : Nat) (f : QFrame) (r : List QFrame) : (State.takeHead s c q f r).core = s.core := by
  simp [State.takeHead]
@[simp] theorem State.countStart_core (s : State) (c : Nat) (q : Nat) (f : QFrame) : (State.countStart s c q f).core = s.core := by
  unfold State.countStart; (repeat' split) <;> simp
@[simp] theorem State.stampStart_core (s : State) (c : Nat) (f : QFrame) : (State.stampStart s c f).core = s.core := by
  unfold State.stampStart; (repeat' split) <;> simp
@[simp] theorem State.startFrame_core (s : State) (c : Nat) (q : Nat) : (State.startFrame s c q).core = s.core := by
  unfold State.startFrame; split <;> simp
@[simp] theorem State.schedule_core (s : State) (c : Nat) : (State.schedule s c).core = s.core := by
  unfold State.schedule; try dsimp only; (repeat' split) <;> simp_all
@[simp] theorem State.frameEnd_core (s : State) (c : Nat) : (State.frameEnd s c).core = s.core := by
  simp [State.frameEnd]
@[simp] theorem State.tafLate_core (s : State) (c : Nat) (q : Nat) : (State.tafLate s c q).core = s.core := by
  simp [State.tafLate]
@[simp] theorem State.queueMark_core (s : State) (e : Nat) (lvl : Nat) (was : Nat) (now : Nat) (flag : Nat) (code : Nat) : (State.queueMark s e lvl was now flag code).core = s.core := by
  simp [State.queueMark]
@[simp] theorem State.sampleQueue_core (s : State) (e : Nat) : (State.sampleQueue s e).core = s.core := by
  simp [State.sampleQueue]
@[simp] theorem State.queueSample_core (s : State) : (State.queueSample s).core = s.core := by
  simp [State.queueSample]
@[simp] theorem State.pktRefuse_core (s : State) (c : Nat) : (State.pktRefuse s c).2.core = s.core := by
  simp [State.pktRefuse]
@[simp] theorem State.pktEnable_core (s : State) (c : Nat) : (State.pktEnable s c).2.core = s.core := by
  simp [State.pktEnable]
@[simp] theorem State.flushQueue_core (c : Nat) (s : State) (q : Nat) : (State.flushQueue c s q).core = s.core := by
  simp [State.flushQueue]
@[simp] theorem State.pktDisable_core (s : State) (c : Nat) : (State.pktDisable s c).core = s.core := by
  simp [State.pktDisable]
@[simp] theorem State.csfTimer_core (s : State) (c : Nat) : (State.csfTimer s c).core = s.core := by
  simp [State.csfTimer]
@[simp] theorem State.dcsfExpiry_core (s : State) (c : Nat) : (State.dcsfExpiry s c).core = s.core := by
  simp [State.dcsfExpiry]
@[simp] theorem State.delineation_core (s : State) (c : Nat) (core : Nat) : (State.delineation s c core).core = s.core := by
  simp [State.delineation]
@[simp] theorem State.fxPolicerSet_core (q : Req) (ws : List Word) (s : State) : (State.fxPolicerSet q ws s).core = s.core := by
  simp [State.fxPolicerSet]
@[simp] theorem State.fxShaperSet_core (q : Req) (ws : List Word) (s : State) : (State.fxShaperSet q ws s).core = s.core := by
  simp [State.fxShaperSet]
@[simp] theorem State.fxGateArm_core (q : Req) (ws : List Word) (s : State) : (State.fxGateArm q ws s).core = s.core := by
  simp [State.fxGateArm]
@[simp] theorem State.gateCancel_core (s : State) : (State.gateCancel s).core = s.core := by
  simp [State.gateCancel]
@[simp] theorem State.modStream_core (s : State) (slot : Nat) (f : DccStream → DccStream) : (State.modStream s slot f).core = s.core := by
  simp [State.modStream]
@[simp] theorem State.pullStream_core (s : State) (slot : Nat) : (State.pullStream s slot).2.core = s.core := by
  simp [State.pullStream]
@[simp] theorem State.pullAll_core (s : State) (z1 : List Nat) : (State.pullAll s z1).2.core = s.core := by
  induction z1 generalizing s with
  | nil => rfl
  | cons v r ih => simp [State.pullAll, ih]
@[simp] theorem State.latchTrace_core (s : State) (c : Nat) (mfas : Nat) : (State.latchTrace s c mfas).core = s.core := by
  simp [State.latchTrace]
@[simp] theorem State.latchLow_core (s : State) (c : Nat) (f : TxFrame) : (State.latchLow s c f).core = s.core := by
  simp [State.latchLow]
@[simp] theorem State.pseqStep_core (s : State) (l : List Word) : (State.pseqStep s l).core = s.core := by
  unfold State.pseqStep; apply State.foldl_core; intro t d; split
  · dsimp only; rw [State.modRed_core]
  · rfl
@[simp] theorem State.mapFilled_core (s : State) (d : Word) (fill : Nat) : (State.mapFilled s d fill).core = s.core := by
  unfold State.mapFilled; (repeat' split) <;> simp
@[simp] theorem State.mapStep_core (c : Nat) (s : State) (m : MapTx) : (State.mapStep c s m).core = s.core := by
  simp [State.mapStep]
@[simp] theorem State.txParity_core (s : State) (c : Nat) (f : TxFrame) : (State.txParity s c f).core = s.core := by
  simp [State.txParity]
@[simp] theorem State.loBegun_core (c : Nat) (s : State) (k : ContTx) : (State.loBegun c s k).core = s.core := by
  simp [State.loBegun]
@[simp] theorem State.pointers_core (c : Nat) (s : State) (p : PtrTx) : (State.pointers c s p).core = s.core := by
  simp [State.pointers]
@[simp] theorem State.modTx_core (s : State) (c : Nat) (f : Tx → Tx) : (State.modTx s c f).core = s.core := by
  simp [State.modTx]
@[simp] theorem State.xcParity_core (c : Nat) (s : State) (n : Nat) : (State.xcParity c s n).core = s.core := by
  unfold State.xcParity; (repeat' split) <;> simp
@[simp] theorem State.structParity_core (c : Nat) (s : State) (i : Nat) : (State.structParity c s i).core = s.core := by
  simp [State.structParity]
@[simp] theorem State.showAps_core (s : State) (c : Nat) (mfas : Nat) : (State.showAps s c mfas).core = s.core := by
  simp [State.showAps]
@[simp] theorem State.lineSwap_core (s : State) (c : Nat) (mfas : Nat) : (State.lineSwap s c mfas).core = s.core := by
  simp [State.lineSwap]
@[simp] theorem State.txBegin_core (s : State) (c : Nat) (f : TxFrame) : (State.txBegin s c f).core = s.core := by
  simp [State.txBegin]
@[simp] theorem State.txBytes_core (s : State) (c : Nat) (f : TxFrame) : (State.txBytes s c f).core = s.core := by
  simp [State.txBytes]
@[simp] theorem State.txSnoop_core (c : Nat) (f : TxFrame) (s : State) (d : Word) : (State.txSnoop c f s d).core = s.core := by
  unfold State.txSnoop
  try dsimp only
  (repeat' split) <;> simp_all
@[simp] theorem State.txLine_core (s : State) (c : Nat) (f : TxFrame) : (State.txLine s c f).core = s.core := by
  simp [State.txLine]
@[simp] theorem State.txCodes_core (s : State) (c : Nat) (f : TxFrame) : (State.txCodes s c f).core = s.core := by
  simp [State.txCodes]
@[simp] theorem State.txFrame_core (s : State) (c : Nat) (f : TxFrame) : (State.txFrame s c f).core = s.core := by
  simp [State.txFrame]
@[simp] theorem State.streamTake_core (s : State) (slot : Nat) (l : List Byte) : (State.streamTake s slot l).core = s.core := by
  simp [State.streamTake]
@[simp] theorem State.dccRx_core (s : State) (slot : Nat) (l : List Byte) (fcsOk : Bool) : (State.dccRx s slot l fcsOk).core = s.core := by
  simp [State.dccRx]
@[simp] theorem State.fxDccWr_core (q : Req) (ws : List Word) (s : State) : (State.fxDccWr q ws s).core = s.core := by
  simp [State.fxDccWr]
@[simp] theorem State.dccTake_core (slots : List Nat) (top : Nat) (z2 : Nat) (z3 : Nat) (z4 : Bool) (z5 : State) : (State.dccTake slots top z2 z3 z4 z5).2.core = z5.core := by
  induction z2 generalizing z3 z4 z5 with
  | zero => rfl
  | succ n ih =>
    simp only [State.dccTake]
    (repeat' split) <;> first | rfl | simp [ih]
@[simp] theorem State.fxDccRd_core (q : Req) (ws : List Word) (s : State) : (State.fxDccRd q ws s).core = s.core := by
  simp [State.fxDccRd]
@[simp] theorem State.remapSlip_core (s : State) (c : Nat) : (State.remapSlip s c).core = s.core := by
  simp [State.remapSlip]
@[simp] theorem State.mapperSlip_core (s : State) (c : Nat) : (State.mapperSlip s c).core = s.core := by
  simp [State.mapperSlip]
@[simp] theorem State.bmpEnd_core (s : State) : (State.bmpEnd s).core = s.core := by
  simp [State.bmpEnd]
@[simp] theorem State.bmpTick_core (s : State) : (State.bmpTick s).core = s.core := by
  unfold State.bmpTick
  refine (State.foldl_core _ _ _ ?_).trans (by simp)
  intro t e
  dsimp only
  (repeat' split) <;> simp
@[simp] theorem State.bmpBack_core (s : State) (c : Nat) : (State.bmpBack s c).core = s.core := by
  unfold State.bmpBack; (repeat' split) <;> simp
@[simp] theorem State.timeTo_core (s : State) (ns : Nat) (sub : Nat) : (State.timeTo s ns sub).core = s.core := by
  simp [State.timeTo]
@[simp] theorem State.fxTimeStep_core (q : Req) (ws : List Word) (s : State) : (State.fxTimeStep q ws s).core = s.core := by
  simp [State.fxTimeStep]
@[simp] theorem State.setEpoch_core (s : State) (e : Nat) : (State.setEpoch s e).core = s.core := by
  simp [State.setEpoch]
@[simp] theorem State.setSole_core (s : State) (v : Bool) : (State.setSole s v).core = s.core := by
  simp [State.setSole]
@[simp] theorem State.setRole_core (s : State) (r : Nat) (why : Nat) : (State.setRole s r why).core = s.core := by
  simp [State.setRole]
@[simp] theorem State.restLease_core (s : State) : (State.restLease s).core = s.core := by
  simp [State.restLease]
@[simp] theorem State.claimLease_core (s : State) (why : Nat) : (State.claimLease s why).core = s.core := by
  simp [State.claimLease]
@[simp] theorem State.checkSole_core (s : State) : (State.checkSole s).core = s.core := by
  simp [State.checkSole]
@[simp] theorem State.dropForwards_core (s : State) : (State.dropForwards s).core = s.core := by
  simp [State.dropForwards]
@[simp] theorem State.settleFrames_core (s : State) (l : List LinkFrame) : (State.settleFrames s l).core = s.core := by
  simp [State.settleFrames]
@[simp] theorem State.linkDown_core (s : State) (why : Nat) : (State.linkDown s why).core = s.core := by
  simp [State.linkDown]
@[simp] theorem State.startBulk_core (s : State) : (State.startBulk s).core = s.core := by
  simp [State.startBulk]
@[simp] theorem State.seeFar_core (s : State) (role : Nat) (epoch : Nat) : (State.seeFar s role epoch).core = s.core := by
  simp [State.seeFar]
@[simp] theorem State.higherEpoch_core (s : State) (e : Nat) (renewal : Bool) : (State.higherEpoch s e renewal).core = s.core := by
  simp [State.higherEpoch]
@[simp] theorem State.meet_core (s : State) (h : Hello) : (State.meet s h).core = s.core := by
  simp [State.meet]
@[simp] theorem State.helloTake_core (s : State) (h : Hello) : (State.helloTake s h).core = s.core := by
  simp [State.helloTake]
@[simp] theorem State.lanesUp_core (s : State) : (State.lanesUp s).core = s.core := by
  simp [State.lanesUp]
@[simp] theorem State.hello_core (s : State) (h : Hello) : (State.hello s h).core = s.core := by
  simp [State.hello]
@[simp] theorem State.laneLoss_core (s : State) (lane : Nat) (deskew : Bool) : (State.laneLoss s lane deskew).core = s.core := by
  simp [State.laneLoss]
@[simp] theorem State.retransmit_core (s : State) : (State.retransmit s).core = s.core := by
  simp [State.retransmit]
@[simp] theorem State.linkAck_core (s : State) (seq : Nat) : (State.linkAck s seq).core = s.core := by
  simp [State.linkAck]
@[simp] theorem State.linkAckTimer_core (s : State) : (State.linkAckTimer s).core = s.core := by
  simp [State.linkAckTimer]
@[simp] theorem State.rxReliable_core (s : State) (seq : Nat) : (State.rxReliable s seq).2.core = s.core := by
  simp [State.rxReliable]
@[simp] theorem State.helloTimer_core (s : State) : (State.helloTimer s).core = s.core := by
  simp [State.helloTimer]
@[simp] theorem State.toggle_core (s : State) : (State.toggle s).core = s.core := by
  simp [State.toggle]
@[simp] theorem State.renewed_core (s : State) : (State.renewed s).core = s.core := by
  simp [State.renewed]
@[simp] theorem State.renewRx_core (s : State) (e : Nat) (k : Nat) : (State.renewRx s e k).core = s.core := by
  simp [State.renewRx]
@[simp] theorem State.acked_core (s : State) (a : Nat) : (State.acked s a).core = s.core := by
  simp [State.acked]
@[simp] theorem State.ackRx_core (s : State) (e : Nat) (k : Nat) : (State.ackRx s e k).core = s.core := by
  simp [State.ackRx]
@[simp] theorem State.yieldDone_core (s : State) (ok : Bool) : (State.yieldDone s ok).core = s.core := by
  unfold State.yieldDone; try dsimp only; (repeat' split) <;> simp_all
@[simp] theorem State.unbeat_core (s : State) : (State.unbeat s).core = s.core := by
  simp [State.unbeat]
@[simp] theorem State.claimRx_core (s : State) (e : Nat) (_why : Nat) : (State.claimRx s e _why).core = s.core := by
  simp [State.claimRx]
@[simp] theorem State.yieldRx_core (s : State) (e : Nat) (_k : Nat) : (State.yieldRx s e _k).core = s.core := by
  simp [State.yieldRx]
@[simp] theorem State.leaseBeat_core (s : State) : (State.leaseBeat s).core = s.core := by
  simp [State.leaseBeat]
@[simp] theorem State.leaseOver_core (s : State) : (State.leaseOver s).core = s.core := by
  simp [State.leaseOver]
@[simp] theorem State.claimedAt_core (s : State) (a : Nat) : (State.claimedAt s a).core = s.core := by
  rfl
@[simp] theorem State.claimDue_core (s : State) : (State.claimDue s).core = s.core := by
  simp [State.claimDue]
@[simp] theorem State.yieldTimeout_core (s : State) : (State.yieldTimeout s).core = s.core := by
  simp [State.yieldTimeout]
@[simp] theorem State.setPins_core (s : State) (v : Nat) : (State.setPins s v).core = s.core := by
  simp [State.setPins]
@[simp] theorem State.pinToggle_core (s : State) : (State.pinToggle s).core = s.core := by
  simp [State.pinToggle]
@[simp] theorem State.leaseIn_core (s : State) (p : Bool) (n : Bool) : (State.leaseIn s p n).core = s.core := by
  simp [State.leaseIn]
@[simp] theorem State.leaseStill_core (s : State) : (State.leaseStill s).core = s.core := by
  simp [State.leaseStill]
@[simp] theorem State.twfIn_core (s : State) (p : Bool) (n : Bool) : (State.twfIn s p n).core = s.core := by
  simp [State.twfIn]
@[simp] theorem State.doYield_core (s : State) (q : Option Req) : (State.doYield s q).core = s.core := by
  simp [State.doYield]
@[simp] theorem State.forceSole_core (s : State) : (State.forceSole s).2.core = s.core := by
  simp [State.forceSole]
@[simp] theorem State.leaseCmdWrite_core (s : State) (w : Word) : (State.leaseCmdWrite s w).2.core = s.core := by
  simp [State.leaseCmdWrite]
@[simp] theorem State.twinRoleWrite_core (s : State) (w : Word) : (State.twinRoleWrite s w).2.core = s.core := by
  simp [State.twinRoleWrite]
@[simp] theorem State.linkEnable_core (s : State) : (State.linkEnable s).core = s.core := by
  simp [State.linkEnable]
@[simp] theorem State.linkDisable_core (s : State) : (State.linkDisable s).core = s.core := by
  simp [State.linkDisable]
@[simp] theorem State.applyEntry_core (s : State) (t : Nat) (b : Nat) (e : Nat) (off : Nat) (ws : List Word) : (State.applyEntry s t b e off ws).core = s.core := by
  simp [State.applyEntry]
@[simp] theorem State.applySwap_core (s : State) (obj : Nat) (ws : List Word) : (State.applySwap s obj ws).core = s.core := by
  simp [State.applySwap]
@[simp] theorem State.mirrorLease_core (s : State) (w : Word) : (State.mirrorLease s w).core = s.core := by
  simp [State.mirrorLease]
@[simp] theorem State.applyMirror_core (s : State) (d : MirrorData) : (State.applyMirror s d).core = s.core := by
  simp [State.applyMirror]
@[simp] theorem State.mirrorRx_core (s : State) (seq : Nat) (d : MirrorData) : (State.mirrorRx s seq d).core = s.core := by
  simp [State.mirrorRx]
@[simp] theorem State.discardPair_core (s : State) : (State.discardPair s).core = s.core := by
  simp [State.discardPair]
@[simp] theorem State.bulkApply_core (s : State) : (State.bulkApply s).core = s.core := by
  simp [State.bulkApply]
@[simp] theorem State.bulkTake_core (s : State) (n : Nat) (d : MirrorData) : (State.bulkTake s n d).core = s.core := by
  simp [State.bulkTake]
@[simp] theorem State.bulkRx_core (s : State) (seq : Nat) (n : Nat) (d : MirrorData) : (State.bulkRx s seq n d).core = s.core := by
  simp [State.bulkRx]
@[simp] theorem State.bulkDone_core (s : State) : (State.bulkDone s).core = s.core := by
  simp [State.bulkDone]
@[simp] theorem State.timerMirror_core (s : State) : (State.timerMirror s).core = s.core := by
  simp [State.timerMirror]
@[simp] theorem State.seqSyncSend_core (s : State) : (State.seqSyncSend s).core = s.core := by
  simp [State.seqSyncSend]
@[simp] theorem State.skewFollow_core (s : State) : (State.skewFollow s).core = s.core := by
  simp [State.skewFollow]
@[simp] theorem State.seqEntry_core (s : State) (e : SeqSync) : (State.seqEntry s e).core = s.core := by
  unfold State.seqEntry; dsimp only; (repeat' split) <;> simp
@[simp] theorem State.seqSyncRx_core (s : State) (es : List SeqSync) : (State.seqSyncRx s es).core = s.core := by
  simp [State.seqSyncRx]
@[simp] theorem State.frerSeqRx_core (s : State) (n : Nat) (vid : Nat) (q : Nat) (fcs : Word) : (State.frerSeqRx s n vid q fcs).core = s.core := by
  simp [State.frerSeqRx]
@[simp] theorem State.refInfoRx_core (s : State) (ppt : Int) (sel : Nat) (sec : Nat) (ns : Nat) : (State.refInfoRx s ppt sel sec ns).core = s.core := by
  simp [State.refInfoRx]
@[simp] theorem State.refInfoSend_core (s : State) : (State.refInfoSend s).core = s.core := by
  simp [State.refInfoSend]
@[simp] theorem State.fxTwinStatus_core (q : Req) (ws : List Word) (s : State) : (State.fxTwinStatus q ws s).core = s.core := by
  simp [State.fxTwinStatus]
@[simp] theorem State.fxTwinForward_core (q : Req) (ws : List Word) (s : State) : (State.fxTwinForward q ws s).core = s.core := by
  simp [State.fxTwinForward]
@[simp] theorem State.fxLeaseYield_core (q : Req) (ws : List Word) (s : State) : (State.fxLeaseYield q ws s).core = s.core := by
  simp [State.fxLeaseYield]
@[simp] theorem State.program_core (s : State) (a : Nat) (z2 : List Byte) : (State.program s a z2).core = s.core := by
  induction z2 generalizing s a with
  | nil => rfl
  | cons v r ih => simp [State.program, ih]
@[simp] theorem State.erase_core (s : State) (a : Nat) (n : Nat) : (State.erase s a n).core = s.core := by
  simp [State.erase]
@[simp] theorem State.mclkStop_core (s : State) : (State.mclkStop s).core = s.core := by
  simp [State.mclkStop]
@[simp] theorem State.flashShow_core (s : State) : (State.flashShow s).core = s.core := by
  simp [State.flashShow]
@[simp] theorem State.flashFail_core (s : State) : (State.flashFail s).core = s.core := by
  simp [State.flashFail]
@[simp] theorem State.writeCopy_core (s : State) (hdr : Bool) (w : Word) : (State.writeCopy s hdr w).core = s.core := by
  simp [State.writeCopy]
@[simp] theorem State.spoilCopy_core (s : State) (hdr : Bool) : (State.spoilCopy s hdr).core = s.core := by
  simp [State.spoilCopy]
@[simp] theorem State.setSlot_core (s : State) (k : Nat) (valid : Bool) : (State.setSlot s k valid).core = s.core := by
  simp [State.setSlot]
@[simp] theorem State.fxFwBegin_core (q : Req) (ws : List Word) (s : State) : (State.fxFwBegin q ws s).core = s.core := by
  simp [State.fxFwBegin]
@[simp] theorem State.fxFwData_core (q : Req) (ws : List Word) (s : State) : (State.fxFwData q ws s).core = s.core := by
  unfold State.fxFwData; (repeat' split) <;> simp
@[simp] theorem State.fxFwEnd_core (q : Req) (ws : List Word) (s : State) : (State.fxFwEnd q ws s).core = s.core := by
  simp [State.fxFwEnd]
@[simp] theorem State.endUpload_core (s : State) : (State.endUpload s).core = s.core := by
  simp [State.endUpload]
@[simp] theorem State.fxFwAbort_core (q : Req) (ws : List Word) (s : State) : (State.fxFwAbort q ws s).core = s.core := by
  simp [State.fxFwAbort]
@[simp] theorem State.verified_core (s : State) (ok : Bool) (q : Req) : (State.verified s ok q).core = s.core := by
  simp [State.verified]
@[simp] theorem State.fwDone_core (s : State) (ok : Bool) : (State.fwDone s ok).core = s.core := by
  unfold State.fwDone; (repeat' split) <;> simp
@[simp] theorem State.chooseSlot_core (s : State) (k : Nat) : (State.chooseSlot s k).2.core = s.core := by
  simp [State.chooseSlot]
@[simp] theorem State.fxFwChoose_core (q : Req) (ws : List Word) (s : State) : (State.fxFwChoose q ws s).core = s.core := by
  simp [State.fxFwChoose]
@[simp] theorem State.rollSlot_core (s : State) (k : Nat) : (State.rollSlot s k).core = s.core := by
  simp [State.rollSlot]
@[simp] theorem State.fxFwCommit_core (q : Req) (ws : List Word) (s : State) : (State.fxFwCommit q ws s).core = s.core := by
  simp [State.fxFwCommit]
@[simp] theorem State.fwAct_core (s : State) (w : Word) : (State.fwAct s w).2.core = s.core := by
  simp [State.fwAct]
@[simp] theorem State.headerDone_core (s : State) (ok : Bool) : (State.headerDone s ok).core = s.core := by
  unfold State.headerDone; (repeat' split) <;> simp
@[simp] theorem State.fxReboot_core (q : Req) (ws : List Word) (s : State) : (State.fxReboot q ws s).core = s.core := by
  simp [State.fxReboot]
@[simp] theorem State.fxCfgSave_core (q : Req) (ws : List Word) (s : State) : (State.fxCfgSave q ws s).core = s.core := by
  simp [State.fxCfgSave]
@[simp] theorem State.fxCfgErase_core (q : Req) (ws : List Word) (s : State) : (State.fxCfgErase q ws s).core = s.core := by
  simp [State.fxCfgErase]
@[simp] theorem State.fxCfgProgram_core (q : Req) (ws : List Word) (s : State) : (State.fxCfgProgram q ws s).core = s.core := by
  simp [State.fxCfgProgram]
@[simp] theorem State.fxCfgRead_core (q : Req) (ws : List Word) (s : State) : (State.fxCfgRead q ws s).core = s.core := by
  simp [State.fxCfgRead]
@[simp] theorem State.cfgDone_core (s : State) (ok : Bool) : (State.cfgDone s ok).core = s.core := by
  unfold State.cfgDone; (repeat' split) <;> simp
@[simp] theorem State.writeRec_core (s : State) (l : List Byte) : (State.writeRec s l).core = s.core := by
  simp [State.writeRec]
@[simp] theorem State.logFlush_core (s : State) : (State.logFlush s).core = s.core := by
  simp [State.logFlush]
@[simp] theorem State.fxLogRd_core (q : Req) (ws : List Word) (s : State) : (State.fxLogRd q ws s).core = s.core := by
  simp [State.fxLogRd]
@[simp] theorem State.logDone_core (s : State) : (State.logDone s).core = s.core := by
  unfold State.logDone; (repeat' split) <;> simp
@[simp] theorem State.crossed_core (s : State) (code : Nat) (n : Nat) (rd : Word) (lim : Word) : (State.crossed s code n rd lim).core = s.core := by
  simp [State.crossed]
@[simp] theorem State.readTemp_core (s : State) (n : Nat) (v : Int) : (State.readTemp s n v).core = s.core := by
  simp [State.readTemp]
@[simp] theorem State.readVolt_core (s : State) (r : Nat) (v : Nat) : (State.readVolt s r v).core = s.core := by
  simp [State.readVolt]
@[simp] theorem State.convert_core (s : State) (temps : List Int) (mv : List Nat) : (State.convert s temps mv).core = s.core := by
  simp [State.convert]
@[simp] theorem State.fxSensorRd_core (q : Req) (ws : List Word) (s : State) : (State.fxSensorRd q ws s).core = s.core := by
  simp [State.fxSensorRd]
@[simp] theorem State.mgmtExpiry_core (s : State) (code : Nat) (ch : Nat) : (State.mgmtExpiry s code ch).core = s.core := by
  simp [State.mgmtExpiry]
@[simp] theorem State.badgerReady_core (s : State) : (State.badgerReady s).core = s.core := by
  simp [State.badgerReady]
@[simp] theorem State.badgerSleep_core (s : State) : (State.badgerSleep s).core = s.core := by
  simp [State.badgerSleep]
@[simp] theorem State.cutCmd_core (s : State) (p : PendCmd) : (State.cutCmd s p).core = s.core := by
  simp [State.cutCmd]
@[simp] theorem State.parkCmd_core (s : State) (p : PendCmd) : (State.parkCmd s p).core = s.core := by
  unfold State.parkCmd; (repeat' split) <;> simp
@[simp] theorem State.badgerDown_core (s : State) : (State.badgerDown s).core = s.core := by
  simp [State.badgerDown]
@[simp] theorem State.watchdog_core (s : State) (at_ : Option Nat) : (State.watchdog s at_).core = s.core := by
  simp [State.watchdog]
@[simp] theorem State.fwStarts_core (s : State) : (State.fwStarts s).core = s.core := by
  simp [State.fwStarts]
@[simp] theorem State.badgerBack_core (s : State) (reload : Bool) (binsOk : Bool) : (State.badgerBack s reload binsOk).core = s.core := by
  simp [State.badgerBack]
@[simp] theorem State.injOn_core (s : State) (src : Nat) : (State.injOn s src).2.core = s.core := by
  simp [State.injOn]
@[simp] theorem State.injOff_core (s : State) : (State.injOff s).core = s.core := by
  simp [State.injOff]
@[simp] theorem State.injKey_core (s : State) (w : Word) : (State.injKey s w).2.core = s.core := by
  simp [State.injKey]
@[simp] theorem State.fxFaultInject_core (act : Nat) (q : Req) (ws : List Word) (s : State) : (State.fxFaultInject act q ws s).core = s.core := by
  simp [State.fxFaultInject]
@[simp] theorem State.pulseEnd_core (s : State) : (State.pulseEnd s).core = s.core := by
  simp [State.pulseEnd]
@[simp] theorem State.parCh_core (s : State) (c : Nat) (acc : FaultAccess) : (State.parCh s c acc).core = s.core := by
  simp [State.parCh]
@[simp] theorem State.parGrp_core (s : State) (g : Nat) (acc : FaultAccess) : (State.parGrp s g acc).core = s.core := by
  simp [State.parGrp]
@[simp] theorem State.parity_core (s : State) (p : Place) : (State.parity s p).core = s.core := by
  unfold State.parity; (repeat' split) <;> simp
@[simp] theorem State.trpOne_core (s : State) (p : Place) : (State.trpOne s p).core = s.core := by
  unfold State.trpOne; (repeat' split) <;> simp
@[simp] theorem State.trpAll_core (s : State) (p : Place) : (State.trpAll s p).core = s.core := by
  unfold State.trpAll; (repeat' split) <;> simp
@[simp] theorem State.scrubPg_core (s : State) (p : Nat) (f : ScrubFinding) : (State.scrubPg s p f).core = s.core := by
  unfold State.scrubPg; (repeat' split) <;> simp
@[simp] theorem State.scrub_core (s : State) (a : Nat) (f : ScrubFinding) : (State.scrub s a f).core = s.core := by
  unfold State.scrub; (repeat' split) <;> simp
@[simp] theorem State.busError_core (s : State) (m : Nat) (t : Nat) (write : Bool) (a : Nat) : (State.busError s m t write a).core = s.core := by
  simp [State.busError]
@[simp] theorem State.dropHead_core (s : State) (c : Nat) (q : Nat) : (State.dropHead s c q).core = s.core := by
  simp [State.dropHead]
@[simp] theorem State.parTbl_core (s : State) (acc : FaultAccess) : (State.parTbl s acc).core = s.core := by
  simp [State.parTbl]
@[simp] theorem State.edge_core (s : State) (r : Report) : (State.edge s r).core = s.core := by
  unfold State.edge; (repeat' split) <;> simp
@[simp] theorem State.raiseCmd_core (s : State) (src : Nat) (k : FaultKind) (g : Option Nat) (c : Option Nat) (acc : FaultAccess) : (State.raiseCmd s src k g c acc).core = s.core := by
  unfold State.raiseCmd; (repeat' split) <;> simp
@[simp] theorem State.ackDue_core (s : State) (sev : Nat) : (State.ackDue s sev).core = s.core := by
  simp [State.ackDue]
@[simp] theorem State.windowOver_core (s : State) (src : Nat) : (State.windowOver s src).core = s.core := by
  unfold State.windowOver; (repeat' split) <;> simp
@[simp] theorem State.ackWrite_core (s : State) (w : Word) : (State.ackWrite s w).core = s.core := by
  simp [State.ackWrite]
@[simp] theorem State.rehunt_core (s : State) (c : Nat) : (State.rehunt s c).core = s.core := by
  simp [State.rehunt]
@[simp] theorem State.holdRx_core (s : State) (c : Nat) : (State.holdRx s c).core = s.core := by
  simp [State.holdRx]
@[simp] theorem State.modPrbs_core (s : State) (c : Nat) (f : Prbs → Prbs) : (State.modPrbs s c f).core = s.core := by
  simp [State.modPrbs]
@[simp] theorem State.prbsReply_core (s : State) (t : State) (q : Req) (c : Nat) (hk : t.core = s.core) : (State.prbsReply s t q c).core = s.core := by
  simp [State.prbsReply, hk]
@[simp] theorem State.prbsStart_core (s : State) (c : Nat) (pat : Nat) (dir : Nat) (inv : Bool) : (State.prbsStart s c pat dir inv).core = s.core := by
  simp [State.prbsStart]
@[simp] theorem State.prbsStop_core (s : State) (c : Nat) (dir : Nat) : (State.prbsStop s c dir).core = s.core := by
  simp [State.prbsStop]
@[simp] theorem State.fxPrbs_core (act : Nat) (q : Req) (ws : List Word) (s : State) : (State.fxPrbs act q ws s).core = s.core := by
  simp [State.fxPrbs]
@[simp] theorem State.prbsTake_core (s : State) (c : Nat) (syms : List Nat) : (State.prbsTake s c syms).core = s.core := by
  simp [State.prbsTake]
@[simp] theorem State.fxLoopback_core (mode : Nat) (q : Req) (ws : List Word) (s : State) : (State.fxLoopback mode q ws s).core = s.core := by
  simp [State.fxLoopback]
@[simp] theorem State.eyeStart_core (s : State) (c : Nat) (eye : Nat) (dwell : Nat) (q : Req) : (State.eyeStart s c eye dwell q).core = s.core := by
  simp [State.eyeStart]
@[simp] theorem State.fxEye_core (act : Nat) (q : Req) (ws : List Word) (s : State) : (State.fxEye act q ws s).core = s.core := by
  simp [State.fxEye]
@[simp] theorem State.eyeDone_core (s : State) (c : Nat) (errs : List Nat) : (State.eyeDone s c errs).core = s.core := by
  simp [State.eyeDone]
@[simp] theorem State.reserve_core (s : State) (c : Nat) (k : Nat) : (State.reserve s c k).core = s.core := by
  simp [State.reserve]
@[simp] theorem State.freeBond_core (s : State) (c : Nat) : (State.freeBond s c).core = s.core := by
  simp [State.freeBond]
@[simp] theorem State.store_core (s : State) (p : Place) (r : RegInfo) (w : Word) : (State.store s p r w).core = s.core := by
  simp [State.store]
@[simp] theorem State.enableRefused_core (s : State) (p : Place) (i : Nat) : (State.enableRefused s p i).2.core = s.core := by
  simp [State.enableRefused]
@[simp] theorem State.flagIf_core (s : State) (p : Place) (b : Bool) : (State.flagIf s p b).core = s.core := by
  simp [State.flagIf]
@[simp] theorem State.ctrlWritten_core (s : State) (c : Nat) (old : Word) : (State.ctrlWritten s c old).2.core = s.core := by
  simp [State.ctrlWritten]
@[simp] theorem State.clearTrace_core (s : State) (c : Nat) : (State.clearTrace s c).core = s.core := by
  simp [State.clearTrace]
@[simp] theorem State.modeWritten_core (s : State) (c : Nat) (old : Word) : (State.modeWritten s c old).core = s.core := by
  simp [State.modeWritten]
@[simp] theorem State.degWritten_core (s : State) (c : Nat) (old : Word) : (State.degWritten s c old).core = s.core := by
  simp [State.degWritten]
@[simp] theorem State.ttiWritten_core (s : State) (c : Nat) : (State.ttiWritten s c).core = s.core := by
  simp [State.ttiWritten]
@[simp] theorem State.captWritten_core (s : State) (c : Nat) (old : Word) (w : Word) : (State.captWritten s c old w).core = s.core := by
  simp [State.captWritten]
@[simp] theorem State.pktWritten_core (s : State) (c : Nat) (old : Word) : (State.pktWritten s c old).2.core = s.core := by
  simp [State.pktWritten]
@[simp] theorem State.tsWritten_core (s : State) (c : Nat) : (State.tsWritten s c).core = s.core := by
  simp [State.tsWritten]
@[simp] theorem State.evtWritten_core (s : State) (c : Nat) (old : Word) : (State.evtWritten s c old).core = s.core := by
  simp [State.evtWritten]
@[simp] theorem State.chkWritten_core (s : State) (c : Nat) (old : Word) : (State.chkWritten s c old).core = s.core := by
  simp [State.chkWritten]
@[simp] theorem State.chanWritten_core (s : State) (c : Nat) (n : Nat) (old : Word) (w : Word) : (State.chanWritten s c n old w).2.core = s.core := by
  simp [State.chanWritten]
@[simp] theorem State.lockWritten_core (s : State) (old : Word) : (State.lockWritten s old).core = s.core := by
  simp [State.lockWritten]
@[simp] theorem State.refSelWritten_core (s : State) (old : Word) : (State.refSelWritten s old).core = s.core := by
  simp [State.refSelWritten]
@[simp] theorem State.refInWritten_core (s : State) (old : Word) : (State.refInWritten s old).core = s.core := by
  simp [State.refInWritten]
@[simp] theorem State.lrWritten_core (s : State) (m : Nat) (old : Word) : (State.lrWritten s m old).core = s.core := by
  simp [State.lrWritten]
@[simp] theorem State.clkoutWritten_core (s : State) (n : Nat) (old : Word) : (State.clkoutWritten s n old).2.core = s.core := by
  simp [State.clkoutWritten]
@[simp] theorem State.ppsWritten_core (s : State) (old : Word) : (State.ppsWritten s old).core = s.core := by
  simp [State.ppsWritten]
@[simp] theorem State.twinWritten_core (s : State) (old : Word) : (State.twinWritten s old).core = s.core := by
  simp [State.twinWritten]
@[simp] theorem State.pageWritten_core (s : State) (g : Nat) (i : Nat) (old : Word) (w : Word) : (State.pageWritten s g i old w).2.core = s.core := by
  simp [State.pageWritten]
@[simp] theorem State.keyEffect_core (s : State) (a : Nat) (v : Word) : (State.keyEffect s a v).2.core = s.core := by
  simp [State.keyEffect]
@[simp] theorem State.keyAccept_core (s : State) (a : Nat) (w : Word) : (State.keyAccept s a w).2.core = s.core := by
  simp [State.keyAccept]
@[simp] theorem State.dropKey_core (s : State) (a : Nat) : (State.dropKey s a).core = s.core := by
  simp [State.dropKey]
@[simp] theorem State.keyAWrite_core (s : State) (src : Src) (a : Nat) (w : Word) : (State.keyAWrite s src a w).2.core = s.core := by
  simp [State.keyAWrite]
@[simp] theorem State.keyBWrite_core (s : State) (src : Src) (a : Nat) (w : Word) : (State.keyBWrite s src a w).2.core = s.core := by
  unfold State.keyBWrite; (repeat' split) <;> simp
@[simp] theorem State.keyExpiry_core (s : State) (a : Nat) : (State.keyExpiry s a).core = s.core := by
  unfold State.keyExpiry; (repeat' split) <;> simp
@[simp] theorem State.keyWrite_core (s : State) (a : Nat) (v : Word) (nv : Word) : (State.keyWrite s a v nv).2.core = s.core := by
  simp [State.keyWrite]
@[simp] theorem State.placeWritten_core (s : State) (p : Place) (old : Word) (w : Word) : (State.placeWritten s p old w).2.core = s.core := by
  cases p <;> simp [State.placeWritten]
@[simp] theorem State.writeReg_core (s : State) (src : Src) (addr : Nat) (w : Word) : (State.writeReg s src addr w).2.core = s.core := by
  unfold State.writeReg; try dsimp only; (repeat' split) <;> simp_all
@[simp] theorem State.readReset_core (s : State) (z1 : RorField) : (State.readReset s z1).core = s.core := by
  unfold State.readReset; (repeat' split) <;> simp
@[simp] theorem State.readEffect_core (s : State) (addr : Nat) : (State.readEffect s addr).core = s.core := by
  unfold State.readEffect; (repeat' split) <;> simp
@[simp] theorem State.readBlk_core (s : State) (a : Nat) (i : Nat) (z3 : Nat) : (State.readBlk s a i z3).2.core = s.core := by
  induction z3 generalizing s i with
  | zero => rfl
  | succ n ih => simp [State.readBlk, ih]
@[simp] theorem State.writeBlk_core (s : State) (src : Src) (a : Nat) (i : Nat) (z4 : List Word) : (State.writeBlk s src a i z4).2.2.core = s.core := by
  induction z4 generalizing s i with
  | nil => rfl
  | cons v r ih => simp [State.writeBlk, ih]
@[simp] theorem State.fxRegRd_core (q : Req) (ws : List Word) (s : State) : (State.fxRegRd q ws s).core = s.core := by
  simp [State.fxRegRd]
@[simp] theorem State.fxRegWr_core (q : Req) (ws : List Word) (s : State) : (State.fxRegWr q ws s).core = s.core := by
  simp [State.fxRegWr]
@[simp] theorem State.fxRegRdBlk_core (q : Req) (ws : List Word) (s : State) : (State.fxRegRdBlk q ws s).core = s.core := by
  simp [State.fxRegRdBlk]
@[simp] theorem State.fxRegWrBlk_core (q : Req) (ws : List Word) (s : State) : (State.fxRegWrBlk q ws s).core = s.core := by
  simp [State.fxRegWrBlk]
@[simp] theorem State.fxRegWrKey_core (q : Req) (ws : List Word) (s : State) : (State.fxRegWrKey q ws s).core = s.core := by
  simp [State.fxRegWrKey]
@[simp] theorem State.put_core (s : State) (src : Src) (a : Nat) (w : Word) : (State.put s src a w).core = s.core := by
  simp [State.put]
@[simp] theorem State.provision_core (s : State) (src : Src) (c : Nat) (w1 : Word) (w2 : Word) (w3 : Word) : (State.provision s src c w1 w2 w3).core = s.core := by
  simp [State.provision]
@[simp] theorem State.provisionOn_core (s : State) (p : PendCmd) : (State.provisionOn s p).core = s.core := by
  unfold State.provisionOn; (repeat' split) <;> simp
@[simp] theorem State.fxChProvision_core (q : Req) (ws : List Word) (s : State) : (State.fxChProvision q ws s).core = s.core := by
  simp [State.fxChProvision]
@[simp] theorem State.provisionDone_core (s : State) (c : Nat) : (State.provisionDone s c).core = s.core := by
  unfold State.provisionDone; (repeat' split) <;> simp
@[simp] theorem State.releaseCh_core (s : State) (c : Nat) : (State.releaseCh s c).core = s.core := by
  simp [State.releaseCh]
@[simp] theorem State.fxChRelease_core (q : Req) (ws : List Word) (s : State) : (State.fxChRelease q ws s).core = s.core := by
  simp [State.fxChRelease]
@[simp] theorem State.drawNonce_core (s : State) (slot : Nat) : (State.drawNonce s slot).core = s.core := by
  simp [State.drawNonce]
@[simp] theorem State.writeOh_core (s : State) (e : Nat) (i : Nat) (v : Word) : (State.writeOh s e i v).core = s.core := by
  simp [State.writeOh]
@[simp] theorem State.storeEdit_core (s : State) (x : Edit) : (State.storeEdit s x).core = s.core := by
  simp [State.storeEdit]
@[simp] theorem State.editEffect_core (s : State) (x : Edit) (was : Bool) (now : Bool) : (State.editEffect s x was now).core = s.core := by
  simp [State.editEffect]
@[simp] theorem State.applyEdit_core (s : State) (x : Edit) : (State.applyEdit s x).core = s.core := by
  simp [State.applyEdit]
@[simp] theorem State.writeEntries_core (s : State) (t : Nat) (b : Nat) (n : Nat) (z4 : Nat) (z5 : Nat) (z6 : List Word) (z7 : Nat) : (State.writeEntries s t b n z4 z5 z6 z7).1.core = s.core := by
  induction z7 generalizing s z4 z5 z6 with
  | zero => rfl
  | succ n ih => (simp only [State.writeEntries]; split
                  · rfl
                  · split <;> simp [ih])
@[simp] theorem State.fxTblWr_core (q : Req) (ws : List Word) (s : State) : (State.fxTblWr q ws s).core = s.core := by
  unfold State.fxTblWr; try dsimp only; (repeat' split) <;> simp_all
@[simp] theorem State.showEntry_core (s : State) (t : Nat) (e : Nat) : (State.showEntry s t e).core = s.core := by
  simp [State.showEntry]
@[simp] theorem State.readWords_core (s : State) (t : Nat) (b : Nat) (n : Nat) (z4 : Nat) (z5 : Nat) (z6 : Nat) : (State.readWords s t b n z4 z5 z6).2.core = s.core := by
  induction z6 generalizing s z4 z5 with
  | zero => rfl
  | succ n ih => (simp only [State.readWords]; split <;> simp [ih])
@[simp] theorem State.fxTblRd_core (q : Req) (ws : List Word) (s : State) : (State.fxTblRd q ws s).core = s.core := by
  unfold State.fxTblRd; try dsimp only; (repeat' split) <;> simp_all
@[simp] theorem State.fxNop_core (q : Req) (ws : List Word) (s : State) : (State.fxNop q ws s).core = s.core := by
  simp [State.fxNop]
@[simp] theorem State.fxEcho_core (q : Req) (ws : List Word) (s : State) : (State.fxEcho q ws s).core = s.core := by
  simp [State.fxEcho]
@[simp] theorem State.fxIdentify_core (q : Req) (ws : List Word) (s : State) : (State.fxIdentify q ws s).core = s.core := by
  simp [State.fxIdentify]
@[simp] theorem State.fxEvtPop_core (q : Req) (ws : List Word) (s : State) : (State.fxEvtPop q ws s).core = s.core := by
  simp [State.fxEvtPop]
@[simp] theorem State.runHardware_core (op : Nat) (q : Req) (ws : List Word) (s : State) : (State.runHardware op q ws s).core = s.core := by
  simp [State.runHardware]
@[simp] theorem State.runFirmware_core (op : Nat) (q : Req) (ws : List Word) (s : State) : (State.runFirmware op q ws s).core = s.core := by
  simp [State.runFirmware]
@[simp] theorem State.fxFwWrite_core (q : Req) (ws : List Word) (s : State) : (State.fxFwWrite q ws s).core = s.core := by
  simp [State.fxFwWrite]
@[simp] theorem State.fxFwActivate_core (q : Req) (ws : List Word) (s : State) : (State.fxFwActivate q ws s).core = s.core := by
  simp [State.fxFwActivate]
@[simp] theorem State.fxCfgStore_core (q : Req) (ws : List Word) (s : State) : (State.fxCfgStore q ws s).core = s.core := by
  simp [State.fxCfgStore]
@[simp] theorem State.runMaintenance_core (op : Nat) (q : Req) (ws : List Word) (s : State) : (State.runMaintenance op q ws s).core = s.core := by
  simp [State.runMaintenance]
@[simp] theorem State.runOpcode_core (op : Nat) (q : Req) (ws : List Word) (s : State) : (State.runOpcode op q ws s).core = s.core := by
  simp [State.runOpcode]
@[simp] theorem State.runHeld_core (s : State) (z1 : Nat) : (State.runHeld s z1).core = s.core := by
  induction z1 generalizing s with
  | zero => rfl
  | succ n ih => (simp only [State.runHeld]; split
                  · rfl
                  · rw [ih]; split <;> simp)
@[simp] theorem State.take_core (s : State) (q : Req) : (State.take s q).core = s.core := by
  simp [State.take]
@[simp] theorem State.holdCommand_core (s : State) (q : Req) (op : Nat) (ws : List Word) : (State.holdCommand s q op ws).core = s.core := by
  simp [State.holdCommand]
@[simp] theorem State.start_core (s : State) (q : Req) (op : Nat) (ws : List Word) (fx : State → State) (hfx : ∀ t, (fx t).core = t.core) : (State.start s q op ws fx).core = s.core := by
  unfold State.start
  try dsimp only
  (repeat' split) <;> simp_all
@[simp] theorem State.startAll_core (s : State) (z0 : List Accepted) : (State.startAll s z0).core = s.core := by
  induction z0 generalizing s with
  | nil => rfl
  | cons a r ih =>
    rw [State.startAll, ih, State.start_core]; simp
@[simp] theorem State.command_core (s : State) (q : Req) (op : Nat) (ws : List Word) (fx : State → State) (hfx : ∀ x0, (fx x0).core = x0.core) : (State.command s q op ws fx).core = s.core := by
  simp [State.command, hfx]
@[simp] theorem State.rowWrite_core (s : State) (q : Req) (a : Nat) (w : Word) : (State.rowWrite s q a w).core = s.core := by
  simp [State.rowWrite]
@[simp] theorem State.rowKey_core (s : State) (q : Req) (a : Nat) (w : Word) : (State.rowKey s q a w).core = s.core := by
  simp [State.rowKey]
@[simp] theorem State.badgerStart_core (s : State) : (State.badgerStart s).core = s.core := by
  simp [State.badgerStart]
@[simp] theorem State.restartDone_core (s : State) (reload : Bool) (binsOk : Bool) : (State.restartDone s reload binsOk).core = s.core := by
  simp [State.restartDone]
@[simp] theorem State.cmdOccur_core (s : State) (code : Nat) (chn : Nat) : (State.cmdOccur s code chn).core = s.core := by
  simp [State.cmdOccur]
@[simp] theorem State.cmdHoldExpiry_core (s : State) (code : Nat) : (State.cmdHoldExpiry s code).core = s.core := by
  simp [State.cmdHoldExpiry]
@[simp] theorem State.tagTaken_core (s : State) (src : Src) (op : Nat) (tag : Nat) : (State.tagTaken s src op tag).core = s.core := by
  unfold State.tagTaken; (repeat' split) <;> simp
@[simp] theorem State.refuse_core (s : State) (q : Req) (op : Nat) (st : Nat) : (State.refuse s q op st).core = s.core := by
  simp [State.refuse]
@[simp] theorem State.refusalCounts_core (s : State) (src : Src) (l : List Byte) (st : Nat) : (State.refusalCounts s src l st).core = s.core := by
  simp [State.refusalCounts]
@[simp] theorem State.crcUnit_core (s : State) (z1 : Src) : (State.crcUnit s z1).core = s.core := by
  unfold State.crcUnit; (repeat' split) <;> simp
@[simp] theorem State.packet_core (s : State) (src : Src) (l : List Byte) : (State.packet s src l).core = s.core := by
  simp [State.packet]
@[simp] theorem State.hostWrite_core (s : State) (l : List Byte) : (State.hostWrite s l).core = s.core := by
  simp [State.hostWrite]
@[simp] theorem State.readReply_core (s : State) (n : Nat) : (State.readReply s n).core = s.core := by
  unfold State.readReply; (repeat' split) <;> simp
@[simp] theorem State.readStat_core (s : State) : (State.readStat s).core = s.core := by
  simp [State.readStat]
@[simp] theorem State.inbandFrame_core (s : State) (slot : Nat) (l : List Byte) (fcsOk : Bool) : (State.inbandFrame s slot l fcsOk).core = s.core := by
  simp [State.inbandFrame]
@[simp] theorem State.fwdCmd_core (s : State) (seq : Nat) (l : List Byte) : (State.fwdCmd s seq l).core = s.core := by
  simp [State.fwdCmd]
@[simp] theorem State.fwdReply_core (s : State) (seq : Nat) (l : List Byte) : (State.fwdReply s seq l).core = s.core := by
  unfold State.fwdReply; try dsimp only; (repeat' split) <;> simp_all
@[simp] theorem State.loadProt_core (s : State) (slot : Option Nat) : (State.loadProt s slot).core = s.core := by
  simp [State.loadProt]
@[simp] theorem State.applyInit_core (s : State) (k : Nat) : (State.applyInit s k).core = s.core := by
  unfold State.applyInit; split
  · apply State.each_core; intro t i; simp
  · rfl
@[simp] theorem State.loadNominal_core (s : State) : (State.loadNominal s).1.core = s.core := by
  unfold State.loadNominal; (repeat' split) <;> simp
@[simp] theorem State.loadLog_core (s : State) : (State.loadLog s).core = s.core := by
  simp [State.loadLog]
@[simp] theorem State.loadSlots_core (s : State) : (State.loadSlots s).core = s.core := by
  simp [State.loadSlots]
@[simp] theorem State.bootRecord_core (s : State) (slot : Option Nat) (nominal : Bool) : (State.bootRecord s slot nominal).core = s.core := by
  simp [State.bootRecord]
theorem State.core_phase (s u : State) (p : Phase) (h : u.core = s.core) (hp : (p == .held) = (s.phase == .held)) :
    ({ u with phase := p }).core = s.core := by
  simp only [State.core, Prod.mk.injEq] at h ⊢
  exact ⟨h.1, h.2.1, h.2.2.1, h.2.2.2.1, h.2.2.2.2.1, hp⟩
@[simp] theorem State.bootLoad_core (s : State) (ms : Nat) : (State.bootLoad s ms).core = s.core := by
  unfold State.bootLoad
  dsimp only
  (repeat' split) <;> simp
theorem State.bootEnd_core (s u : State) (h : u.core = s.core) (hp : (Phase.run == .held) = (s.phase == .held)) :
    u.bootEnd.core = s.core := by
  have e := State.core_phase s u .run h hp
  exact e
@[simp] theorem State.boot_core (s : State) (ms : Nat) : (s.boot ms).core = s.core := by
  unfold State.boot
  split
  · rename_i h
    simp only [Bool.and_eq_true, beq_iff_eq] at h
    simp only [State.runHeld_core]
    exact State.bootEnd_core s (s.bootLoad ms) (State.bootLoad_core s ms) (by rw [h.1]; rfl)
  · rfl
@[simp] theorem State.deepWatch_core (s : State) : (State.deepWatch s).core = s.core := by
  simp [State.deepWatch]
@[simp] theorem State.deepEnter_core (s : State) : s.deepEnter.core = s.core := by
  unfold State.deepEnter
  split
  · rename_i h
    simp only [State.deepOk, Bool.and_eq_true, beq_iff_eq] at h
    simp only [State.core_mk]
    have e : ∀ u : State, u.core = s.core → ({ u with phase := .deep, deepAt := none }).core = s.core := by
      intro u hu
      have := State.core_phase s u .deep hu (by rw [h.1.1.1.1.1.1.1.1.1.1.1]; rfl)
      simp only [State.core] at this ⊢
      exact this
    exact e _ (by (repeat' split) <;> simp)
  · rfl
theorem State.leave_phase (s : State) (h : s.phase = .deepExit) : ({ s with phase := .run, wakeAt := none }).core = s.core :=
 State.core_phase s { s with wakeAt := none } .run rfl (by rw [h]; rfl)
theorem State.leave_refs (s : State) (u : State) (hu : u.core = s.core) :
        (u.each (List.range 13) fun t n => if (t.cand n).active then t.refLost n else t).core = s.core := by
      rw [State.each_core _ _ _ (fun t n => by split <;> simp), hu]
theorem State.leave_note (s : State) : (({ s with swap := { s.swap with cancelled := false } }).event 7 252 255 17).core = s.core := by
  simp only [State.event_core, State.core_mk, State.core_fold]
theorem State.leave_event (s : State) : ((if s.swap.cancelled then ({ s with swap := { s.swap with cancelled := false } }).event 7 252 255 17 else s)).core = s.core := by
  split
  · exact State.leave_note s
  · rfl
@[simp] theorem State.deepCause_core (s : State) (z1 : WakeCause) : (State.deepCause s z1).core = s.core := by
  unfold State.deepCause; (repeat' split) <;> simp
@[simp] theorem State.deepLeave_core (s : State) : s.deepLeave.core = s.core := by
  unfold State.deepLeave
  split
  · rename_i h
    simp only [Bool.and_eq_true, beq_iff_eq] at h
    refine Eq.trans (State.leave_event _) ?_
    split
    · rw [State.modMgmt_core, State.setRb_core, State.loseTime_core]
      exact State.leave_refs s _ (State.leave_phase s h.1)
    · rw [State.wakeBadger_core, State.modMgmt_core, State.setRb_core, State.loseTime_core]
      exact State.leave_refs s _ (State.leave_phase s h.1)
  · rfl

@[simp] theorem State.latePending_core (s : State) (p : PendCmd) : (State.latePending s p).core = s.core := by
  unfold State.latePending; (repeat' split) <;> simp
@[simp] theorem State.cmdTick_core (s : State) : (State.cmdTick s).core = s.core := by
  simp [State.cmdTick]
@[simp] theorem State.tribShow_core (s : State) (e : Nat × Nat × Conn) : (State.tribShow s e).core = s.core := by
  unfold State.tribShow; try dsimp only; (repeat' split) <;> simp_all
@[simp] theorem State.clientSsf_core (s : State) (c : Nat) : (State.clientSsf s c).core = s.core := by
  simp [State.clientSsf]
@[simp] theorem State.blockTick_core (s : State) : (State.blockTick s).core = s.core := by
  simp [State.blockTick]
@[simp] theorem State.waitShow_core (s : State) (c : Nat) : (State.waitShow s c).core = s.core := by
  simp [State.waitShow]
@[simp] theorem State.memberShow_core (s : State) (e : Nat × Chan) : (State.memberShow s e).core = s.core := by
  unfold State.memberShow; (repeat' split) <;> simp
@[simp] theorem State.grpShow_core (s : State) (g : Nat) : (State.grpShow s g).core = s.core := by
  simp [State.grpShow]
@[simp] theorem State.pageMaps_core (s : State) (i : Nat) : (State.pageMaps s i).core = s.core := by
  simp [State.pageMaps]
@[simp] theorem State.faultShow_core (s : State) : (State.faultShow s).core = s.core := by
  simp [State.faultShow]
@[simp] theorem State.redShow_core (s : State) : (State.redShow s).core = s.core := by
  simp [State.redShow]
@[simp] theorem State.pageShow_core (s : State) : (State.pageShow s).core = s.core := by
  simp [State.pageShow]
@[simp] theorem State.refresh_core (s : State) (p : Nat → Bool) : (State.refresh s p).core = s.core := by
  simp [State.refresh]
@[simp] theorem State.show_core (s : State) : (State.show s).core = s.core := by
  simp [State.show]
@[simp] theorem State.clearOut_core (s : State) : (State.clearOut s).core = s.core := by
  simp [State.clearOut]
end Sys2Proof.Machine
end

