-- ==== Sys2Proof/Laws/PerInstr.lean ====
section
/-!
SUPPORT. The family F, said for every command: the table gives no row any bits, so no word spells it, and a command
reaches the block only through its queue.
-/
namespace Sys2Proof.Laws.F
open Sys2Proof

/-- No word of the table spells the command. -/
def Statement (i : Instr) : Prop := ∀ nbits w : Nat, decodeTableWord nbits w ≠ some i

/-- The decoder reads no command from any word. -/
theorem noWord (i : Instr) : Statement i := by
  intro nbits w h
  simp [decodeTableWord] at h

theorem masterOscillatorStop : Statement .masterOscillatorStop := noWord _
theorem masterOscillatorReturn : Statement .masterOscillatorReturn := noWord _
theorem rstNAssert : Statement .rstNAssert := noWord _
theorem rstNRelease (st : Straps) : Statement (.rstNRelease st) := noWord _
theorem terminationCalibration (resistorOk : Bool) (failed : List Nat) : Statement (.terminationCalibration resistorOk failed) := noWord _
theorem bootDone (ms : Nat) : Statement (.bootDone ms) := noWord _
theorem rebootReset : Statement .rebootReset := noWord _
theorem boundaryScanInstruction (code : Option Nat) : Statement (.boundaryScanInstruction code) := noWord _
theorem signalDetectAssert (l : LaneLevels) : Statement (.signalDetectAssert l) := noWord _
theorem signalDetectDeassert (l : LaneLevels) : Statement (.signalDetectDeassert l) := noWord _
theorem sleepHoldExpiry (c : Nat) : Statement (.sleepHoldExpiry c) := noWord _
theorem groupClockStop (g : Nat) : Statement (.groupClockStop g) := noWord _
theorem groupClockRunning (g : Nat) : Statement (.groupClockRunning g) := noWord _
theorem lanePllLock (l : LaneOffset) : Statement (.lanePllLock l) := noWord _
theorem initialAdaptationDone (c : Nat) : Statement (.initialAdaptationDone c) := noWord _
theorem badgerReady : Statement .badgerReady := noWord _
theorem badgerSleep : Statement .badgerSleep := noWord _
theorem deepEntry : Statement .deepEntry := noWord _
theorem deepWake (w : WakeCause) : Statement (.deepWake w) := noWord _
theorem deepExitComplete : Statement .deepExitComplete := noWord _
theorem receivedFrame (c : Nat) (f : RxFrame) : Statement (.receivedFrame c f) := noWord _
theorem transmittedFrame (c : Nat) (f : TxFrame) : Statement (.transmittedFrame c f) := noWord _
theorem elasticStoreSlip (c : Nat) (f : StoreFill) : Statement (.elasticStoreSlip c f) := noWord _
theorem mapperStoreSlip (c : Nat) : Statement (.mapperStoreSlip c) := noWord _
theorem elasticSlipClear (c : Nat) : Statement (.elasticSlipClear c) := noWord _
theorem laneAlignerLock (a : LaneAlign) : Statement (.laneAlignerLock a) := noWord _
theorem laneAlignmentLoss (c : Nat) : Statement (.laneAlignmentLoss c) := noWord _
theorem pcsLockAcquired (a : LaneAlign) : Statement (.pcsLockAcquired a) := noWord _
theorem pcsLockLost (c : Nat) (block am : Bool) : Statement (.pcsLockLost c block am) := noWord _
theorem foxGrant (e : Nat) : Statement (.foxGrant e) := noWord _
theorem roamingEpoch : Statement .roamingEpoch := noWord _
theorem foxSearchMatch (x : Sighting) : Statement (.foxSearchMatch x) := noWord _
theorem foxSearchNoMatch (e : Nat) : Statement (.foxSearchNoMatch e) := noWord _
theorem foxCandidateCheck (e w : Nat) : Statement (.foxCandidateCheck e w) := noWord _
theorem foxConfirmCheck (e w : Nat) : Statement (.foxConfirmCheck e w) := noWord _
theorem foxHandbackEnd (e : Nat) : Statement (.foxHandbackEnd e) := noWord _
theorem foxReleaseEnd (e : Nat) : Statement (.foxReleaseEnd e) := noWord _
theorem backoffHoldExpiry (c : Nat) : Statement (.backoffHoldExpiry c) := noWord _
theorem foxParityFail (e : Nat) : Statement (.foxParityFail e) := noWord _
theorem dlofTimerExpiry (c : Nat) : Statement (.dlofTimerExpiry c) := noWord _
theorem dlomTimerExpiry (c : Nat) : Statement (.dlomTimerExpiry c) := noWord _
theorem dcsfTimerExpiry (c : Nat) : Statement (.dcsfTimerExpiry c) := noWord _
theorem degWindowEnd (c : Nat) (exc : Bool) : Statement (.degWindowEnd c exc) := noWord _
theorem pmSecondClose : Statement .pmSecondClose := noWord _
theorem pmFold : Statement .pmFold := noWord _
theorem defectHoldoffExpiry (c d : Nat) : Statement (.defectHoldoffExpiry c d) := noWord _
theorem tributaryHoldoffExpiry (c : Nat) : Statement (.tributaryHoldoffExpiry c) := noWord _
theorem watermarkCrossing (c fill : Nat) : Statement (.watermarkCrossing c fill) := noWord _
theorem csfTimer (c : Nat) : Statement (.csfTimer c) := noWord _
theorem bmpClockReturn (c : Nat) : Statement (.bmpClockReturn c) := noWord _
theorem dccFrameReceived (slot : Nat) (data : List Byte) (fcsOk : Bool) : Statement (.dccFrameReceived slot data fcsOk) := noWord _
theorem inbandCommandFrame (slot : Nat) (data : List Byte) (fcsOk : Bool) : Statement (.inbandCommandFrame slot data fcsOk) := noWord _
theorem frameCaptureDone (c : Nat) : Statement (.frameCaptureDone c) := noWord _
theorem byteTraceDone (c : Nat) : Statement (.byteTraceDone c) := noWord _
theorem captArm (q : Req) (c : Nat) : Statement (.captArm q c) := noWord _
theorem traceArm (q : Req) (c : Nat) : Statement (.traceArm q c) := noWord _
theorem protectionEvaluation (p : Nat) : Statement (.protectionEvaluation p) := noWord _
theorem protHoldoffExpiry (p : Nat) (k : PgCond) : Statement (.protHoldoffExpiry p k) := noWord _
theorem wtrExpiry (p : Nat) : Statement (.wtrExpiry p) := noWord _
theorem selectionBoundary (p : Nat) : Statement (.selectionBoundary p) := noWord _
theorem noResponseTimer (p : Nat) : Statement (.noResponseTimer p) := noWord _
theorem exerTimeout (p : Nat) : Statement (.exerTimeout p) := noWord _
theorem protEventHoldoffExpiry (p : Nat) : Statement (.protEventHoldoffExpiry p) := noWord _
theorem delayMemoryReady (ok : Bool) : Statement (.delayMemoryReady ok) := noWord _
theorem delayMemorySelfRefresh : Statement .delayMemorySelfRefresh := noWord _
theorem hitlessMemberFrame (st m : Nat) (f : MemberFrame) : Statement (.hitlessMemberFrame st m f) := noWord _
theorem scheduleSet (st : Nat) : Statement (.scheduleSet st) := noWord _
theorem scheduleDiscard (st : Nat) : Statement (.scheduleDiscard st) := noWord _
theorem realign (q : Req) (st : Nat) : Statement (.realign q st) := noWord _
theorem hitlessPlayout (st : Nat) : Statement (.hitlessPlayout st) := noWord _
theorem dupLossTimerExpiry (c st m : Nat) : Statement (.dupLossTimerExpiry c st m) := noWord _
theorem voteMemberBlock (st m : Nat) (b : VoteBlock) : Statement (.voteMemberBlock st m b) := noWord _
theorem voteEmit (st : Nat) : Statement (.voteEmit st) := noWord _
theorem voteDisClearTimer (c : Nat) : Statement (.voteDisClearTimer c) := noWord _
theorem voteTxSlot (st : Nat) (data : Option VoteData) : Statement (.voteTxSlot st data) := noWord _
theorem frerRxFrame (st m : Nat) (f : FrerFrame) : Statement (.frerRxFrame st m f) := noWord _
theorem frerTxFrame (st : Nat) (f : FrerFrame) : Statement (.frerTxFrame st f) := noWord _
theorem frerResetTimer (e : Nat) : Statement (.frerResetTimer e) := noWord _
theorem twinHelloRx (h : Hello) : Statement (.twinHelloRx h) := noWord _
theorem twinLaneLoss (lane : Nat) (deskew : Bool) : Statement (.twinLaneLoss lane deskew) := noWord _
theorem retransmitTimeout : Statement .retransmitTimeout := noWord _
theorem linkAckRx (seq : Checked Nat) : Statement (.linkAckRx seq) := noWord _
theorem linkAckTimer : Statement .linkAckTimer := noWord _
theorem helloTimer : Statement .helloTimer := noWord _
theorem renewRx (epoch : Nat) (k : Checked Nat) : Statement (.renewRx epoch k) := noWord _
theorem ackRx (epoch : Nat) (k : Checked Nat) : Statement (.ackRx epoch k) := noWord _
theorem claimRx (epoch : Nat) (reason : Checked Nat) : Statement (.claimRx epoch reason) := noWord _
theorem yieldRx (epoch : Nat) (k : Checked Nat) : Statement (.yieldRx epoch k) := noWord _
theorem mirrorRx (seq : Nat) (d : MirrorData) : Statement (.mirrorRx seq d) := noWord _
theorem bulkRx (seq n : Nat) (d : MirrorData) : Statement (.bulkRx seq n d) := noWord _
theorem bulkResyncDone : Statement .bulkResyncDone := noWord _
theorem seqSyncRx (es : Checked (List SeqSync)) : Statement (.seqSyncRx es) := noWord _
theorem seqSyncTimer : Statement .seqSyncTimer := noWord _
theorem frerSeqRx (st vid seq : Nat) (fcs : Checked Word) : Statement (.frerSeqRx st vid seq fcs) := noWord _
theorem frerSeqWaitTimeout (st vid : Nat) (fcs : Word) : Statement (.frerSeqWaitTimeout st vid fcs) := noWord _
theorem refInfoRx (ppt : Int) (selected : Nat) (sec : Nat) (ns : Checked Nat) : Statement (.refInfoRx ppt selected sec ns) := noWord _
theorem refInfoTimer : Statement .refInfoTimer := noWord _
theorem fwdCmdRx (seq : Nat) (data : Checked (List Byte)) : Statement (.fwdCmdRx seq data) := noWord _
theorem fwdReplyRx (seq : Nat) (data : Checked (List Byte)) : Statement (.fwdReplyRx seq data) := noWord _
theorem leaseBeat : Statement .leaseBeat := noWord _
theorem leaseInChange (p n : Bool) : Statement (.leaseInChange p n) := noWord _
theorem leaseInStill : Statement .leaseInStill := noWord _
theorem twfInChange (p n : Bool) : Statement (.twfInChange p n) := noWord _
theorem leaseEnd : Statement .leaseEnd := noWord _
theorem leaseClaimPoint : Statement .leaseClaimPoint := noWord _
theorem yieldClaimTimeout : Statement .yieldClaimTimeout := noWord _
theorem leaseCmdYield (q : Req) : Statement (.leaseCmdYield q) := noWord _
theorem leaseCmdForceSole (q : Req) : Statement (.leaseCmdForceSole q) := noWord _
theorem twinRoleCfgWrite (q : Req) (w : Word) : Statement (.twinRoleCfgWrite q w) := noWord _
theorem twinCtrlWrite (q : Req) (w : Word) : Statement (.twinCtrlWrite q w) := noWord _
theorem twinEventHoldoffExpiry (code : Nat) : Statement (.twinEventHoldoffExpiry code) := noWord _
theorem ethIngressFrame (c : Nat) (f : EthFrame) : Statement (.ethIngressFrame c f) := noWord _
theorem gfpEgressFrame (c : Nat) (f : EthFrame) : Statement (.gfpEgressFrame c f) := noWord _
theorem schedulerDecision (c : Nat) : Statement (.schedulerDecision c) := noWord _
theorem egressFrameEnd (c : Nat) : Statement (.egressFrameEnd c) := noWord _
theorem tafLate (c qn : Nat) : Statement (.tafLate c qn) := noWord _
theorem gateEntryChange (c : Nat) : Statement (.gateEntryChange c) := noWord _
theorem gateListActivation (c : Nat) : Statement (.gateListActivation c) := noWord _
theorem queueSample : Statement .queueSample := noWord _
theorem pktEnSet (q : Req) (c : Nat) : Statement (.pktEnSet q c) := noWord _
theorem pktEnClear (q : Req) (c : Nat) : Statement (.pktEnClear q c) := noWord _
theorem refActivityLoss (n : Nat) : Statement (.refActivityLoss n) := noWord _
theorem refFreqMeasure (offsets : List (Nat × Int)) : Statement (.refFreqMeasure offsets) := noWord _
theorem refSwitchEnd : Statement .refSwitchEnd := noWord _
theorem refLockReached : Statement .refLockReached := noWord _
theorem refWtrExpiry : Statement .refWtrExpiry := noWord _
theorem softTimeout : Statement .softTimeout := noWord _
theorem refEventHoldoffExpiry (n : Nat) : Statement (.refEventHoldoffExpiry n) := noWord _
theorem nominalPptWrite (q : Req) (w : Word) : Statement (.nominalPptWrite q w) := noWord _
theorem stepRearmWrite (q : Req) (w : Word) : Statement (.stepRearmWrite q w) := noWord _
theorem stepArmExpiry : Statement .stepArmExpiry := noWord _
theorem slewDone : Statement .slewDone := noWord _
theorem timeLatch (q : Req) : Statement (.timeLatch q) := noWord _
theorem ppsInEdge (n : Nat) (rising : Bool) : Statement (.ppsInEdge n rising) := noWord _
theorem trigArm (q : Req) (n : Nat) : Statement (.trigArm q n) := noWord _
theorem triggerFire (n : Nat) : Statement (.triggerFire n) := noWord _
theorem hostWrite (data : List Byte) : Statement (.hostWrite data) := noWord _
theorem readReply (bytes : Nat) : Statement (.readReply bytes) := noWord _
theorem readStatus : Statement .readStatus := noWord _
theorem nop (q : Req) (ws : List Word) : Statement (.nop q ws) := noWord _
theorem echo (q : Req) (ws : List Word) : Statement (.echo q ws) := noWord _
theorem identify (q : Req) (ws : List Word) : Statement (.identify q ws) := noWord _
theorem regRd (q : Req) (ws : List Word) : Statement (.regRd q ws) := noWord _
theorem regWr (q : Req) (ws : List Word) : Statement (.regWr q ws) := noWord _
theorem keyPendingExpiry (addr : Nat) : Statement (.keyPendingExpiry addr) := noWord _
theorem regRdBlk (q : Req) (ws : List Word) : Statement (.regRdBlk q ws) := noWord _
theorem regWrBlk (q : Req) (ws : List Word) : Statement (.regWrBlk q ws) := noWord _
theorem regWrKey (q : Req) (ws : List Word) : Statement (.regWrKey q ws) := noWord _
theorem resetOnRead (f : RorField) : Statement (.resetOnRead f) := noWord _
theorem tblRd (q : Req) (ws : List Word) : Statement (.tblRd q ws) := noWord _
theorem tblWr (q : Req) (ws : List Word) : Statement (.tblWr q ws) := noWord _
theorem tblSwap (q : Req) (ws : List Word) : Statement (.tblSwap q ws) := noWord _
theorem tblSwapCancel (q : Req) (ws : List Word) : Statement (.tblSwapCancel q ws) := noWord _
theorem tblSwapValidated : Statement .tblSwapValidated := noWord _
theorem swapTimeReached : Statement .swapTimeReached := noWord _
theorem swapDestinationSwitch (conn : Nat) : Statement (.swapDestinationSwitch conn) := noWord _
theorem swapSwitchingEnd : Statement .swapSwitchingEnd := noWord _
theorem bankCopyDone : Statement .bankCopyDone := noWord _
theorem xcConnect (q : Req) (ws : List Word) : Statement (.xcConnect q ws) := noWord _
theorem xcDisconnect (q : Req) (ws : List Word) : Statement (.xcDisconnect q ws) := noWord _
theorem snapshot (q : Req) (ws : List Word) : Statement (.snapshot q ws) := noWord _
theorem cntClear (q : Req) (ws : List Word) : Statement (.cntClear q ws) := noWord _
theorem chProvision (q : Req) (ws : List Word) : Statement (.chProvision q ws) := noWord _
theorem chProvisionCompletion (c : Nat) : Statement (.chProvisionCompletion c) := noWord _
theorem chRelease (q : Req) (ws : List Word) : Statement (.chRelease q ws) := noWord _
theorem chCtrlWrite (q : Req) (c : Nat) (w : Word) : Statement (.chCtrlWrite q c w) := noWord _
theorem policerSet (q : Req) (ws : List Word) : Statement (.policerSet q ws) := noWord _
theorem shaperSet (q : Req) (ws : List Word) : Statement (.shaperSet q ws) := noWord _
theorem gateArm (q : Req) (ws : List Word) : Statement (.gateArm q ws) := noWord _
theorem gateArmCancel (q : Req) (ws : List Word) : Statement (.gateArmCancel q ws) := noWord _
theorem apsCmdClear (q : Req) (ws : List Word) : Statement (.apsCmdClear q ws) := noWord _
theorem apsCmdMsP (q : Req) (ws : List Word) : Statement (.apsCmdMsP q ws) := noWord _
theorem apsCmdMsW (q : Req) (ws : List Word) : Statement (.apsCmdMsW q ws) := noWord _
theorem apsCmdExer (q : Req) (ws : List Word) : Statement (.apsCmdExer q ws) := noWord _
theorem protOvrClear (q : Req) (p : Nat) : Statement (.protOvrClear q p) := noWord _
theorem protOvrLockout (q : Req) (p : Nat) : Statement (.protOvrLockout q p) := noWord _
theorem protOvrForcedSwitch (q : Req) (p : Nat) : Statement (.protOvrForcedSwitch q p) := noWord _
theorem refSelect (q : Req) (ws : List Word) : Statement (.refSelect q ws) := noWord _
theorem dcoSet (q : Req) (ws : List Word) : Statement (.dcoSet q ws) := noWord _
theorem timeStepAbsolute (q : Req) (ws : List Word) : Statement (.timeStepAbsolute q ws) := noWord _
theorem timeStepRelative (q : Req) (ws : List Word) : Statement (.timeStepRelative q ws) := noWord _
theorem timeAdjRate (q : Req) (ws : List Word) : Statement (.timeAdjRate q ws) := noWord _
theorem timeOffsetAdj (q : Req) (ws : List Word) : Statement (.timeOffsetAdj q ws) := noWord _
theorem evtPop (q : Req) (ws : List Word) : Statement (.evtPop q ws) := noWord _
theorem tsPop (q : Req) (ws : List Word) : Statement (.tsPop q ws) := noWord _
theorem eyeScanStart (q : Req) (ws : List Word) : Statement (.eyeScanStart q ws) := noWord _
theorem eyeScanStop (q : Req) (ws : List Word) : Statement (.eyeScanStop q ws) := noWord _
theorem eyeScanRead (q : Req) (ws : List Word) : Statement (.eyeScanRead q ws) := noWord _
theorem eyeScanDone (c : Nat) (errs : List Nat) : Statement (.eyeScanDone c errs) := noWord _
theorem prbsStart (q : Req) (ws : List Word) : Statement (.prbsStart q ws) := noWord _
theorem prbsStop (q : Req) (ws : List Word) : Statement (.prbsStop q ws) := noWord _
theorem prbsRead (q : Req) (ws : List Word) : Statement (.prbsRead q ws) := noWord _
theorem prbsReadClear (q : Req) (ws : List Word) : Statement (.prbsReadClear q ws) := noWord _
theorem prbsLock (l : LaneSymbols) : Statement (.prbsLock l) := noWord _
theorem prbsLossOfLock (c : Nat) (before window : List Nat) : Statement (.prbsLossOfLock c before window) := noWord _
theorem loopbackOff (q : Req) (ws : List Word) : Statement (.loopbackOff q ws) := noWord _
theorem loopbackNear (q : Req) (ws : List Word) : Statement (.loopbackNear q ws) := noWord _
theorem loopbackFar (q : Req) (ws : List Word) : Statement (.loopbackFar q ws) := noWord _
theorem faultInjectWithdraw (q : Req) (ws : List Word) : Statement (.faultInjectWithdraw q ws) := noWord _
theorem faultInjectAssert (q : Req) (ws : List Word) : Statement (.faultInjectAssert q ws) := noWord _
theorem faultInjectPulse (q : Req) (ws : List Word) : Statement (.faultInjectPulse q ws) := noWord _
theorem faultPulseEnd : Statement .faultPulseEnd := noWord _
theorem faultInjAssert (q : Req) (src : Nat) : Statement (.faultInjAssert q src) := noWord _
theorem faultInjWithdraw (q : Req) : Statement (.faultInjWithdraw q) := noWord _
theorem sensorRd (q : Req) (ws : List Word) : Statement (.sensorRd q ws) := noWord _
theorem logRd (q : Req) (ws : List Word) : Statement (.logRd q ws) := noWord _
theorem fwWriteBegin (q : Req) (ws : List Word) : Statement (.fwWriteBegin q ws) := noWord _
theorem fwWriteData (q : Req) (ws : List Word) : Statement (.fwWriteData q ws) := noWord _
theorem fwWriteEnd (q : Req) (ws : List Word) : Statement (.fwWriteEnd q ws) := noWord _
theorem fwWriteAbort (q : Req) (ws : List Word) : Statement (.fwWriteAbort q ws) := noWord _
theorem fwWriteCompletion (ok : Bool) : Statement (.fwWriteCompletion ok) := noWord _
theorem fwActivateChoose (q : Req) (ws : List Word) : Statement (.fwActivateChoose q ws) := noWord _
theorem fwActivateCommit (q : Req) (ws : List Word) : Statement (.fwActivateCommit q ws) := noWord _
theorem fwActWrite (q : Req) (w : Word) : Statement (.fwActWrite q w) := noWord _
theorem bootHeaderWritten (ok : Bool) : Statement (.bootHeaderWritten ok) := noWord _
theorem reboot (q : Req) (ws : List Word) : Statement (.reboot q ws) := noWord _
theorem pmRd (q : Req) (ws : List Word) : Statement (.pmRd q ws) := noWord _
theorem dccWr (q : Req) (ws : List Word) : Statement (.dccWr q ws) := noWord _
theorem dccRd (q : Req) (ws : List Word) : Statement (.dccRd q ws) := noWord _
theorem cfgStoreSaveNominal (q : Req) (ws : List Word) : Statement (.cfgStoreSaveNominal q ws) := noWord _
theorem cfgStoreErase (q : Req) (ws : List Word) : Statement (.cfgStoreErase q ws) := noWord _
theorem cfgStoreProgram (q : Req) (ws : List Word) : Statement (.cfgStoreProgram q ws) := noWord _
theorem cfgStoreRead (q : Req) (ws : List Word) : Statement (.cfgStoreRead q ws) := noWord _
theorem cfgStoreCompletion (ok : Bool) : Statement (.cfgStoreCompletion ok) := noWord _
theorem twinStatus (q : Req) (ws : List Word) : Statement (.twinStatus q ws) := noWord _
theorem twinForward (q : Req) (ws : List Word) : Statement (.twinForward q ws) := noWord _
theorem leaseYield (q : Req) (ws : List Word) : Statement (.leaseYield q ws) := noWord _
theorem devLockWrite (q : Req) (w : Word) : Statement (.devLockWrite q w) := noWord _
theorem faultAck (q : Req) (w : Word) : Statement (.faultAck q w) := noWord _
theorem registerScrub (addr : Nat) (found : ScrubFinding) : Statement (.registerScrub addr found) := noWord _
theorem busPathError (master target : Nat) (write : Bool) (addr : Nat) : Statement (.busPathError master target write addr) := noWord _
theorem faultRaise (src : Nat) (kind : FaultKind) (g c : Option Nat) (a : FaultAccess) : Statement (.faultRaise src kind g c a) := noWord _
theorem faultAckTimerExpiry (sev : Nat) : Statement (.faultAckTimerExpiry sev) := noWord _
theorem faultEventWindowExpiry (src : Nat) : Statement (.faultEventWindowExpiry src) := noWord _
theorem watchdogExpiry (interrupted : Option Nat) : Statement (.watchdogExpiry interrupted) := noWord _
theorem badgerRestartDone (reload binsOk : Bool) : Statement (.badgerRestartDone reload binsOk) := noWord _
theorem sensorConversion (temps : List Int) (mv : List Nat) : Statement (.sensorConversion temps mv) := noWord _
theorem mgmtEventHoldoffExpiry (code ch : Nat) : Statement (.mgmtEventHoldoffExpiry code ch) := noWord _
theorem logFlush : Statement .logFlush := noWord _
theorem commandEventHoldoffExpiry (code : Nat) : Statement (.commandEventHoldoffExpiry code) := noWord _
theorem protectionTimerMirror : Statement .protectionTimerMirror := noWord _
theorem ppsOutEdge (n : Nat) : Statement (.ppsOutEdge n) := noWord _
theorem logRdCompletion : Statement .logRdCompletion := noWord _
theorem gfpDelineationChange (c : Nat) (core : Nat) : Statement (.gfpDelineationChange c core) := noWord _
theorem delayMemoryScrub (corrected : Nat) (uncorrectable : List MemErr) : Statement (.delayMemoryScrub corrected uncorrectable) := noWord _
theorem hiBerChange (c : Nat) (on : Bool) : Statement (.hiBerChange c on) := noWord _
theorem linkFaultStateChange (c : Nat) (st : LinkFault) : Statement (.linkFaultStateChange c st) := noWord _

end Sys2Proof.Laws.F
end

