-- ==== Sys2Proof/Laws/State.lean ====
section
/-!
SUPPORT. What each named update of State changes and what it leaves: one lemma per field and update, true by rfl, and
the reads of registers, tables and numbered parts after each update.
-/
namespace Sys2Proof.Machine

/-! ### setReg -/

@[simp] theorem State.setReg_pending (s : State) (a : Nat) (w : Word) : (s.setReg a w).pending = s.pending := (rfl)
@[simp] theorem State.setReg_phase (s : State) (a : Nat) (w : Word) : (s.setReg a w).phase = s.phase := (rfl)
@[simp] theorem State.setReg_osc (s : State) (a : Nat) (w : Word) : (s.setReg a w).osc = s.osc := (rfl)
@[simp] theorem State.setReg_owl (s : State) (a : Nat) (w : Word) : (s.setReg a w).owl = s.owl := (rfl)
@[simp] theorem State.setReg_straps (s : State) (a : Nat) (w : Word) : (s.setReg a w).straps = s.straps := (rfl)
@[simp] theorem State.setReg_copies (s : State) (a : Nat) (w : Word) : (s.setReg a w).copies = s.copies := (rfl)
@[simp] theorem State.setReg_badPar (s : State) (a : Nat) (w : Word) : (s.setReg a w).badPar = s.badPar := (rfl)
@[simp] theorem State.setReg_trpBad (s : State) (a : Nat) (w : Word) : (s.setReg a w).trpBad = s.trpBad := (rfl)
@[simp] theorem State.setReg_tables (s : State) (a : Nat) (w : Word) : (s.setReg a w).tables = s.tables := (rfl)
@[simp] theorem State.setReg_tblBad (s : State) (a : Nat) (w : Word) : (s.setReg a w).tblBad = s.tblBad := (rfl)
@[simp] theorem State.setReg_chans (s : State) (a : Nat) (w : Word) : (s.setReg a w).chans = s.chans := (rfl)
@[simp] theorem State.setReg_groups (s : State) (a : Nat) (w : Word) : (s.setReg a w).groups = s.groups := (rfl)
@[simp] theorem State.setReg_policers (s : State) (a : Nat) (w : Word) : (s.setReg a w).policers = s.policers := (rfl)
@[simp] theorem State.setReg_foxes (s : State) (a : Nat) (w : Word) : (s.setReg a w).foxes = s.foxes := (rfl)
@[simp] theorem State.setReg_lastRoam (s : State) (a : Nat) (w : Word) : (s.setReg a w).lastRoam = s.lastRoam := (rfl)
@[simp] theorem State.setReg_pgs (s : State) (a : Nat) (w : Word) : (s.setReg a w).pgs = s.pgs := (rfl)
@[simp] theorem State.setReg_reds (s : State) (a : Nat) (w : Word) : (s.setReg a w).reds = s.reds := (rfl)
@[simp] theorem State.setReg_frers (s : State) (a : Nat) (w : Word) : (s.setReg a w).frers = s.frers := (rfl)
@[simp] theorem State.setReg_snoopRest (s : State) (a : Nat) (w : Word) : (s.setReg a w).snoopRest = s.snoopRest := (rfl)
@[simp] theorem State.setReg_memWake (s : State) (a : Nat) (w : Word) : (s.setReg a w).memWake = s.memWake := (rfl)
@[simp] theorem State.setReg_memSleep (s : State) (a : Nat) (w : Word) : (s.setReg a w).memSleep = s.memSleep := (rfl)
@[simp] theorem State.setReg_memNoteTill (s : State) (a : Nat) (w : Word) : (s.setReg a w).memNoteTill = s.memNoteTill := (rfl)
@[simp] theorem State.setReg_twin (s : State) (a : Nat) (w : Word) : (s.setReg a w).twin = s.twin := (rfl)
@[simp] theorem State.setReg_refs (s : State) (a : Nat) (w : Word) : (s.setReg a w).refs = s.refs := (rfl)
@[simp] theorem State.setReg_time (s : State) (a : Nat) (w : Word) : (s.setReg a w).time = s.time := (rfl)
@[simp] theorem State.setReg_cmd (s : State) (a : Nat) (w : Word) : (s.setReg a w).cmd = s.cmd := (rfl)
@[simp] theorem State.setReg_sessions (s : State) (a : Nat) (w : Word) : (s.setReg a w).sessions = s.sessions := (rfl)
@[simp] theorem State.setReg_streams (s : State) (a : Nat) (w : Word) : (s.setReg a w).streams = s.streams := (rfl)
@[simp] theorem State.setReg_events (s : State) (a : Nat) (w : Word) : (s.setReg a w).events = s.events := (rfl)
@[simp] theorem State.setReg_holds (s : State) (a : Nat) (w : Word) : (s.setReg a w).holds = s.holds := (rfl)
@[simp] theorem State.setReg_swap (s : State) (a : Nat) (w : Word) : (s.setReg a w).swap = s.swap := (rfl)
@[simp] theorem State.setReg_tribs (s : State) (a : Nat) (w : Word) : (s.setReg a w).tribs = s.tribs := (rfl)
@[simp] theorem State.setReg_faults (s : State) (a : Nat) (w : Word) : (s.setReg a w).faults = s.faults := (rfl)
@[simp] theorem State.setReg_mgmt (s : State) (a : Nat) (w : Word) : (s.setReg a w).mgmt = s.mgmt := (rfl)
@[simp] theorem State.setReg_deepAt (s : State) (a : Nat) (w : Word) : (s.setReg a w).deepAt = s.deepAt := (rfl)
@[simp] theorem State.setReg_wakeAt (s : State) (a : Nat) (w : Word) : (s.setReg a w).wakeAt = s.wakeAt := (rfl)
@[simp] theorem State.setReg_jtag (s : State) (a : Nat) (w : Word) : (s.setReg a w).jtag = s.jtag := (rfl)
@[simp] theorem State.setReg_ppsOut (s : State) (a : Nat) (w : Word) : (s.setReg a w).ppsOut = s.ppsOut := (rfl)
@[simp] theorem State.setReg_sampledAt (s : State) (a : Nat) (w : Word) : (s.setReg a w).sampledAt = s.sampledAt := (rfl)
@[simp] theorem State.setReg_mapped (s : State) (a : Nat) (w : Word) : (s.setReg a w).mapped = s.mapped := (rfl)
@[simp] theorem State.setReg_started (s : State) (a : Nat) (w : Word) : (s.setReg a w).started = s.started := (rfl)
@[simp] theorem State.setReg_freeCtr (s : State) (a : Nat) (w : Word) : (s.setReg a w).freeCtr = s.freeCtr := (rfl)

/-! ### modCh -/

@[simp] theorem State.modCh_pending (s : State) (c : Nat) (f : Chan → Chan) : (s.modCh c f).pending = s.pending := (rfl)
@[simp] theorem State.modCh_phase (s : State) (c : Nat) (f : Chan → Chan) : (s.modCh c f).phase = s.phase := (rfl)
@[simp] theorem State.modCh_osc (s : State) (c : Nat) (f : Chan → Chan) : (s.modCh c f).osc = s.osc := (rfl)
@[simp] theorem State.modCh_owl (s : State) (c : Nat) (f : Chan → Chan) : (s.modCh c f).owl = s.owl := (rfl)
@[simp] theorem State.modCh_straps (s : State) (c : Nat) (f : Chan → Chan) : (s.modCh c f).straps = s.straps := (rfl)
@[simp] theorem State.modCh_regs (s : State) (c : Nat) (f : Chan → Chan) : (s.modCh c f).regs = s.regs := (rfl)
@[simp] theorem State.modCh_copies (s : State) (c : Nat) (f : Chan → Chan) : (s.modCh c f).copies = s.copies := (rfl)
@[simp] theorem State.modCh_badPar (s : State) (c : Nat) (f : Chan → Chan) : (s.modCh c f).badPar = s.badPar := (rfl)
@[simp] theorem State.modCh_trpBad (s : State) (c : Nat) (f : Chan → Chan) : (s.modCh c f).trpBad = s.trpBad := (rfl)
@[simp] theorem State.modCh_tables (s : State) (c : Nat) (f : Chan → Chan) : (s.modCh c f).tables = s.tables := (rfl)
@[simp] theorem State.modCh_tblBad (s : State) (c : Nat) (f : Chan → Chan) : (s.modCh c f).tblBad = s.tblBad := (rfl)
@[simp] theorem State.modCh_groups (s : State) (c : Nat) (f : Chan → Chan) : (s.modCh c f).groups = s.groups := (rfl)
@[simp] theorem State.modCh_policers (s : State) (c : Nat) (f : Chan → Chan) : (s.modCh c f).policers = s.policers := (rfl)
@[simp] theorem State.modCh_foxes (s : State) (c : Nat) (f : Chan → Chan) : (s.modCh c f).foxes = s.foxes := (rfl)
@[simp] theorem State.modCh_lastRoam (s : State) (c : Nat) (f : Chan → Chan) : (s.modCh c f).lastRoam = s.lastRoam := (rfl)
@[simp] theorem State.modCh_pgs (s : State) (c : Nat) (f : Chan → Chan) : (s.modCh c f).pgs = s.pgs := (rfl)
@[simp] theorem State.modCh_reds (s : State) (c : Nat) (f : Chan → Chan) : (s.modCh c f).reds = s.reds := (rfl)
@[simp] theorem State.modCh_frers (s : State) (c : Nat) (f : Chan → Chan) : (s.modCh c f).frers = s.frers := (rfl)
@[simp] theorem State.modCh_snoopRest (s : State) (c : Nat) (f : Chan → Chan) : (s.modCh c f).snoopRest = s.snoopRest := (rfl)
@[simp] theorem State.modCh_memWake (s : State) (c : Nat) (f : Chan → Chan) : (s.modCh c f).memWake = s.memWake := (rfl)
@[simp] theorem State.modCh_memSleep (s : State) (c : Nat) (f : Chan → Chan) : (s.modCh c f).memSleep = s.memSleep := (rfl)
@[simp] theorem State.modCh_memNoteTill (s : State) (c : Nat) (f : Chan → Chan) : (s.modCh c f).memNoteTill = s.memNoteTill := (rfl)
@[simp] theorem State.modCh_twin (s : State) (c : Nat) (f : Chan → Chan) : (s.modCh c f).twin = s.twin := (rfl)
@[simp] theorem State.modCh_refs (s : State) (c : Nat) (f : Chan → Chan) : (s.modCh c f).refs = s.refs := (rfl)
@[simp] theorem State.modCh_time (s : State) (c : Nat) (f : Chan → Chan) : (s.modCh c f).time = s.time := (rfl)
@[simp] theorem State.modCh_cmd (s : State) (c : Nat) (f : Chan → Chan) : (s.modCh c f).cmd = s.cmd := (rfl)
@[simp] theorem State.modCh_sessions (s : State) (c : Nat) (f : Chan → Chan) : (s.modCh c f).sessions = s.sessions := (rfl)
@[simp] theorem State.modCh_streams (s : State) (c : Nat) (f : Chan → Chan) : (s.modCh c f).streams = s.streams := (rfl)
@[simp] theorem State.modCh_events (s : State) (c : Nat) (f : Chan → Chan) : (s.modCh c f).events = s.events := (rfl)
@[simp] theorem State.modCh_holds (s : State) (c : Nat) (f : Chan → Chan) : (s.modCh c f).holds = s.holds := (rfl)
@[simp] theorem State.modCh_swap (s : State) (c : Nat) (f : Chan → Chan) : (s.modCh c f).swap = s.swap := (rfl)
@[simp] theorem State.modCh_tribs (s : State) (c : Nat) (f : Chan → Chan) : (s.modCh c f).tribs = s.tribs := (rfl)
@[simp] theorem State.modCh_faults (s : State) (c : Nat) (f : Chan → Chan) : (s.modCh c f).faults = s.faults := (rfl)
@[simp] theorem State.modCh_mgmt (s : State) (c : Nat) (f : Chan → Chan) : (s.modCh c f).mgmt = s.mgmt := (rfl)
@[simp] theorem State.modCh_deepAt (s : State) (c : Nat) (f : Chan → Chan) : (s.modCh c f).deepAt = s.deepAt := (rfl)
@[simp] theorem State.modCh_wakeAt (s : State) (c : Nat) (f : Chan → Chan) : (s.modCh c f).wakeAt = s.wakeAt := (rfl)
@[simp] theorem State.modCh_jtag (s : State) (c : Nat) (f : Chan → Chan) : (s.modCh c f).jtag = s.jtag := (rfl)
@[simp] theorem State.modCh_ppsOut (s : State) (c : Nat) (f : Chan → Chan) : (s.modCh c f).ppsOut = s.ppsOut := (rfl)
@[simp] theorem State.modCh_sampledAt (s : State) (c : Nat) (f : Chan → Chan) : (s.modCh c f).sampledAt = s.sampledAt := (rfl)
@[simp] theorem State.modCh_mapped (s : State) (c : Nat) (f : Chan → Chan) : (s.modCh c f).mapped = s.mapped := (rfl)
@[simp] theorem State.modCh_started (s : State) (c : Nat) (f : Chan → Chan) : (s.modCh c f).started = s.started := (rfl)
@[simp] theorem State.modCh_freeCtr (s : State) (c : Nat) (f : Chan → Chan) : (s.modCh c f).freeCtr = s.freeCtr := (rfl)

/-! ### modGrp -/

@[simp] theorem State.modGrp_pending (s : State) (g : Nat) (f : Group → Group) : (s.modGrp g f).pending = s.pending := (rfl)
@[simp] theorem State.modGrp_phase (s : State) (g : Nat) (f : Group → Group) : (s.modGrp g f).phase = s.phase := (rfl)
@[simp] theorem State.modGrp_osc (s : State) (g : Nat) (f : Group → Group) : (s.modGrp g f).osc = s.osc := (rfl)
@[simp] theorem State.modGrp_owl (s : State) (g : Nat) (f : Group → Group) : (s.modGrp g f).owl = s.owl := (rfl)
@[simp] theorem State.modGrp_straps (s : State) (g : Nat) (f : Group → Group) : (s.modGrp g f).straps = s.straps := (rfl)
@[simp] theorem State.modGrp_regs (s : State) (g : Nat) (f : Group → Group) : (s.modGrp g f).regs = s.regs := (rfl)
@[simp] theorem State.modGrp_copies (s : State) (g : Nat) (f : Group → Group) : (s.modGrp g f).copies = s.copies := (rfl)
@[simp] theorem State.modGrp_badPar (s : State) (g : Nat) (f : Group → Group) : (s.modGrp g f).badPar = s.badPar := (rfl)
@[simp] theorem State.modGrp_trpBad (s : State) (g : Nat) (f : Group → Group) : (s.modGrp g f).trpBad = s.trpBad := (rfl)
@[simp] theorem State.modGrp_tables (s : State) (g : Nat) (f : Group → Group) : (s.modGrp g f).tables = s.tables := (rfl)
@[simp] theorem State.modGrp_tblBad (s : State) (g : Nat) (f : Group → Group) : (s.modGrp g f).tblBad = s.tblBad := (rfl)
@[simp] theorem State.modGrp_chans (s : State) (g : Nat) (f : Group → Group) : (s.modGrp g f).chans = s.chans := (rfl)
@[simp] theorem State.modGrp_policers (s : State) (g : Nat) (f : Group → Group) : (s.modGrp g f).policers = s.policers := (rfl)
@[simp] theorem State.modGrp_foxes (s : State) (g : Nat) (f : Group → Group) : (s.modGrp g f).foxes = s.foxes := (rfl)
@[simp] theorem State.modGrp_lastRoam (s : State) (g : Nat) (f : Group → Group) : (s.modGrp g f).lastRoam = s.lastRoam := (rfl)
@[simp] theorem State.modGrp_pgs (s : State) (g : Nat) (f : Group → Group) : (s.modGrp g f).pgs = s.pgs := (rfl)
@[simp] theorem State.modGrp_reds (s : State) (g : Nat) (f : Group → Group) : (s.modGrp g f).reds = s.reds := (rfl)
@[simp] theorem State.modGrp_frers (s : State) (g : Nat) (f : Group → Group) : (s.modGrp g f).frers = s.frers := (rfl)
@[simp] theorem State.modGrp_snoopRest (s : State) (g : Nat) (f : Group → Group) : (s.modGrp g f).snoopRest = s.snoopRest := (rfl)
@[simp] theorem State.modGrp_memWake (s : State) (g : Nat) (f : Group → Group) : (s.modGrp g f).memWake = s.memWake := (rfl)
@[simp] theorem State.modGrp_memSleep (s : State) (g : Nat) (f : Group → Group) : (s.modGrp g f).memSleep = s.memSleep := (rfl)
@[simp] theorem State.modGrp_memNoteTill (s : State) (g : Nat) (f : Group → Group) : (s.modGrp g f).memNoteTill = s.memNoteTill := (rfl)
@[simp] theorem State.modGrp_twin (s : State) (g : Nat) (f : Group → Group) : (s.modGrp g f).twin = s.twin := (rfl)
@[simp] theorem State.modGrp_refs (s : State) (g : Nat) (f : Group → Group) : (s.modGrp g f).refs = s.refs := (rfl)
@[simp] theorem State.modGrp_time (s : State) (g : Nat) (f : Group → Group) : (s.modGrp g f).time = s.time := (rfl)
@[simp] theorem State.modGrp_cmd (s : State) (g : Nat) (f : Group → Group) : (s.modGrp g f).cmd = s.cmd := (rfl)
@[simp] theorem State.modGrp_sessions (s : State) (g : Nat) (f : Group → Group) : (s.modGrp g f).sessions = s.sessions := (rfl)
@[simp] theorem State.modGrp_streams (s : State) (g : Nat) (f : Group → Group) : (s.modGrp g f).streams = s.streams := (rfl)
@[simp] theorem State.modGrp_events (s : State) (g : Nat) (f : Group → Group) : (s.modGrp g f).events = s.events := (rfl)
@[simp] theorem State.modGrp_holds (s : State) (g : Nat) (f : Group → Group) : (s.modGrp g f).holds = s.holds := (rfl)
@[simp] theorem State.modGrp_swap (s : State) (g : Nat) (f : Group → Group) : (s.modGrp g f).swap = s.swap := (rfl)
@[simp] theorem State.modGrp_tribs (s : State) (g : Nat) (f : Group → Group) : (s.modGrp g f).tribs = s.tribs := (rfl)
@[simp] theorem State.modGrp_faults (s : State) (g : Nat) (f : Group → Group) : (s.modGrp g f).faults = s.faults := (rfl)
@[simp] theorem State.modGrp_mgmt (s : State) (g : Nat) (f : Group → Group) : (s.modGrp g f).mgmt = s.mgmt := (rfl)
@[simp] theorem State.modGrp_deepAt (s : State) (g : Nat) (f : Group → Group) : (s.modGrp g f).deepAt = s.deepAt := (rfl)
@[simp] theorem State.modGrp_wakeAt (s : State) (g : Nat) (f : Group → Group) : (s.modGrp g f).wakeAt = s.wakeAt := (rfl)
@[simp] theorem State.modGrp_jtag (s : State) (g : Nat) (f : Group → Group) : (s.modGrp g f).jtag = s.jtag := (rfl)
@[simp] theorem State.modGrp_ppsOut (s : State) (g : Nat) (f : Group → Group) : (s.modGrp g f).ppsOut = s.ppsOut := (rfl)
@[simp] theorem State.modGrp_sampledAt (s : State) (g : Nat) (f : Group → Group) : (s.modGrp g f).sampledAt = s.sampledAt := (rfl)
@[simp] theorem State.modGrp_mapped (s : State) (g : Nat) (f : Group → Group) : (s.modGrp g f).mapped = s.mapped := (rfl)
@[simp] theorem State.modGrp_started (s : State) (g : Nat) (f : Group → Group) : (s.modGrp g f).started = s.started := (rfl)
@[simp] theorem State.modGrp_freeCtr (s : State) (g : Nat) (f : Group → Group) : (s.modGrp g f).freeCtr = s.freeCtr := (rfl)

/-! ### modFox -/

@[simp] theorem State.modFox_pending (s : State) (e : Nat) (f : Fox → Fox) : (s.modFox e f).pending = s.pending := (rfl)
@[simp] theorem State.modFox_phase (s : State) (e : Nat) (f : Fox → Fox) : (s.modFox e f).phase = s.phase := (rfl)
@[simp] theorem State.modFox_osc (s : State) (e : Nat) (f : Fox → Fox) : (s.modFox e f).osc = s.osc := (rfl)
@[simp] theorem State.modFox_owl (s : State) (e : Nat) (f : Fox → Fox) : (s.modFox e f).owl = s.owl := (rfl)
@[simp] theorem State.modFox_straps (s : State) (e : Nat) (f : Fox → Fox) : (s.modFox e f).straps = s.straps := (rfl)
@[simp] theorem State.modFox_regs (s : State) (e : Nat) (f : Fox → Fox) : (s.modFox e f).regs = s.regs := (rfl)
@[simp] theorem State.modFox_copies (s : State) (e : Nat) (f : Fox → Fox) : (s.modFox e f).copies = s.copies := (rfl)
@[simp] theorem State.modFox_badPar (s : State) (e : Nat) (f : Fox → Fox) : (s.modFox e f).badPar = s.badPar := (rfl)
@[simp] theorem State.modFox_trpBad (s : State) (e : Nat) (f : Fox → Fox) : (s.modFox e f).trpBad = s.trpBad := (rfl)
@[simp] theorem State.modFox_tables (s : State) (e : Nat) (f : Fox → Fox) : (s.modFox e f).tables = s.tables := (rfl)
@[simp] theorem State.modFox_tblBad (s : State) (e : Nat) (f : Fox → Fox) : (s.modFox e f).tblBad = s.tblBad := (rfl)
@[simp] theorem State.modFox_chans (s : State) (e : Nat) (f : Fox → Fox) : (s.modFox e f).chans = s.chans := (rfl)
@[simp] theorem State.modFox_groups (s : State) (e : Nat) (f : Fox → Fox) : (s.modFox e f).groups = s.groups := (rfl)
@[simp] theorem State.modFox_policers (s : State) (e : Nat) (f : Fox → Fox) : (s.modFox e f).policers = s.policers := (rfl)
@[simp] theorem State.modFox_lastRoam (s : State) (e : Nat) (f : Fox → Fox) : (s.modFox e f).lastRoam = s.lastRoam := (rfl)
@[simp] theorem State.modFox_pgs (s : State) (e : Nat) (f : Fox → Fox) : (s.modFox e f).pgs = s.pgs := (rfl)
@[simp] theorem State.modFox_reds (s : State) (e : Nat) (f : Fox → Fox) : (s.modFox e f).reds = s.reds := (rfl)
@[simp] theorem State.modFox_frers (s : State) (e : Nat) (f : Fox → Fox) : (s.modFox e f).frers = s.frers := (rfl)
@[simp] theorem State.modFox_snoopRest (s : State) (e : Nat) (f : Fox → Fox) : (s.modFox e f).snoopRest = s.snoopRest := (rfl)
@[simp] theorem State.modFox_memWake (s : State) (e : Nat) (f : Fox → Fox) : (s.modFox e f).memWake = s.memWake := (rfl)
@[simp] theorem State.modFox_memSleep (s : State) (e : Nat) (f : Fox → Fox) : (s.modFox e f).memSleep = s.memSleep := (rfl)
@[simp] theorem State.modFox_memNoteTill (s : State) (e : Nat) (f : Fox → Fox) : (s.modFox e f).memNoteTill = s.memNoteTill := (rfl)
@[simp] theorem State.modFox_twin (s : State) (e : Nat) (f : Fox → Fox) : (s.modFox e f).twin = s.twin := (rfl)
@[simp] theorem State.modFox_refs (s : State) (e : Nat) (f : Fox → Fox) : (s.modFox e f).refs = s.refs := (rfl)
@[simp] theorem State.modFox_time (s : State) (e : Nat) (f : Fox → Fox) : (s.modFox e f).time = s.time := (rfl)
@[simp] theorem State.modFox_cmd (s : State) (e : Nat) (f : Fox → Fox) : (s.modFox e f).cmd = s.cmd := (rfl)
@[simp] theorem State.modFox_sessions (s : State) (e : Nat) (f : Fox → Fox) : (s.modFox e f).sessions = s.sessions := (rfl)
@[simp] theorem State.modFox_streams (s : State) (e : Nat) (f : Fox → Fox) : (s.modFox e f).streams = s.streams := (rfl)
@[simp] theorem State.modFox_events (s : State) (e : Nat) (f : Fox → Fox) : (s.modFox e f).events = s.events := (rfl)
@[simp] theorem State.modFox_holds (s : State) (e : Nat) (f : Fox → Fox) : (s.modFox e f).holds = s.holds := (rfl)
@[simp] theorem State.modFox_swap (s : State) (e : Nat) (f : Fox → Fox) : (s.modFox e f).swap = s.swap := (rfl)
@[simp] theorem State.modFox_tribs (s : State) (e : Nat) (f : Fox → Fox) : (s.modFox e f).tribs = s.tribs := (rfl)
@[simp] theorem State.modFox_faults (s : State) (e : Nat) (f : Fox → Fox) : (s.modFox e f).faults = s.faults := (rfl)
@[simp] theorem State.modFox_mgmt (s : State) (e : Nat) (f : Fox → Fox) : (s.modFox e f).mgmt = s.mgmt := (rfl)
@[simp] theorem State.modFox_deepAt (s : State) (e : Nat) (f : Fox → Fox) : (s.modFox e f).deepAt = s.deepAt := (rfl)
@[simp] theorem State.modFox_wakeAt (s : State) (e : Nat) (f : Fox → Fox) : (s.modFox e f).wakeAt = s.wakeAt := (rfl)
@[simp] theorem State.modFox_jtag (s : State) (e : Nat) (f : Fox → Fox) : (s.modFox e f).jtag = s.jtag := (rfl)
@[simp] theorem State.modFox_ppsOut (s : State) (e : Nat) (f : Fox → Fox) : (s.modFox e f).ppsOut = s.ppsOut := (rfl)
@[simp] theorem State.modFox_sampledAt (s : State) (e : Nat) (f : Fox → Fox) : (s.modFox e f).sampledAt = s.sampledAt := (rfl)
@[simp] theorem State.modFox_mapped (s : State) (e : Nat) (f : Fox → Fox) : (s.modFox e f).mapped = s.mapped := (rfl)
@[simp] theorem State.modFox_started (s : State) (e : Nat) (f : Fox → Fox) : (s.modFox e f).started = s.started := (rfl)
@[simp] theorem State.modFox_freeCtr (s : State) (e : Nat) (f : Fox → Fox) : (s.modFox e f).freeCtr = s.freeCtr := (rfl)

/-! ### modPg -/

@[simp] theorem State.modPg_pending (s : State) (p : Nat) (f : Pg → Pg) : (s.modPg p f).pending = s.pending := (rfl)
@[simp] theorem State.modPg_phase (s : State) (p : Nat) (f : Pg → Pg) : (s.modPg p f).phase = s.phase := (rfl)
@[simp] theorem State.modPg_osc (s : State) (p : Nat) (f : Pg → Pg) : (s.modPg p f).osc = s.osc := (rfl)
@[simp] theorem State.modPg_owl (s : State) (p : Nat) (f : Pg → Pg) : (s.modPg p f).owl = s.owl := (rfl)
@[simp] theorem State.modPg_straps (s : State) (p : Nat) (f : Pg → Pg) : (s.modPg p f).straps = s.straps := (rfl)
@[simp] theorem State.modPg_regs (s : State) (p : Nat) (f : Pg → Pg) : (s.modPg p f).regs = s.regs := (rfl)
@[simp] theorem State.modPg_copies (s : State) (p : Nat) (f : Pg → Pg) : (s.modPg p f).copies = s.copies := (rfl)
@[simp] theorem State.modPg_badPar (s : State) (p : Nat) (f : Pg → Pg) : (s.modPg p f).badPar = s.badPar := (rfl)
@[simp] theorem State.modPg_trpBad (s : State) (p : Nat) (f : Pg → Pg) : (s.modPg p f).trpBad = s.trpBad := (rfl)
@[simp] theorem State.modPg_tables (s : State) (p : Nat) (f : Pg → Pg) : (s.modPg p f).tables = s.tables := (rfl)
@[simp] theorem State.modPg_tblBad (s : State) (p : Nat) (f : Pg → Pg) : (s.modPg p f).tblBad = s.tblBad := (rfl)
@[simp] theorem State.modPg_chans (s : State) (p : Nat) (f : Pg → Pg) : (s.modPg p f).chans = s.chans := (rfl)
@[simp] theorem State.modPg_groups (s : State) (p : Nat) (f : Pg → Pg) : (s.modPg p f).groups = s.groups := (rfl)
@[simp] theorem State.modPg_policers (s : State) (p : Nat) (f : Pg → Pg) : (s.modPg p f).policers = s.policers := (rfl)
@[simp] theorem State.modPg_foxes (s : State) (p : Nat) (f : Pg → Pg) : (s.modPg p f).foxes = s.foxes := (rfl)
@[simp] theorem State.modPg_lastRoam (s : State) (p : Nat) (f : Pg → Pg) : (s.modPg p f).lastRoam = s.lastRoam := (rfl)
@[simp] theorem State.modPg_reds (s : State) (p : Nat) (f : Pg → Pg) : (s.modPg p f).reds = s.reds := (rfl)
@[simp] theorem State.modPg_frers (s : State) (p : Nat) (f : Pg → Pg) : (s.modPg p f).frers = s.frers := (rfl)
@[simp] theorem State.modPg_snoopRest (s : State) (p : Nat) (f : Pg → Pg) : (s.modPg p f).snoopRest = s.snoopRest := (rfl)
@[simp] theorem State.modPg_memWake (s : State) (p : Nat) (f : Pg → Pg) : (s.modPg p f).memWake = s.memWake := (rfl)
@[simp] theorem State.modPg_memSleep (s : State) (p : Nat) (f : Pg → Pg) : (s.modPg p f).memSleep = s.memSleep := (rfl)
@[simp] theorem State.modPg_memNoteTill (s : State) (p : Nat) (f : Pg → Pg) : (s.modPg p f).memNoteTill = s.memNoteTill := (rfl)
@[simp] theorem State.modPg_twin (s : State) (p : Nat) (f : Pg → Pg) : (s.modPg p f).twin = s.twin := (rfl)
@[simp] theorem State.modPg_refs (s : State) (p : Nat) (f : Pg → Pg) : (s.modPg p f).refs = s.refs := (rfl)
@[simp] theorem State.modPg_time (s : State) (p : Nat) (f : Pg → Pg) : (s.modPg p f).time = s.time := (rfl)
@[simp] theorem State.modPg_cmd (s : State) (p : Nat) (f : Pg → Pg) : (s.modPg p f).cmd = s.cmd := (rfl)
@[simp] theorem State.modPg_sessions (s : State) (p : Nat) (f : Pg → Pg) : (s.modPg p f).sessions = s.sessions := (rfl)
@[simp] theorem State.modPg_streams (s : State) (p : Nat) (f : Pg → Pg) : (s.modPg p f).streams = s.streams := (rfl)
@[simp] theorem State.modPg_events (s : State) (p : Nat) (f : Pg → Pg) : (s.modPg p f).events = s.events := (rfl)
@[simp] theorem State.modPg_holds (s : State) (p : Nat) (f : Pg → Pg) : (s.modPg p f).holds = s.holds := (rfl)
@[simp] theorem State.modPg_swap (s : State) (p : Nat) (f : Pg → Pg) : (s.modPg p f).swap = s.swap := (rfl)
@[simp] theorem State.modPg_tribs (s : State) (p : Nat) (f : Pg → Pg) : (s.modPg p f).tribs = s.tribs := (rfl)
@[simp] theorem State.modPg_faults (s : State) (p : Nat) (f : Pg → Pg) : (s.modPg p f).faults = s.faults := (rfl)
@[simp] theorem State.modPg_mgmt (s : State) (p : Nat) (f : Pg → Pg) : (s.modPg p f).mgmt = s.mgmt := (rfl)
@[simp] theorem State.modPg_deepAt (s : State) (p : Nat) (f : Pg → Pg) : (s.modPg p f).deepAt = s.deepAt := (rfl)
@[simp] theorem State.modPg_wakeAt (s : State) (p : Nat) (f : Pg → Pg) : (s.modPg p f).wakeAt = s.wakeAt := (rfl)
@[simp] theorem State.modPg_jtag (s : State) (p : Nat) (f : Pg → Pg) : (s.modPg p f).jtag = s.jtag := (rfl)
@[simp] theorem State.modPg_ppsOut (s : State) (p : Nat) (f : Pg → Pg) : (s.modPg p f).ppsOut = s.ppsOut := (rfl)
@[simp] theorem State.modPg_sampledAt (s : State) (p : Nat) (f : Pg → Pg) : (s.modPg p f).sampledAt = s.sampledAt := (rfl)
@[simp] theorem State.modPg_mapped (s : State) (p : Nat) (f : Pg → Pg) : (s.modPg p f).mapped = s.mapped := (rfl)
@[simp] theorem State.modPg_started (s : State) (p : Nat) (f : Pg → Pg) : (s.modPg p f).started = s.started := (rfl)
@[simp] theorem State.modPg_freeCtr (s : State) (p : Nat) (f : Pg → Pg) : (s.modPg p f).freeCtr = s.freeCtr := (rfl)

/-! ### modRed -/

@[simp] theorem State.modRed_pending (s : State) (n : Nat) (f : Red → Red) : (s.modRed n f).pending = s.pending := (rfl)
@[simp] theorem State.modRed_phase (s : State) (n : Nat) (f : Red → Red) : (s.modRed n f).phase = s.phase := (rfl)
@[simp] theorem State.modRed_osc (s : State) (n : Nat) (f : Red → Red) : (s.modRed n f).osc = s.osc := (rfl)
@[simp] theorem State.modRed_owl (s : State) (n : Nat) (f : Red → Red) : (s.modRed n f).owl = s.owl := (rfl)
@[simp] theorem State.modRed_straps (s : State) (n : Nat) (f : Red → Red) : (s.modRed n f).straps = s.straps := (rfl)
@[simp] theorem State.modRed_regs (s : State) (n : Nat) (f : Red → Red) : (s.modRed n f).regs = s.regs := (rfl)
@[simp] theorem State.modRed_copies (s : State) (n : Nat) (f : Red → Red) : (s.modRed n f).copies = s.copies := (rfl)
@[simp] theorem State.modRed_badPar (s : State) (n : Nat) (f : Red → Red) : (s.modRed n f).badPar = s.badPar := (rfl)
@[simp] theorem State.modRed_trpBad (s : State) (n : Nat) (f : Red → Red) : (s.modRed n f).trpBad = s.trpBad := (rfl)
@[simp] theorem State.modRed_tables (s : State) (n : Nat) (f : Red → Red) : (s.modRed n f).tables = s.tables := (rfl)
@[simp] theorem State.modRed_tblBad (s : State) (n : Nat) (f : Red → Red) : (s.modRed n f).tblBad = s.tblBad := (rfl)
@[simp] theorem State.modRed_chans (s : State) (n : Nat) (f : Red → Red) : (s.modRed n f).chans = s.chans := (rfl)
@[simp] theorem State.modRed_groups (s : State) (n : Nat) (f : Red → Red) : (s.modRed n f).groups = s.groups := (rfl)
@[simp] theorem State.modRed_policers (s : State) (n : Nat) (f : Red → Red) : (s.modRed n f).policers = s.policers := (rfl)
@[simp] theorem State.modRed_foxes (s : State) (n : Nat) (f : Red → Red) : (s.modRed n f).foxes = s.foxes := (rfl)
@[simp] theorem State.modRed_lastRoam (s : State) (n : Nat) (f : Red → Red) : (s.modRed n f).lastRoam = s.lastRoam := (rfl)
@[simp] theorem State.modRed_pgs (s : State) (n : Nat) (f : Red → Red) : (s.modRed n f).pgs = s.pgs := (rfl)
@[simp] theorem State.modRed_frers (s : State) (n : Nat) (f : Red → Red) : (s.modRed n f).frers = s.frers := (rfl)
@[simp] theorem State.modRed_snoopRest (s : State) (n : Nat) (f : Red → Red) : (s.modRed n f).snoopRest = s.snoopRest := (rfl)
@[simp] theorem State.modRed_memWake (s : State) (n : Nat) (f : Red → Red) : (s.modRed n f).memWake = s.memWake := (rfl)
@[simp] theorem State.modRed_memSleep (s : State) (n : Nat) (f : Red → Red) : (s.modRed n f).memSleep = s.memSleep := (rfl)
@[simp] theorem State.modRed_memNoteTill (s : State) (n : Nat) (f : Red → Red) : (s.modRed n f).memNoteTill = s.memNoteTill := (rfl)
@[simp] theorem State.modRed_twin (s : State) (n : Nat) (f : Red → Red) : (s.modRed n f).twin = s.twin := (rfl)
@[simp] theorem State.modRed_refs (s : State) (n : Nat) (f : Red → Red) : (s.modRed n f).refs = s.refs := (rfl)
@[simp] theorem State.modRed_time (s : State) (n : Nat) (f : Red → Red) : (s.modRed n f).time = s.time := (rfl)
@[simp] theorem State.modRed_cmd (s : State) (n : Nat) (f : Red → Red) : (s.modRed n f).cmd = s.cmd := (rfl)
@[simp] theorem State.modRed_sessions (s : State) (n : Nat) (f : Red → Red) : (s.modRed n f).sessions = s.sessions := (rfl)
@[simp] theorem State.modRed_streams (s : State) (n : Nat) (f : Red → Red) : (s.modRed n f).streams = s.streams := (rfl)
@[simp] theorem State.modRed_events (s : State) (n : Nat) (f : Red → Red) : (s.modRed n f).events = s.events := (rfl)
@[simp] theorem State.modRed_holds (s : State) (n : Nat) (f : Red → Red) : (s.modRed n f).holds = s.holds := (rfl)
@[simp] theorem State.modRed_swap (s : State) (n : Nat) (f : Red → Red) : (s.modRed n f).swap = s.swap := (rfl)
@[simp] theorem State.modRed_tribs (s : State) (n : Nat) (f : Red → Red) : (s.modRed n f).tribs = s.tribs := (rfl)
@[simp] theorem State.modRed_faults (s : State) (n : Nat) (f : Red → Red) : (s.modRed n f).faults = s.faults := (rfl)
@[simp] theorem State.modRed_mgmt (s : State) (n : Nat) (f : Red → Red) : (s.modRed n f).mgmt = s.mgmt := (rfl)
@[simp] theorem State.modRed_deepAt (s : State) (n : Nat) (f : Red → Red) : (s.modRed n f).deepAt = s.deepAt := (rfl)
@[simp] theorem State.modRed_wakeAt (s : State) (n : Nat) (f : Red → Red) : (s.modRed n f).wakeAt = s.wakeAt := (rfl)
@[simp] theorem State.modRed_jtag (s : State) (n : Nat) (f : Red → Red) : (s.modRed n f).jtag = s.jtag := (rfl)
@[simp] theorem State.modRed_ppsOut (s : State) (n : Nat) (f : Red → Red) : (s.modRed n f).ppsOut = s.ppsOut := (rfl)
@[simp] theorem State.modRed_sampledAt (s : State) (n : Nat) (f : Red → Red) : (s.modRed n f).sampledAt = s.sampledAt := (rfl)
@[simp] theorem State.modRed_mapped (s : State) (n : Nat) (f : Red → Red) : (s.modRed n f).mapped = s.mapped := (rfl)
@[simp] theorem State.modRed_started (s : State) (n : Nat) (f : Red → Red) : (s.modRed n f).started = s.started := (rfl)
@[simp] theorem State.modRed_freeCtr (s : State) (n : Nat) (f : Red → Red) : (s.modRed n f).freeCtr = s.freeCtr := (rfl)

/-! ### modFrer -/

@[simp] theorem State.modFrer_pending (s : State) (n : Nat) (f : Frer → Frer) : (s.modFrer n f).pending = s.pending := (rfl)
@[simp] theorem State.modFrer_phase (s : State) (n : Nat) (f : Frer → Frer) : (s.modFrer n f).phase = s.phase := (rfl)
@[simp] theorem State.modFrer_osc (s : State) (n : Nat) (f : Frer → Frer) : (s.modFrer n f).osc = s.osc := (rfl)
@[simp] theorem State.modFrer_owl (s : State) (n : Nat) (f : Frer → Frer) : (s.modFrer n f).owl = s.owl := (rfl)
@[simp] theorem State.modFrer_straps (s : State) (n : Nat) (f : Frer → Frer) : (s.modFrer n f).straps = s.straps := (rfl)
@[simp] theorem State.modFrer_regs (s : State) (n : Nat) (f : Frer → Frer) : (s.modFrer n f).regs = s.regs := (rfl)
@[simp] theorem State.modFrer_copies (s : State) (n : Nat) (f : Frer → Frer) : (s.modFrer n f).copies = s.copies := (rfl)
@[simp] theorem State.modFrer_badPar (s : State) (n : Nat) (f : Frer → Frer) : (s.modFrer n f).badPar = s.badPar := (rfl)
@[simp] theorem State.modFrer_trpBad (s : State) (n : Nat) (f : Frer → Frer) : (s.modFrer n f).trpBad = s.trpBad := (rfl)
@[simp] theorem State.modFrer_tables (s : State) (n : Nat) (f : Frer → Frer) : (s.modFrer n f).tables = s.tables := (rfl)
@[simp] theorem State.modFrer_tblBad (s : State) (n : Nat) (f : Frer → Frer) : (s.modFrer n f).tblBad = s.tblBad := (rfl)
@[simp] theorem State.modFrer_chans (s : State) (n : Nat) (f : Frer → Frer) : (s.modFrer n f).chans = s.chans := (rfl)
@[simp] theorem State.modFrer_groups (s : State) (n : Nat) (f : Frer → Frer) : (s.modFrer n f).groups = s.groups := (rfl)
@[simp] theorem State.modFrer_policers (s : State) (n : Nat) (f : Frer → Frer) : (s.modFrer n f).policers = s.policers := (rfl)
@[simp] theorem State.modFrer_foxes (s : State) (n : Nat) (f : Frer → Frer) : (s.modFrer n f).foxes = s.foxes := (rfl)
@[simp] theorem State.modFrer_lastRoam (s : State) (n : Nat) (f : Frer → Frer) : (s.modFrer n f).lastRoam = s.lastRoam := (rfl)
@[simp] theorem State.modFrer_pgs (s : State) (n : Nat) (f : Frer → Frer) : (s.modFrer n f).pgs = s.pgs := (rfl)
@[simp] theorem State.modFrer_reds (s : State) (n : Nat) (f : Frer → Frer) : (s.modFrer n f).reds = s.reds := (rfl)
@[simp] theorem State.modFrer_snoopRest (s : State) (n : Nat) (f : Frer → Frer) : (s.modFrer n f).snoopRest = s.snoopRest := (rfl)
@[simp] theorem State.modFrer_memWake (s : State) (n : Nat) (f : Frer → Frer) : (s.modFrer n f).memWake = s.memWake := (rfl)
@[simp] theorem State.modFrer_memSleep (s : State) (n : Nat) (f : Frer → Frer) : (s.modFrer n f).memSleep = s.memSleep := (rfl)
@[simp] theorem State.modFrer_memNoteTill (s : State) (n : Nat) (f : Frer → Frer) : (s.modFrer n f).memNoteTill = s.memNoteTill := (rfl)
@[simp] theorem State.modFrer_twin (s : State) (n : Nat) (f : Frer → Frer) : (s.modFrer n f).twin = s.twin := (rfl)
@[simp] theorem State.modFrer_refs (s : State) (n : Nat) (f : Frer → Frer) : (s.modFrer n f).refs = s.refs := (rfl)
@[simp] theorem State.modFrer_time (s : State) (n : Nat) (f : Frer → Frer) : (s.modFrer n f).time = s.time := (rfl)
@[simp] theorem State.modFrer_cmd (s : State) (n : Nat) (f : Frer → Frer) : (s.modFrer n f).cmd = s.cmd := (rfl)
@[simp] theorem State.modFrer_sessions (s : State) (n : Nat) (f : Frer → Frer) : (s.modFrer n f).sessions = s.sessions := (rfl)
@[simp] theorem State.modFrer_streams (s : State) (n : Nat) (f : Frer → Frer) : (s.modFrer n f).streams = s.streams := (rfl)
@[simp] theorem State.modFrer_events (s : State) (n : Nat) (f : Frer → Frer) : (s.modFrer n f).events = s.events := (rfl)
@[simp] theorem State.modFrer_holds (s : State) (n : Nat) (f : Frer → Frer) : (s.modFrer n f).holds = s.holds := (rfl)
@[simp] theorem State.modFrer_swap (s : State) (n : Nat) (f : Frer → Frer) : (s.modFrer n f).swap = s.swap := (rfl)
@[simp] theorem State.modFrer_tribs (s : State) (n : Nat) (f : Frer → Frer) : (s.modFrer n f).tribs = s.tribs := (rfl)
@[simp] theorem State.modFrer_faults (s : State) (n : Nat) (f : Frer → Frer) : (s.modFrer n f).faults = s.faults := (rfl)
@[simp] theorem State.modFrer_mgmt (s : State) (n : Nat) (f : Frer → Frer) : (s.modFrer n f).mgmt = s.mgmt := (rfl)
@[simp] theorem State.modFrer_deepAt (s : State) (n : Nat) (f : Frer → Frer) : (s.modFrer n f).deepAt = s.deepAt := (rfl)
@[simp] theorem State.modFrer_wakeAt (s : State) (n : Nat) (f : Frer → Frer) : (s.modFrer n f).wakeAt = s.wakeAt := (rfl)
@[simp] theorem State.modFrer_jtag (s : State) (n : Nat) (f : Frer → Frer) : (s.modFrer n f).jtag = s.jtag := (rfl)
@[simp] theorem State.modFrer_ppsOut (s : State) (n : Nat) (f : Frer → Frer) : (s.modFrer n f).ppsOut = s.ppsOut := (rfl)
@[simp] theorem State.modFrer_sampledAt (s : State) (n : Nat) (f : Frer → Frer) : (s.modFrer n f).sampledAt = s.sampledAt := (rfl)
@[simp] theorem State.modFrer_mapped (s : State) (n : Nat) (f : Frer → Frer) : (s.modFrer n f).mapped = s.mapped := (rfl)
@[simp] theorem State.modFrer_started (s : State) (n : Nat) (f : Frer → Frer) : (s.modFrer n f).started = s.started := (rfl)
@[simp] theorem State.modFrer_freeCtr (s : State) (n : Nat) (f : Frer → Frer) : (s.modFrer n f).freeCtr = s.freeCtr := (rfl)

/-! ### modTwin -/

@[simp] theorem State.modTwin_pending (s : State) (f : Twin → Twin) : (s.modTwin f).pending = s.pending := (rfl)
@[simp] theorem State.modTwin_phase (s : State) (f : Twin → Twin) : (s.modTwin f).phase = s.phase := (rfl)
@[simp] theorem State.modTwin_osc (s : State) (f : Twin → Twin) : (s.modTwin f).osc = s.osc := (rfl)
@[simp] theorem State.modTwin_owl (s : State) (f : Twin → Twin) : (s.modTwin f).owl = s.owl := (rfl)
@[simp] theorem State.modTwin_straps (s : State) (f : Twin → Twin) : (s.modTwin f).straps = s.straps := (rfl)
@[simp] theorem State.modTwin_regs (s : State) (f : Twin → Twin) : (s.modTwin f).regs = s.regs := (rfl)
@[simp] theorem State.modTwin_copies (s : State) (f : Twin → Twin) : (s.modTwin f).copies = s.copies := (rfl)
@[simp] theorem State.modTwin_badPar (s : State) (f : Twin → Twin) : (s.modTwin f).badPar = s.badPar := (rfl)
@[simp] theorem State.modTwin_trpBad (s : State) (f : Twin → Twin) : (s.modTwin f).trpBad = s.trpBad := (rfl)
@[simp] theorem State.modTwin_tables (s : State) (f : Twin → Twin) : (s.modTwin f).tables = s.tables := (rfl)
@[simp] theorem State.modTwin_tblBad (s : State) (f : Twin → Twin) : (s.modTwin f).tblBad = s.tblBad := (rfl)
@[simp] theorem State.modTwin_chans (s : State) (f : Twin → Twin) : (s.modTwin f).chans = s.chans := (rfl)
@[simp] theorem State.modTwin_groups (s : State) (f : Twin → Twin) : (s.modTwin f).groups = s.groups := (rfl)
@[simp] theorem State.modTwin_policers (s : State) (f : Twin → Twin) : (s.modTwin f).policers = s.policers := (rfl)
@[simp] theorem State.modTwin_foxes (s : State) (f : Twin → Twin) : (s.modTwin f).foxes = s.foxes := (rfl)
@[simp] theorem State.modTwin_lastRoam (s : State) (f : Twin → Twin) : (s.modTwin f).lastRoam = s.lastRoam := (rfl)
@[simp] theorem State.modTwin_pgs (s : State) (f : Twin → Twin) : (s.modTwin f).pgs = s.pgs := (rfl)
@[simp] theorem State.modTwin_reds (s : State) (f : Twin → Twin) : (s.modTwin f).reds = s.reds := (rfl)
@[simp] theorem State.modTwin_frers (s : State) (f : Twin → Twin) : (s.modTwin f).frers = s.frers := (rfl)
@[simp] theorem State.modTwin_snoopRest (s : State) (f : Twin → Twin) : (s.modTwin f).snoopRest = s.snoopRest := (rfl)
@[simp] theorem State.modTwin_memWake (s : State) (f : Twin → Twin) : (s.modTwin f).memWake = s.memWake := (rfl)
@[simp] theorem State.modTwin_memSleep (s : State) (f : Twin → Twin) : (s.modTwin f).memSleep = s.memSleep := (rfl)
@[simp] theorem State.modTwin_memNoteTill (s : State) (f : Twin → Twin) : (s.modTwin f).memNoteTill = s.memNoteTill := (rfl)
@[simp] theorem State.modTwin_refs (s : State) (f : Twin → Twin) : (s.modTwin f).refs = s.refs := (rfl)
@[simp] theorem State.modTwin_time (s : State) (f : Twin → Twin) : (s.modTwin f).time = s.time := (rfl)
@[simp] theorem State.modTwin_cmd (s : State) (f : Twin → Twin) : (s.modTwin f).cmd = s.cmd := (rfl)
@[simp] theorem State.modTwin_sessions (s : State) (f : Twin → Twin) : (s.modTwin f).sessions = s.sessions := (rfl)
@[simp] theorem State.modTwin_streams (s : State) (f : Twin → Twin) : (s.modTwin f).streams = s.streams := (rfl)
@[simp] theorem State.modTwin_events (s : State) (f : Twin → Twin) : (s.modTwin f).events = s.events := (rfl)
@[simp] theorem State.modTwin_holds (s : State) (f : Twin → Twin) : (s.modTwin f).holds = s.holds := (rfl)
@[simp] theorem State.modTwin_swap (s : State) (f : Twin → Twin) : (s.modTwin f).swap = s.swap := (rfl)
@[simp] theorem State.modTwin_tribs (s : State) (f : Twin → Twin) : (s.modTwin f).tribs = s.tribs := (rfl)
@[simp] theorem State.modTwin_faults (s : State) (f : Twin → Twin) : (s.modTwin f).faults = s.faults := (rfl)
@[simp] theorem State.modTwin_mgmt (s : State) (f : Twin → Twin) : (s.modTwin f).mgmt = s.mgmt := (rfl)
@[simp] theorem State.modTwin_deepAt (s : State) (f : Twin → Twin) : (s.modTwin f).deepAt = s.deepAt := (rfl)
@[simp] theorem State.modTwin_wakeAt (s : State) (f : Twin → Twin) : (s.modTwin f).wakeAt = s.wakeAt := (rfl)
@[simp] theorem State.modTwin_jtag (s : State) (f : Twin → Twin) : (s.modTwin f).jtag = s.jtag := (rfl)
@[simp] theorem State.modTwin_ppsOut (s : State) (f : Twin → Twin) : (s.modTwin f).ppsOut = s.ppsOut := (rfl)
@[simp] theorem State.modTwin_sampledAt (s : State) (f : Twin → Twin) : (s.modTwin f).sampledAt = s.sampledAt := (rfl)
@[simp] theorem State.modTwin_mapped (s : State) (f : Twin → Twin) : (s.modTwin f).mapped = s.mapped := (rfl)
@[simp] theorem State.modTwin_started (s : State) (f : Twin → Twin) : (s.modTwin f).started = s.started := (rfl)
@[simp] theorem State.modTwin_freeCtr (s : State) (f : Twin → Twin) : (s.modTwin f).freeCtr = s.freeCtr := (rfl)

/-! ### modRefs -/

@[simp] theorem State.modRefs_pending (s : State) (f : Refs → Refs) : (s.modRefs f).pending = s.pending := (rfl)
@[simp] theorem State.modRefs_phase (s : State) (f : Refs → Refs) : (s.modRefs f).phase = s.phase := (rfl)
@[simp] theorem State.modRefs_osc (s : State) (f : Refs → Refs) : (s.modRefs f).osc = s.osc := (rfl)
@[simp] theorem State.modRefs_owl (s : State) (f : Refs → Refs) : (s.modRefs f).owl = s.owl := (rfl)
@[simp] theorem State.modRefs_straps (s : State) (f : Refs → Refs) : (s.modRefs f).straps = s.straps := (rfl)
@[simp] theorem State.modRefs_regs (s : State) (f : Refs → Refs) : (s.modRefs f).regs = s.regs := (rfl)
@[simp] theorem State.modRefs_copies (s : State) (f : Refs → Refs) : (s.modRefs f).copies = s.copies := (rfl)
@[simp] theorem State.modRefs_badPar (s : State) (f : Refs → Refs) : (s.modRefs f).badPar = s.badPar := (rfl)
@[simp] theorem State.modRefs_trpBad (s : State) (f : Refs → Refs) : (s.modRefs f).trpBad = s.trpBad := (rfl)
@[simp] theorem State.modRefs_tables (s : State) (f : Refs → Refs) : (s.modRefs f).tables = s.tables := (rfl)
@[simp] theorem State.modRefs_tblBad (s : State) (f : Refs → Refs) : (s.modRefs f).tblBad = s.tblBad := (rfl)
@[simp] theorem State.modRefs_chans (s : State) (f : Refs → Refs) : (s.modRefs f).chans = s.chans := (rfl)
@[simp] theorem State.modRefs_groups (s : State) (f : Refs → Refs) : (s.modRefs f).groups = s.groups := (rfl)
@[simp] theorem State.modRefs_policers (s : State) (f : Refs → Refs) : (s.modRefs f).policers = s.policers := (rfl)
@[simp] theorem State.modRefs_foxes (s : State) (f : Refs → Refs) : (s.modRefs f).foxes = s.foxes := (rfl)
@[simp] theorem State.modRefs_lastRoam (s : State) (f : Refs → Refs) : (s.modRefs f).lastRoam = s.lastRoam := (rfl)
@[simp] theorem State.modRefs_pgs (s : State) (f : Refs → Refs) : (s.modRefs f).pgs = s.pgs := (rfl)
@[simp] theorem State.modRefs_reds (s : State) (f : Refs → Refs) : (s.modRefs f).reds = s.reds := (rfl)
@[simp] theorem State.modRefs_frers (s : State) (f : Refs → Refs) : (s.modRefs f).frers = s.frers := (rfl)
@[simp] theorem State.modRefs_snoopRest (s : State) (f : Refs → Refs) : (s.modRefs f).snoopRest = s.snoopRest := (rfl)
@[simp] theorem State.modRefs_memWake (s : State) (f : Refs → Refs) : (s.modRefs f).memWake = s.memWake := (rfl)
@[simp] theorem State.modRefs_memSleep (s : State) (f : Refs → Refs) : (s.modRefs f).memSleep = s.memSleep := (rfl)
@[simp] theorem State.modRefs_memNoteTill (s : State) (f : Refs → Refs) : (s.modRefs f).memNoteTill = s.memNoteTill := (rfl)
@[simp] theorem State.modRefs_twin (s : State) (f : Refs → Refs) : (s.modRefs f).twin = s.twin := (rfl)
@[simp] theorem State.modRefs_time (s : State) (f : Refs → Refs) : (s.modRefs f).time = s.time := (rfl)
@[simp] theorem State.modRefs_cmd (s : State) (f : Refs → Refs) : (s.modRefs f).cmd = s.cmd := (rfl)
@[simp] theorem State.modRefs_sessions (s : State) (f : Refs → Refs) : (s.modRefs f).sessions = s.sessions := (rfl)
@[simp] theorem State.modRefs_streams (s : State) (f : Refs → Refs) : (s.modRefs f).streams = s.streams := (rfl)
@[simp] theorem State.modRefs_events (s : State) (f : Refs → Refs) : (s.modRefs f).events = s.events := (rfl)
@[simp] theorem State.modRefs_holds (s : State) (f : Refs → Refs) : (s.modRefs f).holds = s.holds := (rfl)
@[simp] theorem State.modRefs_swap (s : State) (f : Refs → Refs) : (s.modRefs f).swap = s.swap := (rfl)
@[simp] theorem State.modRefs_tribs (s : State) (f : Refs → Refs) : (s.modRefs f).tribs = s.tribs := (rfl)
@[simp] theorem State.modRefs_faults (s : State) (f : Refs → Refs) : (s.modRefs f).faults = s.faults := (rfl)
@[simp] theorem State.modRefs_mgmt (s : State) (f : Refs → Refs) : (s.modRefs f).mgmt = s.mgmt := (rfl)
@[simp] theorem State.modRefs_deepAt (s : State) (f : Refs → Refs) : (s.modRefs f).deepAt = s.deepAt := (rfl)
@[simp] theorem State.modRefs_wakeAt (s : State) (f : Refs → Refs) : (s.modRefs f).wakeAt = s.wakeAt := (rfl)
@[simp] theorem State.modRefs_jtag (s : State) (f : Refs → Refs) : (s.modRefs f).jtag = s.jtag := (rfl)
@[simp] theorem State.modRefs_ppsOut (s : State) (f : Refs → Refs) : (s.modRefs f).ppsOut = s.ppsOut := (rfl)
@[simp] theorem State.modRefs_sampledAt (s : State) (f : Refs → Refs) : (s.modRefs f).sampledAt = s.sampledAt := (rfl)
@[simp] theorem State.modRefs_mapped (s : State) (f : Refs → Refs) : (s.modRefs f).mapped = s.mapped := (rfl)
@[simp] theorem State.modRefs_started (s : State) (f : Refs → Refs) : (s.modRefs f).started = s.started := (rfl)
@[simp] theorem State.modRefs_freeCtr (s : State) (f : Refs → Refs) : (s.modRefs f).freeCtr = s.freeCtr := (rfl)

/-! ### modMgmt -/

@[simp] theorem State.modMgmt_pending (s : State) (f : Mgmt → Mgmt) : (s.modMgmt f).pending = s.pending := (rfl)
@[simp] theorem State.modMgmt_phase (s : State) (f : Mgmt → Mgmt) : (s.modMgmt f).phase = s.phase := (rfl)
@[simp] theorem State.modMgmt_osc (s : State) (f : Mgmt → Mgmt) : (s.modMgmt f).osc = s.osc := (rfl)
@[simp] theorem State.modMgmt_owl (s : State) (f : Mgmt → Mgmt) : (s.modMgmt f).owl = s.owl := (rfl)
@[simp] theorem State.modMgmt_straps (s : State) (f : Mgmt → Mgmt) : (s.modMgmt f).straps = s.straps := (rfl)
@[simp] theorem State.modMgmt_regs (s : State) (f : Mgmt → Mgmt) : (s.modMgmt f).regs = s.regs := (rfl)
@[simp] theorem State.modMgmt_copies (s : State) (f : Mgmt → Mgmt) : (s.modMgmt f).copies = s.copies := (rfl)
@[simp] theorem State.modMgmt_badPar (s : State) (f : Mgmt → Mgmt) : (s.modMgmt f).badPar = s.badPar := (rfl)
@[simp] theorem State.modMgmt_trpBad (s : State) (f : Mgmt → Mgmt) : (s.modMgmt f).trpBad = s.trpBad := (rfl)
@[simp] theorem State.modMgmt_tables (s : State) (f : Mgmt → Mgmt) : (s.modMgmt f).tables = s.tables := (rfl)
@[simp] theorem State.modMgmt_tblBad (s : State) (f : Mgmt → Mgmt) : (s.modMgmt f).tblBad = s.tblBad := (rfl)
@[simp] theorem State.modMgmt_chans (s : State) (f : Mgmt → Mgmt) : (s.modMgmt f).chans = s.chans := (rfl)
@[simp] theorem State.modMgmt_groups (s : State) (f : Mgmt → Mgmt) : (s.modMgmt f).groups = s.groups := (rfl)
@[simp] theorem State.modMgmt_policers (s : State) (f : Mgmt → Mgmt) : (s.modMgmt f).policers = s.policers := (rfl)
@[simp] theorem State.modMgmt_foxes (s : State) (f : Mgmt → Mgmt) : (s.modMgmt f).foxes = s.foxes := (rfl)
@[simp] theorem State.modMgmt_lastRoam (s : State) (f : Mgmt → Mgmt) : (s.modMgmt f).lastRoam = s.lastRoam := (rfl)
@[simp] theorem State.modMgmt_pgs (s : State) (f : Mgmt → Mgmt) : (s.modMgmt f).pgs = s.pgs := (rfl)
@[simp] theorem State.modMgmt_reds (s : State) (f : Mgmt → Mgmt) : (s.modMgmt f).reds = s.reds := (rfl)
@[simp] theorem State.modMgmt_frers (s : State) (f : Mgmt → Mgmt) : (s.modMgmt f).frers = s.frers := (rfl)
@[simp] theorem State.modMgmt_snoopRest (s : State) (f : Mgmt → Mgmt) : (s.modMgmt f).snoopRest = s.snoopRest := (rfl)
@[simp] theorem State.modMgmt_memWake (s : State) (f : Mgmt → Mgmt) : (s.modMgmt f).memWake = s.memWake := (rfl)
@[simp] theorem State.modMgmt_memSleep (s : State) (f : Mgmt → Mgmt) : (s.modMgmt f).memSleep = s.memSleep := (rfl)
@[simp] theorem State.modMgmt_memNoteTill (s : State) (f : Mgmt → Mgmt) : (s.modMgmt f).memNoteTill = s.memNoteTill := (rfl)
@[simp] theorem State.modMgmt_twin (s : State) (f : Mgmt → Mgmt) : (s.modMgmt f).twin = s.twin := (rfl)
@[simp] theorem State.modMgmt_refs (s : State) (f : Mgmt → Mgmt) : (s.modMgmt f).refs = s.refs := (rfl)
@[simp] theorem State.modMgmt_time (s : State) (f : Mgmt → Mgmt) : (s.modMgmt f).time = s.time := (rfl)
@[simp] theorem State.modMgmt_cmd (s : State) (f : Mgmt → Mgmt) : (s.modMgmt f).cmd = s.cmd := (rfl)
@[simp] theorem State.modMgmt_sessions (s : State) (f : Mgmt → Mgmt) : (s.modMgmt f).sessions = s.sessions := (rfl)
@[simp] theorem State.modMgmt_streams (s : State) (f : Mgmt → Mgmt) : (s.modMgmt f).streams = s.streams := (rfl)
@[simp] theorem State.modMgmt_events (s : State) (f : Mgmt → Mgmt) : (s.modMgmt f).events = s.events := (rfl)
@[simp] theorem State.modMgmt_holds (s : State) (f : Mgmt → Mgmt) : (s.modMgmt f).holds = s.holds := (rfl)
@[simp] theorem State.modMgmt_swap (s : State) (f : Mgmt → Mgmt) : (s.modMgmt f).swap = s.swap := (rfl)
@[simp] theorem State.modMgmt_tribs (s : State) (f : Mgmt → Mgmt) : (s.modMgmt f).tribs = s.tribs := (rfl)
@[simp] theorem State.modMgmt_faults (s : State) (f : Mgmt → Mgmt) : (s.modMgmt f).faults = s.faults := (rfl)
@[simp] theorem State.modMgmt_deepAt (s : State) (f : Mgmt → Mgmt) : (s.modMgmt f).deepAt = s.deepAt := (rfl)
@[simp] theorem State.modMgmt_wakeAt (s : State) (f : Mgmt → Mgmt) : (s.modMgmt f).wakeAt = s.wakeAt := (rfl)
@[simp] theorem State.modMgmt_jtag (s : State) (f : Mgmt → Mgmt) : (s.modMgmt f).jtag = s.jtag := (rfl)
@[simp] theorem State.modMgmt_ppsOut (s : State) (f : Mgmt → Mgmt) : (s.modMgmt f).ppsOut = s.ppsOut := (rfl)
@[simp] theorem State.modMgmt_sampledAt (s : State) (f : Mgmt → Mgmt) : (s.modMgmt f).sampledAt = s.sampledAt := (rfl)
@[simp] theorem State.modMgmt_mapped (s : State) (f : Mgmt → Mgmt) : (s.modMgmt f).mapped = s.mapped := (rfl)
@[simp] theorem State.modMgmt_started (s : State) (f : Mgmt → Mgmt) : (s.modMgmt f).started = s.started := (rfl)
@[simp] theorem State.modMgmt_freeCtr (s : State) (f : Mgmt → Mgmt) : (s.modMgmt f).freeCtr = s.freeCtr := (rfl)

/-! ### modCmd -/

@[simp] theorem State.modCmd_pending (s : State) (f : Cmd → Cmd) : (s.modCmd f).pending = s.pending := (rfl)
@[simp] theorem State.modCmd_phase (s : State) (f : Cmd → Cmd) : (s.modCmd f).phase = s.phase := (rfl)
@[simp] theorem State.modCmd_osc (s : State) (f : Cmd → Cmd) : (s.modCmd f).osc = s.osc := (rfl)
@[simp] theorem State.modCmd_owl (s : State) (f : Cmd → Cmd) : (s.modCmd f).owl = s.owl := (rfl)
@[simp] theorem State.modCmd_straps (s : State) (f : Cmd → Cmd) : (s.modCmd f).straps = s.straps := (rfl)
@[simp] theorem State.modCmd_regs (s : State) (f : Cmd → Cmd) : (s.modCmd f).regs = s.regs := (rfl)
@[simp] theorem State.modCmd_copies (s : State) (f : Cmd → Cmd) : (s.modCmd f).copies = s.copies := (rfl)
@[simp] theorem State.modCmd_badPar (s : State) (f : Cmd → Cmd) : (s.modCmd f).badPar = s.badPar := (rfl)
@[simp] theorem State.modCmd_trpBad (s : State) (f : Cmd → Cmd) : (s.modCmd f).trpBad = s.trpBad := (rfl)
@[simp] theorem State.modCmd_tables (s : State) (f : Cmd → Cmd) : (s.modCmd f).tables = s.tables := (rfl)
@[simp] theorem State.modCmd_tblBad (s : State) (f : Cmd → Cmd) : (s.modCmd f).tblBad = s.tblBad := (rfl)
@[simp] theorem State.modCmd_chans (s : State) (f : Cmd → Cmd) : (s.modCmd f).chans = s.chans := (rfl)
@[simp] theorem State.modCmd_groups (s : State) (f : Cmd → Cmd) : (s.modCmd f).groups = s.groups := (rfl)
@[simp] theorem State.modCmd_policers (s : State) (f : Cmd → Cmd) : (s.modCmd f).policers = s.policers := (rfl)
@[simp] theorem State.modCmd_foxes (s : State) (f : Cmd → Cmd) : (s.modCmd f).foxes = s.foxes := (rfl)
@[simp] theorem State.modCmd_lastRoam (s : State) (f : Cmd → Cmd) : (s.modCmd f).lastRoam = s.lastRoam := (rfl)
@[simp] theorem State.modCmd_pgs (s : State) (f : Cmd → Cmd) : (s.modCmd f).pgs = s.pgs := (rfl)
@[simp] theorem State.modCmd_reds (s : State) (f : Cmd → Cmd) : (s.modCmd f).reds = s.reds := (rfl)
@[simp] theorem State.modCmd_frers (s : State) (f : Cmd → Cmd) : (s.modCmd f).frers = s.frers := (rfl)
@[simp] theorem State.modCmd_snoopRest (s : State) (f : Cmd → Cmd) : (s.modCmd f).snoopRest = s.snoopRest := (rfl)
@[simp] theorem State.modCmd_memWake (s : State) (f : Cmd → Cmd) : (s.modCmd f).memWake = s.memWake := (rfl)
@[simp] theorem State.modCmd_memSleep (s : State) (f : Cmd → Cmd) : (s.modCmd f).memSleep = s.memSleep := (rfl)
@[simp] theorem State.modCmd_memNoteTill (s : State) (f : Cmd → Cmd) : (s.modCmd f).memNoteTill = s.memNoteTill := (rfl)
@[simp] theorem State.modCmd_twin (s : State) (f : Cmd → Cmd) : (s.modCmd f).twin = s.twin := (rfl)
@[simp] theorem State.modCmd_refs (s : State) (f : Cmd → Cmd) : (s.modCmd f).refs = s.refs := (rfl)
@[simp] theorem State.modCmd_time (s : State) (f : Cmd → Cmd) : (s.modCmd f).time = s.time := (rfl)
@[simp] theorem State.modCmd_sessions (s : State) (f : Cmd → Cmd) : (s.modCmd f).sessions = s.sessions := (rfl)
@[simp] theorem State.modCmd_streams (s : State) (f : Cmd → Cmd) : (s.modCmd f).streams = s.streams := (rfl)
@[simp] theorem State.modCmd_events (s : State) (f : Cmd → Cmd) : (s.modCmd f).events = s.events := (rfl)
@[simp] theorem State.modCmd_holds (s : State) (f : Cmd → Cmd) : (s.modCmd f).holds = s.holds := (rfl)
@[simp] theorem State.modCmd_swap (s : State) (f : Cmd → Cmd) : (s.modCmd f).swap = s.swap := (rfl)
@[simp] theorem State.modCmd_tribs (s : State) (f : Cmd → Cmd) : (s.modCmd f).tribs = s.tribs := (rfl)
@[simp] theorem State.modCmd_faults (s : State) (f : Cmd → Cmd) : (s.modCmd f).faults = s.faults := (rfl)
@[simp] theorem State.modCmd_mgmt (s : State) (f : Cmd → Cmd) : (s.modCmd f).mgmt = s.mgmt := (rfl)
@[simp] theorem State.modCmd_deepAt (s : State) (f : Cmd → Cmd) : (s.modCmd f).deepAt = s.deepAt := (rfl)
@[simp] theorem State.modCmd_wakeAt (s : State) (f : Cmd → Cmd) : (s.modCmd f).wakeAt = s.wakeAt := (rfl)
@[simp] theorem State.modCmd_jtag (s : State) (f : Cmd → Cmd) : (s.modCmd f).jtag = s.jtag := (rfl)
@[simp] theorem State.modCmd_ppsOut (s : State) (f : Cmd → Cmd) : (s.modCmd f).ppsOut = s.ppsOut := (rfl)
@[simp] theorem State.modCmd_sampledAt (s : State) (f : Cmd → Cmd) : (s.modCmd f).sampledAt = s.sampledAt := (rfl)
@[simp] theorem State.modCmd_mapped (s : State) (f : Cmd → Cmd) : (s.modCmd f).mapped = s.mapped := (rfl)
@[simp] theorem State.modCmd_started (s : State) (f : Cmd → Cmd) : (s.modCmd f).started = s.started := (rfl)
@[simp] theorem State.modCmd_freeCtr (s : State) (f : Cmd → Cmd) : (s.modCmd f).freeCtr = s.freeCtr := (rfl)

/-! ### modFaults -/

@[simp] theorem State.modFaults_pending (s : State) (f : Faults → Faults) : (s.modFaults f).pending = s.pending := (rfl)
@[simp] theorem State.modFaults_phase (s : State) (f : Faults → Faults) : (s.modFaults f).phase = s.phase := (rfl)
@[simp] theorem State.modFaults_osc (s : State) (f : Faults → Faults) : (s.modFaults f).osc = s.osc := (rfl)
@[simp] theorem State.modFaults_owl (s : State) (f : Faults → Faults) : (s.modFaults f).owl = s.owl := (rfl)
@[simp] theorem State.modFaults_straps (s : State) (f : Faults → Faults) : (s.modFaults f).straps = s.straps := (rfl)
@[simp] theorem State.modFaults_regs (s : State) (f : Faults → Faults) : (s.modFaults f).regs = s.regs := (rfl)
@[simp] theorem State.modFaults_copies (s : State) (f : Faults → Faults) : (s.modFaults f).copies = s.copies := (rfl)
@[simp] theorem State.modFaults_badPar (s : State) (f : Faults → Faults) : (s.modFaults f).badPar = s.badPar := (rfl)
@[simp] theorem State.modFaults_trpBad (s : State) (f : Faults → Faults) : (s.modFaults f).trpBad = s.trpBad := (rfl)
@[simp] theorem State.modFaults_tables (s : State) (f : Faults → Faults) : (s.modFaults f).tables = s.tables := (rfl)
@[simp] theorem State.modFaults_tblBad (s : State) (f : Faults → Faults) : (s.modFaults f).tblBad = s.tblBad := (rfl)
@[simp] theorem State.modFaults_chans (s : State) (f : Faults → Faults) : (s.modFaults f).chans = s.chans := (rfl)
@[simp] theorem State.modFaults_groups (s : State) (f : Faults → Faults) : (s.modFaults f).groups = s.groups := (rfl)
@[simp] theorem State.modFaults_policers (s : State) (f : Faults → Faults) : (s.modFaults f).policers = s.policers := (rfl)
@[simp] theorem State.modFaults_foxes (s : State) (f : Faults → Faults) : (s.modFaults f).foxes = s.foxes := (rfl)
@[simp] theorem State.modFaults_lastRoam (s : State) (f : Faults → Faults) : (s.modFaults f).lastRoam = s.lastRoam := (rfl)
@[simp] theorem State.modFaults_pgs (s : State) (f : Faults → Faults) : (s.modFaults f).pgs = s.pgs := (rfl)
@[simp] theorem State.modFaults_reds (s : State) (f : Faults → Faults) : (s.modFaults f).reds = s.reds := (rfl)
@[simp] theorem State.modFaults_frers (s : State) (f : Faults → Faults) : (s.modFaults f).frers = s.frers := (rfl)
@[simp] theorem State.modFaults_snoopRest (s : State) (f : Faults → Faults) : (s.modFaults f).snoopRest = s.snoopRest := (rfl)
@[simp] theorem State.modFaults_memWake (s : State) (f : Faults → Faults) : (s.modFaults f).memWake = s.memWake := (rfl)
@[simp] theorem State.modFaults_memSleep (s : State) (f : Faults → Faults) : (s.modFaults f).memSleep = s.memSleep := (rfl)
@[simp] theorem State.modFaults_memNoteTill (s : State) (f : Faults → Faults) : (s.modFaults f).memNoteTill = s.memNoteTill := (rfl)
@[simp] theorem State.modFaults_twin (s : State) (f : Faults → Faults) : (s.modFaults f).twin = s.twin := (rfl)
@[simp] theorem State.modFaults_refs (s : State) (f : Faults → Faults) : (s.modFaults f).refs = s.refs := (rfl)
@[simp] theorem State.modFaults_time (s : State) (f : Faults → Faults) : (s.modFaults f).time = s.time := (rfl)
@[simp] theorem State.modFaults_cmd (s : State) (f : Faults → Faults) : (s.modFaults f).cmd = s.cmd := (rfl)
@[simp] theorem State.modFaults_sessions (s : State) (f : Faults → Faults) : (s.modFaults f).sessions = s.sessions := (rfl)
@[simp] theorem State.modFaults_streams (s : State) (f : Faults → Faults) : (s.modFaults f).streams = s.streams := (rfl)
@[simp] theorem State.modFaults_events (s : State) (f : Faults → Faults) : (s.modFaults f).events = s.events := (rfl)
@[simp] theorem State.modFaults_holds (s : State) (f : Faults → Faults) : (s.modFaults f).holds = s.holds := (rfl)
@[simp] theorem State.modFaults_swap (s : State) (f : Faults → Faults) : (s.modFaults f).swap = s.swap := (rfl)
@[simp] theorem State.modFaults_tribs (s : State) (f : Faults → Faults) : (s.modFaults f).tribs = s.tribs := (rfl)
@[simp] theorem State.modFaults_mgmt (s : State) (f : Faults → Faults) : (s.modFaults f).mgmt = s.mgmt := (rfl)
@[simp] theorem State.modFaults_deepAt (s : State) (f : Faults → Faults) : (s.modFaults f).deepAt = s.deepAt := (rfl)
@[simp] theorem State.modFaults_wakeAt (s : State) (f : Faults → Faults) : (s.modFaults f).wakeAt = s.wakeAt := (rfl)
@[simp] theorem State.modFaults_jtag (s : State) (f : Faults → Faults) : (s.modFaults f).jtag = s.jtag := (rfl)
@[simp] theorem State.modFaults_ppsOut (s : State) (f : Faults → Faults) : (s.modFaults f).ppsOut = s.ppsOut := (rfl)
@[simp] theorem State.modFaults_sampledAt (s : State) (f : Faults → Faults) : (s.modFaults f).sampledAt = s.sampledAt := (rfl)
@[simp] theorem State.modFaults_mapped (s : State) (f : Faults → Faults) : (s.modFaults f).mapped = s.mapped := (rfl)
@[simp] theorem State.modFaults_started (s : State) (f : Faults → Faults) : (s.modFaults f).started = s.started := (rfl)
@[simp] theorem State.modFaults_freeCtr (s : State) (f : Faults → Faults) : (s.modFaults f).freeCtr = s.freeCtr := (rfl)

/-! ### setTblB -/

@[simp] theorem State.setTblB_pending (s : State) (t b e w : Nat) (v : Word) : (s.setTblB t b e w v).pending = s.pending := (rfl)
@[simp] theorem State.setTblB_phase (s : State) (t b e w : Nat) (v : Word) : (s.setTblB t b e w v).phase = s.phase := (rfl)
@[simp] theorem State.setTblB_osc (s : State) (t b e w : Nat) (v : Word) : (s.setTblB t b e w v).osc = s.osc := (rfl)
@[simp] theorem State.setTblB_owl (s : State) (t b e w : Nat) (v : Word) : (s.setTblB t b e w v).owl = s.owl := (rfl)
@[simp] theorem State.setTblB_straps (s : State) (t b e w : Nat) (v : Word) : (s.setTblB t b e w v).straps = s.straps := (rfl)
@[simp] theorem State.setTblB_regs (s : State) (t b e w : Nat) (v : Word) : (s.setTblB t b e w v).regs = s.regs := (rfl)
@[simp] theorem State.setTblB_copies (s : State) (t b e w : Nat) (v : Word) : (s.setTblB t b e w v).copies = s.copies := (rfl)
@[simp] theorem State.setTblB_badPar (s : State) (t b e w : Nat) (v : Word) : (s.setTblB t b e w v).badPar = s.badPar := (rfl)
@[simp] theorem State.setTblB_trpBad (s : State) (t b e w : Nat) (v : Word) : (s.setTblB t b e w v).trpBad = s.trpBad := (rfl)
@[simp] theorem State.setTblB_tblBad (s : State) (t b e w : Nat) (v : Word) : (s.setTblB t b e w v).tblBad = s.tblBad := (rfl)
@[simp] theorem State.setTblB_chans (s : State) (t b e w : Nat) (v : Word) : (s.setTblB t b e w v).chans = s.chans := (rfl)
@[simp] theorem State.setTblB_groups (s : State) (t b e w : Nat) (v : Word) : (s.setTblB t b e w v).groups = s.groups := (rfl)
@[simp] theorem State.setTblB_policers (s : State) (t b e w : Nat) (v : Word) : (s.setTblB t b e w v).policers = s.policers := (rfl)
@[simp] theorem State.setTblB_foxes (s : State) (t b e w : Nat) (v : Word) : (s.setTblB t b e w v).foxes = s.foxes := (rfl)
@[simp] theorem State.setTblB_lastRoam (s : State) (t b e w : Nat) (v : Word) : (s.setTblB t b e w v).lastRoam = s.lastRoam := (rfl)
@[simp] theorem State.setTblB_pgs (s : State) (t b e w : Nat) (v : Word) : (s.setTblB t b e w v).pgs = s.pgs := (rfl)
@[simp] theorem State.setTblB_reds (s : State) (t b e w : Nat) (v : Word) : (s.setTblB t b e w v).reds = s.reds := (rfl)
@[simp] theorem State.setTblB_frers (s : State) (t b e w : Nat) (v : Word) : (s.setTblB t b e w v).frers = s.frers := (rfl)
@[simp] theorem State.setTblB_snoopRest (s : State) (t b e w : Nat) (v : Word) : (s.setTblB t b e w v).snoopRest = s.snoopRest := (rfl)
@[simp] theorem State.setTblB_memWake (s : State) (t b e w : Nat) (v : Word) : (s.setTblB t b e w v).memWake = s.memWake := (rfl)
@[simp] theorem State.setTblB_memSleep (s : State) (t b e w : Nat) (v : Word) : (s.setTblB t b e w v).memSleep = s.memSleep := (rfl)
@[simp] theorem State.setTblB_memNoteTill (s : State) (t b e w : Nat) (v : Word) : (s.setTblB t b e w v).memNoteTill = s.memNoteTill := (rfl)
@[simp] theorem State.setTblB_twin (s : State) (t b e w : Nat) (v : Word) : (s.setTblB t b e w v).twin = s.twin := (rfl)
@[simp] theorem State.setTblB_refs (s : State) (t b e w : Nat) (v : Word) : (s.setTblB t b e w v).refs = s.refs := (rfl)
@[simp] theorem State.setTblB_time (s : State) (t b e w : Nat) (v : Word) : (s.setTblB t b e w v).time = s.time := (rfl)
@[simp] theorem State.setTblB_cmd (s : State) (t b e w : Nat) (v : Word) : (s.setTblB t b e w v).cmd = s.cmd := (rfl)
@[simp] theorem State.setTblB_sessions (s : State) (t b e w : Nat) (v : Word) : (s.setTblB t b e w v).sessions = s.sessions := (rfl)
@[simp] theorem State.setTblB_streams (s : State) (t b e w : Nat) (v : Word) : (s.setTblB t b e w v).streams = s.streams := (rfl)
@[simp] theorem State.setTblB_events (s : State) (t b e w : Nat) (v : Word) : (s.setTblB t b e w v).events = s.events := (rfl)
@[simp] theorem State.setTblB_holds (s : State) (t b e w : Nat) (v : Word) : (s.setTblB t b e w v).holds = s.holds := (rfl)
@[simp] theorem State.setTblB_swap (s : State) (t b e w : Nat) (v : Word) : (s.setTblB t b e w v).swap = s.swap := (rfl)
@[simp] theorem State.setTblB_tribs (s : State) (t b e w : Nat) (v : Word) : (s.setTblB t b e w v).tribs = s.tribs := (rfl)
@[simp] theorem State.setTblB_faults (s : State) (t b e w : Nat) (v : Word) : (s.setTblB t b e w v).faults = s.faults := (rfl)
@[simp] theorem State.setTblB_mgmt (s : State) (t b e w : Nat) (v : Word) : (s.setTblB t b e w v).mgmt = s.mgmt := (rfl)
@[simp] theorem State.setTblB_deepAt (s : State) (t b e w : Nat) (v : Word) : (s.setTblB t b e w v).deepAt = s.deepAt := (rfl)
@[simp] theorem State.setTblB_wakeAt (s : State) (t b e w : Nat) (v : Word) : (s.setTblB t b e w v).wakeAt = s.wakeAt := (rfl)
@[simp] theorem State.setTblB_jtag (s : State) (t b e w : Nat) (v : Word) : (s.setTblB t b e w v).jtag = s.jtag := (rfl)
@[simp] theorem State.setTblB_ppsOut (s : State) (t b e w : Nat) (v : Word) : (s.setTblB t b e w v).ppsOut = s.ppsOut := (rfl)
@[simp] theorem State.setTblB_sampledAt (s : State) (t b e w : Nat) (v : Word) : (s.setTblB t b e w v).sampledAt = s.sampledAt := (rfl)
@[simp] theorem State.setTblB_mapped (s : State) (t b e w : Nat) (v : Word) : (s.setTblB t b e w v).mapped = s.mapped := (rfl)
@[simp] theorem State.setTblB_started (s : State) (t b e w : Nat) (v : Word) : (s.setTblB t b e w v).started = s.started := (rfl)
@[simp] theorem State.setTblB_freeCtr (s : State) (t b e w : Nat) (v : Word) : (s.setTblB t b e w v).freeCtr = s.freeCtr := (rfl)

/-! ### modHold -/

@[simp] theorem State.modHold_pending (s : State) (k : Nat) (f : Hold → Hold) : (s.modHold k f).pending = s.pending := (rfl)
@[simp] theorem State.modHold_phase (s : State) (k : Nat) (f : Hold → Hold) : (s.modHold k f).phase = s.phase := (rfl)
@[simp] theorem State.modHold_osc (s : State) (k : Nat) (f : Hold → Hold) : (s.modHold k f).osc = s.osc := (rfl)
@[simp] theorem State.modHold_owl (s : State) (k : Nat) (f : Hold → Hold) : (s.modHold k f).owl = s.owl := (rfl)
@[simp] theorem State.modHold_straps (s : State) (k : Nat) (f : Hold → Hold) : (s.modHold k f).straps = s.straps := (rfl)
@[simp] theorem State.modHold_regs (s : State) (k : Nat) (f : Hold → Hold) : (s.modHold k f).regs = s.regs := (rfl)
@[simp] theorem State.modHold_copies (s : State) (k : Nat) (f : Hold → Hold) : (s.modHold k f).copies = s.copies := (rfl)
@[simp] theorem State.modHold_badPar (s : State) (k : Nat) (f : Hold → Hold) : (s.modHold k f).badPar = s.badPar := (rfl)
@[simp] theorem State.modHold_trpBad (s : State) (k : Nat) (f : Hold → Hold) : (s.modHold k f).trpBad = s.trpBad := (rfl)
@[simp] theorem State.modHold_tables (s : State) (k : Nat) (f : Hold → Hold) : (s.modHold k f).tables = s.tables := (rfl)
@[simp] theorem State.modHold_tblBad (s : State) (k : Nat) (f : Hold → Hold) : (s.modHold k f).tblBad = s.tblBad := (rfl)
@[simp] theorem State.modHold_chans (s : State) (k : Nat) (f : Hold → Hold) : (s.modHold k f).chans = s.chans := (rfl)
@[simp] theorem State.modHold_groups (s : State) (k : Nat) (f : Hold → Hold) : (s.modHold k f).groups = s.groups := (rfl)
@[simp] theorem State.modHold_policers (s : State) (k : Nat) (f : Hold → Hold) : (s.modHold k f).policers = s.policers := (rfl)
@[simp] theorem State.modHold_foxes (s : State) (k : Nat) (f : Hold → Hold) : (s.modHold k f).foxes = s.foxes := (rfl)
@[simp] theorem State.modHold_lastRoam (s : State) (k : Nat) (f : Hold → Hold) : (s.modHold k f).lastRoam = s.lastRoam := (rfl)
@[simp] theorem State.modHold_pgs (s : State) (k : Nat) (f : Hold → Hold) : (s.modHold k f).pgs = s.pgs := (rfl)
@[simp] theorem State.modHold_reds (s : State) (k : Nat) (f : Hold → Hold) : (s.modHold k f).reds = s.reds := (rfl)
@[simp] theorem State.modHold_frers (s : State) (k : Nat) (f : Hold → Hold) : (s.modHold k f).frers = s.frers := (rfl)
@[simp] theorem State.modHold_snoopRest (s : State) (k : Nat) (f : Hold → Hold) : (s.modHold k f).snoopRest = s.snoopRest := (rfl)
@[simp] theorem State.modHold_memWake (s : State) (k : Nat) (f : Hold → Hold) : (s.modHold k f).memWake = s.memWake := (rfl)
@[simp] theorem State.modHold_memSleep (s : State) (k : Nat) (f : Hold → Hold) : (s.modHold k f).memSleep = s.memSleep := (rfl)
@[simp] theorem State.modHold_memNoteTill (s : State) (k : Nat) (f : Hold → Hold) : (s.modHold k f).memNoteTill = s.memNoteTill := (rfl)
@[simp] theorem State.modHold_twin (s : State) (k : Nat) (f : Hold → Hold) : (s.modHold k f).twin = s.twin := (rfl)
@[simp] theorem State.modHold_refs (s : State) (k : Nat) (f : Hold → Hold) : (s.modHold k f).refs = s.refs := (rfl)
@[simp] theorem State.modHold_time (s : State) (k : Nat) (f : Hold → Hold) : (s.modHold k f).time = s.time := (rfl)
@[simp] theorem State.modHold_cmd (s : State) (k : Nat) (f : Hold → Hold) : (s.modHold k f).cmd = s.cmd := (rfl)
@[simp] theorem State.modHold_sessions (s : State) (k : Nat) (f : Hold → Hold) : (s.modHold k f).sessions = s.sessions := (rfl)
@[simp] theorem State.modHold_streams (s : State) (k : Nat) (f : Hold → Hold) : (s.modHold k f).streams = s.streams := (rfl)
@[simp] theorem State.modHold_events (s : State) (k : Nat) (f : Hold → Hold) : (s.modHold k f).events = s.events := (rfl)
@[simp] theorem State.modHold_swap (s : State) (k : Nat) (f : Hold → Hold) : (s.modHold k f).swap = s.swap := (rfl)
@[simp] theorem State.modHold_tribs (s : State) (k : Nat) (f : Hold → Hold) : (s.modHold k f).tribs = s.tribs := (rfl)
@[simp] theorem State.modHold_faults (s : State) (k : Nat) (f : Hold → Hold) : (s.modHold k f).faults = s.faults := (rfl)
@[simp] theorem State.modHold_mgmt (s : State) (k : Nat) (f : Hold → Hold) : (s.modHold k f).mgmt = s.mgmt := (rfl)
@[simp] theorem State.modHold_deepAt (s : State) (k : Nat) (f : Hold → Hold) : (s.modHold k f).deepAt = s.deepAt := (rfl)
@[simp] theorem State.modHold_wakeAt (s : State) (k : Nat) (f : Hold → Hold) : (s.modHold k f).wakeAt = s.wakeAt := (rfl)
@[simp] theorem State.modHold_jtag (s : State) (k : Nat) (f : Hold → Hold) : (s.modHold k f).jtag = s.jtag := (rfl)
@[simp] theorem State.modHold_ppsOut (s : State) (k : Nat) (f : Hold → Hold) : (s.modHold k f).ppsOut = s.ppsOut := (rfl)
@[simp] theorem State.modHold_sampledAt (s : State) (k : Nat) (f : Hold → Hold) : (s.modHold k f).sampledAt = s.sampledAt := (rfl)
@[simp] theorem State.modHold_mapped (s : State) (k : Nat) (f : Hold → Hold) : (s.modHold k f).mapped = s.mapped := (rfl)
@[simp] theorem State.modHold_started (s : State) (k : Nat) (f : Hold → Hold) : (s.modHold k f).started = s.started := (rfl)
@[simp] theorem State.modHold_freeCtr (s : State) (k : Nat) (f : Hold → Hold) : (s.modHold k f).freeCtr = s.freeCtr := (rfl)

/-! ### tookFree -/

@[simp] theorem State.tookFree_pending (s : State) : (s.tookFree).pending = s.pending := (rfl)
@[simp] theorem State.tookFree_phase (s : State) : (s.tookFree).phase = s.phase := (rfl)
@[simp] theorem State.tookFree_osc (s : State) : (s.tookFree).osc = s.osc := (rfl)
@[simp] theorem State.tookFree_owl (s : State) : (s.tookFree).owl = s.owl := (rfl)
@[simp] theorem State.tookFree_straps (s : State) : (s.tookFree).straps = s.straps := (rfl)
@[simp] theorem State.tookFree_regs (s : State) : (s.tookFree).regs = s.regs := (rfl)
@[simp] theorem State.tookFree_copies (s : State) : (s.tookFree).copies = s.copies := (rfl)
@[simp] theorem State.tookFree_badPar (s : State) : (s.tookFree).badPar = s.badPar := (rfl)
@[simp] theorem State.tookFree_trpBad (s : State) : (s.tookFree).trpBad = s.trpBad := (rfl)
@[simp] theorem State.tookFree_tables (s : State) : (s.tookFree).tables = s.tables := (rfl)
@[simp] theorem State.tookFree_tblBad (s : State) : (s.tookFree).tblBad = s.tblBad := (rfl)
@[simp] theorem State.tookFree_chans (s : State) : (s.tookFree).chans = s.chans := (rfl)
@[simp] theorem State.tookFree_groups (s : State) : (s.tookFree).groups = s.groups := (rfl)
@[simp] theorem State.tookFree_policers (s : State) : (s.tookFree).policers = s.policers := (rfl)
@[simp] theorem State.tookFree_foxes (s : State) : (s.tookFree).foxes = s.foxes := (rfl)
@[simp] theorem State.tookFree_lastRoam (s : State) : (s.tookFree).lastRoam = s.lastRoam := (rfl)
@[simp] theorem State.tookFree_pgs (s : State) : (s.tookFree).pgs = s.pgs := (rfl)
@[simp] theorem State.tookFree_reds (s : State) : (s.tookFree).reds = s.reds := (rfl)
@[simp] theorem State.tookFree_frers (s : State) : (s.tookFree).frers = s.frers := (rfl)
@[simp] theorem State.tookFree_snoopRest (s : State) : (s.tookFree).snoopRest = s.snoopRest := (rfl)
@[simp] theorem State.tookFree_memWake (s : State) : (s.tookFree).memWake = s.memWake := (rfl)
@[simp] theorem State.tookFree_memSleep (s : State) : (s.tookFree).memSleep = s.memSleep := (rfl)
@[simp] theorem State.tookFree_memNoteTill (s : State) : (s.tookFree).memNoteTill = s.memNoteTill := (rfl)
@[simp] theorem State.tookFree_twin (s : State) : (s.tookFree).twin = s.twin := (rfl)
@[simp] theorem State.tookFree_refs (s : State) : (s.tookFree).refs = s.refs := (rfl)
@[simp] theorem State.tookFree_time (s : State) : (s.tookFree).time = s.time := (rfl)
@[simp] theorem State.tookFree_cmd (s : State) : (s.tookFree).cmd = s.cmd := (rfl)
@[simp] theorem State.tookFree_sessions (s : State) : (s.tookFree).sessions = s.sessions := (rfl)
@[simp] theorem State.tookFree_streams (s : State) : (s.tookFree).streams = s.streams := (rfl)
@[simp] theorem State.tookFree_events (s : State) : (s.tookFree).events = s.events := (rfl)
@[simp] theorem State.tookFree_holds (s : State) : (s.tookFree).holds = s.holds := (rfl)
@[simp] theorem State.tookFree_swap (s : State) : (s.tookFree).swap = s.swap := (rfl)
@[simp] theorem State.tookFree_tribs (s : State) : (s.tookFree).tribs = s.tribs := (rfl)
@[simp] theorem State.tookFree_faults (s : State) : (s.tookFree).faults = s.faults := (rfl)
@[simp] theorem State.tookFree_mgmt (s : State) : (s.tookFree).mgmt = s.mgmt := (rfl)
@[simp] theorem State.tookFree_deepAt (s : State) : (s.tookFree).deepAt = s.deepAt := (rfl)
@[simp] theorem State.tookFree_wakeAt (s : State) : (s.tookFree).wakeAt = s.wakeAt := (rfl)
@[simp] theorem State.tookFree_jtag (s : State) : (s.tookFree).jtag = s.jtag := (rfl)
@[simp] theorem State.tookFree_ppsOut (s : State) : (s.tookFree).ppsOut = s.ppsOut := (rfl)
@[simp] theorem State.tookFree_sampledAt (s : State) : (s.tookFree).sampledAt = s.sampledAt := (rfl)
@[simp] theorem State.tookFree_mapped (s : State) : (s.tookFree).mapped = s.mapped := (rfl)
@[simp] theorem State.tookFree_started (s : State) : (s.tookFree).started = s.started := (rfl)

/-! ### Reads after updates -/

@[simp] theorem State.modCh_reg (s : State) (c : Nat) (f : Chan → Chan) (x : Nat) : (s.modCh c f).reg x = s.reg x := (rfl)
@[simp] theorem State.modCh_tblB (s : State) (c : Nat) (f : Chan → Chan) (x1 x2 x3 x4 : Nat) : (s.modCh c f).tblB x1 x2 x3 x4 = s.tblB x1 x2 x3 x4 := (rfl)
@[simp] theorem State.modCh_grp (s : State) (c : Nat) (f : Chan → Chan) (x : Nat) : (s.modCh c f).grp x = s.grp x := (rfl)
@[simp] theorem State.modCh_fox (s : State) (c : Nat) (f : Chan → Chan) (x : Nat) : (s.modCh c f).fox x = s.fox x := (rfl)
@[simp] theorem State.modCh_pg (s : State) (c : Nat) (f : Chan → Chan) (x : Nat) : (s.modCh c f).pg x = s.pg x := (rfl)
@[simp] theorem State.modCh_red (s : State) (c : Nat) (f : Chan → Chan) (x : Nat) : (s.modCh c f).red x = s.red x := (rfl)
@[simp] theorem State.modCh_frer (s : State) (c : Nat) (f : Chan → Chan) (x : Nat) : (s.modCh c f).frer x = s.frer x := (rfl)
@[simp] theorem State.modCh_hold (s : State) (c : Nat) (f : Chan → Chan) (x : Nat) : (s.modCh c f).hold x = s.hold x := (rfl)
@[simp] theorem State.modGrp_reg (s : State) (g : Nat) (f : Group → Group) (x : Nat) : (s.modGrp g f).reg x = s.reg x := (rfl)
@[simp] theorem State.modGrp_tblB (s : State) (g : Nat) (f : Group → Group) (x1 x2 x3 x4 : Nat) : (s.modGrp g f).tblB x1 x2 x3 x4 = s.tblB x1 x2 x3 x4 := (rfl)
@[simp] theorem State.modGrp_ch (s : State) (g : Nat) (f : Group → Group) (x : Nat) : (s.modGrp g f).ch x = s.ch x := (rfl)
@[simp] theorem State.modGrp_fox (s : State) (g : Nat) (f : Group → Group) (x : Nat) : (s.modGrp g f).fox x = s.fox x := (rfl)
@[simp] theorem State.modGrp_pg (s : State) (g : Nat) (f : Group → Group) (x : Nat) : (s.modGrp g f).pg x = s.pg x := (rfl)
@[simp] theorem State.modGrp_red (s : State) (g : Nat) (f : Group → Group) (x : Nat) : (s.modGrp g f).red x = s.red x := (rfl)
@[simp] theorem State.modGrp_frer (s : State) (g : Nat) (f : Group → Group) (x : Nat) : (s.modGrp g f).frer x = s.frer x := (rfl)
@[simp] theorem State.modGrp_hold (s : State) (g : Nat) (f : Group → Group) (x : Nat) : (s.modGrp g f).hold x = s.hold x := (rfl)
@[simp] theorem State.modFox_reg (s : State) (e : Nat) (f : Fox → Fox) (x : Nat) : (s.modFox e f).reg x = s.reg x := (rfl)
@[simp] theorem State.modFox_tblB (s : State) (e : Nat) (f : Fox → Fox) (x1 x2 x3 x4 : Nat) : (s.modFox e f).tblB x1 x2 x3 x4 = s.tblB x1 x2 x3 x4 := (rfl)
@[simp] theorem State.modFox_ch (s : State) (e : Nat) (f : Fox → Fox) (x : Nat) : (s.modFox e f).ch x = s.ch x := (rfl)
@[simp] theorem State.modFox_grp (s : State) (e : Nat) (f : Fox → Fox) (x : Nat) : (s.modFox e f).grp x = s.grp x := (rfl)
@[simp] theorem State.modFox_pg (s : State) (e : Nat) (f : Fox → Fox) (x : Nat) : (s.modFox e f).pg x = s.pg x := (rfl)
@[simp] theorem State.modFox_red (s : State) (e : Nat) (f : Fox → Fox) (x : Nat) : (s.modFox e f).red x = s.red x := (rfl)
@[simp] theorem State.modFox_frer (s : State) (e : Nat) (f : Fox → Fox) (x : Nat) : (s.modFox e f).frer x = s.frer x := (rfl)
@[simp] theorem State.modFox_hold (s : State) (e : Nat) (f : Fox → Fox) (x : Nat) : (s.modFox e f).hold x = s.hold x := (rfl)
@[simp] theorem State.modPg_reg (s : State) (p : Nat) (f : Pg → Pg) (x : Nat) : (s.modPg p f).reg x = s.reg x := (rfl)
@[simp] theorem State.modPg_tblB (s : State) (p : Nat) (f : Pg → Pg) (x1 x2 x3 x4 : Nat) : (s.modPg p f).tblB x1 x2 x3 x4 = s.tblB x1 x2 x3 x4 := (rfl)
@[simp] theorem State.modPg_ch (s : State) (p : Nat) (f : Pg → Pg) (x : Nat) : (s.modPg p f).ch x = s.ch x := (rfl)
@[simp] theorem State.modPg_grp (s : State) (p : Nat) (f : Pg → Pg) (x : Nat) : (s.modPg p f).grp x = s.grp x := (rfl)
@[simp] theorem State.modPg_fox (s : State) (p : Nat) (f : Pg → Pg) (x : Nat) : (s.modPg p f).fox x = s.fox x := (rfl)
@[simp] theorem State.modPg_red (s : State) (p : Nat) (f : Pg → Pg) (x : Nat) : (s.modPg p f).red x = s.red x := (rfl)
@[simp] theorem State.modPg_frer (s : State) (p : Nat) (f : Pg → Pg) (x : Nat) : (s.modPg p f).frer x = s.frer x := (rfl)
@[simp] theorem State.modPg_hold (s : State) (p : Nat) (f : Pg → Pg) (x : Nat) : (s.modPg p f).hold x = s.hold x := (rfl)
@[simp] theorem State.modRed_reg (s : State) (n : Nat) (f : Red → Red) (x : Nat) : (s.modRed n f).reg x = s.reg x := (rfl)
@[simp] theorem State.modRed_tblB (s : State) (n : Nat) (f : Red → Red) (x1 x2 x3 x4 : Nat) : (s.modRed n f).tblB x1 x2 x3 x4 = s.tblB x1 x2 x3 x4 := (rfl)
@[simp] theorem State.modRed_ch (s : State) (n : Nat) (f : Red → Red) (x : Nat) : (s.modRed n f).ch x = s.ch x := (rfl)
@[simp] theorem State.modRed_grp (s : State) (n : Nat) (f : Red → Red) (x : Nat) : (s.modRed n f).grp x = s.grp x := (rfl)
@[simp] theorem State.modRed_fox (s : State) (n : Nat) (f : Red → Red) (x : Nat) : (s.modRed n f).fox x = s.fox x := (rfl)
@[simp] theorem State.modRed_pg (s : State) (n : Nat) (f : Red → Red) (x : Nat) : (s.modRed n f).pg x = s.pg x := (rfl)
@[simp] theorem State.modRed_frer (s : State) (n : Nat) (f : Red → Red) (x : Nat) : (s.modRed n f).frer x = s.frer x := (rfl)
@[simp] theorem State.modRed_hold (s : State) (n : Nat) (f : Red → Red) (x : Nat) : (s.modRed n f).hold x = s.hold x := (rfl)
@[simp] theorem State.modFrer_reg (s : State) (n : Nat) (f : Frer → Frer) (x : Nat) : (s.modFrer n f).reg x = s.reg x := (rfl)
@[simp] theorem State.modFrer_tblB (s : State) (n : Nat) (f : Frer → Frer) (x1 x2 x3 x4 : Nat) : (s.modFrer n f).tblB x1 x2 x3 x4 = s.tblB x1 x2 x3 x4 := (rfl)
@[simp] theorem State.modFrer_ch (s : State) (n : Nat) (f : Frer → Frer) (x : Nat) : (s.modFrer n f).ch x = s.ch x := (rfl)
@[simp] theorem State.modFrer_grp (s : State) (n : Nat) (f : Frer → Frer) (x : Nat) : (s.modFrer n f).grp x = s.grp x := (rfl)
@[simp] theorem State.modFrer_fox (s : State) (n : Nat) (f : Frer → Frer) (x : Nat) : (s.modFrer n f).fox x = s.fox x := (rfl)
@[simp] theorem State.modFrer_pg (s : State) (n : Nat) (f : Frer → Frer) (x : Nat) : (s.modFrer n f).pg x = s.pg x := (rfl)
@[simp] theorem State.modFrer_red (s : State) (n : Nat) (f : Frer → Frer) (x : Nat) : (s.modFrer n f).red x = s.red x := (rfl)
@[simp] theorem State.modFrer_hold (s : State) (n : Nat) (f : Frer → Frer) (x : Nat) : (s.modFrer n f).hold x = s.hold x := (rfl)
@[simp] theorem State.modTwin_reg (s : State) (f : Twin → Twin) (x : Nat) : (s.modTwin f).reg x = s.reg x := (rfl)
@[simp] theorem State.modTwin_tblB (s : State) (f : Twin → Twin) (x1 x2 x3 x4 : Nat) : (s.modTwin f).tblB x1 x2 x3 x4 = s.tblB x1 x2 x3 x4 := (rfl)
@[simp] theorem State.modTwin_ch (s : State) (f : Twin → Twin) (x : Nat) : (s.modTwin f).ch x = s.ch x := (rfl)
@[simp] theorem State.modTwin_grp (s : State) (f : Twin → Twin) (x : Nat) : (s.modTwin f).grp x = s.grp x := (rfl)
@[simp] theorem State.modTwin_fox (s : State) (f : Twin → Twin) (x : Nat) : (s.modTwin f).fox x = s.fox x := (rfl)
@[simp] theorem State.modTwin_pg (s : State) (f : Twin → Twin) (x : Nat) : (s.modTwin f).pg x = s.pg x := (rfl)
@[simp] theorem State.modTwin_red (s : State) (f : Twin → Twin) (x : Nat) : (s.modTwin f).red x = s.red x := (rfl)
@[simp] theorem State.modTwin_frer (s : State) (f : Twin → Twin) (x : Nat) : (s.modTwin f).frer x = s.frer x := (rfl)
@[simp] theorem State.modTwin_hold (s : State) (f : Twin → Twin) (x : Nat) : (s.modTwin f).hold x = s.hold x := (rfl)
@[simp] theorem State.modRefs_reg (s : State) (f : Refs → Refs) (x : Nat) : (s.modRefs f).reg x = s.reg x := (rfl)
@[simp] theorem State.modRefs_tblB (s : State) (f : Refs → Refs) (x1 x2 x3 x4 : Nat) : (s.modRefs f).tblB x1 x2 x3 x4 = s.tblB x1 x2 x3 x4 := (rfl)
@[simp] theorem State.modRefs_ch (s : State) (f : Refs → Refs) (x : Nat) : (s.modRefs f).ch x = s.ch x := (rfl)
@[simp] theorem State.modRefs_grp (s : State) (f : Refs → Refs) (x : Nat) : (s.modRefs f).grp x = s.grp x := (rfl)
@[simp] theorem State.modRefs_fox (s : State) (f : Refs → Refs) (x : Nat) : (s.modRefs f).fox x = s.fox x := (rfl)
@[simp] theorem State.modRefs_pg (s : State) (f : Refs → Refs) (x : Nat) : (s.modRefs f).pg x = s.pg x := (rfl)
@[simp] theorem State.modRefs_red (s : State) (f : Refs → Refs) (x : Nat) : (s.modRefs f).red x = s.red x := (rfl)
@[simp] theorem State.modRefs_frer (s : State) (f : Refs → Refs) (x : Nat) : (s.modRefs f).frer x = s.frer x := (rfl)
@[simp] theorem State.modRefs_hold (s : State) (f : Refs → Refs) (x : Nat) : (s.modRefs f).hold x = s.hold x := (rfl)
@[simp] theorem State.modMgmt_reg (s : State) (f : Mgmt → Mgmt) (x : Nat) : (s.modMgmt f).reg x = s.reg x := (rfl)
@[simp] theorem State.modMgmt_tblB (s : State) (f : Mgmt → Mgmt) (x1 x2 x3 x4 : Nat) : (s.modMgmt f).tblB x1 x2 x3 x4 = s.tblB x1 x2 x3 x4 := (rfl)
@[simp] theorem State.modMgmt_ch (s : State) (f : Mgmt → Mgmt) (x : Nat) : (s.modMgmt f).ch x = s.ch x := (rfl)
@[simp] theorem State.modMgmt_grp (s : State) (f : Mgmt → Mgmt) (x : Nat) : (s.modMgmt f).grp x = s.grp x := (rfl)
@[simp] theorem State.modMgmt_fox (s : State) (f : Mgmt → Mgmt) (x : Nat) : (s.modMgmt f).fox x = s.fox x := (rfl)
@[simp] theorem State.modMgmt_pg (s : State) (f : Mgmt → Mgmt) (x : Nat) : (s.modMgmt f).pg x = s.pg x := (rfl)
@[simp] theorem State.modMgmt_red (s : State) (f : Mgmt → Mgmt) (x : Nat) : (s.modMgmt f).red x = s.red x := (rfl)
@[simp] theorem State.modMgmt_frer (s : State) (f : Mgmt → Mgmt) (x : Nat) : (s.modMgmt f).frer x = s.frer x := (rfl)
@[simp] theorem State.modMgmt_hold (s : State) (f : Mgmt → Mgmt) (x : Nat) : (s.modMgmt f).hold x = s.hold x := (rfl)
@[simp] theorem State.modCmd_reg (s : State) (f : Cmd → Cmd) (x : Nat) : (s.modCmd f).reg x = s.reg x := (rfl)
@[simp] theorem State.modCmd_tblB (s : State) (f : Cmd → Cmd) (x1 x2 x3 x4 : Nat) : (s.modCmd f).tblB x1 x2 x3 x4 = s.tblB x1 x2 x3 x4 := (rfl)
@[simp] theorem State.modCmd_ch (s : State) (f : Cmd → Cmd) (x : Nat) : (s.modCmd f).ch x = s.ch x := (rfl)
@[simp] theorem State.modCmd_grp (s : State) (f : Cmd → Cmd) (x : Nat) : (s.modCmd f).grp x = s.grp x := (rfl)
@[simp] theorem State.modCmd_fox (s : State) (f : Cmd → Cmd) (x : Nat) : (s.modCmd f).fox x = s.fox x := (rfl)
@[simp] theorem State.modCmd_pg (s : State) (f : Cmd → Cmd) (x : Nat) : (s.modCmd f).pg x = s.pg x := (rfl)
@[simp] theorem State.modCmd_red (s : State) (f : Cmd → Cmd) (x : Nat) : (s.modCmd f).red x = s.red x := (rfl)
@[simp] theorem State.modCmd_frer (s : State) (f : Cmd → Cmd) (x : Nat) : (s.modCmd f).frer x = s.frer x := (rfl)
@[simp] theorem State.modCmd_hold (s : State) (f : Cmd → Cmd) (x : Nat) : (s.modCmd f).hold x = s.hold x := (rfl)
@[simp] theorem State.modFaults_reg (s : State) (f : Faults → Faults) (x : Nat) : (s.modFaults f).reg x = s.reg x := (rfl)
@[simp] theorem State.modFaults_tblB (s : State) (f : Faults → Faults) (x1 x2 x3 x4 : Nat) : (s.modFaults f).tblB x1 x2 x3 x4 = s.tblB x1 x2 x3 x4 := (rfl)
@[simp] theorem State.modFaults_ch (s : State) (f : Faults → Faults) (x : Nat) : (s.modFaults f).ch x = s.ch x := (rfl)
@[simp] theorem State.modFaults_grp (s : State) (f : Faults → Faults) (x : Nat) : (s.modFaults f).grp x = s.grp x := (rfl)
@[simp] theorem State.modFaults_fox (s : State) (f : Faults → Faults) (x : Nat) : (s.modFaults f).fox x = s.fox x := (rfl)
@[simp] theorem State.modFaults_pg (s : State) (f : Faults → Faults) (x : Nat) : (s.modFaults f).pg x = s.pg x := (rfl)
@[simp] theorem State.modFaults_red (s : State) (f : Faults → Faults) (x : Nat) : (s.modFaults f).red x = s.red x := (rfl)
@[simp] theorem State.modFaults_frer (s : State) (f : Faults → Faults) (x : Nat) : (s.modFaults f).frer x = s.frer x := (rfl)
@[simp] theorem State.modFaults_hold (s : State) (f : Faults → Faults) (x : Nat) : (s.modFaults f).hold x = s.hold x := (rfl)
@[simp] theorem State.setTblB_reg (s : State) (t b e w : Nat) (v : Word) (x : Nat) : (s.setTblB t b e w v).reg x = s.reg x := (rfl)
@[simp] theorem State.setTblB_ch (s : State) (t b e w : Nat) (v : Word) (x : Nat) : (s.setTblB t b e w v).ch x = s.ch x := (rfl)
@[simp] theorem State.setTblB_grp (s : State) (t b e w : Nat) (v : Word) (x : Nat) : (s.setTblB t b e w v).grp x = s.grp x := (rfl)
@[simp] theorem State.setTblB_fox (s : State) (t b e w : Nat) (v : Word) (x : Nat) : (s.setTblB t b e w v).fox x = s.fox x := (rfl)
@[simp] theorem State.setTblB_pg (s : State) (t b e w : Nat) (v : Word) (x : Nat) : (s.setTblB t b e w v).pg x = s.pg x := (rfl)
@[simp] theorem State.setTblB_red (s : State) (t b e w : Nat) (v : Word) (x : Nat) : (s.setTblB t b e w v).red x = s.red x := (rfl)
@[simp] theorem State.setTblB_frer (s : State) (t b e w : Nat) (v : Word) (x : Nat) : (s.setTblB t b e w v).frer x = s.frer x := (rfl)
@[simp] theorem State.setTblB_hold (s : State) (t b e w : Nat) (v : Word) (x : Nat) : (s.setTblB t b e w v).hold x = s.hold x := (rfl)
@[simp] theorem State.modHold_reg (s : State) (k : Nat) (f : Hold → Hold) (x : Nat) : (s.modHold k f).reg x = s.reg x := (rfl)
@[simp] theorem State.modHold_tblB (s : State) (k : Nat) (f : Hold → Hold) (x1 x2 x3 x4 : Nat) : (s.modHold k f).tblB x1 x2 x3 x4 = s.tblB x1 x2 x3 x4 := (rfl)
@[simp] theorem State.modHold_ch (s : State) (k : Nat) (f : Hold → Hold) (x : Nat) : (s.modHold k f).ch x = s.ch x := (rfl)
@[simp] theorem State.modHold_grp (s : State) (k : Nat) (f : Hold → Hold) (x : Nat) : (s.modHold k f).grp x = s.grp x := (rfl)
@[simp] theorem State.modHold_fox (s : State) (k : Nat) (f : Hold → Hold) (x : Nat) : (s.modHold k f).fox x = s.fox x := (rfl)
@[simp] theorem State.modHold_pg (s : State) (k : Nat) (f : Hold → Hold) (x : Nat) : (s.modHold k f).pg x = s.pg x := (rfl)
@[simp] theorem State.modHold_red (s : State) (k : Nat) (f : Hold → Hold) (x : Nat) : (s.modHold k f).red x = s.red x := (rfl)
@[simp] theorem State.modHold_frer (s : State) (k : Nat) (f : Hold → Hold) (x : Nat) : (s.modHold k f).frer x = s.frer x := (rfl)
@[simp] theorem State.tookFree_reg (s : State) (x : Nat) : (s.tookFree).reg x = s.reg x := (rfl)
@[simp] theorem State.tookFree_tblB (s : State) (x1 x2 x3 x4 : Nat) : (s.tookFree).tblB x1 x2 x3 x4 = s.tblB x1 x2 x3 x4 := (rfl)
@[simp] theorem State.tookFree_ch (s : State) (x : Nat) : (s.tookFree).ch x = s.ch x := (rfl)
@[simp] theorem State.tookFree_grp (s : State) (x : Nat) : (s.tookFree).grp x = s.grp x := (rfl)
@[simp] theorem State.tookFree_fox (s : State) (x : Nat) : (s.tookFree).fox x = s.fox x := (rfl)
@[simp] theorem State.tookFree_pg (s : State) (x : Nat) : (s.tookFree).pg x = s.pg x := (rfl)
@[simp] theorem State.tookFree_red (s : State) (x : Nat) : (s.tookFree).red x = s.red x := (rfl)
@[simp] theorem State.tookFree_frer (s : State) (x : Nat) : (s.tookFree).frer x = s.frer x := (rfl)
@[simp] theorem State.tookFree_hold (s : State) (x : Nat) : (s.tookFree).hold x = s.hold x := (rfl)
@[simp] theorem State.setReg_tblB (s : State) (a : Nat) (w : Word) (x1 x2 x3 x4 : Nat) : (s.setReg a w).tblB x1 x2 x3 x4 = s.tblB x1 x2 x3 x4 := (rfl)
@[simp] theorem State.setReg_ch (s : State) (a : Nat) (w : Word) (x : Nat) : (s.setReg a w).ch x = s.ch x := (rfl)
@[simp] theorem State.setReg_grp (s : State) (a : Nat) (w : Word) (x : Nat) : (s.setReg a w).grp x = s.grp x := (rfl)
@[simp] theorem State.setReg_fox (s : State) (a : Nat) (w : Word) (x : Nat) : (s.setReg a w).fox x = s.fox x := (rfl)
@[simp] theorem State.setReg_pg (s : State) (a : Nat) (w : Word) (x : Nat) : (s.setReg a w).pg x = s.pg x := (rfl)
@[simp] theorem State.setReg_red (s : State) (a : Nat) (w : Word) (x : Nat) : (s.setReg a w).red x = s.red x := (rfl)
@[simp] theorem State.setReg_frer (s : State) (a : Nat) (w : Word) (x : Nat) : (s.setReg a w).frer x = s.frer x := (rfl)
@[simp] theorem State.setReg_hold (s : State) (a : Nat) (w : Word) (x : Nat) : (s.setReg a w).hold x = s.hold x := (rfl)

/-- A register reads the word put into it, every other register as before. -/
theorem State.reg_setReg (s : State) (a b : Nat) (w : Word) (h : Store.wf 0#32 s.regs = true) :
    (s.setReg a w).reg b = if b = a then w else s.reg b := by
  unfold State.reg State.setReg
  rw [Store.get_set (0 : Word) s.regs a b _ h]
  split
  · rename_i hb; subst hb; rw [BitVec.xor_assoc, BitVec.xor_self, BitVec.xor_zero]
  · rfl

/-- Any other register reads as before, whatever the store holds. -/
@[simp] theorem State.reg_setReg_other (s : State) (a b : Nat) (w : Word) (h : b ≠ a) : (s.setReg a w).reg b = s.reg b := by
  unfold State.reg State.setReg
  rw [Store.get_set_other (0 : Word) s.regs a b _ h]

/-- A table word reads what was put into it, every other table word as before. -/
theorem State.tblB_setTblB (s : State) (t b e w : Nat) (v : Word) (h : Store.wf 0#32 s.tables = true) :
    (s.setTblB t b e w v).tblB t b e w = v := by
  unfold State.tblB State.setTblB
  rw [Store.get_set (0 : Word) s.tables _ _ _ h, if_pos rfl, BitVec.xor_assoc, BitVec.xor_self, BitVec.xor_zero]

theorem State.tblB_setTblB_other (s : State) (t b e w t' b' e' w' : Nat) (v : Word)
    (h : tblKey t' b' e' w' ≠ tblKey t b e w) : (s.setTblB t b e w v).tblB t' b' e' w' = s.tblB t' b' e' w' := by
  unfold State.tblB State.setTblB
  rw [Store.get_set_other (0 : Word) s.tables _ _ _ h]

/-- A channel's hidden state is what the update made of it, every other channel's as before. -/
theorem State.ch_modCh (s : State) (c d : Nat) (f : Chan → Chan) (h : Store.wf {} s.chans = true) :
    (s.modCh c f).ch d = if d = c then f (s.ch c) else s.ch d := Store.get_mod ({} : Chan) s.chans c d f h

@[simp] theorem State.ch_modCh_other (s : State) (c d : Nat) (f : Chan → Chan) (h : d ≠ c) : (s.modCh c f).ch d = s.ch d :=
  Store.get_set_other ({} : Chan) s.chans c d _ h

theorem State.grp_modGrp (s : State) (g d : Nat) (f : Group → Group) (h : Store.wf {} s.groups = true) :
    (s.modGrp g f).grp d = if d = g then f (s.grp g) else s.grp d := Store.get_mod ({} : Group) s.groups g d f h

theorem State.fox_modFox (s : State) (e d : Nat) (f : Fox → Fox) (h : Store.wf {} s.foxes = true) :
    (s.modFox e f).fox d = if d = e then f (s.fox e) else s.fox d := Store.get_mod ({} : Fox) s.foxes e d f h

theorem State.pg_modPg (s : State) (p d : Nat) (f : Pg → Pg) (h : Store.wf {} s.pgs = true) :
    (s.modPg p f).pg d = if d = p then f (s.pg p) else s.pg d := Store.get_mod ({} : Pg) s.pgs p d f h

theorem State.red_modRed (s : State) (n d : Nat) (f : Red → Red) (h : Store.wf {} s.reds = true) :
    (s.modRed n f).red d = if d = n then f (s.red n) else s.red d := Store.get_mod ({} : Red) s.reds n d f h

theorem State.frer_modFrer (s : State) (n d : Nat) (f : Frer → Frer) (h : Store.wf {} s.frers = true) :
    (s.modFrer n f).frer d = if d = n then f (s.frer n) else s.frer d := Store.get_mod ({} : Frer) s.frers n d f h

theorem State.hold_modHold (s : State) (k d : Nat) (f : Hold → Hold) (h : Store.wf {} s.holds = true) :
    (s.modHold k f).hold d = if d = k then f (s.hold k) else s.hold d := Store.get_mod ({} : Hold) s.holds k d f h

/-- The register store keeps its form under a register write. -/
@[simp] theorem State.regs_wf_setReg (s : State) (a : Nat) (w : Word) (h : Store.wf 0#32 s.regs = true) :
    Store.wf 0#32 (s.setReg a w).regs = true := Store.wf_set _ _ _ _ h

/-- The register written reads the word written. -/
@[simp] theorem State.reg_setReg_same (s : State) (a : Nat) (w : Word) (h : Store.wf 0#32 s.regs = true) :
    (s.setReg a w).reg a = w := by rw [State.reg_setReg s a a w h, if_pos rfl]

/-- The table store keeps its form under the write of a table word. -/
@[simp] theorem State.tables_wf_setTblB (s : State) (t b e w : Nat) (v : Word) (h : Store.wf 0#32 s.tables = true) :
    Store.wf 0#32 (s.setTblB t b e w v).tables = true := Store.wf_set _ _ _ _ h

@[simp] theorem State.ch_modCh_same (s : State) (k : Nat) (f : Chan → Chan) (h : Store.wf {} s.chans = true) :
    (s.modCh k f).ch k = f (s.ch k) := by rw [State.ch_modCh s k k f h, if_pos rfl]
@[simp] theorem State.chans_wf_modCh (s : State) (k : Nat) (f : Chan → Chan) (h : Store.wf {} s.chans = true) :
    Store.wf {} (s.modCh k f).chans = true := Store.wf_mod _ _ _ _ h
@[simp] theorem State.grp_modGrp_same (s : State) (k : Nat) (f : Group → Group) (h : Store.wf {} s.groups = true) :
    (s.modGrp k f).grp k = f (s.grp k) := by rw [State.grp_modGrp s k k f h, if_pos rfl]
@[simp] theorem State.groups_wf_modGrp (s : State) (k : Nat) (f : Group → Group) (h : Store.wf {} s.groups = true) :
    Store.wf {} (s.modGrp k f).groups = true := Store.wf_mod _ _ _ _ h
@[simp] theorem State.grp_modGrp_other (s : State) (k d : Nat) (f : Group → Group) (h : d ≠ k) :
    (s.modGrp k f).grp d = s.grp d := Store.get_set_other ({} : Group) s.groups k d _ h
@[simp] theorem State.fox_modFox_same (s : State) (k : Nat) (f : Fox → Fox) (h : Store.wf {} s.foxes = true) :
    (s.modFox k f).fox k = f (s.fox k) := by rw [State.fox_modFox s k k f h, if_pos rfl]
@[simp] theorem State.foxes_wf_modFox (s : State) (k : Nat) (f : Fox → Fox) (h : Store.wf {} s.foxes = true) :
    Store.wf {} (s.modFox k f).foxes = true := Store.wf_mod _ _ _ _ h
@[simp] theorem State.fox_modFox_other (s : State) (k d : Nat) (f : Fox → Fox) (h : d ≠ k) :
    (s.modFox k f).fox d = s.fox d := Store.get_set_other ({} : Fox) s.foxes k d _ h
@[simp] theorem State.pg_modPg_same (s : State) (k : Nat) (f : Pg → Pg) (h : Store.wf {} s.pgs = true) :
    (s.modPg k f).pg k = f (s.pg k) := by rw [State.pg_modPg s k k f h, if_pos rfl]
@[simp] theorem State.pgs_wf_modPg (s : State) (k : Nat) (f : Pg → Pg) (h : Store.wf {} s.pgs = true) :
    Store.wf {} (s.modPg k f).pgs = true := Store.wf_mod _ _ _ _ h
@[simp] theorem State.pg_modPg_other (s : State) (k d : Nat) (f : Pg → Pg) (h : d ≠ k) :
    (s.modPg k f).pg d = s.pg d := Store.get_set_other ({} : Pg) s.pgs k d _ h
@[simp] theorem State.red_modRed_same (s : State) (k : Nat) (f : Red → Red) (h : Store.wf {} s.reds = true) :
    (s.modRed k f).red k = f (s.red k) := by rw [State.red_modRed s k k f h, if_pos rfl]
@[simp] theorem State.reds_wf_modRed (s : State) (k : Nat) (f : Red → Red) (h : Store.wf {} s.reds = true) :
    Store.wf {} (s.modRed k f).reds = true := Store.wf_mod _ _ _ _ h
@[simp] theorem State.red_modRed_other (s : State) (k d : Nat) (f : Red → Red) (h : d ≠ k) :
    (s.modRed k f).red d = s.red d := Store.get_set_other ({} : Red) s.reds k d _ h
@[simp] theorem State.frer_modFrer_same (s : State) (k : Nat) (f : Frer → Frer) (h : Store.wf {} s.frers = true) :
    (s.modFrer k f).frer k = f (s.frer k) := by rw [State.frer_modFrer s k k f h, if_pos rfl]
@[simp] theorem State.frers_wf_modFrer (s : State) (k : Nat) (f : Frer → Frer) (h : Store.wf {} s.frers = true) :
    Store.wf {} (s.modFrer k f).frers = true := Store.wf_mod _ _ _ _ h
@[simp] theorem State.frer_modFrer_other (s : State) (k d : Nat) (f : Frer → Frer) (h : d ≠ k) :
    (s.modFrer k f).frer d = s.frer d := Store.get_set_other ({} : Frer) s.frers k d _ h
@[simp] theorem State.hold_modHold_same (s : State) (k : Nat) (f : Hold → Hold) (h : Store.wf {} s.holds = true) :
    (s.modHold k f).hold k = f (s.hold k) := by rw [State.hold_modHold s k k f h, if_pos rfl]
@[simp] theorem State.holds_wf_modHold (s : State) (k : Nat) (f : Hold → Hold) (h : Store.wf {} s.holds = true) :
    Store.wf {} (s.modHold k f).holds = true := Store.wf_mod _ _ _ _ h
@[simp] theorem State.hold_modHold_other (s : State) (k d : Nat) (f : Hold → Hold) (h : d ≠ k) :
    (s.modHold k f).hold d = s.hold d := Store.get_set_other ({} : Hold) s.holds k d _ h

/-! ### The derived updates -/

theorem State.setRf_eq (s : State) (a hi lo v : Nat) : s.setRf a hi lo v = s.setReg a (setFld (s.reg a) hi lo v) := (rfl)
theorem State.setRb_eq (s : State) (a i : Nat) (b : Bool) : s.setRb a i b = s.setReg a (setBit (s.reg a) i b) := (rfl)
theorem State.setCrf_eq (s : State) (c n hi lo v : Nat) :
    s.setCrf c n hi lo v = s.setReg (chReg c n) (setFld (s.reg (chReg c n)) hi lo v) := (rfl)
theorem State.setCrb_eq (s : State) (c n i : Nat) (b : Bool) :
    s.setCrb c n i b = s.setReg (chReg c n) (setBit (s.reg (chReg c n)) i b) := (rfl)
theorem State.count_eq (s : State) (a hi lo n : Nat) :
    s.count a hi lo n = s.setReg a (setFld (s.reg a) hi lo (satAdd (2 ^ (hi + 1 - lo) - 1) (s.rf a hi lo) n)) := (rfl)

end Sys2Proof.Machine
end

