-- ==== Sys2Proof/Laws/Ready.lean ====
section
/-!
SUPPORT. How a command packet starts that is alone (R447, R449): its execution, its reply, and the storing of a key write.
-/
namespace Sys2Proof.Machine

theorem Cmd.inbox_eta (c : Cmd) (l : List Accepted) (h : c.inbox = l) : { c with inbox := l } = c := by
  subst h; rfl

theorem State.take_empty (s : State) (q : Req) (h : s.cmd.inbox = []) : s.take q = s := by
  have e : ({ s.cmd with inbox := s.cmd.inbox.eraseP fun a => a.req == q } : Cmd) = s.cmd := by
    rw [h]; exact Cmd.inbox_eta s.cmd [] h
  exact congrArg (fun c => ({ s with cmd := c } : State)) e

theorem State.ready_command (s : State) (q : Req) (op : Nat) (ws : List Word) (fx : State → State) (h : s.ready op = true) :
    s.command q op ws fx = (fx s).runHeld (fx s).cmd.pend.length := by
  simp only [State.ready, Bool.and_eq_true, Bool.or_eq_true, Bool.not_eq_true', List.isEmpty_iff] at h
  obtain ⟨⟨⟨h1, h2⟩, h3⟩, h4⟩ := h
  unfold State.command
  rw [if_pos h1]
  have hl : s.startAll (s.cmd.inbox.takeWhile (·.req != q)) = s := by rw [h2]; rfl
  have hw : (if isFirmware op then s.wakeBadger else s) = s := by
    split
    · rename_i hf
      rcases h4 with h4 | h4
      · rw [hf] at h4; cases h4
      · simp [State.wakeBadger, h4.2]
    · rfl
  have hm : s.mustWait [] q op = false := by
    unfold State.mustWait
    rcases h4 with h4 | h4
    · simp [h4]
    · simp [h4.1, h4.2]
  rw [hl]
  have hs : s.start q op ws fx = fx s := by
    unfold State.start
    simp only [State.take_empty s q h2, hw, h3, hm]
    split <;> simp
  rw [hs]

/-- A ready command runs alone; then the commands that wait start. -/
theorem State.ready_next (s u : State) (q : Req) (op : Nat) (ws : List Word) (fx : State → State)
    (h : s.ready op = true) (hf : fx s = u) : s.command q op ws fx = u.startHeld := by
  subst hf; exact State.ready_command s q op ws fx h

theorem State.runHeld_none (s : State) (n : Nat) (h : s.cmd.pend = []) : s.runHeld n = s := by
  cases n with
  | zero => rfl
  | succ n => simp [State.runHeld, h, State.startable]

theorem State.putReply_pend (s : State) (r : Reply) : (s.putReply r).cmd.pend = s.cmd.pend := by
  unfold State.putReply
  split
  · rfl
  · rfl
  · dsimp only
    have e : ∀ u : State, ∀ l o, (u.linkSendFor 0x21 l o).cmd.pend = u.cmd.pend := by
      intro u l o; unfold State.linkSendFor; (repeat' split) <;> rfl
    split
    · rw [e]; rfl
    · show ((State.linkSendFor _ 0x21 _ _).cmd.pend) = _
      rw [e]; rfl

theorem State.finish_pend (s : State) (q : Req) (op st det : Nat) (ws : List Word) :
    (s.finish q op st det ws).cmd.pend = s.cmd.pend.filter fun p => p.req != q := by
  unfold State.finish; dsimp only; rw [State.putReply_pend]; rfl

theorem State.reply_pend (s : State) (q : Req) (op st det : Nat) (ws : List Word) :
    (s.reply q op st det ws).cmd.pend = s.cmd.pend := by
  unfold State.reply; rw [State.putReply_pend]

/-- A ready command whose execution ends with its final reply and leaves no command waiting. -/
theorem State.ready_finish (s t : State) (q : Req) (op : Nat) (ws : List Word) (fx : State → State) (st det : Nat) (rs : List Word)
    (h : s.ready op = true) (hf : fx s = t.finish q op st det rs) (hp : t.cmd.pend = []) :
    s.command q op ws fx = t.finish q op st det rs := by
  rw [State.ready_command s q op ws fx h, hf]
  apply State.runHeld_none
  rw [State.finish_pend, hp]; rfl

theorem State.ready_reply (s t : State) (q : Req) (op : Nat) (ws : List Word) (fx : State → State) (st det : Nat) (rs : List Word)
    (h : s.ready op = true) (hf : fx s = t.reply q op st det rs) (hp : t.cmd.pend = []) :
    s.command q op ws fx = t.reply q op st det rs := by
  rw [State.ready_command s q op ws fx h, hf]
  apply State.runHeld_none
  rw [State.reply_pend, hp]

theorem State.ready_pend (s : State) (op : Nat) (h : s.ready op = true) : s.cmd.pend = [] := by
  simp only [State.ready, Bool.and_eq_true, List.isEmpty_iff] at h
  exact h.1.2

theorem State.startHeld_none (s : State) (h : s.cmd.pend = []) : s.startHeld = s := State.runHeld_none s _ h

/-- A key write of the two right halves: the status of the effect, and the state it leaves. -/
theorem State.keyWrite_right (s : State) (a : Nat) (w : Word) (h : s.keyLocked = false) :
    s.keyWrite a w (~~~w) = (s.dropKey a).keyAccept a w := by
  have e : (s.dropKey a).keyLocked = s.keyLocked := rfl
  simp [State.keyWrite, h]

/-- A key write whose effect is not refused stores the word. -/
theorem State.keyAccept_ok (s u : State) (a : Nat) (w : Word) (h : s.keyEffect a (w &&& keyMask a) = (stOk, u)) :
    s.keyAccept a w = (stOk, u.keyStored a (w &&& keyMask a)) := by
  simp [State.keyAccept, h, State.keyStored]

/-- The row of a key write that is not locked. -/
theorem State.rowKey_ok (s u : State) (q : Req) (a : Nat) (w : Word) (h : s.ready 0x0105 = true)
    (hl : s.keyLocked = false) (h1 : addrOk (BitVec.ofNat 32 a) = true)
    (h2 : (decodeAddr (BitVec.ofNat 32 a).toNat).1.addr = a) (h3 : keyAddrs.contains a = true)
    (he : (s.dropKey a).keyEffect a (w &&& keyMask a) = (stOk, u)) :
    s.rowKey q a w = ((u.keyStored a (w &&& keyMask a)).status q 0x0105 stOk).startHeld := by
  apply State.ready_next s _ q 0x0105 _ _ h
  have e : wd [BitVec.ofNat 32 a, w, ~~~w] 0 = BitVec.ofNat 32 a := rfl
  have e1 : wd [BitVec.ofNat 32 a, w, ~~~w] 1 = w := rfl
  have e2 : wd [BitVec.ofNat 32 a, w, ~~~w] 2 = ~~~w := rfl
  simp only [State.fxRegWrKey, e, e1, e2, h1, h2, h3, State.keyWrite_right s a w hl, State.keyAccept_ok _ u a w he]
  rfl

end Sys2Proof.Machine
end

