-- ==== Sys2Proof/WellFormed.lean ====
section
/-!
DEFINITION. Which terms of `Instr` name a command that the block can receive: every number lies in the range the spec
gives what it names, and a packet whose opcode several rows share carries the field that picks its row. A packet's
other words are not judged here: R440 step 11 and R611 judge them in the machine, which answers them with a status.
-/
namespace Sys2Proof
open Sys2Proof.Machine

/-- A channel: CH0 to CH191 (R5). -/
def isCh (c : Nat) : Bool := decide (c < 192)

/-- One of the 12 groups of 16 channels (R5). -/
def isGrp (g : Nat) : Bool := decide (g < 12)

/-- A protection group (R238). -/
def isPg (p : Nat) : Bool := decide (p < 96)

/-- A redundancy stream (R269) or an FRER entry (R286). -/
def isRed (n : Nat) : Bool := decide (n < 2048)

/-- A stream slot of the data communication table (R133). -/
def isSlot (n : Nat) : Bool := decide (n < 64)

/-- A command's source is the host, the twin or a stream slot, its SOURCE byte is its path's, and its TAG is 0x0001 to
0xFFFF (R439, R441). -/
def Req.wf (q : Req) : Bool :=
  decide (1 ≤ q.tag) && decide (q.tag ≤ 0xFFFF) && q.source.isNone
    && match q.src with
       | .inband n => isSlot n
       | _ => true

/-- A packet: its source and tag, and at most 1,021 payload words (R438). -/
def packetOk (q : Req) (ws : List Word) : Bool := q.wf && decide (ws.length ≤ 1021)

/-- A packet of a row that shares its opcode: the field [hi:lo] of W0 is the row's code. -/
def actionOk (q : Req) (ws : List Word) (hi lo v : Nat) : Bool := packetOk q ws && fld (wd ws 0) hi lo == v

/-- The 48 bits around a frame boundary (R83). -/
def isFas (w : Nat) : Bool := decide (w < 2 ^ 48)

/-- What a frame shows of a tributary: two pointer bytes, three control bits of each of S1 and S2. -/
def TribRx.wf (t : TribRx) : Bool :=
  decide (t.ptr.getD 0 < 65536) && decide (t.ptype.getD 0 < 256) && decide (t.ctl.length ≤ 6) && decide (t.jc.length ≤ 3)


/-- What a transmitted frame takes from elsewhere: multiframe numbers are bytes, a pointer fits its ten bits, a fill is
counted in eighths, and Cm and CnD fit their fields. -/
def TxFrame.wf (f : TxFrame) : Bool :=
  decide (f.mfas < 256) && (f.ptrs.all fun p => decide (p.fill ≤ 8) && decide (p.start < 1024))
    && (f.conts.all fun k => decide (k.mfas < 256))
    && f.maps.all fun m => decide (m.fill ≤ 8) && decide (m.cm < 16384) && decide (m.cnd < 1024)

/-- An Ethernet or GFP frame: a core header of four bytes and a type header of four. -/
def EthFrame.wf (f : EthFrame) : Bool := decide (f.core < 2 ^ 32) && decide (f.typ.length = 4)

/-- Symbols of a lane: four levels. -/
def symsOk (l : List Nat) : Bool := l.all fun x => decide (x < 4)

/-- A received frame. -/
def RxFrame.wf (f : RxFrame) : Bool :=
  isFas f.fas && decide (f.ptype.getD 0 < 256) && f.tribs.all TribRx.wf && f.lanes.all symsOk

/-- An owner whose markers number at most twenty lanes. -/
def LaneAlign.wf (a : LaneAlign) : Bool := isCh a.lane && decide (a.order.length ≤ 20) && a.order.all fun k => decide (k < 20)

/-- An elastic store has 32 entries (R66). -/
def StoreFill.wf : StoreFill → Bool
  | .rx l => decide (l.length ≤ 32)
  | .tx l => decide (l.length ≤ 32)

/-- What ends DEEP: the lane named exists. -/
def WakeCause.wf : WakeCause → Bool
  | .signalDetect c => isCh c
  | .hostCs => true
  | .owlTimer => true
  | .leaseIn => true
  | .twfIn => true

/-- A field that resets on read: its channel or queue exists. -/
def RorField.wf : RorField → Bool
  | .wmPeak c => isCh c
  | .depthMax n => decide (n < 1536)
  | .holMax n => decide (n < 1536)
  | .maxLat => true
  | .pktSharedMin => true

/-- A command that the block can receive. -/
def Instr.wf : Instr → Bool
  | .masterOscillatorStop => true
  | .masterOscillatorReturn => true
  | .rstNAssert => true
  | .rstNRelease st => decide (st.bootSrc < 4)
  | .terminationCalibration _ failed => failed.all isCh
  | .bootDone _ => true
  | .rebootReset => true
  | .boundaryScanInstruction code => decide (code.getD 0 < 256)
  | .signalDetectAssert l => isCh l.lane
  | .signalDetectDeassert l => isCh l.lane
  | .sleepHoldExpiry c => isCh c
  | .groupClockStop g => isGrp g
  | .groupClockRunning g => isGrp g
  | .lanePllLock l => isCh l.lane
  | .initialAdaptationDone c => isCh c
  | .badgerReady => true
  | .badgerSleep => true
  | .deepEntry => true
  | .deepWake w => w.wf
  | .deepExitComplete => true
  | .receivedFrame c f => isCh c && f.wf
  | .transmittedFrame c f => isCh c && f.wf
  | .elasticStoreSlip c f => isCh c && f.wf
  | .mapperStoreSlip c => isCh c
  | .elasticSlipClear c => isCh c
  | .laneAlignerLock a => a.wf
  | .laneAlignmentLoss c => isCh c
  | .pcsLockAcquired a => a.wf
  | .pcsLockLost c block am => isCh c && (block || am)
  | .foxGrant e => decide (e < 24)
  | .roamingEpoch => true
  | .foxSearchMatch x => decide (x.engine < 28) && isFas x.word
  | .foxSearchNoMatch e => decide (e < 28)
  | .foxCandidateCheck e w => decide (e < 28) && isFas w
  | .foxConfirmCheck e w => decide (e < 28) && isFas w
  | .foxHandbackEnd e => decide (e < 28)
  | .foxReleaseEnd e => decide (e < 28)
  | .backoffHoldExpiry c => isCh c
  | .foxParityFail e => decide (e < 28)
  | .dlofTimerExpiry c => isCh c
  | .dlomTimerExpiry c => isCh c
  | .dcsfTimerExpiry c => isCh c
  | .degWindowEnd c _ => isCh c
  | .pmSecondClose => true
  | .pmFold => true
  | .defectHoldoffExpiry c d => isCh c && decide (d < 23)
  | .tributaryHoldoffExpiry c => decide (c < 256)
  | .watermarkCrossing c _ => isCh c
  | .csfTimer c => isCh c
  | .bmpClockReturn c => isCh c
  | .dccFrameReceived slot _ _ => isSlot slot
  | .inbandCommandFrame slot _ _ => isSlot slot
  | .frameCaptureDone c => isCh c
  | .byteTraceDone c => isCh c
  | .captArm q c => q.wf && isCh c
  | .traceArm q c => q.wf && isCh c
  | .protectionEvaluation p => isPg p
  | .protHoldoffExpiry p _ => isPg p
  | .wtrExpiry p => isPg p
  | .selectionBoundary p => isPg p
  | .noResponseTimer p => isPg p
  | .exerTimeout p => isPg p
  | .protEventHoldoffExpiry p => isPg p
  | .delayMemoryReady _ => true
  | .delayMemorySelfRefresh => true
  | .hitlessMemberFrame st m f => isRed st && decide (m < 2) && decide (f.pseq < 65536)
  | .scheduleSet st => isRed st
  | .scheduleDiscard st => isRed st
  | .realign q st => q.wf && isRed st
  | .hitlessPlayout st => isRed st
  | .dupLossTimerExpiry c st m => isCh c && isRed st && decide (m < 3)
  | .voteMemberBlock st m b => isRed st && decide (m < 3) && decide (b.bseq < 65536)
  | .voteEmit st => isRed st
  | .voteDisClearTimer c => isCh c
  | .voteTxSlot st _ => isRed st
  | .frerRxFrame st m _ => isRed st && decide (m < 2)
  | .frerTxFrame st _ => isRed st
  | .frerResetTimer e => isRed e
  | .twinHelloRx _ => true
  | .twinLaneLoss lane _ => decide (lane < 4)
  | .retransmitTimeout => true
  | .linkAckRx seq => decide (seq.val < 65536)
  | .linkAckTimer => true
  | .helloTimer => true
  | .renewRx _ _ => true
  | .ackRx _ _ => true
  | .claimRx _ reason => decide (reason.val < 256)
  | .yieldRx _ _ => true
  | .mirrorRx seq d => decide (seq < 65536) && decide (d.cls < 256)
  | .bulkRx seq _ d => decide (seq < 65536) && decide (d.cls < 256)
  | .bulkResyncDone => true
  | .seqSyncRx es => es.val.all fun e => isRed e.stream && decide (e.value < 65536)
  | .seqSyncTimer => true
  | .frerSeqRx st vid seq _ => isRed st && decide (vid < 4096) && decide (seq < 65536)
  | .frerSeqWaitTimeout st vid _ => isRed st && decide (vid < 4096)
  | .refInfoRx _ selected _ ns => decide (selected < 16) && decide (ns.val < 1000000000)
  | .refInfoTimer => true
  | .fwdCmdRx seq _ => decide (seq < 65536)
  | .fwdReplyRx seq _ => decide (seq < 65536)
  | .leaseBeat => true
  | .leaseInChange _ _ => true
  | .leaseInStill => true
  | .twfInChange _ _ => true
  | .leaseEnd => true
  | .leaseClaimPoint => true
  | .yieldClaimTimeout => true
  | .leaseCmdYield q => q.wf
  | .leaseCmdForceSole q => q.wf
  | .twinRoleCfgWrite q _ => q.wf
  | .twinCtrlWrite q _ => q.wf
  | .twinEventHoldoffExpiry code => decide (code < 256)
  | .ethIngressFrame c f => isCh c && f.wf
  | .gfpEgressFrame c f => isCh c && f.wf
  | .schedulerDecision c => isCh c
  | .egressFrameEnd c => isCh c
  | .tafLate c qn => isCh c && decide (qn < 8)
  | .gateEntryChange c => isCh c
  | .gateListActivation c => isCh c
  | .queueSample => true
  | .pktEnSet q c => q.wf && isCh c
  | .pktEnClear q c => q.wf && isCh c
  | .refActivityLoss n => decide (n < 13)
  | .refFreqMeasure os => os.all fun o => decide (o.1 < 13)
  | .refSwitchEnd => true
  | .refLockReached => true
  | .refWtrExpiry => true
  | .softTimeout => true
  | .refEventHoldoffExpiry n => decide (n < 16)
  | .nominalPptWrite q _ => q.wf
  | .stepRearmWrite q _ => q.wf
  | .stepArmExpiry => true
  | .slewDone => true
  | .timeLatch q => q.wf
  | .ppsInEdge n _ => decide (n < 2)
  | .trigArm q n => q.wf && decide (n < 4)
  | .triggerFire n => decide (n < 4)
  | .hostWrite data => decide (data.length ≤ 4096)
  | .readReply n => decide (n ≤ 4096)
  | .readStatus => true
  | .nop q ws => packetOk q ws
  | .echo q ws => packetOk q ws
  | .identify q ws => packetOk q ws
  | .regRd q ws => packetOk q ws
  | .regWr q ws => packetOk q ws
  | .keyPendingExpiry addr => keyAddrs.contains addr
  | .regRdBlk q ws => packetOk q ws
  | .regWrBlk q ws => packetOk q ws
  | .regWrKey q ws => packetOk q ws
  | .resetOnRead f => f.wf
  | .tblRd q ws => packetOk q ws
  | .tblWr q ws => packetOk q ws
  | .tblSwap q ws => actionOk q ws 31 31 0
  | .tblSwapCancel q ws => actionOk q ws 31 31 1
  | .tblSwapValidated => true
  | .swapTimeReached => true
  | .swapDestinationSwitch conn => decide (conn < 32768)
  | .swapSwitchingEnd => true
  | .bankCopyDone => true
  | .xcConnect q ws => packetOk q ws
  | .xcDisconnect q ws => packetOk q ws
  | .snapshot q ws => packetOk q ws
  | .cntClear q ws => packetOk q ws
  | .chProvision q ws => packetOk q ws
  | .chProvisionCompletion c => isCh c
  | .chRelease q ws => packetOk q ws
  | .chCtrlWrite q c _ => q.wf && isCh c
  | .policerSet q ws => packetOk q ws
  | .shaperSet q ws => packetOk q ws
  | .gateArm q ws => actionOk q ws 31 31 0
  | .gateArmCancel q ws => actionOk q ws 31 31 1
  | .apsCmdClear q ws => actionOk q ws 31 28 0
  | .apsCmdMsP q ws => actionOk q ws 31 28 1
  | .apsCmdMsW q ws => actionOk q ws 31 28 2
  | .apsCmdExer q ws => actionOk q ws 31 28 3
  | .protOvrClear q p => q.wf && isPg p
  | .protOvrLockout q p => q.wf && isPg p
  | .protOvrForcedSwitch q p => q.wf && isPg p
  | .refSelect q ws => packetOk q ws
  | .dcoSet q ws => packetOk q ws
  | .timeStepAbsolute q ws => actionOk q ws 31 31 0
  | .timeStepRelative q ws => actionOk q ws 31 31 1
  | .timeAdjRate q ws => packetOk q ws
  | .timeOffsetAdj q ws => packetOk q ws
  | .evtPop q ws => packetOk q ws
  | .tsPop q ws => packetOk q ws
  | .eyeScanStart q ws => actionOk q ws 1 0 0
  | .eyeScanStop q ws => actionOk q ws 1 0 1
  | .eyeScanRead q ws => actionOk q ws 1 0 2
  | .eyeScanDone c errs => isCh c && decide (errs.length = 8192)
  | .prbsStart q ws => actionOk q ws 1 0 0
  | .prbsStop q ws => actionOk q ws 1 0 1
  | .prbsRead q ws => actionOk q ws 1 0 2
  | .prbsReadClear q ws => actionOk q ws 1 0 3
  | .prbsLock l => isCh l.lane && symsOk l.syms
  | .prbsLossOfLock c before window => isCh c && symsOk before && symsOk window
  | .loopbackOff q ws => actionOk q ws 1 0 0
  | .loopbackNear q ws => actionOk q ws 1 0 1
  | .loopbackFar q ws => actionOk q ws 1 0 2
  | .faultInjectWithdraw q ws => actionOk q ws 31 30 0
  | .faultInjectAssert q ws => actionOk q ws 31 30 1
  | .faultInjectPulse q ws => actionOk q ws 31 30 2
  | .faultPulseEnd => true
  | .faultInjAssert q src => q.wf && decide (src < 30)
  | .faultInjWithdraw q => q.wf
  | .sensorRd q ws => packetOk q ws
  | .logRd q ws => packetOk q ws
  | .fwWriteBegin q ws => actionOk q ws 31 30 0
  | .fwWriteData q ws => actionOk q ws 31 30 1
  | .fwWriteEnd q ws => actionOk q ws 31 30 2
  | .fwWriteAbort q ws => actionOk q ws 31 30 3
  | .fwWriteCompletion _ => true
  | .fwActivateChoose q ws => actionOk q ws 31 30 0
  | .fwActivateCommit q ws => actionOk q ws 31 30 1
  | .fwActWrite q _ => q.wf
  | .bootHeaderWritten _ => true
  | .reboot q ws => packetOk q ws
  | .pmRd q ws => packetOk q ws
  | .dccWr q ws => packetOk q ws
  | .dccRd q ws => packetOk q ws
  | .cfgStoreSaveNominal q ws => actionOk q ws 31 28 0
  | .cfgStoreErase q ws => actionOk q ws 31 28 1
  | .cfgStoreProgram q ws => actionOk q ws 31 28 2
  | .cfgStoreRead q ws => actionOk q ws 31 28 3
  | .cfgStoreCompletion _ => true
  | .twinStatus q ws => packetOk q ws
  | .twinForward q ws => packetOk q ws
  | .leaseYield q ws => packetOk q ws
  | .devLockWrite q _ => q.wf
  | .faultAck q _ => q.wf
  | .registerScrub addr _ => decide (addr < 0x400000)
  | .busPathError master target _ _ => decide (master < 8) && decide (target < 32)
  | .faultRaise src _ g c _ => decide (src < 30) && decide (g.getD 0 < 12) && decide (c.getD 0 < 192)
  | .faultAckTimerExpiry sev => decide (1 ≤ sev) && decide (sev ≤ 3)
  | .faultEventWindowExpiry src => decide (src < 30)
  | .watchdogExpiry _ => true
  | .badgerRestartDone _ _ => true
  | .sensorConversion temps mv => decide (temps.length = 16) && decide (mv.length = 6)
  | .mgmtEventHoldoffExpiry code ch => decide (code < 256) && decide (ch < 256)
  | .logFlush => true
  | .commandEventHoldoffExpiry code => decide (code < 256)
  | .protectionTimerMirror => true
  | .ppsOutEdge n => decide (n < 2)
  | .logRdCompletion => true
  | .gfpDelineationChange c core => isCh c && decide (core < 2 ^ 32)
  | .delayMemoryScrub _ uncorrectable => uncorrectable.all fun k => isRed k.stream && decide (k.member < 3)
  | .hiBerChange c _ => isCh c
  | .linkFaultStateChange c _ => isCh c

end Sys2Proof
end

