-- ==== Sys2Proof/Tests/Slice0.lean ====
section
/-!
SUPPORT. Tests: WellFormed refuses an ill-formed term for each of its checks; single steps with results taken from the
rules named; and for every statement of Certificates/Slice0/Obligations.lean states and operands that meet the hypotheses of
each of its clauses, at the boundary of a range where it has one.
-/
namespace Sys2Proof.Tests
set_option Elab.async false
open Sys2Proof Sys2Proof.Machine

/-! ### Small states -/

/-- A device that has left reset, with every register at its reset word and no firmware running. -/
def up : State := { State.reset with phase := .run }

/-- The same with firmware up and the Badger awake: every opcode row may act. -/
def fw : State := (up.setRb 0x0008 28 true).modMgmt fun m => { m with awake := true }

/-- Channel c with client code k, ROLE r, enabled, in state st, its group's clock running. -/
def chan (s : State) (c k r st : Nat) : State :=
  (((s.setReg (chReg c 1) (BitVec.ofNat 32 (k * 2 ^ 24 + r * 2 ^ 19))).setReg (chReg c 0) 0x80000000#32).setCrf c 4 31 29 st).modGrp
    (c / 16) fun g => { g with clk := true }

/-- A protection group p whose entry word 0 is w. -/
def pgOn (s : State) (p : Nat) (w : Word) : State := s.setTbl 4 p 0 w

/-- A fox engine in a state for a channel. -/
def foxAt (s : State) (e : Nat) (st : FoxState) (c : Nat) : State :=
  s.modFox e fun f => { f with st := st, ch := some c, endAt := some 0 }

/-- Connection 0 of bank 0 from a source to a destination. -/
def feed (s : State) (src dest : Word) : State := s.setConn 0 0 { dest := dest, src := src, ctl := 0#32, alt := 0#32 }

/-- Redundancy stream 2047 with ROLE r, its member m fed by the line of channel 0, the delay memory working. -/
def redUp (r m : Nat) : State :=
  (feed (chan up 0 0x10 0 4) (oduEp 0 0) (redEp 2047 m)).setTbl 5 2047 0 (BitVec.ofNat 32 (2 ^ 31 + r * 2 ^ 28)) |>.setRf 0x7080 31 30 2

/-- A FRER entry 2047 for stream 2047, VID 5; gen in bit 30. -/
def frerUp (r gen : Nat) : State := (redUp r 0).setTbl 6 2047 0 (BitVec.ofNat 32 (2 ^ 31 + gen * 2 ^ 30 + 2047 * 2 ^ 16 + 5))

/-- Channel c as a GFP client in frame with its packet units on. -/
def gfp (s : State) (c : Nat) : State := (chan s c 0x21 4 4).setCrb c 14 31 true

/-- A request of the host. -/
def Q : Req := { src := .host, tag := 7 }

/-- A held frame, clean and usable. -/
def H0 : Held := { seq := 0, clean := true, valid := true, data := [0#8], at_ := 0 }

/-- A queued frame. -/
def QF : QFrame := { len := 64, cells := 1, guar := false, at_ := 0 }

/-- A paired device with the link enabled and up, in role r. -/
def pair (s : State) (r : Nat) : State :=
  (((s.setRf 0x4008 31 30 1).setRf 0x4018 31 29 r).setRb 0x4000 31 true).modTwin fun t => { t with up := true }

/-- A command packet of version 1 with its CRC. -/
def packet (b1 : Byte) (op tag : Nat) (ws : List Word) (extra : List Byte) : List Byte :=
  withTrailer (headerBytes 1 false false b1.toNat op tag ws.length ++ unpackWords ws ++ extra)

/-- An in-band command stream in slot 63 on the line of channel 0. -/
def inb : State := (chan fw 0 1 0 4).setTbl 0x12 63 0 0xC0000000#32

/-- A reliable frame of the twin link. -/
def LF : LinkFrame := { typ := 0x10, seq := 65535, words := [] }

/-- A reply. -/
def RP : Reply := { req := Q, completion := false, opcode := 1, tag := 7, status := 0, detail := 0, words := [] }

/-- A pending key write. -/
def KA : KeyA := { addr := 0x4010, src := .host, value := 0#32, till := 0 }

/-- A swap under validation, for a time of 1 s, with two SDH lines that a bank may connect. -/
def swp : State := { chan (chan fw 0 3 0 4) 1 3 0 4 with swap := { validating := some Q, sec := 1 } }

/-- A connection that both banks may hold. -/
def K1 : Conn := { dest := 0x10100000#32, src := 0x10000000#32, ctl := 0x01FE0000#32, alt := 0#32 }

/-- A device that is switching from bank 0 to bank 1. -/
def swg : State := { chan (chan fw 0 3 0 4) 1 3 0 4 with swap := { st := 2 } }

/-- A firmware command that waits for its completion. -/
def PC (op : Nat) (j : Job) : PendCmd := { req := Q, opcode := op, job := j, pending := true, dueAt := some 10 }

/-- Input levels of a lane, in mVppd, for longer than any SD_QUAL. -/
def lit (c v : Nat) : LaneLevels := { lane := c, mv := List.replicate 1024 v }

/-- A right alignment word. -/
def FAS : Nat := 0xF6F6F6282828

/-- A FRER frame with VID 5 and the R-TAG number 65535. -/
def FR : FrerFrame :=
  let l := List.replicate 12 0#8 ++ [0x81, 0, 0, 5, 0xF1, 0xC1, 0, 0, 0xFF, 0xFF, 8, 0]
  { bytes := l, fcs := fcsOf l }

/-- An untagged frame of n bytes with its FCS. -/
def plain (n : Nat) : List Byte := (List.replicate 12 0#8 ++ [8, 0] ++ List.replicate n 0).take (n - 4)

/-- A client frame of n bytes with its FCS. -/
def eth (n : Nat) : EthFrame := { payload := plain n, fcs := fcsOf (plain n) }

/-- What a GFP transmitter sends of a payload: its core header, its type header and its payload, scrambled. -/
def gfpOf (pti upi : Nat) (pfi : Bool) (l : List Byte) : EthFrame :=
  let z := (gfpFrame [] pti upi pfi l).1
  { core := coreWord (l.length + 4 + 4 * b2n pfi), typ := (z.drop 4).take 4, payload := z.drop 8 }

/-- A GFP client in frame whose delineation is in SYNC. -/
def gfs (c : Nat) : State := (gfp up c).modMon c fun m => { m with gfp := .sync }

/-- A PRBS7 checker with seven ones behind it: the next bit is 0. -/
def P7 : Prbs := { chk := true, hist := List.replicate 7 true }

/-- Engine e one frame into its work on channel c. -/
def foxOn (s : State) (e : Nat) (st : FoxState) (c : Nat) : State := foxAt { s with owl := 1000 } e st c


/-- Stream 2047 recovers FRER frames of VID 5; both its members are up. -/
def both : State := (frerUp 4 0).setConn 0 1 { dest := redEp 2047 1, src := oduEp 0 0, ctl := 0#32, alt := 0#32 }

/-- Line 191 is an OTU2 that multiplexes. -/
def muxed : State := (chan up 191 0x10 0 4).setRf (chReg 191 1) 18 16 1

/-- Channel 191 waits for an engine and may roam; of the engines that could serve it, only number 27 is idle. -/
def roam : State :=
  ([22, 23, 24, 25, 26].foldl (fun u e => u.modFox e fun f => { f with st := .search }) (((chan up 191 1 0 3).setCrb 191 3 21
    true).modFrm 191 fun f => { f with reqAge := some 0 }))

/-- A GFP client in frame whose group's clock runs. -/
def gfpClk (s : State) (c : Nat) : State := gfp (s.modGrp (c / 16) fun g => { g with clk := true }) c

/-- A received GFP container that holds the client frame f. -/
def gfpIn (f : EthFrame) : FrerFrame :=
  let g := gfpOf 0 1 false (f.payload ++ (wordBytes f.fcs).reverse)
  { gfp := some { core := g.core, area := g.typ ++ g.payload } }

/-- Stream 2047 recovers FRER frames out of GFP containers whose delineation is in SYNC. -/
def bothGfp : State := both.modRed 2047 fun r => { r with a := { r.a with gfp := .sync } }

/-- A stream that plays: scheduled, its moment reached. -/
def playing (r : Nat) : State := (redUp r 0).modRed 2047 fun r => { r with sched := true }

/-! ### WellFormed -/

/-- Ill-formed terms, one for each check of WellFormed.lean. -/
theorem test_wf_refuses_1 : (
    [.rstNRelease { twinId := false, bootSrc := 4, testEn := false }, .terminationCalibration false [191, 192],
      .boundaryScanInstruction (some 256), .signalDetectAssert { lane := 192, mv := [] },
      .signalDetectDeassert { lane := 192, mv := [] }, .sleepHoldExpiry 192, .groupClockStop 12,
      .groupClockRunning 12, .lanePllLock { lane := 192, ppm := 0 }, .initialAdaptationDone 192,
      .deepWake (.signalDetect 192), .receivedFrame 192 {}, .receivedFrame 0 { fas := 2 ^ 48 },
      .receivedFrame 0 { ptype := some 256 }, .receivedFrame 0 { tribs := [{ ep := 0, ptr := some 65536 }] },
      .receivedFrame 0 { tribs := [{ ep := 0, ptype := some 256 }] },
      .receivedFrame 0 { tribs := [{ ep := 0, ctl := List.replicate 7 true }] },
      .receivedFrame 0 { tribs := [{ ep := 0, jc := [0, 0, 0, 0] }] }, .receivedFrame 0 { lanes := [[4]] },
      .transmittedFrame 192 {}, .transmittedFrame 0 { mfas := 256 },
      .transmittedFrame 0 { ptrs := [{ dest := 0, fill := 9 }] },
      .transmittedFrame 0 { ptrs := [{ dest := 0, fill := 0, start := 1024 }] },
      .transmittedFrame 0 { conts := [{ dest := 0, mfas := 256 }] },
      .transmittedFrame 0 { maps := [{ dest := 0, fill := 9 }] },
      .transmittedFrame 0 { maps := [{ dest := 0, cm := 16384 }] },
      .transmittedFrame 0 { maps := [{ dest := 0, cnd := 1024 }] }, .elasticStoreSlip 192 (.rx []),
      .elasticStoreSlip 0 (.rx (List.replicate 33 0)), .elasticStoreSlip 0 (.tx (List.replicate 33 0)),
      .mapperStoreSlip 192, .elasticSlipClear 192, .laneAlignerLock { lane := 192 },
      .laneAlignerLock { lane := 0, order := List.replicate 21 0 }, .laneAlignerLock { lane := 0, order := [20] },
      .laneAlignmentLoss 192, .pcsLockAcquired { lane := 192 },
      .pcsLockAcquired { lane := 0, order := List.replicate 21 0 }, .pcsLockAcquired { lane := 0, order := [20] },
      .pcsLockLost 192 true false]
      : List Instr).all (fun i => !i.wf) = true := by
  decide +kernel

/-- Ill-formed terms, one for each check of WellFormed.lean. -/
theorem test_wf_refuses_2 : (
    [.pcsLockLost 0 false false, .foxGrant 24, .foxSearchMatch { engine := 28, offset := 0, word := 0 },
      .foxSearchMatch { engine := 0, offset := 0, word := 2 ^ 48 }, .foxSearchNoMatch 28, .foxCandidateCheck 28 0,
      .foxCandidateCheck 0 (2 ^ 48), .foxConfirmCheck 28 0, .foxConfirmCheck 0 (2 ^ 48), .foxHandbackEnd 28,
      .foxReleaseEnd 28, .backoffHoldExpiry 192, .foxParityFail 28, .dlofTimerExpiry 192, .dlomTimerExpiry 192,
      .dcsfTimerExpiry 192, .degWindowEnd 192 false, .defectHoldoffExpiry 192 0, .defectHoldoffExpiry 0 23,
      .tributaryHoldoffExpiry 256, .watermarkCrossing 192 0, .csfTimer 192, .bmpClockReturn 192,
      .dccFrameReceived 64 [] false, .inbandCommandFrame 64 [] false, .frameCaptureDone 192, .byteTraceDone 192,
      .captArm { Q with tag := 0 } 0, .captArm Q 192, .traceArm { Q with tag := 0 } 0, .traceArm Q 192,
      .protectionEvaluation 96, .protHoldoffExpiry 96 .sfW, .wtrExpiry 96, .selectionBoundary 96,
      .noResponseTimer 96, .exerTimeout 96, .protEventHoldoffExpiry 96,
      .hitlessMemberFrame 2048 0 { pseq := 0, parityOk := true },
      .hitlessMemberFrame 0 2 { pseq := 0, parityOk := true }]
      : List Instr).all (fun i => !i.wf) = true := by
  decide +kernel

/-- Ill-formed terms, one for each check of WellFormed.lean. -/
theorem test_wf_refuses_3 : (
    [.hitlessMemberFrame 0 0 { pseq := 65536, parityOk := true }, .scheduleSet 2048, .scheduleDiscard 2048,
      .realign { Q with tag := 0 } 0, .realign Q 2048, .hitlessPlayout 2048, .dupLossTimerExpiry 192 0 0,
      .dupLossTimerExpiry 0 2048 0, .dupLossTimerExpiry 0 0 3,
      .voteMemberBlock 2048 0 { data := [], bseq := 0, check := 0 },
      .voteMemberBlock 0 3 { data := [], bseq := 0, check := 0 },
      .voteMemberBlock 0 0 { data := [], bseq := 65536, check := 0 }, .voteEmit 2048, .voteDisClearTimer 192,
      .voteTxSlot 2048 none, .frerRxFrame 2048 0 {}, .frerRxFrame 0 2 {}, .frerTxFrame 2048 {}, .frerResetTimer 2048,
      .twinLaneLoss 4 false, .linkAckRx { val := 65536 }, .claimRx 0 { val := 256 },
      .mirrorRx 65536 { cls := 0, obj := 0, off := 0, words := [] },
      .mirrorRx 0 { cls := 256, obj := 0, off := 0, words := [] },
      .bulkRx 65536 0 { cls := 0, obj := 0, off := 0, words := [] },
      .bulkRx 0 0 { cls := 256, obj := 0, off := 0, words := [] },
      .seqSyncRx { val := [{ stream := 2048, value := 0, at_ := 0 }] },
      .seqSyncRx { val := [{ stream := 0, value := 65536, at_ := 0 }] }, .frerSeqRx 2048 0 0 { val := 0 },
      .frerSeqRx 0 4096 0 { val := 0 }, .frerSeqRx 0 0 65536 { val := 0 }, .frerSeqWaitTimeout 2048 0 0,
      .frerSeqWaitTimeout 0 4096 0, .refInfoRx 0 16 0 { val := 0 }, .refInfoRx 0 0 0 { val := 1000000000 },
      .fwdCmdRx 65536 { val := [] }, .fwdReplyRx 65536 { val := [] }, .leaseCmdYield { Q with tag := 0 },
      .leaseCmdForceSole { Q with tag := 0 }, .twinRoleCfgWrite { Q with tag := 0 } 0]
      : List Instr).all (fun i => !i.wf) = true := by
  decide +kernel

/-- Ill-formed terms, one for each check of WellFormed.lean. -/
theorem test_wf_refuses_4 : (
    [.twinCtrlWrite { Q with tag := 0 } 0, .twinEventHoldoffExpiry 256, .ethIngressFrame 192 {},
      .ethIngressFrame 0 { core := 2 ^ 32 }, .ethIngressFrame 0 { typ := [] }, .gfpEgressFrame 192 {},
      .gfpEgressFrame 0 { core := 2 ^ 32 }, .gfpEgressFrame 0 { typ := [] }, .schedulerDecision 192,
      .egressFrameEnd 192, .tafLate 192 0, .tafLate 0 8, .gateEntryChange 192, .gateListActivation 192,
      .pktEnSet { Q with tag := 0 } 0, .pktEnSet Q 192, .pktEnClear { Q with tag := 0 } 0, .pktEnClear Q 192,
      .refActivityLoss 13, .refFreqMeasure [(13, 0)], .refEventHoldoffExpiry 16,
      .nominalPptWrite { Q with tag := 0 } 0, .stepRearmWrite { Q with tag := 0 } 0,
      .timeLatch { Q with source := some 9 }, .ppsInEdge 2 false, .trigArm { Q with tag := 0 } 0, .trigArm Q 4,
      .triggerFire 4, .hostWrite (List.replicate 4097 0), .readReply 4097, .nop { Q with tag := 65536 } [0],
      .echo { Q with tag := 65536 } [0], .identify { Q with tag := 65536 } [0], .regRd { Q with tag := 65536 } [0],
      .regWr { Q with tag := 65536 } [0], .keyPendingExpiry 0, .regRdBlk { Q with tag := 65536 } [0],
      .regWrBlk { Q with tag := 65536 } [0], .regWrKey { Q with tag := 65536 } [0], .resetOnRead (.depthMax 1536)]
      : List Instr).all (fun i => !i.wf) = true := by
  decide +kernel

/-- Ill-formed terms, one for each check of WellFormed.lean. -/
theorem test_wf_refuses_5 : (
    [.tblRd { Q with tag := 65536 } [0], .tblWr { Q with tag := 65536 } [0], .tblSwap Q [0x80000000],
      .tblSwapCancel Q [0x0], .swapDestinationSwitch 32768, .xcConnect { Q with tag := 65536 } [0],
      .xcDisconnect { Q with tag := 65536 } [0], .snapshot { Q with tag := 65536 } [0],
      .cntClear { Q with tag := 65536 } [0], .chProvision { Q with tag := 65536 } [0], .chProvisionCompletion 192,
      .chRelease { Q with tag := 65536 } [0], .chCtrlWrite { Q with tag := 0 } 0 0, .chCtrlWrite Q 192 0,
      .policerSet { Q with tag := 65536 } [0], .shaperSet { Q with tag := 65536 } [0], .gateArm Q [0x80000000],
      .gateArmCancel Q [0x0], .apsCmdClear Q [0x10000000], .apsCmdMsP Q [0x20000000], .apsCmdMsW Q [0x30000000],
      .apsCmdExer Q [0x40000000], .protOvrClear { Q with tag := 0 } 0, .protOvrClear Q 96,
      .protOvrLockout { Q with tag := 0 } 0, .protOvrLockout Q 96, .protOvrForcedSwitch { Q with tag := 0 } 0,
      .protOvrForcedSwitch Q 96, .refSelect { Q with tag := 65536 } [0], .dcoSet { Q with tag := 65536 } [0],
      .timeStepAbsolute Q [0x80000000], .timeStepRelative Q [0x0], .timeAdjRate { Q with tag := 65536 } [0],
      .timeOffsetAdj { Q with tag := 65536 } [0], .evtPop { Q with tag := 65536 } [0],
      .tsPop { Q with tag := 65536 } [0], .eyeScanStart Q [0x1], .eyeScanStop Q [0x2], .eyeScanRead Q [0x3],
      .eyeScanDone 192 (List.replicate 8192 0)]
      : List Instr).all (fun i => !i.wf) = true := by
  decide +kernel

/-- Ill-formed terms, one for each check of WellFormed.lean. -/
theorem test_wf_refuses_6 : (
    [.eyeScanDone 0 [], .prbsStart Q [0x1], .prbsStop Q [0x2], .prbsRead Q [0x3], .prbsReadClear Q [0x0],
      .prbsLock { lane := 192, syms := [] }, .prbsLock { lane := 0, syms := [4] }, .prbsLossOfLock 192 [] [],
      .prbsLossOfLock 0 [4] [], .prbsLossOfLock 0 [] [4], .loopbackOff Q [0x1], .loopbackNear Q [0x2],
      .loopbackFar Q [0x3], .faultInjectWithdraw Q [0x40000000], .faultInjectAssert Q [0x80000000],
      .faultInjectPulse Q [0xc0000000], .faultInjAssert { Q with tag := 0 } 0, .faultInjAssert Q 30,
      .faultInjWithdraw { Q with tag := 0 }, .sensorRd { Q with tag := 65536 } [0],
      .logRd { Q with tag := 65536 } [0], .fwWriteBegin Q [0x40000000], .fwWriteData Q [0x80000000],
      .fwWriteEnd Q [0xc0000000], .fwWriteAbort Q [0x0], .fwActivateChoose Q [0x40000000],
      .fwActivateCommit Q [0x80000000], .fwActWrite { Q with tag := 0 } 0, .reboot { Q with tag := 65536 } [0],
      .pmRd { Q with tag := 65536 } [0], .dccWr { Q with tag := 65536 } [0], .dccRd { Q with tag := 65536 } [0],
      .cfgStoreSaveNominal Q [0x10000000], .cfgStoreErase Q [0x20000000], .cfgStoreProgram Q [0x30000000],
      .cfgStoreRead Q [0x40000000], .twinStatus { Q with tag := 65536 } [0],
      .twinForward { Q with tag := 65536 } [0], .leaseYield { Q with tag := 65536 } [0],
      .devLockWrite { Q with tag := 0 } 0]
      : List Instr).all (fun i => !i.wf) = true := by
  decide +kernel

/-- Ill-formed terms, one for each check of WellFormed.lean. -/
theorem test_wf_refuses_7 : (
    [.faultAck { Q with tag := 0 } 0, .registerScrub 0x400000 .good, .busPathError 8 0 false 0,
      .busPathError 0 32 false 0, .faultRaise 30 .edge none none {}, .faultRaise 0 .edge (some 12) none {},
      .faultRaise 0 .edge none (some 192) {}, .faultAckTimerExpiry 0, .faultAckTimerExpiry 4,
      .faultEventWindowExpiry 30, .sensorConversion [] (List.replicate 6 0),
      .sensorConversion (List.replicate 16 0) [], .mgmtEventHoldoffExpiry 256 0, .mgmtEventHoldoffExpiry 0 256,
      .commandEventHoldoffExpiry 256, .ppsOutEdge 2, .gfpDelineationChange 192 0, .gfpDelineationChange 0 (2 ^ 32),
      .delayMemoryScrub 0 [⟨2048, 0, 0⟩], .delayMemoryScrub 0 [⟨0, 3, 0⟩], .hiBerChange 192 false,
      .linkFaultStateChange 192 .ok]
      : List Instr).all (fun i => !i.wf) = true := by
  decide +kernel

/-- A well-formed term of each command. -/
theorem test_wf_accepts_1 : (
    [.masterOscillatorStop, .masterOscillatorReturn, .rstNAssert,
      .rstNRelease { twinId := false, bootSrc := 0, testEn := false }, .terminationCalibration false [], .bootDone 0,
      .rebootReset, .boundaryScanInstruction none, .signalDetectAssert { lane := 0, mv := [] },
      .signalDetectDeassert { lane := 0, mv := [] }, .sleepHoldExpiry 0, .groupClockStop 0, .groupClockRunning 0,
      .lanePllLock { lane := 0, ppm := 0 }, .initialAdaptationDone 0, .badgerReady, .badgerSleep, .deepEntry,
      .deepWake .hostCs, .deepExitComplete, .receivedFrame 0 {}, .transmittedFrame 0 {},
      .elasticStoreSlip 0 (.rx []), .mapperStoreSlip 0, .elasticSlipClear 0, .laneAlignerLock { lane := 0 },
      .laneAlignmentLoss 0, .pcsLockAcquired { lane := 0 }, .pcsLockLost 0 true false, .foxGrant 0, .roamingEpoch,
      .foxSearchMatch { engine := 0, offset := 0, word := 0 }, .foxSearchNoMatch 0, .foxCandidateCheck 0 0,
      .foxConfirmCheck 0 0, .foxHandbackEnd 0, .foxReleaseEnd 0, .backoffHoldExpiry 0, .foxParityFail 0,
      .dlofTimerExpiry 0]
      : List Instr).all (fun i => i.wf) = true := by
  decide +kernel

/-- A well-formed term of each command. -/
theorem test_wf_accepts_2 : (
    [.dlomTimerExpiry 0, .dcsfTimerExpiry 0, .degWindowEnd 0 false, .pmSecondClose, .pmFold,
      .defectHoldoffExpiry 0 0, .tributaryHoldoffExpiry 0, .watermarkCrossing 0 0, .csfTimer 0, .bmpClockReturn 0,
      .dccFrameReceived 0 [] false, .inbandCommandFrame 0 [] false, .frameCaptureDone 0, .byteTraceDone 0,
      .captArm Q 0, .traceArm Q 0, .protectionEvaluation 0, .protHoldoffExpiry 0 .sfW, .wtrExpiry 0,
      .selectionBoundary 0, .noResponseTimer 0, .exerTimeout 0, .protEventHoldoffExpiry 0, .delayMemoryReady false,
      .delayMemorySelfRefresh, .hitlessMemberFrame 0 0 { pseq := 0, parityOk := true }, .scheduleSet 0,
      .scheduleDiscard 0, .realign Q 0, .hitlessPlayout 0, .dupLossTimerExpiry 0 0 0,
      .voteMemberBlock 0 0 { data := [], bseq := 0, check := 0 }, .voteEmit 0, .voteDisClearTimer 0,
      .voteTxSlot 0 none, .frerRxFrame 0 0 {}, .frerTxFrame 0 {}, .frerResetTimer 0,
      .twinHelloRx { twinId := false, version := 1, imageVer := 0, epoch := 0, role := 0, leaseLen := 0 },
      .twinLaneLoss 0 false]
      : List Instr).all (fun i => i.wf) = true := by
  decide +kernel

/-- A well-formed term of each command. -/
theorem test_wf_accepts_3 : (
    [.retransmitTimeout, .linkAckRx { val := 0 }, .linkAckTimer, .helloTimer, .renewRx 0 { val := 0 },
      .ackRx 0 { val := 0 }, .claimRx 0 { val := 0 }, .yieldRx 0 { val := 0 },
      .mirrorRx 0 { cls := 0, obj := 0, off := 0, words := [] },
      .bulkRx 0 0 { cls := 0, obj := 0, off := 0, words := [] }, .bulkResyncDone, .seqSyncRx { val := [] },
      .seqSyncTimer, .frerSeqRx 0 0 0 { val := 0 }, .frerSeqWaitTimeout 0 0 0, .refInfoRx 0 0 0 { val := 0 },
      .refInfoTimer, .fwdCmdRx 0 { val := [] }, .fwdReplyRx 0 { val := [] }, .leaseBeat, .leaseInChange false false,
      .leaseInStill, .twfInChange false false, .leaseEnd, .leaseClaimPoint, .yieldClaimTimeout, .leaseCmdYield Q,
      .leaseCmdForceSole Q, .twinRoleCfgWrite Q 0, .twinCtrlWrite Q 0, .twinEventHoldoffExpiry 0,
      .ethIngressFrame 0 {}, .gfpEgressFrame 0 {}, .schedulerDecision 0, .egressFrameEnd 0, .tafLate 0 0,
      .gateEntryChange 0, .gateListActivation 0, .queueSample, .pktEnSet Q 0]
      : List Instr).all (fun i => i.wf) = true := by
  decide +kernel

/-- A well-formed term of each command. -/
theorem test_wf_accepts_4 : (
    [.pktEnClear Q 0, .refActivityLoss 0, .refFreqMeasure [], .refSwitchEnd, .refLockReached, .refWtrExpiry,
      .softTimeout, .refEventHoldoffExpiry 0, .nominalPptWrite Q 0, .stepRearmWrite Q 0, .stepArmExpiry, .slewDone,
      .timeLatch Q, .ppsInEdge 0 false, .trigArm Q 0, .triggerFire 0, .hostWrite [], .readReply 0, .readStatus,
      .nop Q [0], .echo Q [0], .identify Q [0], .regRd Q [0], .regWr Q [0], .keyPendingExpiry 0x4010,
      .regRdBlk Q [0], .regWrBlk Q [0], .regWrKey Q [0], .resetOnRead .maxLat, .tblRd Q [0], .tblWr Q [0],
      .tblSwap Q [0], .tblSwapCancel Q [0x80000000], .tblSwapValidated, .swapTimeReached, .swapDestinationSwitch 0,
      .swapSwitchingEnd, .bankCopyDone, .xcConnect Q [0], .xcDisconnect Q [0]]
      : List Instr).all (fun i => i.wf) = true := by
  decide +kernel

/-- A well-formed term of each command. -/
theorem test_wf_accepts_5 : (
    [.snapshot Q [0], .cntClear Q [0], .chProvision Q [0], .chProvisionCompletion 0, .chRelease Q [0],
      .chCtrlWrite Q 0 0, .policerSet Q [0], .shaperSet Q [0], .gateArm Q [0], .gateArmCancel Q [0x80000000],
      .apsCmdClear Q [0], .apsCmdMsP Q [0x10000000], .apsCmdMsW Q [0x20000000], .apsCmdExer Q [0x30000000],
      .protOvrClear Q 0, .protOvrLockout Q 0, .protOvrForcedSwitch Q 0, .refSelect Q [0], .dcoSet Q [0],
      .timeStepAbsolute Q [0], .timeStepRelative Q [0x80000000], .timeAdjRate Q [0], .timeOffsetAdj Q [0],
      .evtPop Q [0], .tsPop Q [0], .eyeScanStart Q [0], .eyeScanStop Q [0x1], .eyeScanRead Q [0x2],
      .eyeScanDone 0 (List.replicate 8192 0), .prbsStart Q [0], .prbsStop Q [0x1], .prbsRead Q [0x2],
      .prbsReadClear Q [0x3], .prbsLock { lane := 0, syms := [] }, .prbsLossOfLock 0 [] [], .loopbackOff Q [0],
      .loopbackNear Q [0x1], .loopbackFar Q [0x2], .faultInjectWithdraw Q [0], .faultInjectAssert Q [0x40000000]]
      : List Instr).all (fun i => i.wf) = true := by
  decide +kernel

/-- A well-formed term of each command. -/
theorem test_wf_accepts_6 : (
    [.faultInjectPulse Q [0x80000000], .faultPulseEnd, .faultInjAssert Q 0, .faultInjWithdraw Q, .sensorRd Q [0],
      .logRd Q [0], .fwWriteBegin Q [0], .fwWriteData Q [0x40000000], .fwWriteEnd Q [0x80000000],
      .fwWriteAbort Q [0xc0000000], .fwWriteCompletion false, .fwActivateChoose Q [0],
      .fwActivateCommit Q [0x40000000], .fwActWrite Q 0, .bootHeaderWritten false, .reboot Q [0], .pmRd Q [0],
      .dccWr Q [0], .dccRd Q [0], .cfgStoreSaveNominal Q [0], .cfgStoreErase Q [0x10000000],
      .cfgStoreProgram Q [0x20000000], .cfgStoreRead Q [0x30000000], .cfgStoreCompletion false, .twinStatus Q [0],
      .twinForward Q [0], .leaseYield Q [0], .devLockWrite Q 0, .faultAck Q 0, .registerScrub 0 .good,
      .busPathError 0 0 false 0, .faultRaise 0 .edge none none {}, .faultAckTimerExpiry 1, .faultEventWindowExpiry 0,
      .watchdogExpiry none, .badgerRestartDone false false,
      .sensorConversion (List.replicate 16 0) (List.replicate 6 0), .mgmtEventHoldoffExpiry 0 0, .logFlush,
      .commandEventHoldoffExpiry 0]
      : List Instr).all (fun i => i.wf) = true := by
  decide +kernel

/-- A well-formed term of each command. -/
theorem test_wf_accepts_7 : (
    [.protectionTimerMirror, .ppsOutEdge 0, .logRdCompletion, .gfpDelineationChange 0 0, .delayMemoryScrub 0 [],
      .hiBerChange 0 false, .linkFaultStateChange 0 .ok]
      : List Instr).all (fun i => i.wf) = true := by
  decide +kernel

/-! ### Single steps -/

/-- The state a command answers; the machine's reset where it does not answer one. -/
def after (c : Instr) (s : State) : State :=
  match exec c s with
  | .next t => t
  | _ => State.reset

/-- Statuses and words of the replies that wait for the host. -/
def replies (s : State) : List (Nat × List Word) := s.cmd.hostReplies.map fun r => (r.status, r.words)

/-- R577, R578: the rise of RST_N samples the straps and starts the boot code. -/
theorem test_release :
    (after (.rstNRelease { twinId := true, bootSrc := 2, testEn := false }) State.reset).phase = .boot
      ∧ (after (.rstNRelease { twinId := true, bootSrc := 2, testEn := false }) State.reset).straps.bootSrc = 2 := by
  decide +kernel

/-- R573: a command in reset has no effect. -/
theorem test_held_still : after (.nop Q []) State.reset = State.reset := by decide +kernel

/-- R440 step 11: NOP with a parameter word answers E_LENGTH. -/
theorem test_nop : replies (after (.nop Q []) fw) = [(0, [])] ∧ replies (after (.nop Q [0]) fw) = [(0x0103, [])] := by
  decide +kernel

/-- R454: ECHO returns its words. -/
theorem test_echo : replies (after (.echo Q [1, 2]) fw) = [(0, [1, 2])] := by decide +kernel

/-- R503: DEV_ID reads 0x0001_9256. -/
theorem test_reg_rd : replies (after (.regRd Q [0]) fw) = [(0, [0x00019256#32])] := by decide +kernel

/-- R479: slot 28 of a channel window shows slot 20. -/
theorem test_alias : decodeAddr (chReg 5 28) = (.chan 5 20, true) := by decide +kernel

/-- R494: the first channel window of group 1. -/
theorem test_address : chReg 16 0 = 0x130000 ∧ grpReg 1 0 = 0x120000 := by decide +kernel

/-- R504: SCRATCH0 keeps what is written; a reserved bit of DEV_PWR does not. -/
theorem test_reg_wr : (after (.regWr Q [0xD0, 0x12345678]) fw).reg 0xD0 = 0x12345678#32
    ∧ (after (.regWr Q [0x0C, 0xFFFFFFFF]) fw).reg 0x0C = 0x80000000#32 := by decide +kernel

/-- R483: a lock bit of DEV_LOCK stays set. -/
theorem test_lock_sticks : (after (.devLockWrite Q 0) (fw.setRb 0x0010 31 true)).rb 0x0010 31 = true := by decide +kernel

/-- R465: an empty event FIFO answers a count of 0 and one event with VALID 0. -/
theorem test_evt_pop : replies (after (.evtPop Q [5]) fw) = [(0, [0, 0, 0])]
    ∧ replies (after (.evtPop Q [1]) { fw with events := [0x8100000000000007#64, 0#64] })
      = [(0, [1, 0x81000000#32, 7])] := by decide +kernel

/-- The CRC-32C of "123456789" is 0xE3069283 (the published check value of the code that R438 names). -/
theorem test_crc32c : crc32c [0x31, 0x32, 0x33, 0x34, 0x35, 0x36, 0x37, 0x38, 0x39] = 0xE3069283#32 := by decide +kernel

/-- R319: SEQ follows modulo 65,536 with 0 skipped. -/
theorem test_link_seq : nextSeq 65535 = 1 ∧ nextSeq 1 = 2 := by decide +kernel

/-- R86: a wrong alignment word takes IN_FRAME to OOF_HOLD with a count of 1. -/
theorem test_oof_hold : (after (.receivedFrame 0 { fas := 0 }) (chan up 0 1 0 4)).chState 0 = stOofHold
    ∧ ((after (.receivedFrame 0 { fas := 0 }) (chan up 0 1 0 4)).ch 0).frm.errs = 1 := by decide +kernel

/-- R83, R85: the fifth wrong word in a row (OOF_N 5 at reset) loses the frame. -/
theorem test_oof : (after (.receivedFrame 0 { fas := 0 }) ((chan up 0 1 0 5).modFrm 0 fun f => { f with errs := 4 })).def_ 0
    dOOF = true := by decide +kernel

/-- R94: with CONFIRM_N 2 one confirmed word after the candidate hands back. -/
theorem test_confirm : (after (.foxConfirmCheck 0 FAS) ((foxOn (chan up 0 1 0 2) 0 .confirm 0).modFox 0 fun f => { f with left := 1 })).chState 0
    = stInFrame := by decide +kernel

/-- R424: TIME_ADJ_RATE accepts 100,000,000 and refuses one more. -/
theorem test_adj_rate : (after (.timeAdjRate Q [100000000]) fw).reg 0x3018 = 100000000#32
    ∧ replies (after (.timeAdjRate Q [100000001]) fw) = [(0x0102, [])] := by decide +kernel

/-- R421: a step with time valid and no arming is refused and flagged. -/
theorem test_step_refused : (after (.timeStepAbsolute Q [0, 5, 0]) (fw.setRb 0x3000 31 true)).rb 0x3028 30 = true
    ∧ (after (.timeStepAbsolute Q [0, 5, 0]) (fw.setRb 0x3000 31 true)).time.sec = 0
    ∧ (after (.timeStepAbsolute Q [0, 5, 0]) fw).time.sec = 5 := by decide +kernel

/-- R483: under BOOT_LOCK the key procedure answers E_LOCKED. -/
theorem test_key_locked : replies (after (.stepRearmWrite Q 1) (fw.setRb 0x0010 31 true)) = [(0x0303, [])] := by
  decide +kernel

/-- R293: two of three valid copies that agree outvote the third. -/
theorem test_vote : verdict true [(0, H0), (1, { H0 with data := [1#8] }), (2, H0)]
    = { data := some [0#8], disagree := true, marked := [1] } := by decide +kernel

/-- R286: FRER generation counts modulo 65,536. -/
theorem test_frer_seq : ((after (.frerTxFrame 2047 FR) ((frerUp 5 1).modFrer 2047 fun x => { x with nextSeq := 65535 })).frer
    2047).nextSeq = 0 := by decide +kernel

/-- R253: MS-P is stored. -/
theorem test_aps : ((after (.apsCmdMsP Q [0x1000005F]) (pgOn fw 95 0x80000000#32)).pg 95).manual = 6 := by decide +kernel

/-- R44: the group's clock runs when its 20 µs are over. -/
theorem test_group_wake : ((after (.groupClockRunning 11) (up.modGrp 11 fun x => { x with startAt := some 0 })).grp 11).clk = true := by
  decide +kernel

/-- R197: a line connection takes entry 0 of the bank not in use. -/
theorem test_connect : epKind ((after (.xcConnect Q [0x01FE0000, 0x10000000, 0x10100000, 0]) (chan (chan fw 0 3 0 4) 1 3 0 4)).conn
    1 0).dest = 1 := by decide +kernel

/-- R326: the end of the lease makes a holder without SOLE LAPSED. -/
theorem test_lease_end : (after .leaseEnd ((pair { up with owl := 1 } 4).modTwin fun t => { t with leaseEnd := some 0 })).twinRole = 5 := by
  decide +kernel

/-- R555: DATA whose offset does not follow programs nothing. -/
theorem test_fw_data : (after (.fwWriteData Q [0x40000001, 4, 0]) ((fw.claim .flashUpload).modMgmt fun m =>
    { m with upload := some { slot := 1, len := 384 } })).mgmt.flash = [] := by decide +kernel

/-- The tick moves the count of OWL edges by one. -/
theorem test_tick : (match step up with | .next t => t.owl | _ => 0) = 1 := by decide +kernel

/-- R79: an error ratio of 1e-6 reads 60, half the bits in error read 3, no error reads 0. -/
theorem test_eye : eyeCode 1000000 1 = 60 ∧ eyeCode 1000 500 = 3 ∧ eyeCode 1000000 0 = 0 := by decide +kernel

/-- R51: Gray levels of 00, 01, 11, 10, and the precoder's running difference modulo 4. -/
theorem test_gray : [[false, false], [false, true], [true, true], [true, false]].map grayLevel = [0, 1, 2, 3]
    ∧ precode 0 [1, 1, 3] = [1, 0, 3] := by decide +kernel

/-- R605: the balls that the rule names for channels 77 and 0. -/
theorem test_balls :
    (laneBall 77 true false, laneBall 77 true true, laneBall 77 false false, laneBall 77 false true)
      = ((35, 65), (36, 65), (35, 57), (36, 57))
    ∧ rowName 35 = "AU" ∧ rowName 36 = "AV" ∧ rowName 72 = "CT"
    ∧ laneBall 0 true false = (2, 20) ∧ laneBall 0 false false = (10, 20) ∧ rowName 10 = "K" := by decide +kernel

/-! ### The hypotheses of the statements are met -/

theorem wit_ResetAssert :
    (∃ (s : State), s.mgmt.headerNext = none ∧ s.cmd.pend = []) :=
  ⟨up, by decide +kernel⟩

theorem wit_ResetRelease :
    (∃ (s : State) (a : Nat), s.wf = true ∧ s.phase = .held ∧ a ≠ 0x0014 ∧ a ≠ 0x0004 ∧ a ≠ 0x002C ∧ a ≠ 0x0010 ∧ a ≠
      0x4018 ∧ a ≠ 0x50DC) :=
  ⟨State.reset, 0, by decide +kernel⟩

theorem wit_RebootReset :
    (∃ (s : State) (a : Nat), s.alive = true ∧ s.due s.mgmt.rebootAt = true ∧ a ≠ 0x0014 ∧ a ≠ 0x0004 ∧ a ≠ 0x002C ∧ a ≠
      0x0010 ∧ a ≠ 0x4018 ∧ a ≠ 0x50DC) :=
  ⟨{ up with mgmt := { up.mgmt with rebootAt := some 0 } }, 0, by decide +kernel⟩

theorem wit_Oscillator :
    (∃ (s : State), s.osc = false ∧ s.phase = .held)
    ∧ (∃ (s : State), s.osc = false ∧ s.phase = .run)
    ∧ (∃ (s : State), s.osc = false ∧ s.phase = .deep) :=
  ⟨⟨{ State.reset with osc := false }, by decide +kernel⟩,
    ⟨{ up with osc := false }, by decide +kernel⟩,
    ⟨{ up with osc := false, phase := .deep }, by decide +kernel⟩⟩

theorem wit_BoundaryScan :
    (∃ (code : Nat), jtagCodes.contains code = true)
    ∧ (∃ (code : Nat), jtagCodes.contains code = false)
    ∧ (∃ (s : State), s.jtag = 0x05)
    ∧ (∃ (s : State), (s.jtag = 0xFF ∨ s.jtag = 0x01 ∨ s.jtag = 0x02)) :=
  ⟨⟨0x09, by decide +kernel⟩,
    ⟨0x80, by decide +kernel⟩,
    ⟨{ up with jtag := 0x05 }, by decide +kernel⟩,
    ⟨{ up with jtag := 0x02 }, by decide +kernel⟩⟩

theorem wit_Deep :
    (∃ (s : State), s.deepOk = true ∧ s.due s.deepAt = true ∧ s.swap.st ≠ 1)
    ∧ (∃ (s : State), s.alive = true ∧ s.phase = .deep ∧ s.owlTimerOut = true)
    ∧ (∃ (s : State) (c : Nat), s.alive = true ∧ s.phase = .deep ∧ c < 192)
    ∧ (∃ (s : State), s.alive = true ∧ s.phase = .deepExit ∧ s.due s.wakeAt = true ∧ s.refs.cands = [] ∧ s.swap.cancelled
      = false ∧ s.mgmt.logBuf = []) :=
  ⟨⟨{ up.setRb 0x000C 31 true with deepAt := some 0 }, by decide +kernel⟩,
    ⟨{ up with phase := .deep, faults := { up.faults with t1 := some 0 } }, by decide +kernel⟩,
    ⟨{ up with phase := .deep }, 191, by decide +kernel⟩,
    ⟨{ up with phase := .deepExit, wakeAt := some 0 }, by decide +kernel⟩⟩

theorem wit_TerminationCalibration :
    (∃ (s : State), s.phase = .boot ∧ s.osc = true) :=
  ⟨{ State.reset with phase := .boot }, by decide +kernel⟩

theorem wit_BootDone :
    (∃ (s : State), s.phase = .boot ∧ s.osc = true) :=
  ⟨{ State.reset with phase := .boot }, by decide +kernel⟩

theorem wit_GroupClock :
    (∃ (s : State) (g : Nat), s.alive = true ∧ g < 12 ∧ (s.grp g).clk = true ∧ s.due (s.grp g).stopAt = true ∧ s.quiet g
      = true)
    ∧ (∃ (s : State) (g : Nat), s.alive = true ∧ g < 12 ∧ (s.grp g).clk = false ∧ s.due (s.grp g).startAt = true ∧ s.phase
      ≠ .deep) :=
  ⟨⟨up.modGrp 0 fun x => { x with clk := true, stopAt := some 0 }, 0, by decide +kernel⟩,
    ⟨up.modGrp 11 fun x => { x with startAt := some 0 }, 11, by decide +kernel⟩⟩

theorem wit_SignalDetect :
    (∃ (s : State) (l : LaneLevels), s.sdAsserts l.lane l.mv = false)
    ∧ (∃ (s : State) (l : LaneLevels), s.alive = true ∧ l.lane < 192 ∧ s.provisioned l.lane = true ∧ s.phase ≠ .deep ∧
      (s.lane l.lane).sd = false ∧ s.sdAsserts l.lane l.mv = true ∧ s.enabled l.lane = false ∧ s.wf = true)
    ∧ (∃ (s : State) (l : LaneLevels), s.alive = true ∧ l.lane < 192 ∧ s.provisioned l.lane = true ∧ s.phase ≠ .deep ∧
      (s.lane l.lane).sd = false ∧ s.sdAsserts l.lane l.mv = true ∧ s.enabled l.lane = true ∧ s.wf = true ∧ (s.lane
      l.lane).rxAsleep = true)
    ∧ (∃ (s : State) (l : LaneLevels), s.alive = true ∧ l.lane < 192 ∧ s.provisioned l.lane = true ∧ s.phase ≠ .deep ∧
      (s.lane l.lane).sd = false ∧ s.sdAsserts l.lane l.mv = true ∧ s.enabled l.lane = true ∧ s.wf = true ∧ (s.lane
      l.lane).rxAsleep = false ∧ s.def_ l.lane dLOS = true ∧ s.chState (s.owner l.lane) = stWaking)
    ∧ (∃ (s : State) (l : LaneLevels), s.sdDrops l.lane l.mv = false)
    ∧ (∃ (s : State) (l : LaneLevels), s.alive = true ∧ l.lane < 192 ∧ s.provisioned l.lane = true ∧ s.enabled l.lane =
      true ∧ s.wf = true ∧ (s.lane l.lane).sd = true ∧ s.sdDrops l.lane l.mv = true ∧ (s.lane l.lane).rxAsleep =
      false ∧ s.def_ l.lane dLOS = false)
    ∧ (∃ (s : State) (l : LaneLevels), s.alive = true ∧ l.lane < 192 ∧ s.provisioned l.lane = true ∧ s.enabled l.lane =
      true ∧ s.wf = true ∧ (s.lane l.lane).sd = true ∧ s.sdDrops l.lane l.mv = true ∧ (s.lane l.lane).rxAsleep =
      false ∧ s.def_ l.lane dLOS = true) :=
  ⟨⟨up, lit 191 50, by decide +kernel⟩,
    ⟨up.setCrf 0 1 31 24 1, lit 0 81, by decide +kernel⟩,
    ⟨(chan up 191 1 0 0).modLane 191 fun l => { l with rxAsleep := true }, lit 191 200, by decide +kernel⟩,
    ⟨(chan up 0 1 0 1).setCrb 0 5 dLOS true, lit 0 200, by decide +kernel⟩,
    ⟨up, lit 191 200, by decide +kernel⟩,
    ⟨(chan up 191 1 0 4).modLane 191 fun l => { l with sd := true }, { lane := 191, mv := List.replicate 8 0 },
      by decide +kernel⟩,
    ⟨((chan up 191 1 0 4).setCrb 191 5 dLOS true).modLane 191 fun l => { l with sd := true },
      { lane := 191, mv := List.replicate 8 0 }, by decide +kernel⟩⟩

theorem wit_SleepHold :
    (∃ (s : State) (c : Nat), s.alive = true ∧ c < 192 ∧ s.chState (s.owner c) ≠ stFaulted ∧ (s.lane (s.owner
      c)).rxAsleep = false ∧ s.heldOut c = true ∧ (s.bond (s.owner c)).all (fun d => s.heldOut d && s.def_ d dLOS &&
      !(s.lane d).sd) = true) :=
  ⟨{ ((chan up 191 1 0 4).setCrb 191 5 dLOS true).modLane 191 fun l => { l with sleepHold := some 0 } with owl := 1 },
      191, by decide +kernel⟩

theorem wit_LaneUp :
    (∃ (s : State) (l : LaneOffset), s.alive = true ∧ l.lane < 192 ∧ s.enabled l.lane = true ∧ s.provisioned l.lane =
      true ∧ (s.lane l.lane).calFail = false ∧ (s.grp (l.lane / 16)).clk = true ∧ ((s.lane l.lane).rxOn = true ∨
      s.txKeeps (s.owner l.lane) = true))
    ∧ (∃ (s : State) (c : Nat), s.alive = true ∧ c < 192 ∧ s.enabled c = true ∧ (s.lane c).rxOn = true ∧ (s.lane c).pll =
      true ∧ (s.lane c).sd = true ∧ (s.lane c).adapted = false) :=
  ⟨⟨(chan up 191 1 0 1).modLane 191 fun l => { l with rxOn := true }, { lane := 191, ppm := 100 }, by decide +kernel⟩,
    ⟨(chan up 0 1 0 1).modLane 0 fun l => { l with rxOn := true, pll := true, sd := true }, 0, by decide +kernel⟩⟩

theorem wit_ElasticSlip :
    (∃ (s : State) (c : Nat) (l : List (BitVec 128)), s.alive = true ∧ c < 192 ∧ s.enabled c = true ∧ l.length = 32 ∧
      s.gfpRole c = true)
    ∧ (∃ (s : State) (c : Nat) (l : List (BitVec 128)), s.alive = true ∧ c < 192 ∧ s.enabled c = true ∧ 8 ≤ l.length ∧
      l.length ≤ 24 ∧ s.gfpRole c = false)
    ∧ (∃ (s : State) (c : Nat) (l : List (BitVec 128)), s.alive = true ∧ c < 192 ∧ s.enabled c = true ∧ 24 < l.length ∧
      l.length < 32)
    ∧ (∃ (s : State) (c : Nat), s.alive = true ∧ c < 192 ∧ s.due (s.lane c).slipClear = true ∧ s.defHeld c dSLIP = false) :=
  ⟨⟨gfp up 0, 0, List.replicate 32 0#128, by decide +kernel⟩,
    ⟨chan up 191 1 0 4, 191, List.replicate 24 0#128, by decide +kernel⟩,
    ⟨chan up 191 1 0 4, 191, List.replicate 31 0#128, by decide +kernel⟩,
    ⟨(chan up 191 1 0 4).modLane 191 fun l => { l with slipClear := some 0 }, 191, by decide +kernel⟩⟩

theorem wit_LanesAligned :
    (∃ (s : State) (c : Nat) (k : Nat), s.alive = true ∧ c < 192 ∧ isOtn (s.client c) = true ∧ lanesOf (s.client c) > 1
      ∧ s.enabled c = true ∧ k ≤ 180 ∧ (s.bond c).all (fun d => (s.lane d).adapted) = true)
    ∧ (∃ (s : State) (c : Nat) (k : Nat), 180 < k ∧ lanesOf (s.client c) > 1)
    ∧ (∃ (s : State) (c : Nat) (k : Nat), s.alive = true ∧ c < 192 ∧ isEth (s.client c) = true ∧ s.enabled c = true ∧
      s.isMember c = false ∧ s.checking c = false ∧ (k ≤ 180 ∨ lanesOf (s.client c) = 1) ∧ (s.bond c).all (fun d =>
      (s.lane d).adapted) = true ∧ s.chState c ≠ stFaulted)
    ∧ (∃ (s : State) (c : Nat), s.checking c = true)
    ∧ (∃ (s : State) (c : Nat), s.alive = true ∧ c < 192 ∧ isBaseR (s.client c) = true ∧ s.isMember c = false ∧ s.pcsFault
      c = false) :=
  ⟨⟨[0, 1, 2, 3].foldl (fun u d => u.modLane d fun l => { l with adapted := true }) (chan up 0 0x12 0 2), 0, 180,
      by decide +kernel⟩,
    ⟨chan up 0 0x25 0 2, 0, 181, by decide +kernel⟩,
    ⟨(chan up 191 0x21 0 2).modLane 191 fun l => { l with adapted := true }, 191, 181, by decide +kernel⟩,
    ⟨(chan up 191 0x21 0 2).modLane 191 fun l => { l with prbs := { l.prbs with chk := true } }, 191, by decide +kernel⟩,
    ⟨chan up 191 0x21 0 4, 191, by decide +kernel⟩⟩

theorem wit_FoxGrants :
    (∃ (s : State) (e : Nat) (c : Nat), s.alive = true ∧ e < 24 ∧ (s.fox e).st = .idle ∧ (s.grp (e / 2)).clk = true ∧
      s.running = true ∧ c ∈ s.waiting (e / 2) false ∧ ((∀ d ∈ s.waiting (e / 2) false, d = c ∨ (s.ch
      c).frm.reqAge.getD 0 < (s.ch d).frm.reqAge.getD 0 ∨ (s.ch c).frm.reqAge.getD 0 = (s.ch d).frm.reqAge.getD 0 ∧
      c < d)))
    ∧ (∃ (s : State) (e : Nat), s.alive = true ∧ s.waiting (e / 2) false = [])
    ∧ (∃ (s : State) (e : Nat), ((s.fox e).st ≠ .idle ∨ s.nextGroup = none))
    ∧ (∃ (s : State) (e : Nat) (g : Nat) (c : Nat), s.alive = true ∧ s.owl % 8 = 0 ∧ s.running = true ∧ 24 ≤ e ∧ e < 28 ∧
      ((∀ k ∈ [24, 25, 26, 27], k ≠ e → (s.fox k).st ≠ .idle)) ∧ (s.fox e).st = .idle ∧ s.nextGroup = some g ∧ c ∈
      s.waiting g true ∧ s.chState c = stWaitFox ∧ s.wf = true ∧ ((∀ d ∈ s.waiting g true, d = c ∨ (s.ch
      c).frm.reqAge.getD 0 < (s.ch d).frm.reqAge.getD 0 ∨ (s.ch c).frm.reqAge.getD 0 = (s.ch d).frm.reqAge.getD 0 ∧
      c < d))) :=
  ⟨⟨(chan up 191 1 0 3).modFrm 191 fun f => { f with reqAge := some 0 }, 23, 191, by decide +kernel⟩,
    ⟨up, 23, by decide +kernel⟩,
    ⟨up, 24, by decide +kernel⟩,
    ⟨roam, 27, 11, 191, by decide +kernel⟩⟩

theorem wit_FoxAttempt :
    (∃ (s : State) (x : Sighting), s.alive = true ∧ (s.fox x.engine).st = .search ∧ s.foxSees x.engine x.word = true)
    ∧ (∃ (s : State) (x : Sighting), s.foxSees x.engine x.word = false)
    ∧ (∃ (s : State) (e : Nat), s.alive = true ∧ (s.fox e).st = .search ∧ s.framePassed ((s.fox e).ch.getD 0) (s.fox
      e).lookAt = true)
    ∧ (∃ (s : State) (e : Nat) (w : Nat), s.alive = true ∧ (s.fox e).st = .candidate ∧ s.framePassed ((s.fox e).ch.getD 0)
      (s.fox e).lookAt = true ∧ s.foxSees e w = true ∧ s.confirmN ((s.fox e).ch.getD 0) > 1)
    ∧ (∃ (s : State) (e : Nat) (w : Nat), s.alive = true ∧ (s.fox e).st = .candidate ∧ s.framePassed ((s.fox e).ch.getD 0)
      (s.fox e).lookAt = true ∧ s.foxSees e w = true ∧ s.confirmN ((s.fox e).ch.getD 0) = 1)
    ∧ (∃ (s : State) (e : Nat) (w : Nat), s.alive = true ∧ (s.fox e).st = .candidate ∧ s.framePassed ((s.fox e).ch.getD 0)
      (s.fox e).lookAt = true ∧ s.foxSees e w = false ∧ (s.fox e).second = false)
    ∧ (∃ (s : State) (e : Nat) (w : Nat), s.alive = true ∧ (s.fox e).st = .candidate ∧ s.framePassed ((s.fox e).ch.getD 0)
      (s.fox e).lookAt = true ∧ s.foxSees e w = false ∧ (s.fox e).second = true)
    ∧ (∃ (s : State) (e : Nat) (w : Nat), s.alive = true ∧ (s.fox e).st = .confirm ∧ s.framePassed ((s.fox e).ch.getD 0)
      (s.fox e).lookAt = true ∧ s.foxSees e w = true ∧ (s.fox e).left > 1)
    ∧ (∃ (s : State) (e : Nat) (w : Nat), s.alive = true ∧ (s.fox e).st = .confirm ∧ s.framePassed ((s.fox e).ch.getD 0)
      (s.fox e).lookAt = true ∧ s.foxSees e w = true ∧ (s.fox e).left ≤ 1)
    ∧ (∃ (s : State) (e : Nat) (w : Nat), s.alive = true ∧ (s.fox e).st = .confirm ∧ s.framePassed ((s.fox e).ch.getD 0)
      (s.fox e).lookAt = true ∧ s.foxSees e w = false) :=
  ⟨⟨foxOn up 27 .search 0, { engine := 27, offset := 0, word := FAS }, by decide +kernel⟩,
    ⟨foxOn up 0 .search 0, { engine := 0, offset := 0, word := 0 }, by decide +kernel⟩,
    ⟨foxOn (chan up 0 1 0 2) 27 .search 0, 27, by decide +kernel⟩,
    ⟨foxOn (up.setCrf 0 3 27 26 3) 0 .candidate 0, 0, FAS, by decide +kernel⟩,
    ⟨foxOn up 0 .candidate 0, 0, FAS, by decide +kernel⟩,
    ⟨foxOn up 0 .candidate 0, 0, 0, by decide +kernel⟩,
    ⟨(foxOn up 0 .candidate 0).modFox 0 fun f => { f with second := true }, 0, 0, by decide +kernel⟩,
    ⟨(foxOn up 0 .confirm 0).modFox 0 fun f => { f with left := 2 }, 0, FAS, by decide +kernel⟩,
    ⟨(foxOn up 0 .confirm 0).modFox 0 fun f => { f with left := 1 }, 0, FAS, by decide +kernel⟩,
    ⟨foxOn up 27 .confirm 191, 27, 0, by decide +kernel⟩⟩

theorem wit_FoxEnds :
    (∃ (s : State) (e : Nat) (c : Nat), s.alive = true ∧ (s.fox e).st = .search ∧ (s.fox e).ch = some c ∧ s.framePassed
      c (s.fox e).lookAt = true)
    ∧ (∃ (s : State) (e : Nat) (c : Nat) (w : Nat), s.alive = true ∧ (s.fox e).st = .confirm ∧ (s.fox e).ch = some c ∧
      s.framePassed c (s.fox e).lookAt = true ∧ s.foxSees e w = true ∧ (s.fox e).left ≤ 1 ∧ s.wf = true) :=
  ⟨⟨foxOn (chan up 0 1 0 2) 0 .search 0, 0, 0, by decide +kernel⟩,
    ⟨foxOn (chan up 191 1 0 2) 27 .confirm 191, 27, 191, FAS, by decide +kernel⟩⟩

theorem wit_FoxRelease :
    (∃ (s : State) (e : Nat) (c : Nat), s.alive = true ∧ (s.fox e).st = .handback ∧ s.due (s.fox e).endAt = true ∧
      (s.fox e).ch = some c ∧ s.crf c 4 28 24 = e)
    ∧ (∃ (s : State) (e : Nat) (c : Nat), s.alive = true ∧ (s.fox e).st = .release ∧ s.due (s.fox e).endAt = true ∧ (s.fox
      e).ch = some c)
    ∧ (∃ (s : State) (c : Nat), s.alive = true ∧ s.due (s.ch c).frm.held = true)
    ∧ (∃ (s : State) (e : Nat), s.alive = true ∧ e < 24 ∧ (s.fox e).st = .idle ∧ (s.fox e).ch = none)
    ∧ (∃ (s : State) (e : Nat), s.alive = true ∧ 24 ≤ e ∧ e < 28 ∧ (s.fox e).st = .idle ∧ (s.fox e).ch = none)
    ∧ (∃ (s : State) (e : Nat) (c : Nat), s.alive = true ∧ e < 28 ∧ (s.fox e).st = .search ∧ (s.fox e).ch = some c) :=
  ⟨⟨foxAt (up.setCrf 191 4 28 24 23) 23 .handback 191, 23, 191, by decide +kernel⟩,
    ⟨foxAt up 27 .release 191, 27, 191, by decide +kernel⟩,
    ⟨up.modFrm 191 fun f => { f with held := some 0 }, 191, by decide +kernel⟩,
    ⟨up, 23, by decide +kernel⟩,
    ⟨up, 27, by decide +kernel⟩,
    ⟨foxAt (chan up 0 1 0 2) 0 .search 0, 0, 0, by decide +kernel⟩⟩

theorem wit_DlofTimer :
    (∃ (s : State) (c : Nat), s.alive = true ∧ s.due (s.ch c).mon.lofAt = true ∧ s.defHeld c dLOF = false ∧ s.def_ c
      dOOF = true)
    ∧ (∃ (s : State) (c : Nat), s.alive = true ∧ s.due (s.ch c).mon.lofAt = true ∧ s.defHeld c dLOF = false ∧ s.def_ c
      dOOF = false) :=
  ⟨⟨((chan up 0 1 0 2).setCrb 0 5 dOOF true).modMon 0 fun m => { m with lofAt := some 0 }, 0, by decide +kernel⟩,
    ⟨(chan up 191 1 0 4).modMon 191 fun m => { m with lofAt := some 0 }, 191, by decide +kernel⟩⟩

theorem wit_Monitoring :
    (∃ (s : State) (c : Nat), s.alive = true ∧ c < 192 ∧ s.framed c = true ∧ s.crb c 9 31 = true ∧ (s.ch
      c).mon.deg.frames ≥ poissonW (s.degExp c) (s.frameBits c))
    ∧ (∃ (s : State) (c : Nat), s.alive = true ∧ c < 192 ∧ s.framed c = true ∧ s.crb c 9 31 = true ∧ (s.ch
      c).mon.exc.frames ≥ poissonW (3 + s.crf c 9 23 22) (s.frameBits c))
    ∧ (∃ (s : State) (sec : Nat), s.alive = true ∧ s.fwUp = true ∧ s.due s.mgmt.foldAt = true ∧ s.mgmt.unfolded = [sec] ∧
      s.mgmt.awake = true)
    ∧ (∃ (s : State), s.alive = true ∧ s.fwUp = true ∧ s.due s.mgmt.foldAt = true ∧ s.mgmt.awake = false)
    ∧ (∃ (s : State) (c : Nat) (d : Nat), s.alive = true ∧ c < 192 ∧ d < 23 ∧ s.due (s.hold (holdDefect c d)).at_ = true)
    ∧ (∃ (s : State) (c : Nat), s.alive = true ∧ c < 192 ∧ s.due (s.hold (holdTrib c)).at_ = true ∧ ((s.hold (holdTrib
      c)).reports ≠ [] ∨ (s.hold (holdTrib c)).more = true))
    ∧ (∃ (s : State) (c : Nat) (v : Nat), s.alive = true ∧ c < 192 ∧ v < 256 ∧ s.crf c 16 23 16 ≠ 0 ∧ s.crf c 16 7 0 <
      s.crf c 16 23 16 ∧ s.crf c 16 23 16 ≤ v ∧ s.crb c 17 31 = true) :=
  ⟨⟨((chan up 191 1 0 4).setCrb 191 9 31 true).modMon 191 fun m => { m with deg := { m.deg with frames := 10 ^ 9 } },
      191, by decide +kernel⟩,
    ⟨((chan up 0 0x12 0 4).setCrb 0 9 31 true).modMon 0 fun m => { m with exc := { m.exc with frames := 10 ^ 9 } }, 0,
      by decide +kernel⟩,
    ⟨fw.modMgmt fun m => { m with foldAt := some 0, unfolded := [5] }, 5, by decide +kernel⟩,
    ⟨fw.modMgmt fun m => { m with awake := false, foldAt := some 0 }, by decide +kernel⟩,
    ⟨up.modHold (holdDefect 191 22) fun h => { h with at_ := some 0 }, 191, 22, by decide +kernel⟩,
    ⟨up.modHold (holdTrib 191) fun h => { h with at_ := some 0, more := true }, 191, by decide +kernel⟩,
    ⟨(up.setCrf 191 16 23 16 200).setCrb 191 17 31 true, 191, 255, by decide +kernel⟩⟩

theorem wit_ReceivedFrames :
    (∃ (s : State) (c : Nat) (f : RxFrame), s.alive = true ∧ c < 192 ∧ s.enabled c = true ∧ s.isMember c = false ∧
      s.chState c ≠ stFaulted ∧ (s.lane c).rxAsleep = false ∧ s.checking c = false ∧ f.lanes = [] ∧ s.framed c =
      true ∧ s.aligned c = true)
    ∧ (∃ (s : State) (c : Nat) (f : RxFrame), s.alive = true ∧ c < 192 ∧ s.enabled c = true ∧ s.isMember c = false ∧
      s.chState c ≠ stFaulted ∧ (s.lane c).rxAsleep = false ∧ s.checking c = false ∧ f.lanes = [] ∧ s.framed c =
      true ∧ s.aligned c = false)
    ∧ (∃ (s : State) (c : Nat) (f : RxFrame), s.alive = true ∧ c < 192 ∧ s.enabled c = true ∧ s.isMember c = false ∧
      s.chState c = stInFrame ∧ (s.lane c).rxAsleep = false ∧ s.checking c = false ∧ f.lanes = [] ∧ s.framed c =
      false ∧ isEth (s.client c) = true)
    ∧ (∃ (s : State) (c : Nat) (f : RxFrame), s.alive = true ∧ c < 192 ∧ s.enabled c = true ∧ s.isMember c = false ∧
      s.chState c ≠ stFaulted ∧ (s.lane c).rxAsleep = false ∧ s.checking c = false ∧ s.framed c = true ∧ f.lanes ≠
      [])
    ∧ (∃ (s : State) (c : Nat), s.chState c = stOofHold ∧ (s.ch c).frm.errs + 1 < s.oofN c)
    ∧ (∃ (s : State) (c : Nat), s.chState c = stOofHold ∧ s.oofN c ≤ (s.ch c).frm.errs + 1) :=
  ⟨⟨chan up 191 1 0 4, 191, {}, by decide +kernel⟩,
    ⟨chan up 0 0x12 0 2, 0, {}, by decide +kernel⟩,
    ⟨chan up 191 0x21 0 4, 191, {}, by decide +kernel⟩,
    ⟨chan up 191 1 0 4, 191, { lanes := [[]] }, by decide +kernel⟩,
    ⟨chan up 191 1 0 5, 191, by decide +kernel⟩,
    ⟨(chan up 0 1 0 5).modFrm 0 fun f => { f with errs := 4 }, 0, by decide +kernel⟩⟩

theorem wit_Acceptance :
    (∃ (a : Accept (List Byte)) (l : List Byte) (m : List Byte), l ≠ m ∧ a.cand = some m)
    ∧ (∃ (f : Framer) (p : Nat) (v : Nat), f.mfas = some p ∧ (p + 1) % 256 ≠ v % 256 ∧ f.mfOut = false)
    ∧ (∃ (f : Framer) (p : Nat) (v : Nat), f.mfas = some p ∧ (p + 1) % 256 = v % 256 ∧ f.mfOut = true) :=
  ⟨⟨{ cand := some [0] }, [1], [0], by decide +kernel⟩,
    ⟨{ mfas := some 255 }, 255, 1, by decide +kernel⟩,
    ⟨{ mfas := some 255, mfOut := true }, 255, 0, by decide +kernel⟩⟩

theorem wit_ReceiveTimers :
    (∃ (s : State) (c : Nat), s.alive = true ∧ c < 192 ∧ (s.ch c).cap.running = true ∧ (s.ch c).cap.frames ≥ s.captLen
      c)
    ∧ (∃ (s : State) (c : Nat), s.alive = true ∧ c < 192 ∧ (s.ch c).cap.traceRun = true ∧ (s.ch c).cap.samples ≥ 512)
    ∧ (∃ (s : State) (c : Nat), s.alive = true ∧ c < 192 ∧ isOtn (s.client c) = true ∧ s.due (s.ch c).mon.lomAt = true ∧
      s.def_ c dOOF = false ∧ s.defHeld c dLOM = false)
    ∧ (∃ (s : State) (c : Nat), s.alive = true ∧ c < 192 ∧ (s.grp (c / 16)).clk = true ∧ s.gfpRole c = true ∧ s.enabled c
      = true ∧ s.isMember c = false ∧ s.crb c 1 5 = true ∧ s.clientFailed c = true ∧ (s.ch c).mon.csfSend = none)
    ∧ (∃ (s : State) (c : Nat), s.alive = true ∧ c < 192 ∧ (s.grp (c / 16)).clk = true ∧ s.due (s.ch c).mon.csfAt = true ∧
      s.defHeld c dCSF = false)
    ∧ (∃ (s : State) (c : Nat) (core : Nat) (n : Nat), s.alive = true ∧ c < 192 ∧ (s.grp (c / 16)).clk = true ∧ s.gfpRole
      c = true ∧ s.enabled c = true ∧ s.isMember c = false ∧ coreRead ((s.ch c).mon.gfp == .sync) core = some (n,
      false))
    ∧ (∃ (s : State) (c : Nat) (core : Nat) (n : Nat), s.alive = true ∧ c < 192 ∧ (s.grp (c / 16)).clk = true ∧ s.gfpRole
      c = true ∧ s.enabled c = true ∧ s.isMember c = false ∧ (s.ch c).mon.gfp = .sync ∧ coreRead true core = some
      (n, true))
    ∧ (∃ (s : State) (c : Nat) (core : Nat), s.alive = true ∧ c < 192 ∧ (s.grp (c / 16)).clk = true ∧ s.gfpRole c = true ∧
      s.enabled c = true ∧ s.isMember c = false ∧ coreRead ((s.ch c).mon.gfp == .sync) core = none) :=
  ⟨⟨up.modCh 191 fun h => { h with cap := { h.cap with running := true, frames := 1 } }, 191, by decide +kernel⟩,
    ⟨up.modCh 191 fun h => { h with cap := { h.cap with traceRun := true, samples := 512 } }, 191, by decide +kernel⟩,
    ⟨(chan up 191 0x10 0 4).modMon 191 fun m => { m with lomAt := some 0 }, 191, by decide +kernel⟩,
    ⟨((gfpClk up 0).setCrb 0 1 5 true).setCrb 0 5 dLOS true, 0, by decide +kernel⟩,
    ⟨(gfpClk up 191).modMon 191 fun m => { m with csfAt := some 0 }, 191, by decide +kernel⟩,
    ⟨gfpClk up 191, 191, coreWord 0, 0, by decide +kernel⟩,
    ⟨gfs 191, 191, coreWord 65535 ^^^ 1, 65535, by decide +kernel⟩,
    ⟨gfs 191, 191, 0, by decide +kernel⟩⟩

theorem wit_TransmittedFrames :
    (∃ (s : State) (c : Nat), s.alive = true ∧ c < 192 ∧ s.provisioned c = true ∧ s.isMember c = false ∧ s.swings c =
      true ∧ ((s.bond c).any fun d => s.laneTaken d == false) = true)
    ∧ (∃ (s : State) (c : Nat), s.client c ≠ 0x20 ∧ s.def_ c dLF = true)
    ∧ (∃ (s : State) (c : Nat), s.client c = 0x20)
    ∧ (∃ (s : State) (c : Nat), s.maintAll c = true ∧ isSdh (s.client c) = true)
    ∧ (∃ (s : State) (c : Nat), s.maintAll c = true ∧ isSdh (s.client c) = false ∧ isOtn (s.client c) = true) :=
  ⟨⟨(chan up 191 1 0 4).modLane 191 fun l => { l with txOn := true }, 191, by decide +kernel⟩,
    ⟨(chan up 191 0x21 0 4).setCrb 191 5 dLF true, 191, by decide +kernel⟩,
    ⟨chan up 191 0x20 0 4, 191, by decide +kernel⟩,
    ⟨chan up 191 1 0 6, 191, by decide +kernel⟩,
    ⟨chan up 0 0x12 0 6, 0, by decide +kernel⟩⟩

theorem wit_StreamsAndMappers :
    (∃ (s : State) (n : Nat) (l : List Byte), s.alive = true ∧ s.streamOn n = true ∧ bit (s.streamWord n) 30 = false ∧
      s.enabled (fld (s.streamWord n) 23 16) = true ∧ s.aligned (fld (s.streamWord n) 23 16) = true ∧ l ≠ [] ∧
      s.streamMode n ≠ 2 ∧ l.length ≤ 4000 ∧ (s.stream n).rxLen + l.length ≤ 4096 ∧ (s.stream n).rx ≠ [])
    ∧ (∃ (s : State) (n : Nat) (l : List Byte), s.alive = true ∧ s.streamOn n = true ∧ bit (s.streamWord n) 30 = false ∧
      s.enabled (fld (s.streamWord n) 23 16) = true ∧ s.aligned (fld (s.streamWord n) 23 16) = true ∧ l ≠ [] ∧
      s.streamMode n ≠ 2 ∧ l.length ≤ 4000 ∧ (s.stream n).rx = [])
    ∧ (∃ (s : State) (n : Nat) (l : List Byte), s.alive = true ∧ s.streamOn n = true ∧ bit (s.streamWord n) 30 = false ∧
      s.enabled (fld (s.streamWord n) 23 16) = true ∧ s.aligned (fld (s.streamWord n) 23 16) = true ∧ l ≠ [] ∧
      s.streamMode n ≠ 2 ∧ 4000 < l.length)
    ∧ (∃ (s : State) (c : Nat), s.alive = true ∧ c < 192 ∧ s.clientCh c = true ∧ s.enabled c = true ∧ s.isMember c = false
      ∧ s.isBmp c = false ∧ s.sdhLine c = false ∧ s.gfpRole c = false)
    ∧ (∃ (s : State) (c : Nat), s.alive = true ∧ c < 192 ∧ s.clientCh c = true ∧ s.enabled c = true ∧ s.isMember c = false
      ∧ s.isBmp c = false ∧ s.sdhLine c = false ∧ s.gfpRole c = true ∧ (s.pkt c).fifo ≠ [])
    ∧ (∃ (s : State) (c : Nat), s.alive = true ∧ c < 192 ∧ s.enabled c = true ∧ s.isMember c = false ∧ s.isBmp c = false ∧
      s.sdhLine c = true)
    ∧ (∃ (s : State) (c : Nat) (d : Nat), s.alive = true ∧ c < 192 ∧ s.due (s.lane c).bmpReturn = true ∧ s.bmpClient c =
      some d ∧ s.clientFailed d = false ∧ s.enabled d = true) :=
  ⟨⟨((chan up 0 1 0 4).setTbl 0x12 63 0 0x80000000#32).modStream 63 fun x => { x with rx := [(0, [1])] }, 63, [1],
      by decide +kernel⟩,
    ⟨(chan up 191 0x12 0 4).setTbl 0x12 0 0 0x80BF2000#32, 0, [1], by decide +kernel⟩,
    ⟨(chan up 191 0x12 0 4).setTbl 0x12 0 0 0x80BF2000#32, 0, List.replicate 4001 0, by decide +kernel⟩,
    ⟨chan up 191 1 1 4, 191, by decide +kernel⟩,
    ⟨(chan up 191 0x21 4 4).modPkt 191 fun p => { p with fifo := [64] }, 191, by decide +kernel⟩,
    ⟨chan up 191 1 0 4, 191, by decide +kernel⟩,
    ⟨(feed (chan (chan up 0 4 2 4) 191 0x10 0 4) (oduEp 0 0) (oduEp 191 0)).modLane 191 fun l =>
      { l with bmpReturn := some 0 }, 191, 0, by decide +kernel⟩⟩

theorem wit_ProtectionEvaluation :
    (∃ (s : State) (p : Nat), s.alive = true ∧ p < 96 ∧ s.pgEnabled p = true ∧ s.running = true ∧ s.clocked = true ∧
      ((s.pgAgree p).pg p).frozen = false ∧ (s.pgAgree p).pairActive = true)
    ∧ (∃ (s : State) (p : Nat), s.alive = true ∧ p < 96 ∧ s.pgEnabled p = true ∧ s.running = true ∧ s.clocked = true ∧
      (((s.pgAgree p).pg p).frozen = true ∨ (s.pgAgree p).pairActive = false))
    ∧ (∃ (s : State) (p : Nat), s.pgEnabled p = false)
    ∧ (∃ (s : State), s.wf = true)
    ∧ (∃ (g : Pg) (far : Nat), rank far ≤ rank g.localReq ∧ selOf g.localReq = some true)
    ∧ (∃ (g : Pg) (far : Nat), rank g.localReq < rank far)
    ∧ (∃ (g : Pg) (far : Nat), max g.localReq far = 3)
    ∧ (∃ (g : Pg), g.archMis = true) :=
  ⟨⟨pgOn up 95 0x80000000#32, 95, by decide +kernel⟩,
    ⟨(pgOn up 95 0x80000000#32).modPg 95 fun g => { g with frozen := true }, 95, by decide +kernel⟩,
    ⟨up, 95, by decide +kernel⟩,
    ⟨up, by decide +kernel⟩,
    ⟨{ manual := 6 }, 0, by decide +kernel⟩,
    ⟨{}, 1, by decide +kernel⟩,
    ⟨{}, 3, by decide +kernel⟩,
    ⟨{ archMis := true }, by decide +kernel⟩⟩

theorem wit_ProtectionTimers :
    (∃ (s : State) (p : Nat) (k : PgCond), s.clocked = true ∧ p < 96 ∧ s.pgEnabled p = true ∧ (s.pg p).frozen = false ∧
      s.pairActive = true ∧ s.due ((s.pg p).cond k).hold = true)
    ∧ (∃ (s : State) (p : Nat), s.clocked = true ∧ p < 96 ∧ s.pgEnabled p = true ∧ (s.pg p).frozen = false ∧ s.pairActive
      = true ∧ (s.pg p).wtrOn = true ∧ s.due (s.pg p).wtrAt = true)
    ∧ (∃ (s : State) (p : Nat), s.clocked = true ∧ p < 96 ∧ s.pgEnabled p = true ∧ (s.pg p).frozen = false ∧ s.pairActive
      = true ∧ s.due (s.pg p).noRespAt = true ∧ (s.pg p).sfP.here = false)
    ∧ (∃ (s : State) (p : Nat), s.clocked = true ∧ p < 96 ∧ s.pgEnabled p = true ∧ (s.pg p).frozen = false ∧ s.pairActive
      = true ∧ s.due (s.pg p).exer = true)
    ∧ (∃ (s : State) (p : Nat), s.clocked = true ∧ p < 96 ∧ (s.pg p).applied ≠ (s.pg p).sel)
    ∧ (∃ (s : State) (p : Nat), s.alive = true ∧ p < 96 ∧ s.due (s.hold (holdProt p)).at_ = true ∧ s.wf = true) :=
  ⟨⟨(pgOn up 95 0x80000000#32).modPg 95 fun g => { g with sfW := { g.sfW with hold := some 0 } }, 95, .sfW,
      by decide +kernel⟩,
    ⟨(pgOn up 95 0x80000000#32).modPg 95 fun g => { g with wtrOn := true, wtrAt := some 0 }, 95, by decide +kernel⟩,
    ⟨(pgOn up 95 0x80000000#32).modPg 95 fun g => { g with noRespAt := some 0 }, 95, by decide +kernel⟩,
    ⟨(pgOn up 95 0x80000000#32).modPg 95 fun g => { g with exer := some 0 }, 95, by decide +kernel⟩,
    ⟨(pgOn up 95 0x80000000#32).modPg 95 fun g => { g with sel := true }, 95, by decide +kernel⟩,
    ⟨up.modHold (holdProt 95) fun h => { h with at_ := some 0 }, 95, by decide +kernel⟩⟩

theorem wit_ProtectionCommands :
    (∃ (s : State) (w : Word) (p : Nat), p = fld w 6 0 ∧ s.ready 0x0501 = true ∧ s.notActive = false ∧ onlyBits w
      0xF000007F = true ∧ s.pgEnabled p = true ∧ (s.pg p).frozen = false ∧ fld w 31 28 = 0 ∧ (s.pg p).exer = none ∧
      (((s.pg p).manual ≠ 0 ∨ (s.pg p).wtrOn = true)))
    ∧ (∃ (s : State) (w : Word) (p : Nat), p = fld w 6 0 ∧ s.ready 0x0501 = true ∧ s.notActive = false ∧ onlyBits w
      0xF000007F = true ∧ s.pgEnabled p = true ∧ (s.pg p).frozen = false ∧ fld w 31 28 = 1 ∧ s.pgOthers p ≤ 6)
    ∧ (∃ (s : State) (w : Word) (p : Nat), p = fld w 6 0 ∧ s.ready 0x0501 = true ∧ s.notActive = false ∧ onlyBits w
      0xF000007F = true ∧ s.pgEnabled p = true ∧ (s.pg p).frozen = false ∧ fld w 31 28 = 2 ∧ s.pgOthers p ≤ 6 ∧
      (((s.pg p).sel = true ∨ (s.pg p).manual = 6 ∨ (s.pg p).wtrOn = true)))
    ∧ (∃ (s : State) (w : Word) (p : Nat), p = fld w 6 0 ∧ s.ready 0x0501 = true ∧ s.notActive = false ∧ onlyBits w
      0xF000007F = true ∧ s.pgEnabled p = true ∧ (s.pg p).frozen = false ∧ fld w 31 28 = 2 ∧ s.pgOthers p ≤ 6 ∧
      (s.pg p).sel = false ∧ (s.pg p).manual ≠ 6 ∧ (s.pg p).wtrOn = false)
    ∧ (∃ (s : State) (w : Word) (p : Nat), p = fld w 6 0 ∧ s.ready 0x0501 = true ∧ s.notActive = false ∧ onlyBits w
      0xF000007F = true ∧ s.pgEnabled p = true ∧ (s.pg p).frozen = false ∧ fld w 31 28 = 3 ∧ s.pgBidir p = true ∧
      s.pgClaimed p = false ∧ s.pgOthers p ≤ 3 ∧ (s.pg p).manual = 0 ∧ (s.pg p).wtrOn = false)
    ∧ (∃ (s : State) (p : Nat), p < 96 ∧ s.ready 0x0105 = true ∧ s.keyLocked = false ∧ s.notActive = false ∧ s.pgEnabled p
      = true ∧ (s.pg p).frozen = false ∧ (s.pg p).override = 0 ∧ s.pgClaimed p = false)
    ∧ (∃ (s : State) (p : Nat), p < 96 ∧ s.ready 0x0105 = true ∧ s.keyLocked = false ∧ s.notActive = false ∧ s.pgEnabled p
      = true ∧ (s.pg p).frozen = false ∧ (s.pg p).override ≠ 0) :=
  ⟨⟨(pgOn fw 95 0x80000000#32).modPg 95 fun g => { g with manual := 6 }, 95#32, 95, by decide +kernel⟩,
    ⟨pgOn fw 95 0x80000000#32, 0x1000005F#32, 95, by decide +kernel⟩,
    ⟨(pgOn fw 95 0x80000000#32).modPg 95 fun g => { g with sel := true }, 0x2000005F#32, 95, by decide +kernel⟩,
    ⟨pgOn fw 95 0x80000000#32, 0x2000005F#32, 95, by decide +kernel⟩,
    ⟨pgOn fw 95 0x88000000#32, 0x3000005F#32, 95, by decide +kernel⟩,
    ⟨pgOn fw 95 0x80000000#32, 95, by decide +kernel⟩,
    ⟨(pgOn fw 95 0x80000000#32).modPg 95 fun g => { g with override := 7 }, 95, by decide +kernel⟩⟩

theorem wit_KeyRows :
    (∃ (s : State) (q : Req) (w : Word) (n : Nat) (a : Nat) (c : Instr), s.ready 0x0105 = true ∧ s.keyLocked = true ∧
      (c, a) ∈ ([(.leaseCmdYield q, 0x4010), (.leaseCmdForceSole q, 0x4010), (.twinRoleCfgWrite q w, 0x4008),
      (.nominalPptWrite q w, 0x202C), (.stepRearmWrite q w, 0x3020), (.faultInjAssert q n, 0x1040),
      (.faultInjWithdraw q, 0x1040), (.fwActWrite q w, 0x50B8), (.protOvrClear q n, 0x1C), (.protOvrLockout q n,
      0x1C), (.protOvrForcedSwitch q n, 0x1C)] : List (Instr × Nat)))
    ∧ (∃ (s : State), s.ready 0x0105 = true ∧ s.keyLocked = false ∧ s.yieldStatus = stOk)
    ∧ (∃ (s : State), s.ready 0x0105 = true ∧ s.keyLocked = false ∧ s.twinRole = 4)
    ∧ (∃ (s : State), s.ready 0x0105 = true ∧ s.keyLocked = false ∧ (s.twinRole = 3 ∨ s.twinRole = 5))
    ∧ (∃ (s : State) (w : Word) (v : Word), s.ready 0x0105 = true ∧ s.keyLocked = false ∧ s.rb 0x4000 31 = false ∧ v = w
      &&& 0xC0000000 ∧ (fld v 31 30 = 1 ∨ fld v 31 30 = 0 ∧ s.twinRole = 6))
    ∧ (∃ (s : State) (w : Word) (v : Word), s.ready 0x0105 = true ∧ s.keyLocked = false ∧ s.rb 0x4000 31 = false ∧ v = w
      &&& 0xC0000000 ∧ fld v 31 30 = 0 ∧ s.twinRole ≠ 6)
    ∧ (∃ (s : State) (w : Word), s.ready 0x0105 = true ∧ s.keyLocked = false ∧ -100000000 ≤ sword w ∧ sword w ≤ 100000000)
    ∧ (∃ (s : State) (w : Word) (v : Word), s.ready 0x0105 = true ∧ s.keyLocked = false ∧ v = w &&& 1)
    ∧ (∃ (s : State) (src : Nat), s.ready 0x0105 = true ∧ s.keyLocked = false ∧ src < 30 ∧ s.faults.injected = none ∧
      s.claimed isInjector = false)
    ∧ (∃ (s : State) (w : Word) (v : Word) (k : Nat), s.ready 0x0105 = true ∧ s.keyLocked = false ∧ v = w &&& 0xC0000000 ∧
      k < 2 ∧ fld v 31 30 = k + 1 ∧ (s.chooseSlot k).1 = stOk) :=
  ⟨⟨fw.setRb 0x0010 31 true, Q, 0#32, 0, 0x4010, .leaseCmdYield Q, by decide +kernel⟩,
    ⟨(((((fw.setRf 0x4008 31 30 1).setRf 0x4018 31 29 4).modTwin fun t => { t with up := true, farRole := 3 }).setRb
      0x4018 22 false)), by decide +kernel⟩,
    ⟨fw.setRf 0x4018 31 29 4, by decide +kernel⟩,
    ⟨fw.setRf 0x4018 31 29 3, by decide +kernel⟩,
    ⟨fw, 0x40000000#32, 0x40000000#32, by decide +kernel⟩,
    ⟨fw, 0#32, 0#32, by decide +kernel⟩,
    ⟨fw, 100000000#32, by decide +kernel⟩,
    ⟨fw, 1#32, 1#32, by decide +kernel⟩,
    ⟨fw, 29, by decide +kernel⟩,
    ⟨fw.setRb 0x50D8 30 true, 0x80000000#32, 0x80000000#32, 1, by decide +kernel⟩⟩

theorem wit_RegisterRows :
    (∃ (s : State) (t : State) (c : Nat) (r : RegInfo), s.ready 0x0102 = true ∧ s.alive = true ∧ c < 192 ∧ regInfo
      (.chan c 11) = some r ∧ t = s.store (.chan c 11) r (s.armWord c 31) ∧ s.crf c 11 24 21 = t.crf c 11 24 21 ∧
      t.crb c 11 27 = true)
    ∧ (∃ (s : State) (t : State) (c : Nat) (r : RegInfo), s.ready 0x0102 = true ∧ s.alive = true ∧ c < 192 ∧ regInfo
      (.chan c 11) = some r ∧ t = s.store (.chan c 11) r (s.armWord c 30) ∧ s.crf c 11 24 21 = t.crf c 11 24 21 ∧
      t.crb c 11 27 = true)
    ∧ (∃ (s : State) (t : State) (w : Word) (r : RegInfo), s.ready 0x0102 = true ∧ regInfo (.page 4 0) = some r ∧
      s.gatedOff (.page 4 0) r w = false ∧ t = s.store (.page 4 0) r w ∧ bit (t.reg 0x4000) 29 = bit (s.reg 0x4000)
      29 ∧ bit (s.reg 0x4000) 31 = false ∧ bit (t.reg 0x4000) 31 = true)
    ∧ (∃ (s : State) (t : State) (w : Word) (r : RegInfo), s.ready 0x0102 = true ∧ regInfo (.page 4 0) = some r ∧
      s.gatedOff (.page 4 0) r w = false ∧ t = s.store (.page 4 0) r w ∧ bit (t.reg 0x4000) 29 = bit (s.reg 0x4000)
      29 ∧ bit (s.reg 0x4000) 31 = true ∧ bit (t.reg 0x4000) 31 = false)
    ∧ (∃ (s : State) (t : State) (c : Nat) (r : RegInfo), s.ready 0x0102 = true ∧ s.alive = true ∧ c < 192 ∧ regInfo
      (.chan c 14) = some r ∧ t = (s.store (.chan c 14) r (setBit (s.cr c 14) 31 true)).setCrb c 14 31 false ∧ bit
      (s.cr c 14) 31 = false ∧ (s.store (.chan c 14) r (setBit (s.cr c 14) 31 true)).crb c 14 31 = true ∧ t.gfpRole
      c = true ∧ t.isMember c = false ∧ t.crb c 14 29 = false ∧ t.rf 0x7010 17 0 + t.crf c 14 15 0 ≤ 196608)
    ∧ (∃ (s : State) (t : State) (c : Nat) (r : RegInfo), s.ready 0x0102 = true ∧ s.alive = true ∧ c < 192 ∧ regInfo
      (.chan c 14) = some r ∧ t = (s.store (.chan c 14) r (setBit (s.cr c 14) 31 false)).setCrb c 14 31 true ∧ bit
      (s.cr c 14) 31 = true ∧ (s.store (.chan c 14) r (setBit (s.cr c 14) 31 false)).crb c 14 31 = false)
    ∧ (∃ (s : State) (r : RegInfo), s.ready 0x0102 = true ∧ regInfo (.page 3 1) = some r)
    ∧ (∃ (s : State) (t : State) (n : Nat) (r : RegInfo), s.ready 0x0102 = true ∧ n < 4 ∧ regInfo (.page 3 (20 + 3 * n)) =
      some r ∧ t = s.store (.page 3 (20 + 3 * n)) r (setBit (s.reg (0x3050 + 12 * n) &&& 0x30000000) 31 true) ∧
      t.time.sec * secUnits + t.time.sub + 10000 * 2 ^ 48 ≤ t.trigNs n (t.time.sec / 2 ^ 32) * 2 ^ 48)
    ∧ (∃ (s : State) (t : State) (w : Word) (r : RegInfo), s.ready 0x0102 = true ∧ regInfo (.page 0 4) = some r ∧ t =
      s.store (.page 0 4) r w)
    ∧ (∃ (s : State) (t : State) (r : RegInfo), s.ready 0x0102 = true ∧ regInfo (.page 1 11) = some r ∧ t = s.store (.page
      1 11) r 0xE0000000)
    ∧ (∃ (s : State) (t : State) (c : Nat) (w : Word) (r : RegInfo), s.ready 0x0102 = true ∧ s.alive = true ∧ c < 192 ∧
      regInfo (.chan c 0) = some r ∧ s.gatedOff (.chan c 0) r w = false ∧ t = s.store (.chan c 0) r w ∧ fld (t.cr c
      0) 29 28 ≠ 3 ∧ bit (s.cr c 0) 31 = false ∧ bit (t.cr c 0) 31 = true ∧ t.enableOk c = true)
    ∧ (∃ (s : State) (t : State) (c : Nat) (w : Word) (r : RegInfo), s.ready 0x0102 = true ∧ s.alive = true ∧ c < 192 ∧
      regInfo (.chan c 0) = some r ∧ s.gatedOff (.chan c 0) r w = false ∧ t = s.store (.chan c 0) r w ∧ fld (t.cr c
      0) 29 28 ≠ 3 ∧ bit (s.cr c 0) 31 = true ∧ bit (t.cr c 0) 31 = false) :=
  ⟨⟨fw.setCrb 191 11 27 true, (fw.setCrb 191 11 27 true).store (.chan 191 11) (chInfo 191 11) ((fw.setCrb 191 11 27
      true).armWord 191 31), 191, chInfo 191 11, by decide +kernel⟩,
    ⟨fw.setCrb 191 11 27 true, (fw.setCrb 191 11 27 true).store (.chan 191 11) (chInfo 191 11) ((fw.setCrb 191 11 27
      true).armWord 191 30), 191, chInfo 191 11, by decide +kernel⟩,
    ⟨fw.setRb 0x4000 29 false, ((fw.setRb 0x4000 29 false).store (.page 4 0) ((page4Info 0).getD {}) 0x80000000#32),
      0x80000000#32, (page4Info 0).getD {}, by decide +kernel⟩,
    ⟨fw.setRb 0x4000 31 true, ((fw.setRb 0x4000 31 true).store (.page 4 0) ((page4Info 0).getD {}) 0x20000000#32),
      0x20000000#32, (page4Info 0).getD {}, by decide +kernel⟩,
    ⟨chan fw 191 0x21 4 4, ((chan fw 191 0x21 4 4).store (.chan 191 14) (chInfo 191 14) (setBit ((chan fw 191 0x21 4
      4).cr 191 14) 31 true)).setCrb 191 14 31 false, 191, chInfo 191 14, by decide +kernel⟩,
    ⟨gfp fw 191, ((gfp fw 191).store (.chan 191 14) (chInfo 191 14) (setBit ((gfp fw 191).cr 191 14) 31 false)).setCrb
      191 14 31 true, 191, chInfo 191 14, by decide +kernel⟩,
    ⟨fw, (page3Info 1).getD {}, by decide +kernel⟩,
    ⟨fw.setReg 0x3048 1#32, ((fw.setReg 0x3048 1#32).store (.page 3 20) ((page3Info 20).getD {}) (setBit ((fw.setReg
      0x3048 1#32).reg 0x3050 &&& 0x30000000) 31 true)), 0, (page3Info 20).getD {}, by decide +kernel⟩,
    ⟨fw, (fw.store (.page 0 4) ((page0Info 4).getD {}) 0x20000000#32), 0x20000000#32, (page0Info 4).getD {},
      by decide +kernel⟩,
    ⟨fw, (fw.store (.page 1 11) ((page1Info 11).getD {}) 0xE0000000), (page1Info 11).getD {}, by decide +kernel⟩,
    ⟨(chan fw 191 1 0 0).setCrb 191 0 31 false, ((chan fw 191 1 0 0).setCrb 191 0 31 false).store (.chan 191 0) (chInfo
      191 0) 0x80000000#32, 191, 0x80000000#32, chInfo 191 0, by decide +kernel⟩,
    ⟨chan fw 191 1 0 4, (chan fw 191 1 0 4).store (.chan 191 0) (chInfo 191 0) 0#32, 191, 0#32, chInfo 191 0,
      by decide +kernel⟩⟩

theorem wit_HitlessStreams :
    (∃ (s : State) (n : Nat) (m : Nat), s.alive = true ∧ n < 2048 ∧ s.redOn n = true ∧ s.redRole n = 0 ∧ m < 2 ∧
      s.memberUp n m = false)
    ∧ (∃ (s : State) (n : Nat) (m : Nat), s.alive = true ∧ n < 2048 ∧ s.redOn n = true ∧ s.redRole n = 0 ∧ m < 2 ∧
      s.memberUp n m = true ∧ s.memActive = true ∧ ((s.red n).member m).st = 1)
    ∧ (∃ (s : State) (n : Nat) (m : Nat), s.alive = true ∧ n < 2048 ∧ s.redOn n = true ∧ s.redRole n = 0 ∧ m < 2 ∧
      s.memberUp n m = true ∧ s.memActive = true ∧ ((s.red n).member m).st ≠ 0 ∧ ((s.red n).member m).st ≠ 1)
    ∧ (∃ (s : State) (n : Nat) (m : Nat), s.alive = true ∧ n < 2048 ∧ s.redOn n = true ∧ usesMem (s.redRole n) = true ∧
      (s.red n).sched = false ∧ s.earliest n = some m ∧ ((s.upMembers n).all fun k => ((s.red n).member k).st == 2)
      = true)
    ∧ (∃ (s : State) (n : Nat), s.alive = true ∧ n < 2048 ∧ s.redOn n = true ∧ (s.red n).sched = true ∧ s.due (s.red
      n).noneSince = true)
    ∧ (∃ (s : State) (n : Nat), s.playDue n = false)
    ∧ (∃ (s : State) (n : Nat), s.alive = true ∧ n < 2048 ∧ s.redOn n = true ∧ s.redRole n = 0 ∧ s.playDue n = true)
    ∧ (∃ (s : State) (n : Nat) (h : Held), s.redOn n = true ∧ s.redRole n = 0 ∧ s.playDue n = true ∧ s.memActive = true ∧
      (s.red n).a.copy (s.red n).next = some h ∧ h.usable = true ∧ h.clean = true ∧ (s.red n).current = some 0 ∧
      s.wf = true)
    ∧ (∃ (s : State) (n : Nat), s.redOn n = true ∧ s.redRole n = 0 ∧ s.playDue n = true ∧ ((s.memActive = true → (s.red
      n).a.rankOf (s.red n).next = 0 ∧ (s.red n).b.rankOf (s.red n).next = 0)))
    ∧ (∃ (s : State) (c : Nat) (n : Nat) (m : Nat), s.alive = true ∧ c < 192 ∧ s.redOn n = true ∧ s.redRole n = 0 ∧
      s.memberCh n m = some c ∧ s.due ((s.red n).member m).lossAt = true ∧ ((s.ch c).dupMarks.contains (n, m)) =
      false ∧ s.defHeld c dDUP = false) :=
  ⟨⟨redUp 0 0, 2047, 1, by decide +kernel⟩,
    ⟨(redUp 0 1).modRed 2047 fun r => r.setMember 1 { (r.member 1) with st := 1 }, 2047, 1, by decide +kernel⟩,
    ⟨(redUp 0 0).modRed 2047 fun r => r.setMember 0 { (r.member 0) with st := 3 }, 2047, 0, by decide +kernel⟩,
    ⟨(redUp 0 0).modRed 2047 fun r => r.setMember 0 { (r.member 0) with st := 2, last := some 5 }, 2047, 0,
      by decide +kernel⟩,
    ⟨(redUp 0 0).modRed 2047 fun r => { r with sched := true, noneSince := some 0 }, 2047, by decide +kernel⟩,
    ⟨redUp 0 0, 2047, by decide +kernel⟩,
    ⟨playing 0, 2047, by decide +kernel⟩,
    ⟨(playing 0).modRed 2047 fun r => { r with current := some 0, a := { r.a with held := [H0] } }, 2047, H0,
      by decide +kernel⟩,
    ⟨playing 0, 2047, by decide +kernel⟩,
    ⟨(redUp 0 1).modRed 2047 fun r => r.setMember 1 { (r.member 1) with lossAt := some 0 }, 0, 2047, 1,
      by decide +kernel⟩⟩

theorem wit_VotingStreams :
    (∃ (s : State) (n : Nat) (m : Nat) (b : VoteBlock), s.alive = true ∧ n < 2048 ∧ s.redOn n = true ∧ s.redRole n = 2 ∧
      m < 3 ∧ b.bseq < 65536 ∧ s.memberUp n m = false)
    ∧ (∃ (s : State) (n : Nat) (m : Nat) (b : VoteBlock), s.alive = true ∧ n < 2048 ∧ s.redOn n = true ∧ s.redRole n = 2 ∧
      m < 3 ∧ b.bseq < 65536 ∧ s.memberUp n m = true ∧ s.memActive = true ∧ ((s.red n).member m).st = 1)
    ∧ (∃ (s : State) (n : Nat) (m : Nat) (b : VoteBlock), s.alive = true ∧ n < 2048 ∧ s.redOn n = true ∧ s.redRole n = 2 ∧
      m < 3 ∧ b.bseq < 65536 ∧ s.memberUp n m = true ∧ s.memActive = true ∧ ((s.red n).member m).st ≠ 0 ∧ ((s.red
      n).member m).st ≠ 1)
    ∧ (∃ (s : State) (n : Nat), s.playDue n = false)
    ∧ (∃ (s : State) (n : Nat), s.alive = true ∧ n < 2048 ∧ s.redOn n = true ∧ s.redRole n = 2 ∧ s.playDue n = true)
    ∧ (∃ (s : State) (c : Nat), s.alive = true ∧ c < 192 ∧ s.due (s.ch c).voteMark = true ∧ s.defHeld c dVDIS = false)
    ∧ (∃ (s : State) (n : Nat) (l : List Byte), s.alive = true ∧ n < 2048 ∧ s.redOn n = true ∧ s.redRole n = 3 ∧ l.length
      = 64)
    ∧ (∃ (x : Held) (y : Held) (z : Held), x.valid = true ∧ y.valid = true ∧ z.valid = true ∧ x.data = y.data ∧ z.data ≠
      x.data)
    ∧ (∃ (x : Held) (y : Held) (z : Held), x.valid = true ∧ y.valid = false ∧ z.valid = false)
    ∧ (∃ (x : Held) (y : Held), x.valid = true ∧ y.valid = true ∧ x.data ≠ y.data) :=
  ⟨⟨redUp 2 0, 2047, 2, { data := [], bseq := 65535, check := 0#32 }, by decide +kernel⟩,
    ⟨(redUp 2 2).modRed 2047 fun r => r.setMember 2 { (r.member 2) with st := 1 }, 2047, 2,
      { data := [], bseq := 65535, check := 0#32 }, by decide +kernel⟩,
    ⟨(redUp 2 1).modRed 2047 fun r => r.setMember 1 { (r.member 1) with st := 2 }, 2047, 1,
      { data := [], bseq := 0, check := 0#32 }, by decide +kernel⟩,
    ⟨redUp 2 0, 2047, by decide +kernel⟩,
    ⟨playing 2, 2047, by decide +kernel⟩,
    ⟨(chan up 191 1 0 4).modCh 191 fun h => { h with voteMark := some 0 }, 191, by decide +kernel⟩,
    ⟨redUp 3 0, 2047, List.replicate 64 0#8, by decide +kernel⟩,
    ⟨H0, H0, { H0 with data := [1#8] }, by decide +kernel⟩,
    ⟨H0, { H0 with valid := false }, { H0 with valid := false }, by decide +kernel⟩,
    ⟨H0, { H0 with data := [1#8] }, by decide +kernel⟩⟩

theorem wit_FrerFrames :
    (∃ (s : State) (n : Nat) (f : FrerFrame), s.alive = true ∧ n < 2048 ∧ s.redOn n = true ∧ s.redRole n = 4 ∧
      s.frerEntry n f.vid false = none ∧ s.memberUp n 0 = true ∧ s.memberUp n 1 = true ∧ f.gfp = none ∧ f.fcs =
      fcsOf f.bytes)
    ∧ (∃ (s : State) (t : State) (n : Nat) (f : FrerFrame) (g : FrerFrame), s.alive = true ∧ n < 2048 ∧ s.redOn n = true ∧
      s.redRole n = 4 ∧ s.memberUp n 0 = true ∧ s.frerDemap n 0 f = (t, some g) ∧ t.frerEntry n g.vid false = none ∧
      g.fcs = fcsOf g.bytes)
    ∧ (∃ (s : State) (t : State) (n : Nat) (m : Nat) (f : FrerFrame), s.alive = true ∧ n < 2048 ∧ s.redOn n = true ∧
      s.redRole n = 4 ∧ m < 2 ∧ s.memberUp n m = true ∧ s.frerDemap n m f = (t, none))
    ∧ (∃ (s : State) (n : Nat) (m : Nat) (f : FrerFrame), (s.memberUp n m = false ∨ f.gfp = none ∧ f.fcs ≠ fcsOf f.bytes))
    ∧ (∃ (s : State) (n : Nat) (m : Nat) (e : Nat) (q : Nat) (f : FrerFrame), s.alive = true ∧ n < 2048 ∧ s.redOn n = true
      ∧ s.redRole n = 4 ∧ m < 2 ∧ s.memberUp n m = true ∧ f.gfp = none ∧ f.fcs = fcsOf f.bytes ∧ s.frerEntry n f.vid
      false = some e ∧ f.rtag = some q ∧ q < 65536 ∧ (s.frer e).takeAny = true)
    ∧ (∃ (s : State) (n : Nat) (m : Nat) (e : Nat) (q : Nat) (f : FrerFrame), s.alive = true ∧ n < 2048 ∧ s.redOn n = true
      ∧ s.redRole n = 4 ∧ m < 2 ∧ s.memberUp n m = true ∧ f.gfp = none ∧ f.fcs = fcsOf f.bytes ∧ s.frerEntry n f.vid
      false = some e ∧ f.rtag = some q ∧ q < 65536 ∧ (s.frer e).takeAny = false ∧ (s.frer e).recovSeq = q ∧ (s.frer
      e).history[0]? = some true)
    ∧ (∃ (s : State) (n : Nat) (f : FrerFrame), s.alive = true ∧ n < 2048 ∧ s.redOn n = true ∧ s.redRole n = 5 ∧ s.paired
      = false ∧ f.gfp = none ∧ s.frerEntry n f.vid true = none)
    ∧ (∃ (s : State) (n : Nat) (e : Nat) (f : FrerFrame), s.alive = true ∧ n < 2048 ∧ s.redOn n = true ∧ s.redRole n = 5 ∧
      s.paired = false ∧ f.gfp = none ∧ s.frerEntry n f.vid true = some e ∧ f.len + 6 ≤ 9600)
    ∧ (∃ (s : State) (n : Nat) (e : Nat) (f : FrerFrame), s.alive = true ∧ n < 2048 ∧ s.redOn n = true ∧ s.redRole n = 5 ∧
      s.paired = true ∧ s.twinRole = 3 ∧ s.twin.up = true ∧ f.gfp = none ∧ s.frerEntry n f.vid true = some e)
    ∧ (∃ (s : State) (e : Nat), s.alive = true ∧ e < 2048 ∧ s.due (s.frer e).resetAt = true)
    ∧ (∃ (s : State) (n : Nat) (vid : Nat) (q : Nat) (e : Nat) (fcs : Word) (f : FrerFrame) (t : Nat) (rest : List
      (FrerFrame × Nat)), s.alive = true ∧ s.paired = true ∧ s.twin.up = true ∧ s.holder = false ∧ s.frerEntry n vid
      true = some e ∧ takeFcs fcs (s.frer e).waiting = some ((f, t), rest) ∧ q < 65536)
    ∧ (∃ (s : State) (n : Nat) (vid : Nat) (e : Nat) (fcs : Word) (f : FrerFrame) (t : Nat) (rest : List (FrerFrame ×
      Nat)), s.alive = true ∧ s.frerEntry n vid true = some e ∧ takeFcs fcs (s.frer e).waiting = some ((f, t), rest)
      ∧ t ≤ s.owl) :=
  ⟨⟨both, 2047, (let l := plain 64; { bytes := l, fcs := fcsOf l }), by decide +kernel⟩,
    ⟨bothGfp, (bothGfp.frerDemap 2047 0 (gfpIn (eth 64))).1, 2047, gfpIn (eth 64),
      { bytes := plain 64, fcs := fcsOf (plain 64) }, by decide +kernel⟩,
    ⟨both, (both.frerDemap 2047 1 (gfpIn (eth 64))).1, 2047, 1, gfpIn (eth 64), by decide +kernel⟩,
    ⟨both, 2047, 1, { fcs := 1 }, by decide +kernel⟩,
    ⟨both, 2047, 1, 2047, 65535, FR, by decide +kernel⟩,
    ⟨both.modFrer 2047 fun x => { x with takeAny := false, recovSeq := 65535, history := [true] }, 2047, 0, 2047, 65535,
      FR, by decide +kernel⟩,
    ⟨redUp 5 0, 2047, FR, by decide +kernel⟩,
    ⟨frerUp 5 1, 2047, 2047, (let l := FR.bytes ++ List.replicate 9566 0#8; { bytes := l, fcs := fcsOf l }),
      by decide +kernel⟩,
    ⟨pair (frerUp 5 1) 3, 2047, 2047, FR, by decide +kernel⟩,
    ⟨up.modFrer 2047 fun x => { x with resetAt := some 0 }, 2047, by decide +kernel⟩,
    ⟨(((frerUp 5 1).setRf 0x4008 31 30 1).modTwin fun t => { t with up := true }).modFrer 2047 fun x =>
      { x with waiting := [(FR, 0)] }, 2047, 5, 65535, 2047, FR.fcs, FR, 0, [], by decide +kernel⟩,
    ⟨(((frerUp 5 1).setRf 0x4008 31 30 1).modTwin fun t => { t with up := true }).modFrer 2047 fun x =>
      { x with waiting := [(FR, 0)] }, 2047, 5, 2047, FR.fcs, FR, 0, [], by decide +kernel⟩⟩

theorem wit_DelayMemory :
    (∃ (s : State), s.alive = true ∧ s.rf 0x7080 31 30 = 1 ∧ s.memWake.isSome = true)
    ∧ (∃ (s : State), s.alive = true ∧ s.rf 0x7080 31 30 = 1 ∧ s.memWake = none)
    ∧ (∃ (s : State), s.alive = true ∧ s.due s.memSleep = true ∧ s.memStreams = 0)
    ∧ (∃ (s : State), s.alive = true ∧ s.rf 0x7080 31 30 = 2)
    ∧ (∃ (s : State), s.rf 0x7080 31 30 ≠ 2) :=
  ⟨⟨{ up.setRf 0x7080 31 30 1 with memWake := some 0 }, by decide +kernel⟩,
    ⟨up.setRf 0x7080 31 30 1, by decide +kernel⟩,
    ⟨{ up with memSleep := some 0 }, by decide +kernel⟩,
    ⟨up.setRf 0x7080 31 30 2, by decide +kernel⟩,
    ⟨up, by decide +kernel⟩⟩

theorem wit_ClientFrames :
    (∃ (s : State) (c : Nat) (f : EthFrame), s.alive = true ∧ c < 192 ∧ isEth (s.client c) = true ∧ s.enabled c = true ∧
      s.isMember c = false ∧ s.chState c = stInFrame ∧ ((s.countCh c 0 f.badBlocks).countCh c 2 f.corr).gfpRole c =
      false)
    ∧ (∃ (s : State) (c : Nat) (f : EthFrame), s.alive = true ∧ c < 192 ∧ isEth (s.client c) = true ∧ s.enabled c = true ∧
      s.isMember c = false ∧ s.chState c = stInFrame ∧ ((s.countCh c 0 f.badBlocks).countCh c 2 f.corr).gfpRole c =
      true ∧ f.fcsOk = true ∧ 64 ≤ f.len ∧ f.len ≤ 9600 ∧ ((s.countCh c 0 f.badBlocks).countCh c 2 f.corr).pktEn c =
      false)
    ∧ (∃ (s : State) (c : Nat) (f : EthFrame), s.alive = true ∧ c < 192 ∧ isEth (s.client c) = true ∧ s.enabled c = true ∧
      s.isMember c = false ∧ s.chState c = stInFrame ∧ ((s.countCh c 0 f.badBlocks).countCh c 2 f.corr).gfpRole c =
      true ∧ f.fcsOk = true ∧ 64 ≤ f.len ∧ f.len ≤ 9600 ∧ ((s.countCh c 0 f.badBlocks).countCh c 2 f.corr).pktEn c =
      true)
    ∧ (∃ (s : State) (c : Nat) (f : EthFrame), s.alive = true ∧ c < 192 ∧ isEth (s.client c) = true ∧ s.enabled c = true ∧
      s.isMember c = false ∧ s.chState c = stInFrame ∧ ((s.countCh c 0 f.badBlocks).countCh c 2 f.corr).gfpRole c =
      true ∧ f.fcsOk = false)
    ∧ (∃ (s : State) (p : Nat) (l : Nat) (k : Policer), s.entryOn 0x19 p = true ∧ k = s.refilled p ∧ k.tp < 8000 * l)
    ∧ (∃ (s : State) (p : Nat) (l : Nat) (k : Policer), s.entryOn 0x19 p = true ∧ k = s.refilled p ∧ 8000 * l ≤ k.tp ∧
      k.tc < 8000 * l)
    ∧ (∃ (s : State) (p : Nat) (l : Nat) (k : Policer), s.entryOn 0x19 p = true ∧ k = s.refilled p ∧ 8000 * l ≤ k.tp ∧
      8000 * l ≤ k.tc ∧ bit (s.tbl 0x19 p 0) 30 = false)
    ∧ (∃ (s : State) (c : Nat) (f : EthFrame), s.alive = true ∧ c < 192 ∧ s.gfpRole c = true ∧ s.enabled c = true ∧
      s.isMember c = false ∧ (s.ch c).mon.gfp = .sync ∧ (s.grp (c / 16)).clk = true ∧ ((s.delineate c f.core).ch
      c).mon.gfp ≠ .sync)
    ∧ (∃ (s : State) (c : Nat) (f : EthFrame), s.alive = true ∧ c < 192 ∧ s.gfpRole c = true ∧ s.enabled c = true ∧
      s.isMember c = false ∧ (s.ch c).mon.gfp = .sync ∧ (s.grp (c / 16)).clk = true ∧ ((s.delineate c f.core).ch
      c).mon.gfp = .sync ∧ (s.gfpRead c f).csf = true)
    ∧ (∃ (s : State) (c : Nat) (f : EthFrame), s.alive = true ∧ c < 192 ∧ s.gfpRole c = true ∧ s.enabled c = true ∧
      s.isMember c = false ∧ (s.ch c).mon.gfp = .sync ∧ (s.grp (c / 16)).clk = true ∧ ((s.delineate c f.core).ch
      c).mon.gfp = .sync ∧ (s.gfpRead c f).csf = false ∧ (s.gfpRead c f).client = false)
    ∧ (∃ (s : State) (c : Nat) (f : EthFrame), s.alive = true ∧ c < 192 ∧ s.gfpRole c = true ∧ s.enabled c = true ∧
      s.isMember c = false ∧ (s.ch c).mon.gfp = .sync ∧ (s.grp (c / 16)).clk = true ∧ ((s.delineate c f.core).ch
      c).mon.gfp = .sync ∧ (s.gfpRead c f).csf = false ∧ (s.gfpRead c f).client = true ∧ (s.gfpRead c
      f).frame.1.fcsOk = false)
    ∧ (∃ (s : State) (c : Nat) (f : EthFrame), s.alive = true ∧ c < 192 ∧ s.gfpRole c = true ∧ s.enabled c = true ∧
      s.isMember c = false ∧ (s.ch c).mon.gfp = .sync ∧ (s.grp (c / 16)).clk = true ∧ ((s.delineate c f.core).ch
      c).mon.gfp = .sync ∧ (s.gfpRead c f).csf = false ∧ (s.gfpRead c f).client = true ∧ (s.gfpRead c
      f).frame.1.fcsOk = true ∧ (s.gfpRead c f).frame.2 = true ∧ ((((s.delineate c f.core).gfpTake c f).crb c 1 6 =
      true → (s.gfpRead c f).pfi = true)) ∧ (s.gfpRead c f).frame.1.len ≤ 9600)
    ∧ (∃ (s : State) (c : Nat) (l : List Byte), s.pktEn c = false ∧ s.admission c 0 ((tafStrip l).1.length + 4) = none)
    ∧ (∃ (s : State) (c : Nat) (l : List Byte) (g : Bool), s.pktEn c = false ∧ s.admission c 0 ((tafStrip l).1.length + 4)
      = some g) :=
  ⟨⟨chan up 191 0x21 0 4, 191, eth 64, by decide +kernel⟩,
    ⟨chan up 191 0x21 4 4, 191, eth 64, by decide +kernel⟩,
    ⟨gfp up 191, 191, eth 64, by decide +kernel⟩,
    ⟨gfp up 191, 191, { eth 64 with fcs := 0#32 }, by decide +kernel⟩,
    ⟨up.setTbl 0x19 4095 0 0x80000000#32, 4095, 64, (up.setTbl 0x19 4095 0 0x80000000#32).refilled 4095,
      by decide +kernel⟩,
    ⟨{ up.setTbl 0x19 4095 0 0x80000000#32 |>.setTbl 0x19 4095 2 1000#32 with owl := 1000 }, 4095, 64,
      { up.setTbl 0x19 4095 0 0x80000000#32 |>.setTbl 0x19 4095 2 1000#32 with owl := 1000 }.refilled 4095,
      by decide +kernel⟩,
    ⟨{ (up.setTbl 0x19 4095 0 0x80000000#32).setTblWords 0x19 0 4095 1 [1000#32, 1000#32] with owl := 1000 }, 4095, 64,
      { (up.setTbl 0x19 4095 0 0x80000000#32).setTblWords 0x19 0 4095 1 [1000#32, 1000#32] with owl := 1000 }.refilled
      4095, by decide +kernel⟩,
    ⟨(gfs 191), 191, { gfpOf 0 1 false (plain 64) with core := 0 }, by decide +kernel⟩,
    ⟨(gfs 191), 191, gfpOf 4 2 false [], by decide +kernel⟩,
    ⟨(gfs 191), 191, gfpOf 4 5 false [], by decide +kernel⟩,
    ⟨(gfs 191), 191, gfpOf 0 1 false (plain 64), by decide +kernel⟩,
    ⟨(gfs 191).setCrb 191 1 6 true, 191, gfpOf 0 1 true (plain 64 ++ fcsBytes (fcsOf (plain 64))), by decide +kernel⟩,
    ⟨(up.setTbl 0x1B (qNum 191 0) 0 0#32), 191, plain 64, by decide +kernel⟩,
    ⟨up.setTbl 0x1B (qNum 191 0) 0 0x80000001#32, 191, plain 64, false, by decide +kernel⟩⟩

theorem wit_EgressScheduling :
    (∃ (s : State) (c : Nat) (q : Nat), s.alive = true ∧ c < 192 ∧ s.gfpRole c = true ∧ s.enabled c = true ∧ (s.pkt
      c).busy = none ∧ (s.grp (c / 16)).clk = true ∧ s.pktEn c = false ∧ [7, 6, 5, 4, 3, 2, 1, 0].find? (s.eligible
      c) = some q)
    ∧ (∃ (s : State) (c : Nat), s.alive = true ∧ c < 192 ∧ s.gfpRole c = true ∧ s.enabled c = true ∧ (s.pkt c).busy = none
      ∧ (s.grp (c / 16)).clk = true ∧ s.pktEn c = true)
    ∧ (∃ (s : State) (c : Nat) (q : Nat) (f : QFrame) (r : List QFrame) (t : Nat), ((s.pkt c).queue q).frames = f :: r ∧
      s.pktEn c = true ∧ f.launch = some t)
    ∧ (∃ (s : State) (c : Nat), s.alive = true ∧ c < 192 ∧ (s.pkt c).busy.isSome = true)
    ∧ (∃ (s : State) (c : Nat) (q : Nat), s.alive = true ∧ c < 192 ∧ q < 8 ∧ s.pktEn c = true)
    ∧ (∃ (s : State) (c : Nat) (a : GateList), s.alive = true ∧ c < 192 ∧ (s.grp (c / 16)).clk = true ∧ (s.pkt c).armed =
      some a ∧ a.at_ ≤ s.nowNs)
    ∧ (∃ (s : State) (k : Nat), s.alive = true ∧ s.clocked = true ∧ k = s.nowNs / 1000 / s.samplePeriod * s.samplePeriod ∧
      k ≠ s.sampledAt) :=
  ⟨⟨(chan up 191 0x21 4 4).modPkt 191 fun p => { p with queues := [(7, { frames := [QF] })] }, 191, 7,
      by decide +kernel⟩,
    ⟨gfp up 191, 191, by decide +kernel⟩,
    ⟨(gfp up 191).modPkt 191 fun p => { p with queues := [(7, { frames := [{ QF with launch := some 5 }] })] }, 191, 7,
      { QF with launch := some 5 }, [], 5, by decide +kernel⟩,
    ⟨up.modPkt 191 fun p => { p with busy := some (QF, 7) }, 191, by decide +kernel⟩,
    ⟨gfp up 191, 191, 7, by decide +kernel⟩,
    ⟨(gfpClk up 191).modPkt 191 fun p => { p with armed := some { at_ := 0, cycle := 1000, len := 1 } }, 191,
      { at_ := 0, cycle := 1000, len := 1 }, by decide +kernel⟩,
    ⟨{ up with time := { up.time with sec := 1 } }, 1000000, by decide +kernel⟩⟩

theorem wit_PacketCommands :
    (∃ (s : State) (p : Word) (a : Word) (b : Word) (d : Word) (e : Word), s.ready 0x0405 = true ∧ p.toNat < 4096 ∧ bit
      (s.tbl 0x19 p.toNat 0) 31 = true ∧ a.toNat ≤ b.toNat ∧ b.toNat ≤ 100000000 ∧ 9600 ≤ d.toNat ∧ d.toNat ≤
      16777215 ∧ 9600 ≤ e.toNat ∧ e.toNat ≤ 16777215)
    ∧ (∃ (s : State) (w : Word) (r : Word) (b : Word), s.ready 0x0406 = true ∧ fld w 23 16 < 192 ∧ onlyBits w 0xC0FF0007 =
      true ∧ 0 < r.toNat ∧ r.toNat ≤ 100000000 ∧ 0 < b.toNat ∧ b.toNat ≤ 16777215 ∧ bit w 31 = false ∧ bit (s.tbl
      0x1B (qNum (fld w 23 16) (fld w 2 0)) 0) 31 = true)
    ∧ (∃ (s : State) (w : Word) (r : Word) (b : Word), s.ready 0x0406 = true ∧ fld w 23 16 < 192 ∧ onlyBits w 0xC0FF0007 =
      true ∧ 0 < r.toNat ∧ r.toNat ≤ 100000000 ∧ 0 < b.toNat ∧ b.toNat ≤ 16777215 ∧ bit w 31 = true ∧ bit (s.tbl
      0x1C (fld w 23 16) 0) 31 = true)
    ∧ (∃ (s : State) (w : Word) (a : Word) (b : Word) (d : Word) (c : Nat) (len : Nat) (at_ : Nat), s.ready 0x0407 = true
      ∧ c = fld w 23 16 ∧ len = fld w 5 0 + 1 ∧ at_ = (s.time.sec / 2 ^ 32 * 2 ^ 32 + a.toNat) * 1000000000 +
      b.toNat ∧ c < 192 ∧ onlyBits w 0x80FF003F = true ∧ bit w 31 = false ∧ b.toNat ≤ 999999999 ∧ s.nowNs + 100000 ≤
      at_ ∧ at_ ≤ s.nowNs + 1000000000000 ∧ (s.pkt c).armed = none ∧ (List.range len).any (s.badInterval c) = false
      ∧ 1000 ≤ d.toNat ∧ d.toNat ≤ 1000000000 ∧ s.gfpRole c = true)
    ∧ (∃ (s : State) (w : Word) (a : Word) (b : Word) (c : Nat) (len : Nat) (at_ : Nat), s.ready 0x0407 = true ∧ c = fld w
      23 16 ∧ len = fld w 5 0 + 1 ∧ at_ = (s.time.sec / 2 ^ 32 * 2 ^ 32 + a.toNat) * 1000000000 + b.toNat ∧ c < 192
      ∧ onlyBits w 0x80FF003F = true ∧ bit w 31 = true ∧ s.gfpRole c = true) :=
  ⟨⟨fw.setTbl 0x19 4095 0 0x80000000#32, 4095#32, 100000000#32, 100000000#32, 9600#32, 16777215#32, by decide +kernel⟩,
    ⟨fw.setTbl 0x1B (qNum 191 7) 0 0x80000000#32, 0x00BF0007#32, 100000000#32, 16777215#32, by decide +kernel⟩,
    ⟨fw.setTbl 0x1C 191 0 0x80000000#32, 0x80BF0000#32, 1#32, 1#32, by decide +kernel⟩,
    ⟨(chan fw 191 0x21 4 4).setTbl 0x1D (128 * 191 + 64) 1 64#32, 0x00BF0000#32, 1#32, 0#32, 1000#32, 191, 1,
      1000000000, by decide +kernel⟩,
    ⟨gfp fw 191, 0x80BF0000#32, 0#32, 0#32, 191, 1, 0, by decide +kernel⟩⟩

theorem wit_ReferenceSelection :
    (∃ (s : State) (n : Nat), s.clocked = true ∧ n < 13 ∧ (s.cand n).active = true ∧ (n < 4 ∨ s.candSeen n = false ∨
      s.candEnabled n = false))
    ∧ (∃ (s : State), s.alive = true ∧ s.running = true ∧ s.refs.measured + 100000 ≤ s.owl)
    ∧ (∃ (s : State) (n : Nat), n < 12 ∧ s.candEnabled n = true ∧ s.candSeen n = true)
    ∧ (∃ (s : State), s.clocked = true ∧ s.refs.state = 1)
    ∧ (∃ (s : State), s.clocked = true ∧ s.refs.state = 2 ∧ s.due s.refs.lockAt = true ∧ s.reg (0x2040 + 4 *
      s.refs.selected) ≠ noOffset ∧ (s.refs.steer - sword (s.reg (0x2040 + 4 * s.refs.selected)) * 1000).natAbs ≤
      50000)
    ∧ (∃ (s : State), s.clocked = true ∧ s.manual ≤ 11 ∧ s.restoreOk s.manual = true)
    ∧ (∃ (s : State), s.clocked = true ∧ s.refs.state = 4 ∧ s.rf 0x2000 15 8 ≠ 0 ∧ s.due s.refs.softAt = true)
    ∧ (∃ (s : State) (n : Nat), s.alive = true ∧ n < 16 ∧ s.wf = true ∧ s.due (s.hold (holdRef n)).at_ = true)
    ∧ (∃ (s : State) (x : Int), s.refs.state = 3 ∧ s.reg (0x2040 + 4 * s.refs.selected) ≠ noOffset ∧ x = sword (s.reg
      (0x2040 + 4 * s.refs.selected)) * 1000)
    ∧ (∃ (s : State), s.refs.state ≠ 1 ∧ s.refTarget ≠ s.refs.selected ∧ s.refTarget ≠ 13)
    ∧ (∃ (s : State), s.refEn = false) :=
  ⟨⟨up.modCand 3 fun k => { k with active := true }, 3, by decide +kernel⟩,
    ⟨{ up with owl := 100000 }, by decide +kernel⟩,
    ⟨up.setReg 0x200C 0x1000#32, 3, by decide +kernel⟩,
    ⟨up.modRefs fun r => { r with state := 1 }, by decide +kernel⟩,
    ⟨(up.modRefs fun r => { r with state := 2, lockAt := some 0, selected := 11 }).setReg 0x206C 0#32,
      by decide +kernel⟩,
    ⟨{ (up.setRf 0x2000 29 26 11).modCand 11 (fun k => { k with active := true, qualified := true }) with owl := 10 ^ 12 },
      by decide +kernel⟩,
    ⟨(up.setRf 0x2000 15 8 1).modRefs fun r => { r with state := 4, softAt := some 0 }, by decide +kernel⟩,
    ⟨up.modHold (holdRef 15) fun h => { h with at_ := some 0 }, 15, by decide +kernel⟩,
    ⟨(up.modRefs fun r => { r with state := 3, selected := 11 }).setReg 0x206C 1#32, 1000, by decide +kernel⟩,
    ⟨(up.setRb 0x2000 31 true).modRefs fun r => { r with selected := 3 }, by decide +kernel⟩,
    ⟨up, by decide +kernel⟩⟩

theorem wit_ReferenceCommands :
    (∃ (s : State) (w : Word) (m : Nat), s.ready 0x0601 = true ∧ s.notActive = false ∧ m = w.toNat ∧ m ≤ 15 ∧ m ≠ 12 ∧ m
      ≠ 14 ∧ s.refEn = true ∧ fld (s.reg 0x2000) 29 26 ≠ m)
    ∧ (∃ (s : State), s.ready 0x0601 = true ∧ s.notActive = true)
    ∧ (∃ (s : State), s.ready 0x0602 = true ∧ s.manual = 13 ∧ s.rf 0x2000 15 8 ≠ 0)
    ∧ (∃ (s : State), s.ready 0x0602 = true ∧ s.manual ≠ 13) :=
  ⟨⟨fw.setRb 0x2000 31 true, 13#32, 13, by decide +kernel⟩,
    ⟨pair fw 5, by decide +kernel⟩,
    ⟨((fw.setRb 0x2000 31 true).setRf 0x2000 29 26 13).setRf 0x2000 15 8 1, by decide +kernel⟩,
    ⟨fw, by decide +kernel⟩⟩

theorem wit_TimeEvents :
    (∃ (s : State) (n : Nat) (rising : Bool), s.alive = true ∧ n < 2 ∧ s.rb 0x3030 (31 - 2 * n) = true ∧ rising ≠ s.rb
      0x3030 (30 - 2 * n) ∧ s.clocked = true ∧ Store.get none s.time.ppsLast n = none)
    ∧ (∃ (s : State) (n : Nat) (rising : Bool) (t : Nat), s.alive = true ∧ n < 2 ∧ s.rb 0x3030 (31 - 2 * n) = true ∧
      rising ≠ s.rb 0x3030 (30 - 2 * n) ∧ s.clocked = true ∧ Store.get none s.time.ppsLast n = some t ∧ s.time.tclk
      < t + ppsGap)
    ∧ (∃ (s : State) (n : Nat), s.alive = true ∧ s.ppsOutOn n = true ∧ s.clocked = true ∧ s.ppsPos n % 1000000000 < 1002 ∧
      Store.get none s.time.ppsMark n ≠ some (s.ppsPos n / 1000000000))
    ∧ (∃ (s : State) (n : Nat), s.alive = true ∧ n < 4 ∧ s.rb (trigCtl n) 31 = true ∧ s.trigNs n (Store.get 0
      s.time.trigHi n) ≤ s.nowNs)
    ∧ (∃ (s : State), s.alive = true ∧ s.due s.time.armTill = true)
    ∧ (∃ (s : State), s.alive = true ∧ s.time.slew = 0)
    ∧ (∃ (s : State), s.alive = true ∧ s.time.sec ≠ s.time.open_)
    ∧ (∃ (t : Clock) (n : Nat), t.sub < 1000000000 * 2 ^ 48 ∧ n + t.sub < 1000000000 * 2 ^ 48 ∧ t.sec < 2 ^ 48) :=
  ⟨⟨up.setRb 0x3030 29 true, 1, true, by decide +kernel⟩,
    ⟨{ up.setRb 0x3030 31 true with time := { up.time with ppsLast := [(0, some 0)] } }, 0, true, 0, by decide +kernel⟩,
    ⟨up.setReg 0x20A4 0x80000000#32, 1, by decide +kernel⟩,
    ⟨up.setRb (trigCtl 3) 31 true, 3, by decide +kernel⟩,
    ⟨{ up with time := { up.time with armTill := some 0 } }, by decide +kernel⟩,
    ⟨up, by decide +kernel⟩,
    ⟨{ up with time := { up.time with sec := 1 } }, by decide +kernel⟩,
    ⟨{}, 1000000000 * 2 ^ 48 - 1, by decide +kernel⟩⟩

theorem wit_TimeCommands :
    (∃ (s : State) (w : Word) (a : Word) (b : Word) (n : Nat), s.ready 0x0603 = true ∧ bit w 31 = false ∧ onlyBits w
      0x0000FFFF = true ∧ b.toNat ≤ 999999999 ∧ n = (fld w 15 0 * 2 ^ 32 + a.toNat) * 1000000000 + b.toNat ∧ n <
      timeEndNs ∧ (s.timeValid = false ∨ (s.rb 0x3000 30 = true ∧ s.due s.time.armTill = false)))
    ∧ (∃ (s : State) (w : Word) (a : Word) (b : Word) (n : Nat), s.ready 0x0603 = true ∧ bit w 31 = false ∧ onlyBits w
      0x0000FFFF = true ∧ b.toNat ≤ 999999999 ∧ n = (fld w 15 0 * 2 ^ 32 + a.toNat) * 1000000000 + b.toNat ∧ n <
      timeEndNs ∧ s.timeValid = true ∧ (s.rb 0x3000 30 = false ∨ s.due s.time.armTill = true))
    ∧ (∃ (s : State) (w : Word) (a : Word) (b : Word) (n : Int), s.ready 0x0603 = true ∧ bit w 31 = true ∧ onlyBits w
      0x80000000 = true ∧ n = (s.nowNs : Int) + signed 64 (a.toNat * 2 ^ 32 + b.toNat) ∧ 0 ≤ n ∧ n < timeEndNs ∧
      (s.timeValid = false ∨ (s.rb 0x3000 30 = true ∧ s.due s.time.armTill = false)))
    ∧ (∃ (s : State) (w : Word) (a : Word) (b : Word) (n : Int), s.ready 0x0603 = true ∧ bit w 31 = true ∧ onlyBits w
      0x80000000 = true ∧ n = (s.nowNs : Int) + signed 64 (a.toNat * 2 ^ 32 + b.toNat) ∧ 0 ≤ n ∧ n < timeEndNs ∧
      s.timeValid = true ∧ (s.rb 0x3000 30 = false ∨ s.due s.time.armTill = true))
    ∧ (∃ (s : State) (w : Word), s.ready 0x0604 = true ∧ -100000000 ≤ sword w ∧ sword w ≤ 100000000)
    ∧ (∃ (s : State) (w : Word) (lim : Int), s.ready 0x0605 = true ∧ s.timeValid = true ∧ lim = s.jumpLimit ∧ -lim < sword
      w ∧ sword w < lim ∧ -lim < slewNs s.time.slew + sword w ∧ slewNs s.time.slew + sword w < lim)
    ∧ (∃ (s : State) (w : Word), s.ready 0x0605 = true ∧ s.timeValid = true ∧ (s.jumpLimit : Int) ≤ sword w)
    ∧ (∃ (s : State) (w : Word), s.ready 0x0702 = true ∧ onlyBits w 0xFF0000FF = true ∧ fld w 31 24 < 12 ∧ 1 ≤ fld w 7 0 ∧
      fld w 7 0 ≤ 64 ∧ (s.grp (fld w 31 24)).stamps ≠ [])
    ∧ (∃ (s : State) (w : Word), s.ready 0x0301 = true ∧ onlyBits w 1 = true)
    ∧ (∃ (s : State), s.ready 0x0302 = true) :=
  ⟨⟨fw, 0xFFFF#32, 0xFFFFFFFF#32, 999999999#32, (2 ^ 48 - 1) * 1000000000 + 999999999, by decide +kernel⟩,
    ⟨fw.setRb 0x3000 31 true, 0#32, 1#32, 0#32, 1000000000, by decide +kernel⟩,
    ⟨fw, 0x80000000#32, 0#32, 0#32, 0, by decide +kernel⟩,
    ⟨fw.setRb 0x3000 31 true, 0x80000000#32, 0#32, 5#32, 5, by decide +kernel⟩,
    ⟨fw, 100000000#32, by decide +kernel⟩,
    ⟨fw.setRb 0x3000 31 true, 999#32, 1000, by decide +kernel⟩,
    ⟨fw.setRb 0x3000 31 true, 1000#32, by decide +kernel⟩,
    ⟨fw.modGrp 11 fun g => { g with stamps := [{ w0 := 0, w1 := 0, w2 := 0, w3 := 0, at_ := 0 }] }, 0x0B000040#32,
      by decide +kernel⟩,
    ⟨fw, 1#32, by decide +kernel⟩,
    ⟨fw, by decide +kernel⟩⟩

theorem wit_TwinLink :
    (∃ (s : State) (h : Hello), s.alive = true ∧ s.paired = true ∧ s.rb 0x4000 31 = true ∧ s.running = true ∧
      s.twin.clash = false ∧ (h.crc = none ∨ h.crc = some (LinkFrame.check
      { typ := 1, seq := 0, words := Machine.Hello.words h })) ∧ b2n h.twinId = s.rf 0x4018 20 20)
    ∧ (∃ (s : State) (h : Hello), s.alive = true ∧ s.paired = true ∧ s.rb 0x4000 31 = true ∧ s.running = true ∧
      s.twin.clash = false ∧ (h.crc = none ∨ h.crc = some (LinkFrame.check
      { typ := 1, seq := 0, words := Machine.Hello.words h })) ∧ b2n h.twinId ≠ s.rf 0x4018 20 20 ∧ h.version ≠ 1)
    ∧ (∃ (s : State) (h : Hello), s.alive = true ∧ s.paired = true ∧ s.rb 0x4000 31 = true ∧ s.running = true ∧
      s.twin.clash = false ∧ (h.crc = none ∨ h.crc = some (LinkFrame.check
      { typ := 1, seq := 0, words := Machine.Hello.words h })) ∧ b2n h.twinId ≠ s.rf 0x4018 20 20 ∧ h.version = 1 ∧
      s.twin.up = false ∧ h.role ≠ 2)
    ∧ (∃ (s : State) (h : Hello) (x : Word), s.alive = true ∧ s.rb 0x4000 31 = true ∧ s.running = true ∧ h.crc = some x ∧
      x ≠ LinkFrame.check { typ := 1, seq := 0, words := Machine.Hello.words h })
    ∧ (∃ (s : State) (lane : Nat), s.alive = true ∧ lane < 4 ∧ s.rb 0x4000 31 = true)
    ∧ (∃ (s : State), s.alive = true ∧ s.twin.up = true ∧ s.due s.twin.resendAt = true ∧ s.twin.unacked ≠ [] ∧ 2 ≤
      s.twin.timeouts)
    ∧ (∃ (s : State), s.alive = true ∧ s.twin.up = true ∧ s.due s.twin.resendAt = true ∧ s.twin.unacked ≠ [] ∧
      s.twin.timeouts < 2)
    ∧ (∃ (s : State) (seq : Nat), s.alive = true ∧ s.twin.up = true ∧ ackCount seq s.twin.unacked 0 ≠ 0 ∧
      s.twin.unacked.length ≤ 256)
    ∧ (∃ (s : State) (seq : Nat), s.alive = true ∧ ackCount seq s.twin.unacked 0 = 0)
    ∧ (∃ (s : State) (seq : Nat) (x : Word), s.alive = true ∧ s.rb 0x4000 31 = true ∧ x ≠ LinkFrame.check
      { typ := 0x30, seq := 0, words := [BitVec.ofNat 32 seq] })
    ∧ (∃ (s : State), s.alive = true ∧ s.twin.up = true ∧ s.due s.twin.ackAt = true)
    ∧ (∃ (s : State), s.alive = true ∧ s.paired = true ∧ s.rb 0x4000 31 = true ∧ s.due s.twin.helloAt = true)
    ∧ (∃ (s : State) (code : Nat), s.alive = true ∧ code < 256 ∧ s.wf = true ∧ s.due (s.hold (holdTwin code)).at_ = true) :=
  ⟨⟨(pair up 1).modTwin fun t => { t with up := false },
      { twinId := false, version := 1, imageVer := 0, epoch := 0, role := 1, leaseLen := 0 }, by decide +kernel⟩,
    ⟨pair up 1, { twinId := true, version := 2, imageVer := 0, epoch := 0, role := 1, leaseLen := 0 },
      by decide +kernel⟩,
    ⟨(pair up 1).modTwin fun t => { t with up := false },
      { twinId := true, version := 1, imageVer := 0, epoch := 0, role := 1, leaseLen := 0 }, by decide +kernel⟩,
    ⟨pair up 1, { twinId := true, version := 1, imageVer := 0, epoch := 0, role := 1, leaseLen := 0, crc := some 0#32 },
      0#32, by decide +kernel⟩,
    ⟨pair up 1, 3, by decide +kernel⟩,
    ⟨(pair up 4).modTwin fun t => { t with resendAt := some 0, timeouts := 2, unacked := [LF] }, by decide +kernel⟩,
    ⟨(pair up 4).modTwin fun t => { t with resendAt := some 0, timeouts := 1, unacked := [LF] }, by decide +kernel⟩,
    ⟨(pair up 4).modTwin fun t => { t with unacked := [LF] }, 65535, by decide +kernel⟩,
    ⟨pair up 4, 65535, by decide +kernel⟩,
    ⟨pair up 4, 65535, 0#32, by decide +kernel⟩,
    ⟨(pair up 4).modTwin fun t => { t with ackAt := some 0 }, by decide +kernel⟩,
    ⟨(pair up 4).modTwin fun t => { t with helloAt := some 0 }, by decide +kernel⟩,
    ⟨up.modHold (holdTwin 255) fun h => { h with at_ := some 0 }, 255, by decide +kernel⟩⟩

theorem wit_TwinLease :
    (∃ (s : State), s.alive = true ∧ s.holder = true ∧ s.due s.twin.beatAt = true ∧ s.twin.claimRepeat = 0 ∧ s.rb 0x4000
      31 = true)
    ∧ (∃ (s : State) (k : Nat) (d : Nat), s.alive = true ∧ s.holder = true ∧ s.twin.up = true ∧ k < 2 ^ 32 ∧ d < 64 ∧
      s.twin.beat = (k + d) % 2 ^ 32 ∧ 1000 * d ≤ s.twin.beatTime)
    ∧ (∃ (s : State), s.alive = true ∧ s.holder = true ∧ s.rb 0x4018 28 = false ∧ ((∃ d, s.twin.leaseEnd = some d ∧ d <
      s.owl)))
    ∧ (∃ (s : State) (d : Nat), s.alive = true ∧ s.paired = true ∧ s.twinRole = 3 ∧ s.twin.claimPoint = some d ∧ d <
      s.owl)
    ∧ (∃ (s : State) (e : Nat), s.alive = true ∧ s.paired = true ∧ s.twin.up = true ∧ s.twinRole = 3 ∧ s.twin.epoch ≤ e)
    ∧ (∃ (s : State) (e : Nat), s.alive = true ∧ s.paired = true ∧ s.twin.up = true ∧ s.twinRole = 3 ∧ s.twin.epoch < e ∧
      s.twin.yieldAt = none)
    ∧ (∃ (s : State), s.alive = true ∧ s.due s.twin.yieldAt = true)
    ∧ (∃ (s : State), s.alive = true ∧ s.due s.twin.stillAt = true ∧ s.twin.pinLevel.isSome = true)
    ∧ (∃ (s : State), s.alive = true ∧ s.phase ≠ .deep ∧ s.rf 0x4018 24 23 = 0) :=
  ⟨⟨(pair up 4).modTwin fun t => { t with beatAt := some 0 }, by decide +kernel⟩,
    ⟨(pair up 4).modTwin fun t => { t with beat := 62, beatTime := 63000 }, 4294967295, 63, by decide +kernel⟩,
    ⟨{ (pair up 4).modTwin fun t => { t with leaseEnd := some 0 } with owl := 1 }, by decide +kernel⟩,
    ⟨{ (pair up 3).modTwin fun t => { t with claimPoint := some 0 } with owl := 1 }, 0, by decide +kernel⟩,
    ⟨pair up 3, 0, by decide +kernel⟩,
    ⟨pair up 3, 1, by decide +kernel⟩,
    ⟨up.modTwin fun t => { t with yieldAt := some 0 }, by decide +kernel⟩,
    ⟨up.modTwin fun t => { t with stillAt := some 0, pinLevel := some true }, by decide +kernel⟩,
    ⟨up.setRf 0x4018 24 23 0, by decide +kernel⟩⟩

theorem wit_TwinMirror :
    (∃ (s : State) (seq : Nat) (d : MirrorData) (f : LinkFrame), s.alive = true ∧ s.twin.up = true ∧ seq = nextSeq
      s.twin.rxSeq ∧ f =
      { typ := 0x10, seq := seq, words := mirrorHead d.cls d.obj d.off d.words.length ++ d.words } ∧ (d.crc = none ∨
      d.crc = some f.check))
    ∧ (∃ (s : State) (seq : Nat) (d : MirrorData) (f : LinkFrame), s.alive = true ∧ s.twin.up = true ∧ seq ≠ nextSeq
      s.twin.rxSeq ∧ f =
      { typ := 0x10, seq := seq, words := mirrorHead d.cls d.obj d.off d.words.length ++ d.words } ∧ (d.crc = none ∨
      d.crc = some f.check))
    ∧ (∃ (s : State) (seq : Nat) (d : MirrorData) (f : LinkFrame) (x : Word), s.alive = true ∧ s.rb 0x4000 31 = true ∧
      d.crc = some x ∧ f =
      { typ := 0x10, seq := seq, words := mirrorHead d.cls d.obj d.off d.words.length ++ d.words } ∧ x ≠ f.check)
    ∧ (∃ (s : State) (seq : Nat) (n : Nat) (d : MirrorData) (f : LinkFrame) (x : Word), s.alive = true ∧ s.rb 0x4000 31 =
      true ∧ d.crc = some x ∧ f =
      { typ := 0x11, seq := seq, words := BitVec.ofNat 32 n :: (mirrorHead d.cls d.obj d.off d.words.length ++ d.words) }
      ∧ x ≠ f.check)
    ∧ (∃ (s : State) (seq : Nat) (n : Nat) (d : MirrorData) (f : LinkFrame), s.alive = true ∧ s.twin.up = true ∧ seq =
      nextSeq s.twin.rxSeq ∧ s.paired = true ∧ s.twinRole = 2 ∧ f =
      { typ := 0x11, seq := seq, words := BitVec.ofNat 32 n :: (mirrorHead d.cls d.obj d.off d.words.length ++ d.words) }
      ∧ (d.crc = none ∨ d.crc = some f.check) ∧ n = s.twin.resync ∧ s.twin.bulk = true ∧ s.twin.bulkHeld.all (fun e
      => e.cls == d.cls) = true)
    ∧ (∃ (s : State) (seq : Nat) (n : Nat) (d : MirrorData) (f : LinkFrame), s.alive = true ∧ s.twin.up = true ∧ seq =
      nextSeq s.twin.rxSeq ∧ s.paired = true ∧ s.twinRole = 2 ∧ f =
      { typ := 0x11, seq := seq, words := BitVec.ofNat 32 n :: (mirrorHead d.cls d.obj d.off d.words.length ++ d.words) }
      ∧ (d.crc = none ∨ d.crc = some f.check) ∧ n = s.twin.resync ∧ s.twin.bulk = true ∧ s.twin.bulkHeld.any (fun e
      => e.cls != d.cls) = true)
    ∧ (∃ (s : State) (seq : Nat) (n : Nat) (d : MirrorData) (f : LinkFrame), s.alive = true ∧ s.twin.up = true ∧ seq =
      nextSeq s.twin.rxSeq ∧ s.paired = true ∧ s.twinRole = 2 ∧ f =
      { typ := 0x11, seq := seq, words := BitVec.ofNat 32 n :: (mirrorHead d.cls d.obj d.off d.words.length ++ d.words) }
      ∧ (d.crc = none ∨ d.crc = some f.check) ∧ (n ≠ s.twin.resync ∨ s.twin.bulk = false))
    ∧ (∃ (s : State), s.alive = true ∧ s.holder = true ∧ s.due s.twin.mirrorAt = true)
    ∧ (∃ (s : State), s.alive = true ∧ s.holder = true ∧ s.twin.up = true ∧ s.faults.safe = false ∧ s.due s.twin.seqSyncAt
      = true)
    ∧ (∃ (s : State), s.alive = true ∧ s.paired = true ∧ s.twin.up = true ∧ s.holder = false)
    ∧ (∃ (s : State) (e : SeqSync) (own : Nat), s.redOn e.stream = true ∧ (s.redRole e.stream = 1 ∨ s.redRole e.stream =
      3) ∧ s.nearStart e.stream e.at_ = some (own, true) ∧ own = e.value % s.txMod e.stream)
    ∧ (∃ (s : State) (e : SeqSync) (own : Nat), s.redOn e.stream = true ∧ (s.redRole e.stream = 1 ∨ s.redRole e.stream =
      3) ∧ s.nearStart e.stream e.at_ = some (own, true) ∧ own ≠ e.value % s.txMod e.stream)
    ∧ (∃ (s : State) (e : SeqSync) (own : Nat), s.redOn e.stream = true ∧ (s.redRole e.stream = 1 ∨ s.redRole e.stream =
      3) ∧ (s.nearStart e.stream e.at_ = some (own, false) ∨ s.nearStart e.stream e.at_ = none))
    ∧ (∃ (s : State), s.alive = true ∧ s.paired = true ∧ s.twin.up = true ∧ s.due s.twin.refInfoSend = true) :=
  ⟨⟨pair up 3, 1, { cls := 1, obj := 0, off := 0, words := [] }, LinkFrame.mk 0x10 1 [0x01000000#32, 0#32, 0#32] 0 0
      none, by decide +kernel⟩,
    ⟨pair up 3, 65535, { cls := 1, obj := 0, off := 0, words := [] }, LinkFrame.mk 0x10 65535 [0x01000000#32, 0#32,
      0#32] 0 0 none, by decide +kernel⟩,
    ⟨pair up 3, 1, { cls := 1, obj := 0, off := 0, words := [], crc := some 0#32 }, LinkFrame.mk 0x10 1 [0x01000000#32,
      0#32, 0#32] 0 0 none, 0#32, by decide +kernel⟩,
    ⟨pair up 2, 1, 7, { cls := 1, obj := 0, off := 0, words := [], crc := some 0#32 }, LinkFrame.mk 0x11 1 [7#32,
      0x01000000#32, 0#32, 0#32] 0 0 none, 0#32, by decide +kernel⟩,
    ⟨(pair up 2).modTwin fun t => { t with rxSeq := 65535, resync := 7, bulk := true }, 1, 7,
      { cls := 1, obj := 0, off := 0, words := [] }, LinkFrame.mk 0x11 1 [7#32, 0x01000000#32, 0#32, 0#32] 0 0 none,
      by decide +kernel⟩,
    ⟨(pair up 2).modTwin fun t =>
      { t with rxSeq := 65535, resync := 7, bulk := true, bulkHeld := [{ cls := 4, obj := 0, off := 0, words := [] }] },
      1, 7, { cls := 1, obj := 0, off := 0, words := [] }, LinkFrame.mk 0x11 1 [7#32, 0x01000000#32, 0#32, 0#32] 0 0
      none, by decide +kernel⟩,
    ⟨pair up 2, 1, 7, { cls := 1, obj := 0, off := 0, words := [] }, LinkFrame.mk 0x11 1 [7#32, 0x01000000#32, 0#32,
      0#32] 0 0 none, by decide +kernel⟩,
    ⟨(pair up 4).modTwin fun t => { t with mirrorAt := some 0 }, by decide +kernel⟩,
    ⟨(pair up 4).modTwin fun t => { t with seqSyncAt := some 0 }, by decide +kernel⟩,
    ⟨pair up 3, by decide +kernel⟩,
    ⟨(redUp 1 0).modRed 2047 fun r => { r with startAt := some (7, 0) }, { stream := 2047, value := 7, at_ := 0 }, 7,
      by decide +kernel⟩,
    ⟨(redUp 1 0).modRed 2047 fun r => { r with startAt := some (7, 0) }, { stream := 2047, value := 8, at_ := 0 }, 7,
      by decide +kernel⟩,
    ⟨redUp 3 0, { stream := 2047, value := 8, at_ := 0 }, 0, by decide +kernel⟩,
    ⟨(pair up 3).modTwin fun t => { t with refInfoSend := some 0 }, by decide +kernel⟩⟩

theorem wit_TwinCommands :
    (∃ (s : State), s.ready 0x0A01 = true)
    ∧ (∃ (s : State) (q : Req) (ws : List Word), s.ready 0x0A02 = true ∧ q.src ≠ .twin ∧ 3 ≤ ws.length ∧ s.twin.up = true)
    ∧ (∃ (s : State) (q : Req) (ws : List Word), s.ready 0x0A02 = true ∧ q.src ≠ .twin ∧ 3 ≤ ws.length ∧ s.twin.up =
      false)
    ∧ (∃ (s : State), s.ready 0x0A03 = true ∧ s.yieldStatus = stOk ∧ s.claimed (fun c => c == .twinRole) = false)
    ∧ (∃ (s : State), s.ready 0x0A03 = true ∧ s.claimed (fun c => c == .twinRole) = true)
    ∧ (∃ (s : State), s.ready 0x0A03 = true ∧ s.claimed (fun c => c == .twinRole) = false ∧ s.yieldStatus ≠ stOk)
    ∧ (∃ (s : State) (seq : Nat) (l : List Byte) (p : PendCmd), s.alive = true ∧ s.twin.up = true ∧ seq = nextSeq
      s.twin.rxSeq ∧ beNum l 8 2 ≠ stPending ∧ s.forwardOf (beNum l 4 2) = some p ∧ (toWords l).length ≤ maxCount
      p.req) :=
  ⟨⟨fw, by decide +kernel⟩,
    ⟨pair fw 4, Q, [0, 0, 0], by decide +kernel⟩,
    ⟨fw, Q, [0, 0, 0], by decide +kernel⟩,
    ⟨(pair fw 4).modTwin fun t => { t with farRole := 3 }, by decide +kernel⟩,
    ⟨fw.claim .twinRole, by decide +kernel⟩,
    ⟨fw, by decide +kernel⟩,
    ⟨(pair fw 4).modCmd fun c =>
      { c with pend := [{ req := Q, opcode := 0x0A02, job := .forward 5, pending := false }] }, 1, [0, 0, 0, 0, 0,
      5, 0, 0, 0, 0], { req := Q, opcode := 0x0A02, job := .forward 5, pending := false }, by decide +kernel⟩⟩

theorem wit_HostPort :
    (∃ (s : State) (l : List Byte), s.alive = true ∧ s.portUp = true ∧ l ≠ [] ∧ 16 ≤ s.outstanding .host)
    ∧ (∃ (s : State) (l : List Byte) (n : Nat) (op : Nat) (tag : Nat) (q : Req), s.alive = true ∧ s.portUp = true ∧
      s.outstanding .host < 16 ∧ n = beNum l 6 2 ∧ n ≤ 1021 ∧ l.length = 12 + 4 * n ∧ crcGood l = true ∧ op = beNum
      l 2 2 ∧ tag = beNum l 4 2 ∧ q = { src := .host, tag := tag, ordered := beNum l 0 1 % 2 == 1 } ∧ s.judge .host
      l n op tag (toWords ((l.drop 8).take (4 * n))) = stOk)
    ∧ (∃ (s : State) (l : List Byte) (n : Nat) (op : Nat) (tag : Nat) (q : Req), s.alive = true ∧ s.portUp = true ∧
      s.outstanding .host < 16 ∧ n = beNum l 6 2 ∧ n ≤ 1021 ∧ l.length = 12 + 4 * n ∧ crcGood l = true ∧ op = beNum
      l 2 2 ∧ tag = beNum l 4 2 ∧ q = { src := .host, tag := tag, ordered := beNum l 0 1 % 2 == 1 } ∧ s.judge .host
      l n op tag (toWords ((l.drop 8).take (4 * n))) ≠ stOk)
    ∧ (∃ (s : State), s.portUp = true ∧ s.cmd.hostReplies = [])
    ∧ (∃ (s : State) (n : Nat) (r : Reply) (t : List Reply), s.portUp = true ∧ s.cmd.hostReplies = r :: t ∧ n <
      (s.replyBytes r).length)
    ∧ (∃ (s : State) (n : Nat) (r : Reply) (t : List Reply), s.portUp = true ∧ s.cmd.hostReplies = r :: t ∧ (s.replyBytes
      r).length ≤ n)
    ∧ (∃ (s : State), s.alive = true ∧ s.portUp = false)
    ∧ (∃ (s : State) (code : Nat), s.alive = true ∧ code < 256 ∧ s.due (s.hold (holdCmd code)).at_ = true)
    ∧ (∃ (s : State) (a : Nat) (k : KeyA), s.alive = true ∧ s.keyAt a = some k ∧ k.till ≤ s.owl)
    ∧ (∃ (s : State) (a : Nat) (k : KeyA), s.alive = true ∧ s.keyAt a = some k ∧ s.owl < k.till)
    ∧ (∃ (s : State) (c : Nat), s.alive = true ∧ c < 192)
    ∧ (∃ (s : State) (k : Nat), s.alive = true ∧ k < 1536) :=
  ⟨⟨up.modCmd fun c => { c with awaiting := List.replicate 16 Q }, [0], by decide +kernel⟩,
    ⟨fw, packet 1 1 7 [] [], 0, 1, 7, { src := .host, tag := 7 }, by decide +kernel⟩,
    ⟨fw, packet 1 0x0101 7 [0] [], 1, 0x0101, 7, { src := .host, tag := 7 }, by decide +kernel⟩,
    ⟨up, by decide +kernel⟩,
    ⟨up.modCmd fun c => { c with hostReplies := [RP] }, 0, RP, [], by decide +kernel⟩,
    ⟨up.modCmd fun c => { c with hostReplies := [RP] }, (up.replyBytes RP).length, RP, [], by decide +kernel⟩,
    ⟨{ up with phase := .deep }, by decide +kernel⟩,
    ⟨up.modHold (holdCmd 255) fun h => { h with at_ := some 0 }, 255, by decide +kernel⟩,
    ⟨up.modCmd fun c => { c with keys := [KA] }, 0x4010, KA, by decide +kernel⟩,
    ⟨up.modCmd fun c => { c with keys := [{ KA with till := 1 }] }, 0x4010, { KA with till := 1 }, by decide +kernel⟩,
    ⟨up, 191, by decide +kernel⟩,
    ⟨up, 1535, by decide +kernel⟩⟩

theorem wit_OtherSources :
    (∃ (s : State) (slot : Nat) (c : Nat), s.alive = true ∧ c = fld (s.streamWord slot) 23 16 ∧ s.streamOn slot = true ∧
      bit (s.streamWord slot) 30 = true ∧ s.enabled c = true ∧ s.aligned c = true ∧ s.clocked = true ∧ 4 ≤
      s.outstanding (.inband slot))
    ∧ (∃ (s : State) (slot : Nat) (c : Nat) (l : List Byte) (n : Nat) (op : Nat) (tag : Nat) (ws : List Word), s.alive =
      true ∧ c = fld (s.streamWord slot) 23 16 ∧ s.streamOn slot = true ∧ bit (s.streamWord slot) 30 = true ∧
      s.enabled c = true ∧ s.aligned c = true ∧ s.clocked = true ∧ s.outstanding (.inband slot) < 4 ∧ n = beNum l 6
      2 ∧ n ≤ 1017 ∧ l.length = 12 + 4 * n + 16 ∧ crcGood l = true ∧ op = beNum l 2 2 ∧ tag = beNum l 4 2 ∧ ws =
      toWords ((l.drop 8).take (4 * n)) ∧ s.judge (.inband slot) l n op tag ws = stOk)
    ∧ (∃ (s : State) (seq : Nat), s.alive = true ∧ s.twin.up = true ∧ seq ≠ nextSeq s.twin.rxSeq)
    ∧ (∃ (s : State) (seq : Nat), s.alive = true ∧ s.twin.up = true ∧ seq = nextSeq s.twin.rxSeq ∧ 16 ≤ s.outstanding
      .twin)
    ∧ (∃ (s : State) (seq : Nat) (l : List Byte) (n : Nat) (op : Nat) (tag : Nat) (ws : List Word), s.alive = true ∧
      s.twin.up = true ∧ seq = nextSeq s.twin.rxSeq ∧ s.outstanding .twin < 16 ∧ n = beNum l 6 2 ∧ n ≤ 1021 ∧
      l.length = 12 + 4 * n ∧ crcGood l = true ∧ op = beNum l 2 2 ∧ tag = beNum l 4 2 ∧ ws = toWords ((l.drop
      8).take (4 * n)) ∧ s.judge .twin l n op tag ws = stOk) :=
  ⟨⟨inb.modCmd fun c => { c with awaiting := List.replicate 4 { Q with src := .inband 63 } }, 63, 0, by decide +kernel⟩,
    ⟨inb, 63, 0, packet 2 3 7 [] (List.replicate 16 0), 0, 3, 7, [], by decide +kernel⟩,
    ⟨pair up 4, 0, by decide +kernel⟩,
    ⟨(pair up 4).modCmd fun c => { c with awaiting := List.replicate 16 { Q with src := .twin } }, 1, by decide +kernel⟩,
    ⟨pair fw 4, 1, packet 3 1 7 [] [], 0, 1, 7, [], by decide +kernel⟩⟩

theorem wit_HardwareOpcodes :
    (∃ (s : State), s.ready 0x0001 = true)
    ∧ (∃ (s : State) (q : Req) (ws : List Word), s.ready 0x0002 = true ∧ ws.length ≤ maxCount q)
    ∧ (∃ (s : State) (q : Req) (ws : List Word), s.ready 0x0002 = true ∧ maxCount q < ws.length)
    ∧ (∃ (s : State), s.ready 0x0003 = true ∧ s.inRecovery = false)
    ∧ (∃ (s : State), s.ready 0x0003 = true ∧ s.inRecovery = true)
    ∧ (∃ (s : State) (a : Word), s.ready 0x0101 = true ∧ addrOk a = true)
    ∧ (∃ (s : State) (a : Word), s.ready 0x0102 = true ∧ addrOk a = true)
    ∧ (∃ (s : State) (q : Req) (a : Word) (n : Word), s.ready 0x0103 = true ∧ addrOk a = true ∧ 1 ≤ n.toNat ∧ n.toNat ≤
      maxCount q)
    ∧ (∃ (s : State) (a : Word), s.ready 0x0104 = true ∧ addrOk a = true)
    ∧ (∃ (s : State) (a : Word), s.ready 0x0105 = true ∧ addrOk a = true ∧ keyAddrs.contains (decodeAddr a.toNat).1.addr =
      true)
    ∧ (∃ (s : State) (q : Req) (w0 : Word) (w1 : Word) (w2 : Word) (n : Nat), s.ready 0x0201 = true ∧ 1 ≤ w2.toNat ∧
      w2.toNat ≤ maxCount q ∧ tblRange w0 w1 w2.toNat = some n)
    ∧ (∃ (s : State) (w : Word) (m : Nat), s.ready 0x0701 = true ∧ onlyBits w 0xFF = true ∧ (m = (if fld w 7 0 = 0 ∨ fld w
      7 0 > 64 then 64 else fld w 7 0)) ∧ s.events = [])
    ∧ (∃ (s : State) (w : Word) (m : Nat), s.ready 0x0701 = true ∧ onlyBits w 0xFF = true ∧ (m = (if fld w 7 0 = 0 ∨ fld w
      7 0 > 64 then 64 else fld w 7 0)) ∧ s.events ≠ []) :=
  ⟨⟨fw, by decide +kernel⟩,
    ⟨fw, Q, List.replicate 1020 0, by decide +kernel⟩,
    ⟨fw, Q, List.replicate 1021 0, by decide +kernel⟩,
    ⟨fw, by decide +kernel⟩,
    ⟨fw.setRb 0x50B4 30 true, by decide +kernel⟩,
    ⟨fw, 0x00FFFFFC#32, by decide +kernel⟩,
    ⟨fw, 0#32, by decide +kernel⟩,
    ⟨fw, Q, 0#32, 1020#32, by decide +kernel⟩,
    ⟨fw, 0#32, by decide +kernel⟩,
    ⟨fw, 0x4010#32, by decide +kernel⟩,
    ⟨fw, Q, 0x02000000#32, 0#32, 1#32, 4, by decide +kernel⟩,
    ⟨fw, 0#32, 64, by decide +kernel⟩,
    ⟨{ fw with events := [0#64] }, 65#32, 64, by decide +kernel⟩⟩

theorem wit_TableCommands :
    (∃ (s : State) (w0 : Word) (w1 : Word) (ws : List Word) (n : Nat), s.ready 0x0202 = true ∧ tblRange w0 w1 (ws.length
      + 1) = some n ∧ pairTable (fld w0 31 24) = true ∧ s.notActive = true)
    ∧ (∃ (s : State) (w0 : Word) (w1 : Word) (ws : List Word) (n : Nat), s.ready 0x0202 = true ∧ tblRange w0 w1 (ws.length
      + 1) = some n ∧ (pairTable (fld w0 31 24) = false ∨ s.notActive = false))
    ∧ (∃ (s : State) (st : Nat), s.ready 0x0202 = true ∧ st < 2048 ∧ s.notActive = false)
    ∧ (∃ (s : State), s.ready 0x0403 = true ∧ s.notActive = false ∧ s.swap.st ≠ 0)
    ∧ (∃ (s : State) (a : Word) (b : Word) (c : Word) (d : Word) (n : Nat) (why : Nat) (k : Conn), s.ready 0x0403 = true ∧
      s.notActive = false ∧ s.swap.st = 0 ∧ firstFree (s.conns s.bankOther) 0 32768 = some n ∧ k =
      { ctl := a, src := b, dest := c, alt := d } ∧ why = s.connReason s.bankOther (s.bankConns s.bankOther)
      (s.bankConns s.bankOther) k ∧ why ≠ 0)
    ∧ (∃ (s : State) (a : Word) (b : Word) (c : Word) (d : Word) (n : Nat) (why : Nat) (k : Conn), s.ready 0x0403 = true ∧
      s.notActive = false ∧ s.swap.st = 0 ∧ firstFree (s.conns s.bankOther) 0 32768 = some n ∧ k =
      { ctl := a, src := b, dest := c, alt := d } ∧ why = s.connReason s.bankOther (s.bankConns s.bankOther)
      (s.bankConns s.bankOther) k ∧ why = 0)
    ∧ (∃ (s : State) (w : Word), s.ready 0x0404 = true ∧ s.notActive = false ∧ onlyBits w 0x00007FFF = true ∧ s.swap.st ≠
      0)
    ∧ (∃ (s : State) (w : Word), s.ready 0x0404 = true ∧ s.notActive = false ∧ onlyBits w 0x00007FFF = true ∧ s.swap.st =
      0 ∧ s.discTarget [w] = none)
    ∧ (∃ (s : State) (w : Word) (n : Nat), s.ready 0x0404 = true ∧ s.notActive = false ∧ onlyBits w 0x00007FFF = true ∧
      s.swap.st = 0 ∧ s.discTarget [w] = some n)
    ∧ (∃ (s : State) (d : Word) (n : Nat), s.ready 0x0404 = true ∧ s.notActive = false ∧ s.swap.st = 0 ∧ s.discTarget
      [0x80000000, d] = some n)
    ∧ (∃ (s : State) (w : Word) (b : Word), s.ready 0x0203 = true ∧ s.notActive = false ∧ bit w 31 = false ∧ onlyBits w
      0xC00000FF = true ∧ fld w 7 0 = 1 ∧ fld b 31 30 = 0 ∧ fld b 29 0 < 1000000000 ∧ s.swap.st ≠ 0)
    ∧ (∃ (s : State) (w : Word) (a : Word) (b : Word), s.ready 0x0203 = true ∧ s.notActive = false ∧ bit w 31 = false ∧
      onlyBits w 0xC00000FF = true ∧ fld w 7 0 = 1 ∧ fld b 31 30 = 0 ∧ fld b 29 0 < 1000000000 ∧ s.swapNs a.toNat
      (fld b 29 0) > s.nowNs + 1000000000000)
    ∧ (∃ (s : State) (w : Word) (a : Word) (b : Word), s.ready 0x0203 = true ∧ s.notActive = false ∧ bit w 31 = false ∧
      onlyBits w 0xC00000FF = true ∧ fld w 7 0 = 1 ∧ fld b 31 30 = 0 ∧ fld b 29 0 < 1000000000 ∧ s.swap.st = 0 ∧
      s.swap.validating = none ∧ s.swapNs a.toNat (fld b 29 0) ≤ s.nowNs + 1000000000000)
    ∧ (∃ (s : State) (w : Word), s.ready 0x0203 = true ∧ s.notActive = false ∧ bit w 31 = true ∧ (s.swap.st = 2 ∨
      s.swap.st = 3))
    ∧ (∃ (s : State) (w : Word), s.ready 0x0203 = true ∧ s.notActive = false ∧ bit w 31 = true ∧ s.swap.st = 1)
    ∧ (∃ (s : State) (w : Word), s.ready 0x0203 = true ∧ s.notActive = false ∧ bit w 31 = true ∧ s.swap.st = 0) :=
  ⟨⟨pair fw 3, 0x02000000#32, 0#32, [], 4, by decide +kernel⟩,
    ⟨fw, 0x02000000#32, 0#32, [], 4, by decide +kernel⟩,
    ⟨fw, 2047, by decide +kernel⟩,
    ⟨{ fw with swap := { fw.swap with st := 3 } }, by decide +kernel⟩,
    ⟨fw, 0#32, 0#32, 0#32, 0#32, 0, 1, { ctl := 0#32, src := 0#32, dest := 0#32, alt := 0#32 }, by decide +kernel⟩,
    ⟨chan (chan fw 0 3 0 4) 1 3 0 4, 0x01FE0000#32, 0x10000000#32, 0x10100000#32, 0#32, 0, 0,
      { ctl := 0x01FE0000#32, src := 0x10000000#32, dest := 0x10100000#32, alt := 0#32 }, by decide +kernel⟩,
    ⟨{ fw with swap := { fw.swap with st := 1 } }, 0x7FFF#32, by decide +kernel⟩,
    ⟨fw, 0x7FFF#32, by decide +kernel⟩,
    ⟨fw.setConn 1 32767 { dest := 0x10100000#32, src := 0x10000000#32, ctl := 0x01000000#32, alt := 0#32 }, 0x7FFF#32,
      32767, by decide +kernel⟩,
    ⟨fw.setConn 1 32767 { dest := 0x10100000#32, src := 0x10000000#32, ctl := 0x01000000#32, alt := 0#32 },
      0x10100000#32, 32767, by decide +kernel⟩,
    ⟨{ fw with swap := { fw.swap with st := 1 } }, 1#32, 999999999#32, by decide +kernel⟩,
    ⟨fw, 1#32, 1001#32, 0#32, by decide +kernel⟩,
    ⟨fw, 1#32, 1000#32, 0#32, by decide +kernel⟩,
    ⟨{ fw with swap := { fw.swap with st := 2 } }, 0x80000000#32, by decide +kernel⟩,
    ⟨{ fw with swap := { fw.swap with st := 1 } }, 0x80000000#32, by decide +kernel⟩,
    ⟨fw, 0x80000000#32, by decide +kernel⟩⟩

theorem wit_BankSwap :
    (∃ (s : State) (t : State) (q : Req) (w : Word), s.alive = true ∧ s.swap.validating = some q ∧ t =
      { s with swap := { s.swap with validating := none } } ∧ t.bankFail t.bankOther = some w)
    ∧ (∃ (s : State) (t : State) (q : Req), s.alive = true ∧ s.swap.validating = some q ∧ t =
      { s with swap := { s.swap with validating := none } } ∧ t.bankFail t.bankOther = none ∧ s.swapNs s.swap.sec
      s.swap.ns < s.nowNs + 250000)
    ∧ (∃ (s : State) (t : State) (q : Req), s.alive = true ∧ s.swap.validating = some q ∧ t =
      { s with swap := { s.swap with validating := none } } ∧ t.bankFail t.bankOther = none ∧ s.nowNs + 250000 ≤
      s.swapNs s.swap.sec s.swap.ns ∧ s.paired = false)
    ∧ (∃ (s : State) (t : State) (q : Req), s.alive = true ∧ s.swap.validating = some q ∧ t =
      { s with swap := { s.swap with validating := none } } ∧ t.bankFail t.bankOther = none ∧ s.nowNs + 250000 ≤
      s.swapNs s.swap.sec s.swap.ns ∧ s.paired = true)
    ∧ (∃ (s : State), s.alive = true ∧ s.swap.st = 1 ∧ s.swap.sec * 1000000000 + s.swap.ns ≤ s.nowNs)
    ∧ (∃ (s : State), s.alive = true ∧ s.swap.st = 1 ∧ s.nowNs < s.swap.sec * 1000000000 + s.swap.ns)
    ∧ (∃ (s : State) (n : Nat) (d : Word), s.alive = true ∧ s.swap.st = 2 ∧ d = (s.conn s.bankOther n).dest ∧ epKind d ≠ 0
      ∧ ((epKind (s.conn s.bankUsed n).dest = 0 ∨ (s.conn s.bankUsed n).dest = d)) ∧ ((epKind d ≠ 2 ∨ s.muxLine
      (epCh d) = false ∨ s.swap.lines.contains (epCh d) = true)) ∧ s.hasSwitched d = true)
    ∧ (∃ (s : State) (n : Nat) (d : Word), s.alive = true ∧ s.swap.st = 2 ∧ d = (s.conn s.bankOther n).dest ∧ epKind d ≠ 0
      ∧ ((epKind (s.conn s.bankUsed n).dest = 0 ∨ (s.conn s.bankUsed n).dest = d)) ∧ ((epKind d ≠ 2 ∨ s.muxLine
      (epCh d) = false ∨ s.swap.lines.contains (epCh d) = true)) ∧ s.hasSwitched d = false ∧ s.entryOf s.bankUsed d
      = s.entryOf s.bankOther d)
    ∧ (∃ (s : State) (n : Nat) (d : Word) (m : Nat) (k : Conn), s.alive = true ∧ s.swap.st = 2 ∧ d = (s.conn s.bankOther
      n).dest ∧ epKind d ≠ 0 ∧ ((epKind (s.conn s.bankUsed n).dest = 0 ∨ (s.conn s.bankUsed n).dest = d)) ∧ ((epKind
      d ≠ 2 ∨ s.muxLine (epCh d) = false ∨ s.swap.lines.contains (epCh d) = true)) ∧ s.hasSwitched d = false ∧
      s.entryOf s.bankUsed d = none ∧ s.entryOf s.bankOther d = some (m, k))
    ∧ (∃ (s : State) (n : Nat) (d : Word) (m : Nat) (o : Nat) (k : Conn) (p : Conn), s.alive = true ∧ s.swap.st = 2 ∧ d =
      (s.conn s.bankOther n).dest ∧ epKind d ≠ 0 ∧ ((epKind (s.conn s.bankUsed n).dest = 0 ∨ (s.conn s.bankUsed
      n).dest = d)) ∧ ((epKind d ≠ 2 ∨ s.muxLine (epCh d) = false ∨ s.swap.lines.contains (epCh d) = true)) ∧
      s.hasSwitched d = false ∧ s.entryOf s.bankUsed d = some (o, p) ∧ s.entryOf s.bankOther d = some (m, k) ∧
      (p.src ≠ k.src ∨ p.alt ≠ k.alt))
    ∧ (∃ (s : State) (n : Nat) (d : Word) (m : Nat) (o : Nat) (k : Conn) (p : Conn), s.alive = true ∧ s.swap.st = 2 ∧ d =
      (s.conn s.bankOther n).dest ∧ epKind d ≠ 0 ∧ ((epKind (s.conn s.bankUsed n).dest = 0 ∨ (s.conn s.bankUsed
      n).dest = d)) ∧ ((epKind d ≠ 2 ∨ s.muxLine (epCh d) = false ∨ s.swap.lines.contains (epCh d) = true)) ∧
      s.hasSwitched d = false ∧ s.entryOf s.bankUsed d = some (o, p) ∧ s.entryOf s.bankOther d = some (m, k) ∧ p.src
      = k.src ∧ p.alt = k.alt ∧ (o ≠ m ∨ p ≠ k))
    ∧ (∃ (s : State) (n : Nat) (o : Nat) (d : Word) (p : Conn), s.alive = true ∧ s.swap.st = 2 ∧ d = (s.conn s.bankUsed
      n).dest ∧ epKind d ≠ 0 ∧ epKind (s.conn s.bankOther n).dest = 0 ∧ s.hasSwitched d = false ∧ s.entryOf
      s.bankUsed d = some (o, p) ∧ s.entryOf s.bankOther d = none)
    ∧ (∃ (s : State) (c : Nat), s.swap.st = 2 ∧ s.muxLine c = true ∧ s.swap.lines.contains c = true)
    ∧ (∃ (s : State) (c : Nat), s.swap.st = 2 ∧ s.muxLine c = true ∧ s.swap.lines.contains c = false)
    ∧ (∃ (s : State) (r : State) (u : State) (n : Nat) (d : Word) (e : Word), s.alive = true ∧ s.swap.st = 2 ∧ d = (s.conn
      s.bankOther n).dest ∧ e = (s.conn s.bankUsed n).dest ∧ r = (if epKind d = 2 ∧ s.muxLine (epCh d) = true then
      s.switchLine (epCh d) else s) ∧ u = (if epKind d = 0 then r else r.switchDest d))
    ∧ (∃ (s : State) (r : State) (t : State), s.alive = true ∧ s.swap.st = 2 ∧ s.due s.swap.endAt = true ∧ r = s.each
      (allCh.filter s.muxLine) State.switchLine ∧ t = r.allDests.foldl State.switchDest r)
    ∧ (∃ (s : State) (t : State), s.alive = true ∧ s.swap.st = 3 ∧ t = s.copyBank) :=
  ⟨⟨swp.setConn 1 0 { K1 with ctl := 0#32 },
      { swp.setConn 1 0 { K1 with ctl := 0#32 } with swap := { swp.swap with validating := none } }, Q,
      0x01000000#32, by decide +kernel⟩,
    ⟨{ swp with swap := { swp.swap with sec := 0 } },
      { swp with swap := { swp.swap with sec := 0, validating := none } }, Q, by decide +kernel⟩,
    ⟨swp, { swp with swap := { swp.swap with validating := none } }, Q, by decide +kernel⟩,
    ⟨pair swp 4, { pair swp 4 with swap := { swp.swap with validating := none } }, Q, by decide +kernel⟩,
    ⟨{ swp with swap := { st := 1 } }, by decide +kernel⟩,
    ⟨{ swp with swap := { st := 1, sec := 1 } }, by decide +kernel⟩,
    ⟨{ swg.setConn 1 0 K1 with swap := { st := 2, switched := [0x10100000] } }, 0, K1.dest, by decide +kernel⟩,
    ⟨(swg.setConn 1 32767 K1).setConn 0 32767 K1, 32767, K1.dest, by decide +kernel⟩,
    ⟨swg.setConn 1 0 K1, 0, K1.dest, 0, K1, by decide +kernel⟩,
    ⟨(swg.setConn 1 0 K1).setConn 0 0 { K1 with src := 0x10200000#32 }, 0, K1.dest, 0, 0, K1,
      { K1 with src := 0x10200000#32 }, by decide +kernel⟩,
    ⟨(swg.setConn 1 0 K1).setConn 0 1 K1, 0, K1.dest, 0, 1, K1, K1, by decide +kernel⟩,
    ⟨swg.setConn 0 32767 K1, 32767, 32767, K1.dest, K1, by decide +kernel⟩,
    ⟨{ muxed with swap := { st := 2, lines := [191] } }, 191, by decide +kernel⟩,
    ⟨{ muxed with swap := { st := 2 } }, 191, by decide +kernel⟩,
    ⟨swg, swg, swg, 0, 0#32, 0#32, by decide +kernel⟩,
    ⟨{ swg with swap := { st := 2, endAt := some 0 } }, { swg with swap := { st := 2, endAt := some 0 } },
      { swg with swap := { st := 2, endAt := some 0 } }, by decide +kernel⟩,
    ⟨{ swg with swap := { st := 3 } }, { swg with swap := { st := 3 } }.copyBank, by decide +kernel⟩⟩

theorem wit_ChannelCommands :
    (∃ (s : State) (t : State) (q : Req) (w0 : Word) (w1 : Word) (w2 : Word) (w3 : Word) (c : Nat), s.ready 0x0401 =
      true ∧ onlyBits w0 0xFF000000 = true ∧ c = fld w0 31 24 ∧ c < 192 ∧ t = s.provision q.src c w1 w2 w3 ∧
      (s.provisionRefusal c w1 w3).1 ≠ stOk)
    ∧ (∃ (s : State) (t : State) (q : Req) (w0 : Word) (w1 : Word) (w2 : Word) (w3 : Word) (c : Nat), s.ready 0x0401 =
      true ∧ onlyBits w0 0xFF000000 = true ∧ c = fld w0 31 24 ∧ c < 192 ∧ t = s.provision q.src c w1 w2 w3 ∧
      (s.provisionRefusal c w1 w3).1 = stOk ∧ bit w3 31 = false)
    ∧ (∃ (s : State) (t : State) (q : Req) (w0 : Word) (w1 : Word) (w2 : Word) (w3 : Word) (c : Nat), s.ready 0x0401 =
      true ∧ onlyBits w0 0xFF000000 = true ∧ c = fld w0 31 24 ∧ c < 192 ∧ t = s.provision q.src c w1 w2 w3 ∧
      (s.provisionRefusal c w1 w3).1 = stOk ∧ bit w3 31 = true)
    ∧ (∃ (s : State) (c : Nat) (w : Option Word) (a : Option Nat) (p : PendCmd), s.alive = true ∧ c < 192 ∧ s.provisioning
      c = some p ∧ p.job = .provision c w a ∧ s.enabled c = true ∧ ((∀ d ∈ s.bond c, (s.lane d).adapted = true)))
    ∧ (∃ (s : State) (c : Nat) (w : Option Word) (a : Option Nat) (p : PendCmd) (d : Nat), s.alive = true ∧ c < 192 ∧
      s.provisioning c = some p ∧ p.job = .provision c w a ∧ d ∈ s.bond c ∧ (s.lane d).adapted = false ∧ (s.due
      p.dueAt = true ∨ ((s.lane c).sd = false ∧ ∃ t, a = some t ∧ t + s.sdQual c ≤ s.owl)))
    ∧ (∃ (s : State) (c : Nat) (w : Option Word) (a : Option Nat) (p : PendCmd) (d : Nat), s.alive = true ∧ c < 192 ∧
      s.provisioning c = some p ∧ p.job = .provision c w a ∧ d ∈ s.bond c ∧ (s.lane d).adapted = false ∧ ((s.lane
      c).sd = true ∨ a = none) ∧ s.due p.dueAt = false)
    ∧ (∃ (s : State) (w : Word) (c : Nat), s.ready 0x0402 = true ∧ onlyBits w 0xFF000000 = true ∧ c = fld w 31 24 ∧ c <
      192 ∧ s.namedCh c = true)
    ∧ (∃ (s : State) (w : Word) (c : Nat), s.ready 0x0402 = true ∧ onlyBits w 0xFF000000 = true ∧ c = fld w 31 24 ∧ c <
      192 ∧ s.namedCh c = false ∧ s.pgNames c = true)
    ∧ (∃ (s : State) (w : Word) (c : Nat), s.ready 0x0402 = true ∧ onlyBits w 0xFF000000 = true ∧ c = fld w 31 24 ∧ c <
      192 ∧ s.namedCh c = false ∧ s.pgNames c = false ∧ s.isMember c = true)
    ∧ (∃ (s : State) (w : Word) (c : Nat), s.ready 0x0402 = true ∧ onlyBits w 0xFF000000 = true ∧ c = fld w 31 24 ∧ c <
      192 ∧ s.namedCh c = false ∧ s.pgNames c = false ∧ s.isMember c = false) :=
  ⟨⟨fw, fw.provision Q.src 191 0#32 0#32 0#32, Q, 0xBF000000#32, 0#32, 0#32, 0#32, 191, by decide +kernel⟩,
    ⟨fw, fw.provision Q.src 191 0x01000000#32 0#32 0#32, Q, 0xBF000000#32, 0x01000000#32, 0#32, 0#32, 191,
      by decide +kernel⟩,
    ⟨fw, fw.provision Q.src 191 0x01000000#32 0#32 0x80000000#32, Q, 0xBF000000#32, 0x01000000#32, 0#32, 0x80000000#32,
      191, by decide +kernel⟩,
    ⟨((chan fw 191 1 0 2).modLane 191 fun l => { l with adapted := true }).modCmd fun c =>
      { c with pend := [PC 0x0401 (.provision 191 none none)] }, 191, none, none, PC 0x0401 (.provision 191 none
      none), by decide +kernel⟩,
    ⟨{ (chan fw 191 1 0 2).modCmd fun c => { c with pend := [PC 0x0401 (.provision 191 none none)] } with owl := 10 },
      191, none, none, PC 0x0401 (.provision 191 none none), 191, by decide +kernel⟩,
    ⟨((chan fw 191 1 0 2).modLane 191 fun l => { l with sd := true }).modCmd fun c =>
      { c with pend := [PC 0x0401 (.provision 191 none (some 0))] }, 191, none, some 0, PC 0x0401 (.provision 191
      none (some 0)), 191, by decide +kernel⟩,
    ⟨fw.setConn 0 0 K1, 0x01000000#32, 1, by decide +kernel⟩,
    ⟨(chan fw 0 1 0 0).setTbl 4 0 0 0x80000000#32, 0#32, 0, by decide +kernel⟩,
    ⟨fw.modCh 191 fun h => { h with bondOwner := some 188 }, 0xBF000000#32, 191, by decide +kernel⟩,
    ⟨fw, 0xBF000000#32, 191, by decide +kernel⟩⟩

theorem wit_LaneTests :
    (∃ (s : State) (w : Word) (c : Nat) (dir : Nat) (pat : Nat), s.ready 0x0802 = true ∧ onlyBits w 0x00FFF303 = true ∧
      c = fld w 23 16 ∧ c < 192 ∧ dir = fld w 9 8 ∧ pat = fld w 14 12 ∧ fld w 1 0 = 0 ∧ dir ≠ 0 ∧ ((pat < 5 ∨ (pat =
      5 ∧ s.pam4 c = true))) ∧ s.claimed (isLane c) = true)
    ∧ (∃ (s : State) (t : State) (w : Word) (c : Nat) (dir : Nat) (pat : Nat), s.ready 0x0802 = true ∧ onlyBits w
      0x00FFF303 = true ∧ c = fld w 23 16 ∧ c < 192 ∧ dir = fld w 9 8 ∧ pat = fld w 14 12 ∧ fld w 1 0 = 0 ∧ dir ≠ 0
      ∧ ((pat < 5 ∨ (pat = 5 ∧ s.pam4 c = true))) ∧ s.claimed (isLane c) = false ∧ t = s.prbsStart c pat dir (bit w
      15))
    ∧ (∃ (s : State) (t : State) (w : Word) (c : Nat), s.ready 0x0802 = true ∧ onlyBits w 0x00FFF303 = true ∧ c = fld w 23
      16 ∧ c < 192 ∧ fld w 14 12 ≤ 5 ∧ fld w 1 0 = 1 ∧ fld w 9 8 ≠ 0 ∧ t = s.prbsStop c (fld w 9 8))
    ∧ (∃ (s : State) (w : Word) (c : Nat), s.ready 0x0802 = true ∧ onlyBits w 0x00FFF303 = true ∧ c = fld w 23 16 ∧ c <
      192 ∧ fld w 14 12 ≤ 5 ∧ fld w 1 0 = 2)
    ∧ (∃ (s : State) (w : Word) (c : Nat), s.ready 0x0802 = true ∧ onlyBits w 0x00FFF303 = true ∧ c = fld w 23 16 ∧ c <
      192 ∧ fld w 14 12 ≤ 5 ∧ fld w 1 0 = 3)
    ∧ (∃ (s : State) (c : Nat), s.alive = true ∧ c < 192 ∧ (s.lane c).prbs.chk = true ∧ (s.lane c).sd = true)
    ∧ (∃ (p : Prbs) (b : Bool) (x : Bool) (want : Bool) (n : Nat), n = (prbsExps p.pattern).headD 1 ∧ x = (b != p.inv) ∧
      want = prbsNext (prbsExps p.pattern) p.hist ∧ p.hist.length < n)
    ∧ (∃ (p : Prbs) (b : Bool) (x : Bool) (want : Bool) (n : Nat), n = (prbsExps p.pattern).headD 1 ∧ x = (b != p.inv) ∧
      want = prbsNext (prbsExps p.pattern) p.hist ∧ n ≤ p.hist.length ∧ p.lock = false ∧ want ≠ x)
    ∧ (∃ (p : Prbs) (b : Bool) (x : Bool) (want : Bool) (n : Nat), n = (prbsExps p.pattern).headD 1 ∧ x = (b != p.inv) ∧
      want = prbsNext (prbsExps p.pattern) p.hist ∧ n ≤ p.hist.length ∧ p.lock = false ∧ want = x ∧ p.good < 255)
    ∧ (∃ (p : Prbs) (b : Bool) (x : Bool) (want : Bool) (n : Nat), n = (prbsExps p.pattern).headD 1 ∧ x = (b != p.inv) ∧
      want = prbsNext (prbsExps p.pattern) p.hist ∧ n ≤ p.hist.length ∧ p.lock = false ∧ want = x ∧ p.good = 255)
    ∧ (∃ (p : Prbs) (b : Bool) (x : Bool) (want : Bool) (n : Nat), n = (prbsExps p.pattern).headD 1 ∧ x = (b != p.inv) ∧
      want = prbsNext (prbsExps p.pattern) p.hist ∧ n ≤ p.hist.length ∧ p.lock = true ∧ want = x ∧ p.winErrs ≤ 256 ∧
      p.winBits < 1023)
    ∧ (∃ (p : Prbs) (b : Bool) (x : Bool) (want : Bool) (n : Nat), n = (prbsExps p.pattern).headD 1 ∧ x = (b != p.inv) ∧
      want = prbsNext (prbsExps p.pattern) p.hist ∧ n ≤ p.hist.length ∧ p.lock = true ∧ want ≠ x ∧ p.winErrs < 256 ∧
      p.winBits < 1023)
    ∧ (∃ (p : Prbs) (b : Bool) (x : Bool) (want : Bool) (n : Nat), n = (prbsExps p.pattern).headD 1 ∧ x = (b != p.inv) ∧
      want = prbsNext (prbsExps p.pattern) p.hist ∧ n ≤ p.hist.length ∧ p.lock = true ∧ want ≠ x ∧ p.winErrs = 256)
    ∧ (∃ (s : State) (w : Word) (c : Nat), s.ready 0x0803 = true ∧ onlyBits w 0x00FF0003 = true ∧ c = fld w 23 16 ∧ c <
      192 ∧ fld w 1 0 = 0 ∧ (s.lane c).loop = 0)
    ∧ (∃ (s : State) (w : Word) (c : Nat), s.ready 0x0803 = true ∧ onlyBits w 0x00FF0003 = true ∧ c = fld w 23 16 ∧ c <
      192 ∧ fld w 1 0 = 0 ∧ (s.lane c).loop ≠ 0)
    ∧ (∃ (s : State) (w : Word) (c : Nat), s.ready 0x0803 = true ∧ onlyBits w 0x00FF0003 = true ∧ c = fld w 23 16 ∧ c <
      192 ∧ fld w 1 0 = 1 ∧ s.claimed (isLane c) = false)
    ∧ (∃ (s : State) (w : Word) (c : Nat), s.ready 0x0803 = true ∧ onlyBits w 0x00FF0003 = true ∧ c = fld w 23 16 ∧ c <
      192 ∧ fld w 1 0 = 2 ∧ s.claimed (isLane c) = false)
    ∧ (∃ (s : State) (w : Word) (c : Nat), s.ready 0x0803 = true ∧ onlyBits w 0x00FF0003 = true ∧ c = fld w 23 16 ∧ c <
      192 ∧ fld w 1 0 = 1 ∧ s.claimed (isLane c) = true)
    ∧ (∃ (s : State) (w : Word) (c : Nat), s.ready 0x0801 = true ∧ onlyBits w 0x00FF7733 = true ∧ c = fld w 23 16 ∧ c <
      192 ∧ fld w 1 0 = 0 ∧ fld w 5 4 ≠ 3 ∧ (s.lane c).eye.running = true)
    ∧ (∃ (s : State) (w : Word) (c : Nat), s.ready 0x0801 = true ∧ onlyBits w 0x00FF7733 = true ∧ c = fld w 23 16 ∧ c <
      192 ∧ fld w 1 0 = 0 ∧ fld w 5 4 ≠ 3 ∧ (s.lane c).eye.running = false ∧ s.chState c ≠ stAsleep ∧ s.chState c ≠
      stWaking)
    ∧ (∃ (s : State) (w : Word) (c : Nat), s.ready 0x0801 = true ∧ onlyBits w 0x00FF7733 = true ∧ c = fld w 23 16 ∧ c <
      192 ∧ fld w 1 0 = 1)
    ∧ (∃ (s : State) (w : Word) (c : Nat), s.ready 0x0801 = true ∧ onlyBits w 0x00FF7733 = true ∧ c = fld w 23 16 ∧ c <
      192 ∧ fld w 1 0 = 2)
    ∧ (∃ (s : State) (c : Nat), s.alive = true ∧ c < 192 ∧ (s.lane c).eye.running = true ∧ eyePoints * s.pointNs c ≤
      (s.owl - (s.lane c).eye.since) * 1000)
    ∧ (∃ (errs : Nat) (k : Nat), 0 < errs ∧ 1 ≤ k ∧ k ≤ 255) :=
  ⟨⟨fw.claim (.lane 191 true), 0x00BF0100#32, 191, 1, 0, by decide +kernel⟩,
    ⟨chan fw 191 0x23 0 4, (chan fw 191 0x23 0 4).prbsStart 191 5 3 true, 0x00BFD300#32, 191, 3, 5, by decide +kernel⟩,
    ⟨fw, fw.prbsStop 191 1, 0x00BF0101#32, 191, by decide +kernel⟩,
    ⟨fw, 0x00BF5002#32, 191, by decide +kernel⟩,
    ⟨fw, 0x00BF5003#32, 191, by decide +kernel⟩,
    ⟨fw.modLane 191 fun l => { l with sd := true, prbs := { l.prbs with chk := true } }, 191, by decide +kernel⟩,
    ⟨{ P7 with hist := List.replicate 6 true }, true, true, true, 7, by decide +kernel⟩,
    ⟨P7, true, true, false, 7, by decide +kernel⟩,
    ⟨{ P7 with good := 254, inv := true }, true, false, false, 7, by decide +kernel⟩,
    ⟨{ P7 with good := 255 }, false, false, false, 7, by decide +kernel⟩,
    ⟨{ P7 with lock := true, winErrs := 256, winBits := 1022 }, false, false, false, 7, by decide +kernel⟩,
    ⟨{ P7 with lock := true, winErrs := 255 }, true, true, false, 7, by decide +kernel⟩,
    ⟨{ P7 with lock := true, winErrs := 256 }, true, true, false, 7, by decide +kernel⟩,
    ⟨fw, 0x00BF0000#32, 191, by decide +kernel⟩,
    ⟨fw.modLane 191 fun l => { l with loop := 2 }, 0x00BF0000#32, 191, by decide +kernel⟩,
    ⟨fw, 0x00BF0001#32, 191, by decide +kernel⟩,
    ⟨fw, 0x00BF0002#32, 191, by decide +kernel⟩,
    ⟨fw.claim (.lane 191 true), 0x00BF0001#32, 191, by decide +kernel⟩,
    ⟨fw.modLane 191 fun l => { l with eye := { l.eye with running := true } }, 0x00BF0000#32, 191, by decide +kernel⟩,
    ⟨chan fw 191 1 0 4, 0x00BF0020#32, 191, by decide +kernel⟩,
    ⟨fw, 0x00BF0001#32, 191, by decide +kernel⟩,
    ⟨fw, 0x00BF0002#32, 191, by decide +kernel⟩,
    ⟨{ fw.modLane 191 fun l => { l with eye := { l.eye with running := true } } with owl := 81920 }, 191,
      by decide +kernel⟩,
    ⟨1, 60, by decide +kernel⟩⟩

theorem wit_FaultCommands :
    (∃ (s : State) (w : Word), s.ready 0x0804 = true ∧ onlyBits w 0xC000003F = true ∧ fld w 5 0 < 30 ∧ s.keyLocked =
      true ∧ fld w 31 30 = 0)
    ∧ (∃ (s : State) (w : Word), s.ready 0x0804 = true ∧ onlyBits w 0xC000003F = true ∧ fld w 5 0 < 30 ∧ s.keyLocked =
      true ∧ fld w 31 30 = 1)
    ∧ (∃ (s : State) (w : Word), s.ready 0x0804 = true ∧ onlyBits w 0xC000003F = true ∧ fld w 5 0 < 30 ∧ s.keyLocked =
      true ∧ fld w 31 30 = 2)
    ∧ (∃ (s : State) (w : Word), s.ready 0x0804 = true ∧ onlyBits w 0xC000003F = true ∧ fld w 5 0 < 30 ∧ s.keyLocked =
      false ∧ fld w 31 30 = 0)
    ∧ (∃ (s : State) (w : Word), s.ready 0x0804 = true ∧ onlyBits w 0xC000003F = true ∧ fld w 5 0 < 30 ∧ s.keyLocked =
      false ∧ fld w 31 30 = 1 ∧ s.faults.injected = some (fld w 5 0))
    ∧ (∃ (s : State) (w : Word), s.ready 0x0804 = true ∧ onlyBits w 0xC000003F = true ∧ fld w 5 0 < 30 ∧ s.keyLocked =
      false ∧ s.faults.injected ≠ some (fld w 5 0) ∧ s.claimed isInjector = true ∧ fld w 31 30 = 1)
    ∧ (∃ (s : State) (w : Word), s.ready 0x0804 = true ∧ onlyBits w 0xC000003F = true ∧ fld w 5 0 < 30 ∧ s.keyLocked =
      false ∧ s.faults.injected ≠ some (fld w 5 0) ∧ s.claimed isInjector = true ∧ fld w 31 30 = 2)
    ∧ (∃ (s : State) (w : Word), s.ready 0x0804 = true ∧ onlyBits w 0xC000003F = true ∧ fld w 5 0 < 30 ∧ s.keyLocked =
      false ∧ s.faults.injected ≠ some (fld w 5 0) ∧ s.claimed isInjector = false ∧ fld w 31 30 = 1)
    ∧ (∃ (s : State) (w : Word), s.ready 0x0804 = true ∧ onlyBits w 0xC000003F = true ∧ fld w 5 0 < 30 ∧ s.keyLocked =
      false ∧ s.faults.injected ≠ some (fld w 5 0) ∧ s.claimed isInjector = false ∧ fld w 31 30 = 2)
    ∧ (∃ (s : State), s.alive = true ∧ s.due s.faults.pulseAt = true)
    ∧ (∃ (s : State) (a : Nat) (p : Place) (r : RegInfo), s.alive = true ∧ s.clocked = true ∧ a < 2 ^ 24 ∧ p = (decodeAddr
      a).1 ∧ regInfo p = some r ∧ s.badPar.contains p.addr = true)
    ∧ (∃ (s : State) (a : Nat) (p : Place) (r : RegInfo) (c : Nat) (n : Nat), s.alive = true ∧ s.clocked = true ∧ a < 2 ^
      24 ∧ p = (decodeAddr a).1 ∧ regInfo p = some r ∧ s.badPar.contains p.addr = false ∧ r.cfg ≠ 0 ∧ r.hold = false
      ∧ p = .chan c n)
    ∧ (∃ (s : State) (a : Nat) (p : Place) (r : RegInfo) (g : Nat) (n : Nat), s.alive = true ∧ s.clocked = true ∧ a < 2 ^
      24 ∧ p = (decodeAddr a).1 ∧ regInfo p = some r ∧ s.badPar.contains p.addr = false ∧ r.cfg ≠ 0 ∧ r.hold = false
      ∧ p = .group g n)
    ∧ (∃ (s : State) (a : Nat) (p : Place) (r : RegInfo) (g : Nat) (n : Nat), s.alive = true ∧ s.clocked = true ∧ a < 2 ^
      24 ∧ p = (decodeAddr a).1 ∧ regInfo p = some r ∧ s.badPar.contains p.addr = false ∧ r.cfg ≠ 0 ∧ r.hold = false
      ∧ p = .page g n)
    ∧ (∃ (s : State) (a : Nat) (p : Place) (r : RegInfo), s.alive = true ∧ s.clocked = true ∧ a < 2 ^ 24 ∧ p = (decodeAddr
      a).1 ∧ regInfo p = some r ∧ isTrp p = false)
    ∧ (∃ (s : State) (a : Nat) (p : Place) (r : RegInfo) (g : Nat) (n : Nat), s.alive = true ∧ s.clocked = true ∧ a < 2 ^
      24 ∧ p = (decodeAddr a).1 ∧ regInfo p = some r ∧ p = .page g n ∧ isTrp p = true)
    ∧ (∃ (s : State) (m : Nat) (t : Nat) (w : Bool), s.alive = true ∧ pathExists m t w = true)
    ∧ (∃ (s : State) (m : Nat) (t : Nat) (w : Bool), s.alive = true ∧ pathExists m t w = false)
    ∧ (∃ (s : State) (n : Nat) (g : Option Nat) (c : Option Nat) (acc : FaultAccess) (r : Report), s.alive = true ∧ n < 30
      ∧ r = { src := n, group := g, chan := c, acc := acc } ∧ levelSrc n = false ∧ n ≠ 2 ∧ n ≠ 3 ∧ n ≠ 7 ∧ n ≠ 18 ∧
      n ≠ 19 ∧ n ≠ 28)
    ∧ (∃ (s : State) (n : Nat) (g : Option Nat) (c : Option Nat) (acc : FaultAccess) (r : Report), s.alive = true ∧ n < 30
      ∧ r = { src := n, group := g, chan := c, acc := acc } ∧ levelSrc n = true)
    ∧ (∃ (s : State) (n : Nat) (g : Option Nat) (c : Option Nat) (acc : FaultAccess) (r : Report), s.alive = true ∧ n < 30
      ∧ r = { src := n, group := g, chan := c, acc := acc } ∧ s.faults.wires.contains n = true)
    ∧ (∃ (s : State) (n : Nat) (g : Option Nat) (c : Option Nat) (acc : FaultAccess) (r : Report), s.alive = true ∧ n < 30
      ∧ r = { src := n, group := g, chan := c, acc := acc } ∧ s.faults.wires.contains n = false ∧ n ≠ 0)
    ∧ (∃ (s : State), s.alive = true ∧ s.due s.faults.t3 = true)
    ∧ (∃ (s : State), s.alive = true ∧ s.due s.faults.t1 = true)
    ∧ (∃ (s : State), s.alive = true ∧ s.due s.faults.t2 = true ∧ s.injCap = false)
    ∧ (∃ (s : State) (n : Nat) (w : Window), s.alive = true ∧ Store.get none s.faults.windows n = some w ∧ w.till ≤ s.owl
      ∧ w.again = none)
    ∧ (∃ (s : State) (n : Nat) (w : Window) (e : Event), s.alive = true ∧ Store.get none s.faults.windows n = some w ∧
      w.till ≤ s.owl ∧ w.again = some e) :=
  ⟨⟨fw.setRb 0x0010 31 true, 29#32, by decide +kernel⟩,
    ⟨fw.setRb 0x0010 30 true, 0x4000001D#32, by decide +kernel⟩,
    ⟨fw.setRb 0x0010 31 true, 0x8000001D#32, by decide +kernel⟩,
    ⟨fw, 29#32, by decide +kernel⟩,
    ⟨fw.modFaults fun f => { f with injected := some 29 }, 0x4000001D#32, by decide +kernel⟩,
    ⟨fw.claim .injector, 0x4000001D#32, by decide +kernel⟩,
    ⟨fw.claim .injector, 0x8000001D#32, by decide +kernel⟩,
    ⟨fw, 0x40000000#32, by decide +kernel⟩,
    ⟨fw, 0x80000000#32, by decide +kernel⟩,
    ⟨fw.modFaults fun f => { f with pulseAt := some 0 }, by decide +kernel⟩,
    ⟨{ fw with badPar := [0x000C] }, 0x000C, .page 0 3, (page0Info 3).getD {}, by decide +kernel⟩,
    ⟨fw, chReg 191 0, .chan 191 0, chInfo 191 0, 191, 0, by decide +kernel⟩,
    ⟨fw, grpReg 11 30, .group 11 30, grpInfo 30, 11, 30, by decide +kernel⟩,
    ⟨fw, 0x000C, .page 0 3, (page0Info 3).getD {}, 0, 3, by decide +kernel⟩,
    ⟨fw, 0x000C, .page 0 3, (page0Info 3).getD {}, by decide +kernel⟩,
    ⟨fw, 0x1004, .page 1 1, (page1Info 1).getD {}, 1, 1, by decide +kernel⟩,
    ⟨fw, 0, 16, true, by decide +kernel⟩,
    ⟨fw, 0, 17, true, by decide +kernel⟩,
    ⟨fw, 29, none, none, {}, { src := 29, group := none, chan := none, acc := {} }, by decide +kernel⟩,
    ⟨fw, 27, none, none, {}, { src := 27, group := none, chan := none, acc := {} }, by decide +kernel⟩,
    ⟨fw.modFaults fun f => { f with wires := [29] }, 29, none, none, {},
      { src := 29, group := none, chan := none, acc := {} }, by decide +kernel⟩,
    ⟨fw, 29, none, none, {}, { src := 29, group := none, chan := none, acc := {} }, by decide +kernel⟩,
    ⟨fw.modFaults fun f => { f with t3 := some 0 }, by decide +kernel⟩,
    ⟨fw.modFaults fun f => { f with t1 := some 0 }, by decide +kernel⟩,
    ⟨(fw.setRb 0x1004 0 false).modFaults fun f => { f with t2 := some 0 }, by decide +kernel⟩,
    ⟨fw.modFaults fun f => { f with windows := [(29, some { till := 0, again := none })] }, 29,
      { till := 0, again := none }, by decide +kernel⟩,
    ⟨fw.modFaults fun f => { f with windows := [(29, some { till := 0, again := some 1#64 })] }, 29,
      { till := 0, again := some 1#64 }, 1#64, by decide +kernel⟩⟩

theorem wit_BadgerUnits :
    (∃ (s : State), s.alive = true ∧ s.fwUp = true ∧ s.due s.mgmt.readyAt = true)
    ∧ (∃ (s : State), s.alive = true ∧ s.fwUp = true ∧ s.mgmt.awake = true ∧ s.cmd.inbox = [] ∧ s.cmd.pend = [] ∧ s.due
      s.mgmt.foldAt = false ∧ s.due s.mgmt.logAt = false)
    ∧ (∃ (s : State), s.alive = true ∧ s.mgmt.awake = true ∧ s.due s.mgmt.wdtAt = true)
    ∧ (∃ (s : State) (t : State) (reload : Bool) (ok : Bool), s.alive = true ∧ s.rf 0x50B0 31 30 = 2 ∧ t = s.badgerBack
      reload ok)
    ∧ (∃ (s : State), s.alive = true ∧ s.clocked = true)
    ∧ (∃ (s : State) (code : Nat) (ch : Nat), s.alive = true ∧ code < 256 ∧ ch < 256 ∧ s.due (s.hold (holdMgmt code
      ch)).at_ = true)
    ∧ (∃ (s : State), s.alive = true ∧ s.fwUp = true ∧ s.due s.mgmt.logAt = true ∧ s.mgmt.awake = false)
    ∧ (∃ (s : State), s.alive = true ∧ s.fwUp = true ∧ s.due s.mgmt.logAt = true ∧ s.mgmt.awake = true ∧ s.flashBusy =
      false ∧ s.phase = .run)
    ∧ (∃ (s : State) (w : Word), s.ready 0x0901 = true ∧ onlyBits w 1 = true ∧ (bit w 0 = false ∨ s.mgmt.tempMax = []))
    ∧ (∃ (s : State) (w : Word), s.ready 0x0901 = true ∧ onlyBits w 1 = true ∧ bit w 0 = true ∧ s.mgmt.tempMax ≠ [])
    ∧ (∃ (s : State) (i : Word) (n : Word), s.ready 0x0902 = true ∧ i.toNat < 262144 ∧ 1 ≤ n.toNat ∧ n.toNat ≤ 120)
    ∧ (∃ (s : State) (p : PendCmd) (i : Nat) (n : Nat), s.alive = true ∧ (s.cmd.pend.find? fun p => (logJob p.job).isSome)
      = some p ∧ p.job = .logRead i n)
    ∧ (∃ (s : State) (w : Word), s.ready 0x0906 = true ∧ onlyBits w 0xFF0000FF = true ∧ fld w 31 24 < 192 ∧ ((fld w 7 0 ≤
      32 ∨ fld w 7 0 = 64 ∨ fld w 7 0 = 65)))
    ∧ (∃ (s : State) (w : Word) (vs : List Word) (n : Nat) (slot : Nat) (free : Nat), s.ready 0x0907 = true ∧ onlyBits w
      0xFF00FFFF = true ∧ n = fld w 15 0 ∧ slot = fld w 31 24 ∧ 1 ≤ n ∧ n ≤ 4000 ∧ vs.length + 1 = cdiv n 4 ∧
      s.streamOn slot = true ∧ free = streamBuf - (s.stream slot).txLen ∧ n ≤ free)
    ∧ (∃ (s : State) (w : Word) (vs : List Word) (n : Nat) (slot : Nat) (free : Nat), s.ready 0x0907 = true ∧ onlyBits w
      0xFF00FFFF = true ∧ n = fld w 15 0 ∧ slot = fld w 31 24 ∧ 1 ≤ n ∧ n ≤ 4000 ∧ vs.length + 1 = cdiv n 4 ∧
      s.streamOn slot = true ∧ free = streamBuf - (s.stream slot).txLen ∧ free < n)
    ∧ (∃ (s : State) (q : Req) (w : Word) (slot : Nat) (top : Nat) (r : List Word × State), s.ready 0x0908 = true ∧
      onlyBits w 0xFF00FFFF = true ∧ slot = fld w 31 24 ∧ ((slot < 64 ∨ slot = 0xFF)) ∧ (top = (if fld w 15 0 = 0 ∨
      fld w 15 0 > 4080 then 4080 else max 8 (fld w 15 0))) ∧ r = s.dccTake (if slot = 0xFF then List.range 64 else
      [slot]) (min (4 * maxCount q) top) 512 (min (4 * maxCount q) top) true) :=
  ⟨⟨fw.modMgmt fun m => { m with readyAt := some 0 }, by decide +kernel⟩,
    ⟨fw, by decide +kernel⟩,
    ⟨fw.modMgmt fun m => { m with wdtAt := some 0 }, by decide +kernel⟩,
    ⟨fw.setRf 0x50B0 31 30 2, (fw.setRf 0x50B0 31 30 2).badgerBack false true, false, true, by decide +kernel⟩,
    ⟨fw, by decide +kernel⟩,
    ⟨fw.modHold (holdMgmt 255 255) fun h => { h with at_ := some 0 }, 255, 255, by decide +kernel⟩,
    ⟨fw.modMgmt fun m => { m with logAt := some 0, awake := false }, by decide +kernel⟩,
    ⟨fw.modMgmt fun m => { m with logAt := some 0 }, by decide +kernel⟩,
    ⟨fw, 0#32, by decide +kernel⟩,
    ⟨fw.modMgmt fun m => { m with tempMax := [25] }, 1#32, by decide +kernel⟩,
    ⟨fw, 0x3FFFF#32, 120#32, by decide +kernel⟩,
    ⟨fw.modCmd fun c => { c with pend := [PC 0x0902 (.logRead 0 1)] }, PC 0x0902 (.logRead 0 1), 0, 1,
      by decide +kernel⟩,
    ⟨fw, 0xBF000041#32, by decide +kernel⟩,
    ⟨(chan fw 0 1 0 4).setTbl 0x12 63 0 0x80000000#32, 0x3F000FA0#32, List.replicate 999 0, 4000, 63, 4096,
      by decide +kernel⟩,
    ⟨((chan fw 0 1 0 4).setTbl 0x12 63 0 0x80000000#32).modStream 63 fun x =>
      { x with tx := [(List.replicate 4096 0, none)] }, 0x3F000001#32, [], 1, 63, 0, by decide +kernel⟩,
    ⟨fw, Q, 0xFF000000#32, 255, 4080, fw.dccTake (List.range 64) 4064 512 4064 true, by decide +kernel⟩⟩

theorem wit_FlashCommands :
    (∃ (s : State) (k : Word) (l : Word), s.ready 0x0903 = true ∧ onlyBits k 1 = true ∧ 384 ≤ l.toNat ∧ l.toNat ≤
      8388608 ∧ l.toNat % 4 = 0 ∧ ((fld k 0 0 ≠ s.bootSlot ∨ s.inRecovery = true)) ∧ s.claimed isFlash = true)
    ∧ (∃ (s : State) (k : Word) (l : Word), s.ready 0x0903 = true ∧ onlyBits k 1 = true ∧ 384 ≤ l.toNat ∧ l.toNat ≤
      8388608 ∧ l.toNat % 4 = 0 ∧ ((fld k 0 0 ≠ s.bootSlot ∨ s.inRecovery = true)) ∧ s.claimed isFlash = false)
    ∧ (∃ (s : State) (w : Word) (off : Word) (vs : List Word) (u : Upload) (n : Nat), s.ready 0x0903 = true ∧ onlyBits w
      0xC0000FFF = true ∧ fld w 31 30 = 1 ∧ n = fld w 11 0 ∧ 1 ≤ n ∧ n ≤ 4000 ∧ vs.length + 1 = cdiv n 4 ∧
      s.uploading = some u ∧ (off.toNat ≠ u.next ∨ u.len < off.toNat + n))
    ∧ (∃ (s : State) (w : Word) (off : Word) (vs : List Word) (u : Upload) (n : Nat), s.ready 0x0903 = true ∧ onlyBits w
      0xC0000FFF = true ∧ fld w 31 30 = 1 ∧ n = fld w 11 0 ∧ 1 ≤ n ∧ n ≤ 4000 ∧ vs.length + 1 = cdiv n 4 ∧
      s.uploading = some u ∧ off.toNat = u.next ∧ off.toNat + n ≤ u.len)
    ∧ (∃ (s : State), s.ready 0x0903 = true ∧ s.uploading ≠ none)
    ∧ (∃ (s : State), s.ready 0x0903 = true ∧ s.uploading = none)
    ∧ (∃ (s : State) (p : PendCmd), s.alive = true ∧ (s.cmd.pend.find? fun p => isUploadJob p.job) = some p ∧ p.job =
      .program)
    ∧ (∃ (s : State) (p : PendCmd) (k : Nat) (n : Nat), s.alive = true ∧ (s.cmd.pend.find? fun p => isUploadJob p.job) =
      some p ∧ p.job = .erase k n)
    ∧ (∃ (s : State) (p : PendCmd), s.alive = true ∧ (s.cmd.pend.find? fun p => isUploadJob p.job) = some p ∧ p.job =
      .verify)
    ∧ (∃ (s : State) (w : Word) (k : Nat), s.ready 0x0904 = true ∧ onlyBits w 1 = true ∧ k = fld w 0 0 ∧ s.slotValid k =
      false)
    ∧ (∃ (s : State) (w : Word) (k : Nat), s.ready 0x0904 = true ∧ onlyBits w 1 = true ∧ k = fld w 0 0 ∧ s.slotValid k =
      true ∧ s.claimed isFlash = true)
    ∧ (∃ (s : State) (w : Word) (k : Nat), s.ready 0x0904 = true ∧ onlyBits w 1 = true ∧ k = fld w 0 0 ∧ s.slotValid k =
      true ∧ s.claimed isFlash = false)
    ∧ (∃ (s : State), s.ready 0x0904 = true ∧ s.inRecovery = true)
    ∧ (∃ (s : State), s.ready 0x0904 = true ∧ s.inRecovery = false ∧ s.imgByte s.bootSlot 12 ≤ s.mgmt.otpFuses)
    ∧ (∃ (s : State), s.ready 0x0904 = true ∧ s.inRecovery = false ∧ s.mgmt.otpFuses < s.imgByte s.bootSlot 12)
    ∧ (∃ (s : State) (k : Nat), s.alive = true ∧ s.mgmt.headerNext = some k)
    ∧ (∃ (s : State), s.ready 0x0905 = true ∧ s.claimed (fun c => c == .flashHeader) = true)
    ∧ (∃ (s : State), s.ready 0x0905 = true ∧ s.claimed (fun c => c == .flashHeader) = false)
    ∧ (∃ (s : State) (a : Word) (b : Word), s.ready 0x0905 = true ∧ (a ≠ 0xA5 ∨ b ≠ 0xFFFFFF5A))
    ∧ (∃ (s : State) (w : Word) (a : Word) (n : Nat), s.ready 0x0909 = true ∧ n = fld w 11 0 ∧ 1 ≤ n ∧ n ≤ 4000 ∧ onlyBits
      w 0xF0000FFF = true ∧ inHostArea a.toNat n = true ∧ fld w 31 28 = 3)
    ∧ (∃ (s : State) (w : Word) (a : Word) (vs : List Word) (n : Nat), s.ready 0x0909 = true ∧ n = fld w 11 0 ∧ 1 ≤ n ∧ n
      ≤ 4000 ∧ onlyBits w 0xF0000FFF = true ∧ inHostArea a.toNat n = true ∧ fld w 31 28 = 2 ∧ vs.length + 1 = cdiv n
      4 ∧ s.claimed isFlash = false)
    ∧ (∃ (s : State), s.ready 0x0909 = true ∧ s.claimed isFlash = true)
    ∧ (∃ (s : State) (a : Word), s.ready 0x0909 = true ∧ s.claimed isFlash = false ∧ a.toNat % 65536 = 0 ∧ inHostArea
      a.toNat 65536 = true)
    ∧ (∃ (s : State) (p : PendCmd) (v : Nat), s.alive = true ∧ (s.cmd.pend.find? fun p => (cfgJob p.job).isSome) = some p
      ∧ p.job = .cfg 0 v)
    ∧ (∃ (s : State) (p : PendCmd) (v : Nat), s.alive = true ∧ (s.cmd.pend.find? fun p => (cfgJob p.job).isSome) = some p
      ∧ (p.job = .cfg 1 v ∨ p.job = .cfg 2 v)) :=
  ⟨⟨fw.claim .flashCfg, 1#32, 8388608#32, by decide +kernel⟩,
    ⟨fw, 1#32, 384#32, by decide +kernel⟩,
    ⟨(fw.claim .flashUpload).modMgmt fun m => { m with upload := some { slot := 1, len := 384 } }, 0x40000FA0#32, 0#32,
      List.replicate 999 0, { slot := 1, len := 384 }, 4000, by decide +kernel⟩,
    ⟨(fw.claim .flashUpload).modMgmt fun m => { m with upload := some { slot := 1, len := 384 } }, 0x40000180#32, 0#32,
      List.replicate 95 0, { slot := 1, len := 384 }, 384, by decide +kernel⟩,
    ⟨(fw.claim .flashUpload).modMgmt fun m => { m with upload := some { slot := 1, len := 384 } }, by decide +kernel⟩,
    ⟨fw, by decide +kernel⟩,
    ⟨fw.modCmd fun c => { c with pend := [PC 0x0903 .program] }, PC 0x0903 .program, by decide +kernel⟩,
    ⟨fw.modCmd fun c => { c with pend := [PC 0x0903 (.erase 1 384)] }, PC 0x0903 (.erase 1 384), 1, 384,
      by decide +kernel⟩,
    ⟨fw.modCmd fun c => { c with pend := [PC 0x0903 .verify] }, PC 0x0903 .verify, by decide +kernel⟩,
    ⟨fw, 1#32, 1, by decide +kernel⟩,
    ⟨(fw.setRb 0x50D8 30 true).claim .flashCfg, 1#32, 1, by decide +kernel⟩,
    ⟨fw.setRb 0x50D8 30 true, 1#32, 1, by decide +kernel⟩,
    ⟨fw.setRb 0x50B4 30 true, by decide +kernel⟩,
    ⟨fw.modMgmt fun m => { m with otpFuses := 255 }, by decide +kernel⟩,
    ⟨fw, by decide +kernel⟩,
    ⟨fw.modMgmt fun m => { m with headerNext := some 1 }, 1, by decide +kernel⟩,
    ⟨fw.claim .flashHeader, by decide +kernel⟩,
    ⟨fw, by decide +kernel⟩,
    ⟨fw, 0#32, 0#32, by decide +kernel⟩,
    ⟨fw, 0x30000FA0#32, 0x1920000#32, 4000, by decide +kernel⟩,
    ⟨fw, 0x20000FA0#32, 0x1FFF060#32, List.replicate 999 0, 4000, by decide +kernel⟩,
    ⟨fw.claim .flashUpload, by decide +kernel⟩,
    ⟨fw, 0x1FF0000#32, by decide +kernel⟩,
    ⟨fw.modCmd fun c => { c with pend := [PC 0x0909 (.cfg 0 5)] }, PC 0x0909 (.cfg 0 5), 5, by decide +kernel⟩,
    ⟨fw.modCmd fun c => { c with pend := [PC 0x0909 (.cfg 1 0x1920000)] }, PC 0x0909 (.cfg 1 0x1920000), 0x1920000,
      by decide +kernel⟩⟩

theorem wit_StepRunsFront :
    (∃ (s : State), s.pending = [] ∧ s.alive = false) :=
  ⟨State.reset, by decide +kernel⟩

/-- A bank not in use that lists the connections l. -/
def fullBank (l : List Nat) : State := { fw with tables := l.map fun n => (tblKey 2 1 n 0, 0x10000000#32) }

theorem fullBank_conns (l : List Nat) (hl : ∀ n ∈ l, n < 32768) : (fullBank l).conns (fullBank l).bankOther = l := by
  have h : ∀ l : List Nat, (∀ n ∈ l, n < 32768) →
      (l.map fun n => (tblKey 2 1 n 0, 0x10000000#32)).filterMap (fun e : Nat × Word =>
        if e.1 / 8388608 = 5 ∧ e.1 % 128 = 0 ∧ epKind e.2 != 0 then some (e.1 / 128 % 65536) else none) = l := by
    intro l
    induction l with
    | nil => intro _; rfl
    | cons a r ih =>
      intro hl
      have ha := hl a (List.mem_cons_self ..)
      have e : ((2 * 2 + 1) * 65536 + a) * 128 + 0 = 5 * 8388608 + a * 128 := by omega
      have e1 : (5 * 8388608 + a * 128) / 8388608 = 5 := by omega
      have e2 : (5 * 8388608 + a * 128) % 128 = 0 := by omega
      have e3 : (5 * 8388608 + a * 128) / 128 % 65536 = a := by omega
      have e4 : (epKind 0x10000000#32 != 0) = true := by decide
      rw [List.map_cons, List.filterMap_cons, ih fun n hn => hl n (List.mem_cons_of_mem _ hn)]
      simp only [tblKey, e, e1, e2, e3, e4, and_self, if_true]
  exact h l hl

theorem firstFree_none (l : List Nat) (k n : Nat) (h : ∀ i, k ≤ i → i < k + n → l.contains i = true) :
    firstFree l k n = none := by
  induction n generalizing k with
  | zero => rfl
  | succ n ih =>
    rw [firstFree, if_pos (h k (Nat.le_refl k) (by omega))]
    exact ih (k + 1) fun i h1 h2 => h i (by omega) (by omega)

theorem wit_TableFull : ∃ s : State, s.ready 0x0403 = true ∧ s.notActive = false ∧ s.swap.st = 0
    ∧ firstFree (s.conns s.bankOther) 0 32768 = none := by
  refine ⟨fullBank (List.range 32768), rfl, rfl, rfl, ?_⟩
  · rw [fullBank_conns _ fun n hn => List.mem_range.mp hn]
    exact firstFree_none _ _ _ fun i _ h => by simpa using h

theorem wit_CoreKept :
    (∃ (c : Instr) (s t : State), (∀ st code, c ≠ .masterOscillatorStop ∧ c ≠ .masterOscillatorReturn ∧ c ≠ .rstNAssert
        ∧ c ≠ .rstNRelease st ∧ c ≠ .rebootReset ∧ c ≠ .boundaryScanInstruction code) ∧ exec c s = .next t)
    ∧ (∃ s t : State, exec .rebootReset s = .next t) :=
  ⟨⟨.refSwitchEnd, up, up, by intros; simp, rfl⟩, ⟨up, _, rfl⟩⟩

theorem wit_HeldStill :
    (∃ (c : Instr) (s : State), s.alive = false ∧ (∀ st code, c ≠ .masterOscillatorStop ∧ c ≠ .masterOscillatorReturn
        ∧ c ≠ .rstNAssert ∧ c ≠ .rstNRelease st ∧ c ≠ .boundaryScanInstruction code))
    ∧ (∃ s t : State, s.phase = .held ∧ s.pending = [] ∧ step s = .next t)
    ∧ (∃ (c : Instr) (s t : State), s.phase = .held ∧ (∀ st, c ≠ .rstNRelease st) ∧ exec c s = .next t) :=
  ⟨⟨.refSwitchEnd, State.reset, rfl, by intros; simp⟩, ⟨State.reset, _, rfl, rfl, rfl⟩,
    ⟨.refSwitchEnd, State.reset, _, rfl, by intros; simp, rfl⟩⟩

theorem wit_InvariantKept : (∃ s t : State, s.wf = true ∧ step s = .next t)
    ∧ (∃ (c : Instr) (s t : State), s.wf = true ∧ exec c s = .next t) :=
  ⟨⟨up, _, by decide +kernel, rfl⟩, ⟨.refSwitchEnd, up, _, by decide +kernel, rfl⟩⟩

/-- The hypotheses of `ClientFrames` hold at every length, 9,600 too: a client frame of n bytes has that length, and its
FCS is right. -/
theorem wit_ClientFrames_length (n : Nat) (h : 4 ≤ n) : (eth n).len = n ∧ (eth n).fcsOk = true := by
  constructor
  · simp [eth, EthFrame.len, plain]; omega
  · simp [eth, EthFrame.fcsOk]

end Sys2Proof.Tests
end

section
/-!
The gates through which every command reaches the device (R31, R573): what each of them lets through in a device that
is held, and that none of them touches the core of the state. From these follow the statements about the whole block
that name no operation: what reset and a stopped oscillator hold, and what no ordinary command touches.
-/
namespace Sys2Proof.Machine

/-! ### A device in reset or without its oscillator -/

section
variable {s : State} (h : s.alive = false)
include h

theorem State.clocked_of_not_alive : s.clocked = false := by
  cases ho : s.osc
  · simp [State.clocked, ho]
  · have hp : s.phase = .held := by simpa [State.alive, ho] using h
    simp [State.clocked, hp]

theorem whileOn_of_not_alive (t : State) : whileOn s t = s := by simp [whileOn, h]

theorem whileClk_of_not_alive (t : State) : whileClk s t = s := by
  simp [whileClk, State.clocked_of_not_alive h]

theorem owlOn_of_not_alive (t : State) : owlOn s t = s := whileOn_of_not_alive h _

theorem onCh_of_not_alive (c : Nat) (t : State) : onCh c s t = s := by simp [onCh, h]

theorem onGrpClk_of_not_alive (c : Nat) (t : State) : onGrpClk c s t = s := by simp [onGrpClk, h]

theorem onGrp_of_not_alive (g : Nat) (t : State) : onGrp g s t = s := by simp [onGrp, h]

theorem onRed_of_not_alive (n : Nat) (t : State) : onRed n s t = s := by simp [onRed, h]

theorem onPg_of_not_alive (p : Nat) (t : State) : onPg p s t = s := by
  simp [onPg, State.clocked_of_not_alive h]

theorem State.command_of_not_alive (q : Req) (op : Nat) (ws : List Word) (fx : State → State) :
    s.command q op ws fx = s := by
  simp [State.command, State.clocked_of_not_alive h]

theorem State.rowWrite_of_not_alive (q : Req) (a : Nat) (w : Word) : s.rowWrite q a w = s :=
  State.command_of_not_alive h ..

theorem State.rowKey_of_not_alive (q : Req) (a : Nat) (w : Word) : s.rowKey q a w = s :=
  State.command_of_not_alive h ..

theorem State.portUp_of_not_alive : s.portUp = false := by
  simp [State.portUp, State.clocked_of_not_alive h]

theorem State.boot_of_not_alive (ms : Nat) : s.boot ms = s := by
  cases ho : s.osc
  · simp [State.boot, ho]
  · have hp : s.phase = .held := by simpa [State.alive, ho] using h
    simp [State.boot, hp]

theorem State.deepEnter_of_not_alive : s.deepEnter = s := by
  have hok : s.deepOk = false := by
    cases ho : s.osc
    · simp [State.deepOk, ho]
    · have hp : s.phase = .held := by simpa [State.alive, ho] using h
      simp [State.deepOk, hp]
  simp [State.deepEnter, hok]

/-- The gates of a command do nothing while the device is held (R31, R573): every row but those of the oscillator, of
RST_N and of the boundary-scan port leaves the state as it is. -/
theorem exec_of_not_alive (c : Instr) (hc : ∀ st code, c ≠ .masterOscillatorStop ∧ c ≠ .masterOscillatorReturn
      ∧ c ≠ .rstNAssert ∧ c ≠ .rstNRelease st ∧ c ≠ .boundaryScanInstruction code) : exec c s = .next s := by
  cases c
  case masterOscillatorStop => exact absurd rfl (hc s.straps none).1
  case masterOscillatorReturn => exact absurd rfl (hc s.straps none).2.1
  case rstNAssert => exact absurd rfl (hc s.straps none).2.2.1
  case rstNRelease st => exact absurd rfl (hc st none).2.2.2.1
  case boundaryScanInstruction code => exact absurd rfl (hc s.straps code).2.2.2.2
  all_goals refine congrArg Host.Outcome.next ?_
  case bootDone ms => exact State.boot_of_not_alive h ms
  case rebootReset => simp [State.rebootNow, h]
  case deepEntry => exact State.deepEnter_of_not_alive h
  case trigArm => simp [State.rowWrite_of_not_alive h]
  case hostWrite => simp [State.hostWrite, h]
  case readReply => simp [State.readReply, State.portUp_of_not_alive h, whileOn_of_not_alive h]
  case readStatus => simp [State.readStat, State.portUp_of_not_alive h, whileOn_of_not_alive h]
  all_goals simp only [whileOn_of_not_alive h, whileClk_of_not_alive h, owlOn_of_not_alive h, onCh_of_not_alive h,
    onGrpClk_of_not_alive h, onGrp_of_not_alive h, onRed_of_not_alive h, onPg_of_not_alive h,
    State.command_of_not_alive h, State.rowWrite_of_not_alive h, State.rowKey_of_not_alive h]

theorem State.tick_of_not_alive : s.tick = s := by simp [State.tick, h]

end

theorem State.not_alive_of_held {s : State} (h : s.phase = .held) : s.alive = false := by simp [State.alive, h]

theorem State.oscBack_of_osc {s : State} (h : s.osc = true) : s.oscBack = s := by simp [State.oscBack, h]

theorem State.oscBack_of_held {s : State} (ho : s.osc = false) (h : s.phase = .held) :
    s.oscBack = { s with osc := true } := by simp [State.oscBack, ho, h]

/-- Reset goes on under every row but the rise of RST_N: RST_N_ASSERT begins it again, and neither the oscillator nor
the boundary-scan port ends it. -/
theorem exec_phase_of_held {s t : State} (c : Instr) (h : s.phase = .held) (hc : ∀ st, c ≠ .rstNRelease st)
    (he : exec c s = .next t) : t.phase = .held := by
  by_cases ho : ∀ st code, c ≠ .masterOscillatorStop ∧ c ≠ .masterOscillatorReturn
      ∧ c ≠ .rstNAssert ∧ c ≠ .rstNRelease st ∧ c ≠ .boundaryScanInstruction code
  · rw [exec_of_not_alive (State.not_alive_of_held h) c ho] at he
    cases he
    exact h
  · cases c
    case masterOscillatorStop => cases he; exact h
    case masterOscillatorReturn =>
      cases he
      cases hs : s.osc
      · rw [State.oscBack_of_held hs h]; exact h
      · rw [State.oscBack_of_osc hs]; exact h
    case rstNAssert => cases he; rfl
    case rstNRelease st => exact absurd rfl (hc st)
    case boundaryScanInstruction code =>
      cases he
      cases code <;> exact h
    all_goals exact absurd (by simp) ho

/-- Settles O58: no gate lets a row through while RST_N is low or the master oscillator is stopped. -/
theorem heldStill : Obligations.HeldStill := by
  refine ⟨fun c s h hc => exec_of_not_alive h c hc, fun s h => State.tick_of_not_alive h, ?_,
    fun c s t h hc he => exec_phase_of_held c h hc he⟩
  intro s t h hp he
  have hs : step s = .next s.tick := by simp [step, hp]
  rw [hs, State.tick_of_not_alive (State.not_alive_of_held h)] at he
  cases he
  exact h

/-! ### The core of the state -/

theorem owlOn_core (s t : State) (h : t.core = s.core) : (owlOn s t).core = s.core := by simp [owlOn, h]

theorem onGrpClk_core (c : Nat) (s t : State) (h : t.core = s.core) : (onGrpClk c s t).core = s.core := by
  simp [onGrpClk, h]

theorem whileClk_core (s t : State) (h : t.core = s.core) : (whileClk s t).core = s.core := by simp [whileClk, h]

/-- Every row but those of the oscillator, of RST_N, of a REBOOT's reset and of the boundary-scan port keeps the core:
its gate does, once the operation behind the gate does. -/
theorem exec_keeps_core (c : Instr) (s : State) (hc : ∀ st code, c ≠ .masterOscillatorStop
      ∧ c ≠ .masterOscillatorReturn ∧ c ≠ .rstNAssert ∧ c ≠ .rstNRelease st ∧ c ≠ .rebootReset
      ∧ c ≠ .boundaryScanInstruction code) :
    ∃ t, exec c s = .next t ∧ t.core = s.core := by
  cases c
  case masterOscillatorStop => exact absurd rfl (hc s.straps none).1
  case masterOscillatorReturn => exact absurd rfl (hc s.straps none).2.1
  case rstNAssert => exact absurd rfl (hc s.straps none).2.2.1
  case rstNRelease st => exact absurd rfl (hc st none).2.2.2.1
  case rebootReset => exact absurd rfl (hc s.straps none).2.2.2.2.1
  case boundaryScanInstruction code => exact absurd rfl (hc s.straps code).2.2.2.2.2
  all_goals refine ⟨_, rfl, ?_⟩
  all_goals simp [owlOn_core, onGrpClk_core, whileClk_core]

/-- What lies outside the reset stays (R573): the queue, the oscillator and the boundary-scan instruction. -/
theorem State.assertReset_core (s : State) :
    s.assertReset.core = (s.pending, s.osc, 0, State.reset.straps, s.jtag, true) := by
  unfold State.assertReset
  extract_lets u v
  have hu : u.core = s.core := by simp [u]
  have hv : v.core = s.core := by simp [v, hu]
  simp only [State.core, Prod.mk.injEq] at hv
  obtain ⟨hpending, hosc, _, _, hjtag, _⟩ := hv
  show (v.pending, v.osc, 0, State.reset.straps, v.jtag, true) = _
  rw [hpending, hosc, hjtag]

theorem State.startBoot_core (s : State) (st : Straps) (pin : Bool) :
    (s.startBoot st pin).core = (s.pending, s.osc, s.owl, st, s.jtag, false) := by
  simp [State.startBoot]

/-- Settles O57: each operation keeps the core, and a REBOOT's reset, which starts the boot at once, has RST_N high and
the straps sampled before. -/
theorem coreKept : Obligations.CoreKept := by
  constructor
  · intro c s t hc he
    obtain ⟨u, hu, hcore⟩ := exec_keeps_core c s hc
    rw [hu] at he
    cases he
    exact hcore
  · intro s t he
    have ht : t = s.rebootNow := by cases he; rfl
    subst ht
    by_cases hd : (s.alive && s.due s.mgmt.rebootAt) = true
    · right
      have hr := s.assertReset_core
      simp only [State.core, Prod.mk.injEq] at hr
      obtain ⟨hpending, hosc, howl, _, hjtag, _⟩ := hr
      rw [State.rebootNow, if_pos hd, State.startBoot_core, hpending, hosc, howl, hjtag]
    · left
      rw [State.rebootNow, if_neg hd]

/-! ### The master oscillator -/

/-- The oscillator returns to a device that is out of reset: device time is lost, and the fault is raised where the
time unit was running. -/
theorem State.oscBack_of_out_of_reset {s : State} (ho : s.osc = false) (hp : s.phase ≠ .held) :
    s.oscBack = (if (s.phase == .run || s.phase == .boot) = true
      then ((if s.timeValid then ({ s with osc := true }.setRb 0x3028 27 true).timeEvent 0x28
        else { s with osc := true }).loseTime.trigCancel).fault 25
      else (if s.timeValid then ({ s with osc := true }.setRb 0x3028 27 true).timeEvent 0x28
        else { s with osc := true }).loseTime.trigCancel) := by
  simp only [State.oscBack, ho, Bool.false_eq_true, if_false, beq_iff_eq, hp]
  rfl

/-- Settles O4: the oscillator's stop holds every domain, and its return has the cases of R31 and R417. -/
theorem oscillator : Obligations.Oscillator := by
  refine ⟨fun s => rfl, ?_, ?_, ?_⟩
  · intro s ho hp
    exact congrArg Host.Outcome.next (State.oscBack_of_held ho hp)
  · intro s ho hp
    refine congrArg Host.Outcome.next ((State.oscBack_of_out_of_reset ho (by simp [hp])).trans ?_)
    simp [hp]
  · intro s ho hp
    refine congrArg Host.Outcome.next ((State.oscBack_of_out_of_reset ho (by simp [hp])).trans ?_)
    simp [hp]

end Sys2Proof.Machine
end

section
/-!
Lanes, their sleep and the group clocks (01_structure.md, 02_serial_lanes.md): what the detector's rise and fall, the
sleep hold-off and the clock of a group do, and the entry into DEEP and the way out of it.
-/
namespace Sys2Proof.Machine

/-! ### Gates that are open -/

theorem onCh_of_alive {s : State} {c : Nat} (t : State) (h : s.alive = true) (hc : c < 192) : onCh c s t = t := by
  simp [onCh, h, hc]

theorem onCh_self (c : Nat) (s : State) : onCh c s s = s := ite_self ..

theorem onGrp_of_alive {s : State} {g : Nat} (t : State) (h : s.alive = true) (hg : g < 12) : onGrp g s t = t := by
  simp [onGrp, h, hg]

theorem whileOn_of_alive {s : State} (t : State) (h : s.alive = true) : whileOn s t = t := by simp [whileOn, h]

/-! ### What a change of a lane leaves as it was -/

theorem Store.set_of_above {α : Type} [DecidableEq α] (d : α) (m : Store α) (k : Nat) (v : α)
    (h : Store.okFrom d (some k) m = true) : Store.set d m k v = if v = d then m else (k, v) :: m := by
  cases m with
  | nil => rfl
  | cons e r =>
    obtain ⟨j, w⟩ := e
    simp only [Store.okFrom, Bool.and_eq_true, decide_eq_true_eq] at h
    obtain ⟨⟨hj, _⟩, _⟩ := h
    rw [Store.set, if_neg (by omega), if_neg (by omega)]

/-- The later of two writes to one key counts. -/
theorem Store.set_set {α : Type} [DecidableEq α] (d : α) (m : Store α) (b : Option Nat) (k : Nat) (v w : α)
    (h : Store.okFrom d b m = true) : Store.set d (Store.set d m k v) k w = Store.set d m k w := by
  induction m generalizing b with
  | nil => by_cases hv : v = d <;> simp [Store.set, hv]
  | cons e r ih =>
    obtain ⟨j, x⟩ := e
    simp only [Store.okFrom, Bool.and_eq_true] at h
    obtain ⟨_, hr⟩ := h
    rcases Nat.lt_trichotomy j k with hj | hj | hj
    · simp [Store.set, hj, ih _ hr]
    · subst hj
      by_cases hv : v = d
      · simp [Store.set, hv, Store.set_of_above d r j w hr]
      · simp [Store.set, hv]
    · have h1 : ¬ j < k := by omega
      have h2 : j ≠ k := by omega
      by_cases hv : v = d <;> simp [Store.set, hv, h1, h2]

theorem State.modLane_modLane {s : State} (hw : Store.wf {} s.chans = true) (c : Nat) (f g : Lane → Lane) :
    (s.modLane c f).modLane c g = s.modLane c fun l => g (f l) := by
  have hget : Store.get {} (Store.mod {} s.chans c fun h : Chan => { h with lane := f h.lane }) c
      = { s.ch c with lane := f (s.ch c).lane } := by
    rw [Store.get_mod _ _ _ _ _ hw, if_pos rfl]; rfl
  unfold State.modLane State.modCh
  simp only [Store.mod] at hget ⊢
  rw [hget, Store.set_set _ _ none _ _ _ hw]
  rfl

section
variable {s : State} (hw : Store.wf {} s.chans = true) (c d : Nat) (f : Lane → Lane)
include hw

theorem State.lane_modLane : (s.modLane c f).lane c = f (s.lane c) := by
  simp [State.lane, State.modLane, hw]

theorem State.bondOwner_modLane : ((s.modLane c f).ch d).bondOwner = (s.ch d).bondOwner := by
  by_cases h : d = c
  · subst h; simp [State.modLane, hw]
  · simp [State.modLane, h]

theorem State.owner_modLane : (s.modLane c f).owner d = s.owner d := by
  simp only [State.owner, State.bondOwner_modLane hw]

theorem State.enabled_modLane : (s.modLane c f).enabled d = s.enabled d := by
  simp only [State.enabled, State.owner_modLane hw]
  rfl

theorem State.provisioned_modLane : (s.modLane c f).provisioned d = s.provisioned d := by
  simp only [State.provisioned, State.isMember, State.bondOwner_modLane hw]
  rfl
end

theorem State.chState_modLane (s : State) (c d : Nat) (f : Lane → Lane) : (s.modLane c f).chState d = s.chState d := rfl

theorem State.defect_modLane (s : State) (c d k : Nat) (f : Lane → Lane) : (s.modLane c f).def_ d k = s.def_ d k := rfl

theorem State.chState_clearAdapt (s : State) (c d : Nat) : (s.clearAdapt c).chState d = s.chState d := rfl

theorem State.deepWake_of_not_deep {s : State} (h : s.phase ≠ .deep) (b : Bool) : s.deepWake b = s := by
  simp [State.deepWake, h]

/-! ### Signal detect (R60 to R62) -/

theorem State.sdRise_of_not {s : State} {c : Nat} {lv : List Nat} (h : s.sdAsserts c lv = false) : s.sdRise c lv = s := by
  simp [State.sdRise, h]

theorem State.sdFall_of_not {s : State} {c : Nat} {lv : List Nat} (h : s.sdDrops c lv = false) : s.sdFall c lv = s := by
  simp [State.sdFall, h]

theorem State.sdRise_of_asserts {s : State} {c : Nat} {lv : List Nat} (hsd : (s.lane c).sd = false)
    (h : s.sdAsserts c lv = true) : s.sdRise c lv = s.sdOn c := by simp [State.sdRise, hsd, h]

theorem State.sdFall_of_drops {s : State} {c : Nat} {lv : List Nat} (hsd : (s.lane c).sd = true)
    (h : s.sdDrops c lv = true) : s.sdFall c lv = s.sdOff c := by simp [State.sdFall, hsd, h]

section
variable {s : State} {c : Nat} (hw : Store.wf {} s.chans = true) (hp : s.provisioned c = true) (hd : s.phase ≠ .deep)
include hw hp hd

/-- On a provisioned but disabled lane the light is only noted (R34). -/
theorem State.sdOn_of_disabled (he : s.enabled c = false) :
    s.sdOn c = s.modLane c fun l => { l with sd := true, sleepHold := none } := by
  have hdeep : (s.modLane c fun l => { l with sd := true, sleepHold := none }).phase ≠ .deep := hd
  simp only [State.sdOn, hp, if_true, State.deepWake_of_not_deep hdeep, State.enabled_modLane hw, he]
  rfl

/-- Light on a lane that sleeps wakes its bond (R43, R71). -/
theorem State.sdOn_of_asleep (he : s.enabled c = true) (hs : (s.lane c).rxAsleep = true) :
    s.sdOn c = (s.modLane c fun l => { l with sd := true, sleepHold := none }).wakeRx c 20 := by
  have hdeep : (s.modLane c fun l => { l with sd := true, sleepHold := none }).phase ≠ .deep := hd
  simp only [State.sdOn, hp, if_true, State.deepWake_of_not_deep hdeep, State.enabled_modLane hw, he,
    State.lane_modLane hw, hs, Bool.true_or]

/-- Light on an awake lane in dLOS whose channel is WAKING restarts its adaptation (R62). -/
theorem State.sdOn_of_dark (he : s.enabled c = true) (hs : (s.lane c).rxAsleep = false)
    (hl : s.def_ c dLOS = true) (hst : s.chState (s.owner c) = stWaking) :
    s.sdOn c = (s.modLane c fun l =>
      { l with sd := true, sleepHold := none, pll := false, adapted := false }).clearAdapt c := by
  have hdeep : (s.modLane c fun l => { l with sd := true, sleepHold := none }).phase ≠ .deep := hd
  have hasleep : (stWaking == stAsleep) = false := rfl
  have hhunting : (stWaking == stHunting) = false := rfl
  simp only [State.sdOn, hp, if_true, State.deepWake_of_not_deep hdeep, State.enabled_modLane hw, he,
    State.lane_modLane hw, hs, State.owner_modLane hw, State.chState_modLane, hst, hasleep, Bool.or_self,
    Bool.false_eq_true, if_false, State.defect_modLane, hl, State.modLane_modLane hw, State.chState_clearAdapt, hhunting]

end

section
variable {s : State} {c : Nat} (hw : Store.wf {} s.chans = true) (hp : s.provisioned c = true) (he : s.enabled c = true)
  (hs : (s.lane c).rxAsleep = false)
include hw hp he hs

/-- The light of an enabled lane goes: dLOS sets through the shared operation of R205 bit 0. -/
theorem State.sdOff_of_no_los (hl : s.def_ c dLOS = false) :
    s.sdOff c = (s.modLane c fun l => { l with sd := false }).losOn c := by
  simp only [State.sdOff, State.provisioned_modLane hw, State.enabled_modLane hw, hp, he, Bool.and_self, if_true,
    State.lane_modLane hw, hs, State.defect_modLane, hl, Bool.false_eq_true, if_false]

/-- The light of a lane in dLOS goes again: its hold-off starts from zero (R35). -/
theorem State.sdOff_of_los (hl : s.def_ c dLOS = true) :
    s.sdOff c = (s.modLane c fun l => { l with sd := false, pll := false, adapted := false }).startHold c := by
  simp only [State.sdOff, State.provisioned_modLane hw, State.enabled_modLane hw, hp, he, Bool.and_self, if_true,
    State.lane_modLane hw, hs, State.defect_modLane, hl, Bool.false_eq_true, if_false, State.modLane_modLane hw]

end

/-- Settles O10: a crossing that does not last is no assertion, and each of the others is one case of the detector. -/
theorem signalDetect : Obligations.SignalDetect := by
  refine ⟨?_, ?_, ?_, ?_, ?_, ?_, ?_⟩
  · intro s l h
    exact congrArg Host.Outcome.next ((congrArg (onCh l.lane s) (State.sdRise_of_not h)).trans (onCh_self ..))
  · intro s l ha hc hp hd hsd hlv he hw
    refine congrArg Host.Outcome.next ((onCh_of_alive _ ha hc).trans ((State.sdRise_of_asserts hsd hlv).trans ?_))
    exact State.sdOn_of_disabled (s.wf_chans hw) hp hd he
  · intro s l ha hc hp hd hsd hlv he hw hs
    refine congrArg Host.Outcome.next ((onCh_of_alive _ ha hc).trans ((State.sdRise_of_asserts hsd hlv).trans ?_))
    exact State.sdOn_of_asleep (s.wf_chans hw) hp hd he hs
  · intro s l ha hc hp hd hsd hlv he hw hs hl hst
    refine congrArg Host.Outcome.next ((onCh_of_alive _ ha hc).trans ((State.sdRise_of_asserts hsd hlv).trans ?_))
    exact State.sdOn_of_dark (s.wf_chans hw) hp hd he hs hl hst
  · intro s l h
    exact congrArg Host.Outcome.next ((congrArg (onCh l.lane s) (State.sdFall_of_not h)).trans (onCh_self ..))
  · intro s l ha hc hp he hw hsd hlv hs hl
    refine congrArg Host.Outcome.next ((onCh_of_alive _ ha hc).trans ((State.sdFall_of_drops hsd hlv).trans ?_))
    exact State.sdOff_of_no_los (s.wf_chans hw) hp he hs hl
  · intro s l ha hc hp he hw hsd hlv hs hl
    refine congrArg Host.Outcome.next ((onCh_of_alive _ ha hc).trans ((State.sdFall_of_drops hsd hlv).trans ?_))
    exact State.sdOff_of_los (s.wf_chans hw) hp he hs hl

/-! ### The sleep hold-off (R71) -/

/-- Settles O11: with every lane of the bond held out in the dark the expiry puts the receive sides to sleep. -/
theorem sleepHold : Obligations.SleepHold := by
  intro s c ha hc hst hs ho hall
  refine ⟨_, _, rfl, rfl, congrArg Host.Outcome.next ((onCh_of_alive _ ha hc).trans ?_)⟩
  have hst' : (s.chState (s.owner c) != stFaulted) = true := by simpa using hst
  simp only [State.sleepExpiry, hst', hs, ho, hall, Bool.not_false, Bool.and_self, if_true]
  rfl

/-! ### Group clocks (R37, R42, R44) -/

/-- Settles O9: a quiet group's clock stops at the end of its 10 µs, and runs 20 µs after the wake. -/
theorem groupClock : Obligations.GroupClock := by
  constructor
  · intro s g ha hg hclk hdue hq
    refine congrArg Host.Outcome.next ((onGrp_of_alive _ ha hg).trans ?_)
    simp only [State.groupStop, hclk, hdue, hq, Bool.and_self, if_true]
  · intro s g ha hg hclk hdue hp
    refine ⟨_, rfl, congrArg Host.Outcome.next ((onGrp_of_alive _ ha hg).trans ?_)⟩
    have hp' : (s.phase != .deep) = true := by simpa using hp
    simp only [State.groupRun, hclk, hdue, hp', Bool.not_false, Bool.and_self, if_true]
    rfl

/-! ### DEEP (R39, R40, R46) -/

theorem State.each_of_fixed {s : State} (l : List Nat) (f : State → Nat → State) (h : ∀ n, f s n = s) : s.each l f = s := by
  induction l with
  | nil => rfl
  | cons a r ih => exact (congrArg (fun t => State.each t r f) (h a)).trans ih

/-- Where no candidate has been seen active, leaving DEEP makes none inactive. -/
theorem State.each_refLost_of_none {s : State} (h : s.refs.cands = []) (l : List Nat) :
    s.each l (fun t n => if (t.cand n).active then t.refLost n else t) = s :=
  State.each_of_fixed l _ fun n => if_neg (by simp [State.cand, h, Store.get])

theorem State.deepEnter_of_due {s : State} (hok : s.deepOk = true) (hdue : s.due s.deepAt = true) (hsw : s.swap.st ≠ 1) :
    s.deepEnter = { (s.gateCancel.trigCancel.modMgmt fun m => m.inDeep s.time.open_) with
      phase := .deep, deepAt := none } := by
  simp only [State.deepEnter, hok, hdue, Bool.and_self, if_true, hsw, if_false]

/-- The wake of a device in DEEP: the fast clocks run 50 µs later, and the host port 10 µs after them where its
selection was the cause. -/
theorem State.deepWake_of_deep {s : State} (h : s.phase = .deep) (hostCs : Bool) :
    s.deepWake hostCs = { s with
      phase := .deepExit, wakeAt := some (s.owl + 50)
      cmd := if hostCs then { s.cmd with deaf := some (s.owl + 60) } else s.cmd } := by
  simp [State.deepWake, h, State.after]

theorem Mgmt.setBin_logBuf (m : Mgmt) (c n : Nat) (b : List Nat) : (m.setBin c n b).logBuf = m.logBuf := rfl

theorem Mgmt.deepMark_logBuf (m : Mgmt) (c : Nat) : (m.deepMark c).logBuf = m.logBuf := by
  unfold Mgmt.deepMark
  dsimp only
  (repeat' split) <;> simp [Mgmt.setBin_logBuf]

theorem Mgmt.inDeep_logBuf (m : Mgmt) (sec : Nat) : (m.inDeep sec).logBuf = m.logBuf := by
  have marks : ∀ (l : List Nat) (x : Mgmt), (l.foldl Mgmt.deepMark x).logBuf = x.logBuf := by
    intro l
    induction l with
    | nil => exact fun x => rfl
    | cons c r ih => exact fun x => (ih _).trans (x.deepMark_logBuf c)
  unfold Mgmt.inDeep
  exact marks _ _

/-- The fast clocks run again: with no candidate of the selector, no cancelled swap and no record that waits, device
time is lost, SLEPT is set and the bins are suspect. -/
theorem State.deepLeave_of_due {s u : State} (hp : s.phase = .deepExit) (hdue : s.due s.wakeAt = true)
    (hc : s.refs.cands = []) (hsw : s.swap.cancelled = false) (hlog : s.mgmt.logBuf = [])
    (hu : u = { s with phase := .run, wakeAt := none }.loseTime.setRb 0x0008 27 true) :
    s.deepLeave = u.modMgmt fun m => m.inDeep s.time.open_ := by
  have hbuf : (u.modMgmt fun m => m.inDeep s.time.open_).mgmt.logBuf.isEmpty = true := by
    subst hu
    show (Mgmt.inDeep s.mgmt s.time.open_).logBuf.isEmpty = true
    rw [Mgmt.inDeep_logBuf, hlog]
    rfl
  have hcan : (u.modMgmt fun m => m.inDeep s.time.open_).swap.cancelled = false := by
    subst hu
    exact hsw
  subst hu
  simp only [State.deepLeave, hp, hdue, beq_self_eq_true, Bool.and_self, if_true]
  rw [State.each_refLost_of_none (s := { s with phase := .run, wakeAt := none }) hc, if_pos hbuf,
    if_neg (Bool.eq_false_iff.mp hcan)]

/-- Settles O6: the entry by R39, each of Owl's causes, and the way out. -/
theorem deep : Obligations.Deep := by
  refine ⟨?_, ?_, ?_, ?_, ?_, ?_, ?_⟩
  · intro s hok hdue hsw
    exact congrArg Host.Outcome.next (State.deepEnter_of_due hok hdue hsw)
  · intro s ha hp
    exact congrArg Host.Outcome.next ((whileOn_of_alive _ ha).trans (State.deepWake_of_deep hp true))
  · intro s ha hp
    exact congrArg Host.Outcome.next ((whileOn_of_alive _ ha).trans (State.deepWake_of_deep hp false))
  · intro s ha hp
    exact congrArg Host.Outcome.next ((whileOn_of_alive _ ha).trans (State.deepWake_of_deep hp false))
  · intro s ha hp hout
    refine congrArg Host.Outcome.next ((whileOn_of_alive _ ha).trans ?_)
    exact (if_pos hout).trans (State.deepWake_of_deep hp false)
  · intro s c ha hp hc
    refine congrArg Host.Outcome.next ((whileOn_of_alive _ ha).trans ?_)
    simp [State.deepCause, hp, hc]
  · intro s ha hp hdue hc hsw hlog
    refine ⟨_, rfl, ?_⟩
    exact congrArg Host.Outcome.next
      ((whileOn_of_alive _ ha).trans (State.deepLeave_of_due hp hdue hc hsw hlog rfl))

end Sys2Proof.Machine
end

section
/-!
CH_PROVISION with its completion, and CH_RELEASE (R45, R459), each alone.
-/
namespace Sys2Proof.Machine

/-! ### CH_PROVISION -/

/-- The command that waits for the group clock and the lane once CH_PROVISION has written the configuration. -/
def State.provisionWait (s : State) (q : Req) (c : Nat) (w : Word) : PendCmd :=
  { req := q, opcode := 0x0401, job := .provision c (some w) none, pending := s.wasPending q, dueAt := s.after 2000 }

/-- CH_PROVISION of the right length with its reserved bits 0 and a channel that exists: the refusals of R459, and the
two ways on. -/
theorem State.fxChProvision_eq {c : Nat} {w0 : Word} (hb : onlyBits w0 0xFF000000 = true) (hf : c = fld w0 31 24)
    (hc : c < 192) (s : State) (q : Req) (w1 w2 w3 : Word) :
    s.fxChProvision q [w0, w1, w2, w3]
      = (if (s.provisionRefusal c w1 w3).1 != stOk then
          s.finish q 0x0401 (s.provisionRefusal c w1 w3).1 (s.provisionRefusal c w1 w3).2 []
        else if bit w3 31 then
          ((s.provision q.src c w1 w2 w3).setPend ((s.provision q.src c w1 w2 w3).provisionWait q c w3)).provisionOn
            ((s.provision q.src c w1 w2 w3).provisionWait q c w3)
        else (s.provision q.src c w1 w2 w3).finish q 0x0401 stOk 2 []) := by
  subst hf
  have hrange : (!onlyBits w0 0xFF000000 || decide (fld w0 31 24 > 191)) = false := by
    rw [hb, decide_eq_false (by omega)]
    rfl
  unfold State.fxChProvision
  rw [if_neg (by simp)]
  exact if_neg (Bool.eq_false_iff.mp hrange)

/-- Step 5 of a CH_PROVISION with the enable bit: CH_CTRL as given where the group's clock runs (R45). -/
theorem State.provisionOn_wait (s t : State) (q : Req) (c : Nat) (w : Word) :
    s.provisionOn (t.provisionWait q c w) = (if (s.grp (c / 16)).clk
      then (s.put q.src (chReg c 0) w).setPend { t.provisionWait q c w with job := .provision c none (some s.owl) }
      else s) := rfl

/-! ### Its completion -/

section
variable {s : State} {c : Nat} {w : Option Word} {a : Option Nat} {p : PendCmd}
  (hp : s.provisioning c = some p) (hj : p.job = .provision c w a)
include hp hj

/-- The completion of the provisioning of a channel: DETAIL 0, DETAIL 1 or a further wait (R459). -/
theorem State.provisionDone_eq :
    s.provisionDone c = (if (s.enabled c && (s.bond c).all fun d => (s.lane d).adapted) = true
      then s.finish p.req p.opcode stOk 0 []
      else if (s.due p.dueAt || a.elim false fun t => !(s.lane c).sd && decide (t + s.sdQual c ≤ s.owl)) = true
        then s.finish p.req p.opcode stOk 1 [] else s) := by
  have hjob : (jobChannel p.job).bind Prod.snd = a := by rw [hj]; rfl
  simp only [State.provisionDone, hp, hjob]
  cases a <;> rfl

theorem State.provisionDone_of_adapted (he : s.enabled c = true) (h : ∀ d ∈ s.bond c, (s.lane d).adapted = true) :
    s.provisionDone c = s.finish p.req p.opcode stOk 0 [] := by
  rw [State.provisionDone_eq hp hj, if_pos]
  simpa [he] using h

theorem State.provisionDone_of_unadapted {d : Nat} (hd : d ∈ s.bond c) (h : (s.lane d).adapted = false) :
    s.provisionDone c
      = (if (s.due p.dueAt || a.elim false fun t => !(s.lane c).sd && decide (t + s.sdQual c ≤ s.owl)) = true
        then s.finish p.req p.opcode stOk 1 [] else s) := by
  rw [State.provisionDone_eq hp hj, if_neg]
  intro hall
  simp only [Bool.and_eq_true, List.all_eq_true] at hall
  exact Bool.false_ne_true (h.symm.trans (hall.2 d hd))
end

/-! ### CH_RELEASE -/

/-- CH_RELEASE of the right length with its reserved bits 0 and a channel that exists. -/
theorem State.fxChRelease_eq {c : Nat} {w : Word} (hb : onlyBits w 0xFF000000 = true) (hf : c = fld w 31 24)
    (hc : c < 192) (s : State) (q : Req) :
    s.fxChRelease q [w] = (if s.releaseRefusal c != 0 then s.finish q 0x0402 eParam (s.releaseRefusal c) []
      else (s.releaseCh c).finish q 0x0402 stOk 0 []) := by
  subst hf
  have hrange : (!onlyBits w 0xFF000000 || decide (fld w 31 24 > 191)) = false := by
    rw [hb, decide_eq_false (by omega)]
    rfl
  unfold State.fxChRelease
  rw [if_neg (by simp)]
  exact if_neg (Bool.eq_false_iff.mp hrange)

/-- Settles O51: each command starts alone, and its answer is the branch that its conditions choose. -/
theorem channelCommands : Obligations.ChannelCommands := by
  refine ⟨?_, ?_, ?_⟩
  · intro s t q w0 w1 w2 w3 c hr hb hf hc ht
    subst ht
    have run : ∀ u, s.fxChProvision q [w0, w1, w2, w3] = u → exec (.chProvision q [w0, w1, w2, w3]) s = .next u.startHeld :=
      fun u hu => congrArg Host.Outcome.next (State.ready_next s u q 0x0401 _ _ hr hu)
    have hfx := State.fxChProvision_eq hb hf hc s q w1 w2 w3
    refine ⟨fun hst => run _ ?_, fun hst hen => run _ ?_, fun hst hen => ⟨_, _, rfl, rfl, (run _ hfx).trans ?_⟩⟩
    · rw [hfx, if_pos (by simpa using hst)]
    · rw [hfx, if_neg (by simp [hst]), hen, if_neg Bool.false_ne_true]
    · rw [if_neg (by simp [hst]), if_pos hen, State.provisionOn_wait, apply_ite State.startHeld]
      rfl
  · intro s c w a p ha hc hp hj
    have run : ∀ u, s.provisionDone c = u → exec (.chProvisionCompletion c) s = .next u :=
      fun u hu => congrArg Host.Outcome.next ((onCh_of_alive _ ha hc).trans hu)
    refine ⟨fun he h => run _ (State.provisionDone_of_adapted hp hj he h), fun d hd hun hend => run _ ?_,
      fun d hd hun hlit hdue => run _ ?_⟩
    · rw [State.provisionDone_of_unadapted hp hj hd hun, if_pos]
      rcases hend with hdue | ⟨hsd, t, rfl, hq⟩
      · simp [hdue]
      · simp [hsd, hq]
    · rw [State.provisionDone_of_unadapted hp hj hd hun, if_neg]
      rcases hlit with hsd | rfl
      · cases a <;> simp [hdue, hsd]
      · simp [hdue]
  · intro s q w c hr hb hf hc
    have run : ∀ u, s.fxChRelease q [w] = u → exec (.chRelease q [w]) s = .next u.startHeld :=
      fun u hu => congrArg Host.Outcome.next (State.ready_next s u q 0x0402 _ _ hr hu)
    have hfx := State.fxChRelease_eq hb hf hc s q
    refine ⟨fun h1 => run _ ?_, fun h1 h2 => run _ ?_, fun h1 h2 h3 => run _ ?_, fun h1 h2 h3 => run _ ?_⟩
    · simp [hfx, State.releaseRefusal, h1]
    · simp [hfx, State.releaseRefusal, h1, h2]
    · simp [hfx, State.releaseRefusal, h1, h2, h3]
    · simp [hfx, State.releaseRefusal, h1, h2, h3]

end Sys2Proof.Machine
end

section
/-!
A transmitted frame (R111, R132, R199, R208 to R211): what its channel sends, by its client and its role, and the
maintenance signals of a transmitter.
-/
namespace Sys2Proof.Machine

/-- A frame leaves a provisioned channel that owns its bond, whose lane swings and one of whose lanes no test function
has: the frame's parity errors are reported, and the client and the role choose what it carries. -/
theorem State.txFrame_of_sends {s : State} {c : Nat} (f : TxFrame) (hp : s.provisioned c = true)
    (hm : s.isMember c = false) (hs : s.swings c = true) (hl : ((s.bond c).any fun d => s.laneTaken d == false) = true)
    {u : State} (hu : u = f.structFail.foldl (State.structParity c) (f.parityFail.foldl (State.xcParity c) s)) :
    s.txFrame c f = (if isEth (u.client c) then (u.modCh c fun h => { h with
          tx := { h.tx with eth := u.txEth c, dests := u.destList c f, page := anPage h.an } }).txCodes c f
      else if u.role c != 0 then u.modTx c fun t => { t with
          maint := u.txMaintOf c, dests := u.destList c f, sent := []
          just := Store.set {} t.just 0 { amp := u.demapJust c } }
      else u.txLine c f) := by
  subst hu
  have hall : (s.bond c).all s.laneTaken = false := by
    obtain ⟨d, hd, hfree⟩ := List.any_eq_true.mp hl
    exact List.all_eq_false.mpr ⟨d, hd, by simpa using hfree⟩
  have hsends : (!s.provisioned c || s.isMember c || !s.swings c || (s.bond c).all s.laneTaken) = false := by
    simp [hp, hm, hs, hall]
  exact if_neg (Bool.eq_false_iff.mp hsends)

/-! ### Maintenance signals -/

/-- In local fault a client with sequence ordered sets sends local or remote fault. -/
theorem State.txEth_of_localFault {s : State} {c : Nat} (hx : s.client c ≠ 0x20) (hlf : s.def_ c dLF = true) :
    s.txEth c = 1 ∨ s.txEth c = 2 := by
  have hx' : (s.client c == 0x20) = false := by simpa using hx
  unfold State.txEth
  extract_lets k fail x
  have hxf : x = false := hx'
  split
  · left; simp [hxf]
  · right; simp [hxf, hlf]

/-- 1000BASE-X has no fault ordered sets. -/
theorem State.txEth_of_1000BaseX {s : State} {c : Nat} (hx : s.client c = 0x20) : s.txEth c ≠ 1 ∧ s.txEth c ≠ 2 := by
  unfold State.txEth
  extract_lets k fail x
  have hxt : x = true := by simp [x, hx]
  simp only [hxt, if_true, Bool.not_true, Bool.false_and, Bool.false_eq_true, if_false]
  (repeat' split) <;> decide

/-- In the safe state, and while FAULTED, an Ethernet transmitter sends the signal that R524 gives its client. -/
theorem State.txEth_of_maintAll {s : State} {c : Nat} (h : s.maintAll c = true) :
    s.txEth c = (if s.client c = 0x20 then 4 else 1) := by
  simp [State.txEth, h]

theorem State.txMaintOf_of_sdh {s : State} {c : Nat} (h : s.maintAll c = true) (hk : isSdh (s.client c) = true) :
    s.txMaintOf c = 1 := by
  simp [State.txMaintOf, hk, h]

theorem State.txMaintOf_of_otn {s : State} {c : Nat} (h : s.maintAll c = true) (hn : isSdh (s.client c) = false)
    (hk : isOtn (s.client c) = true) : s.txMaintOf c = 2 := by
  simp [State.txMaintOf, hn, hk, h]

/-- Settles O24: the frame's case by client and role, and the signals of R208 to R211. -/
theorem transmittedFrames : Obligations.TransmittedFrames := by
  refine ⟨?_, fun s c hx hlf => State.txEth_of_localFault hx hlf, fun s c hx => State.txEth_of_1000BaseX hx, ?_⟩
  · intro s c f ha hc hp hm hs hl
    exact ⟨_, rfl, congrArg Host.Outcome.next
      ((onCh_of_alive _ ha hc).trans (State.txFrame_of_sends f hp hm hs hl rfl))⟩
  · intro s c h
    exact ⟨State.txEth_of_maintAll h, fun hk => State.txMaintOf_of_sdh h hk, fun hn hk => State.txMaintOf_of_otn h hn hk⟩

end Sys2Proof.Machine
end

section
/-!
The Badger and its units (18_management_subsystem.md): its wake, its sleep and its watchdog, the sensors, the log, and
the commands that read and write them, each alone.
-/
namespace Sys2Proof.Machine

/-! ### Wake, sleep, watchdog and restart (R38, R448, R538 to R541) -/

theorem State.badgerReady_of_due {s : State} (hup : s.fwUp = true) (hdue : s.due s.mgmt.readyAt = true) :
    s.badgerReady = (s.modMgmt fun m =>
      { m with readyAt := none, awake := true, wdtAt := some (s.owl + 49985) }).setRf 0x50B0 31 30 1 := by
  simp only [State.badgerReady, hup, hdue, Bool.and_self, if_true, State.after]

theorem State.badgerSleep_of_idle {s : State} (hup : s.fwUp = true) (haw : s.mgmt.awake = true)
    (hin : s.cmd.inbox = []) (hpend : s.cmd.pend = []) (hfold : s.due s.mgmt.foldAt = false)
    (hlog : s.due s.mgmt.logAt = false) :
    s.badgerSleep = ((s.modMgmt fun m => { m with awake := false, wdtAt := none }).setRf 0x50B0 31 30 0).mclkStop := by
  simp only [State.badgerSleep, hup, haw, hin, hpend, hfold, hlog, List.isEmpty_nil, List.any_nil, Bool.not_false,
    Bool.and_self, if_true]

theorem State.watchdog_of_due {s : State} (haw : s.mgmt.awake = true) (hdue : s.due s.mgmt.wdtAt = true) :
    s.watchdog none = s.badgerDown.report { src := 10, acc := { master := 1, access := 0, addr := 0 } }
    ∧ ∀ a, s.watchdog (some a) = s.badgerDown.report { src := 10, acc := { master := 1, access := 2, addr := a } } := by
  simp only [State.watchdog, haw, hdue, Bool.and_self, if_true, true_and, implies_true]

theorem State.restartDone_of_down {s : State} (h : s.rf 0x50B0 31 30 = 2) (reload ok : Bool) :
    s.restartDone reload ok = (s.badgerBack reload ok).startHeld := if_pos h

/-! ### Sensors and management events (R542 to R545) -/

theorem State.convert_of_clocked {s : State} (h : s.clocked = true) (ts : List Int) (vs : List Nat) :
    s.convert ts vs = ((List.range 6).zip vs).foldl (fun t e => t.readVolt e.1 e.2)
      (((List.range 16).zip ts).foldl (fun t e => t.readTemp e.1 e.2) s) := if_pos h

theorem State.mgmtExpiry_of_due {s : State} {code ch : Nat} (h : s.due (s.hold (holdMgmt code ch)).at_ = true) :
    s.mgmtExpiry code ch = ((s.hold (holdMgmt code ch)).reports.foldl (fun t e =>
        t.push (mkEvent e.2.suppressed 0x0C 0xF9 ch code e.2.time)) s).modHold (holdMgmt code ch)
          fun _ => (s.hold (holdMgmt code ch)).settled := if_pos h

/-- The words of a SENSOR_RD (R544): the temperatures, the voltages and the highest temperatures. -/
def State.sensorWords (s : State) : List Word :=
  ((List.range 16).map fun n => s.reg (0x5000 + 4 * n)) ++ ((List.range 6).map fun r => s.reg (0x5080 + 4 * r))
    ++ ((List.range 16).map fun n => BitVec.ofNat 32 (BitVec.ofInt 16 ((s.mgmt.tempMax[n]?).getD (s.tempNow n))).toNat)

theorem State.fxSensorRd_eq {w : Word} (hb : onlyBits w 1 = true) (s : State) (q : Req) :
    s.fxSensorRd q [w] = (if bit w 0 && !s.mgmt.tempMax.isEmpty
      then s.modMgmt fun m => { m with tempMax := (List.range 16).map s.tempNow }
      else s).finish q 0x0901 stOk 0 s.sensorWords := by
  have hbits : ¬ (!onlyBits w 1) = true := by rw [hb]; decide
  unfold State.fxSensorRd
  rw [if_neg (by simp)]
  exact if_neg hbits

/-! ### The log (R546 to R549, R564) -/

theorem State.logFlush_of_asleep {s : State} (hup : s.fwUp = true) (hdue : s.due s.mgmt.logAt = true)
    (haw : s.mgmt.awake = false) : s.logFlush = s.wakeBadger := by
  simp only [State.logFlush, hup, hdue, haw, Bool.not_false, Bool.and_self, if_true]

theorem State.logFlush_of_awake {s : State} (hup : s.fwUp = true) (hdue : s.due s.mgmt.logAt = true)
    (haw : s.mgmt.awake = true) (hbusy : s.flashBusy = false) (hp : s.phase = .run) :
    s.logFlush = ((s.mgmt.logBuf.foldl State.writeRec s).modMgmt fun m =>
      { m with logBuf := [], logAt := none }).mclkStop := by
  simp only [State.logFlush, hup, hdue, haw, hbusy, hp, Bool.not_true, Bool.not_false, Bool.and_false, Bool.and_self,
    beq_self_eq_true, Bool.false_eq_true, if_false, if_true]

theorem State.fxLogRd_eq {s : State} (hpend : s.cmd.pend = []) {i n : Word} (hi : i.toNat < 262144)
    (h1 : 1 ≤ n.toNat) (h2 : n.toNat ≤ 120) (q : Req) :
    s.fxLogRd q [i, n] = s.finish q 0x0902 stOk 0 (s.logWords i.toNat n.toNat) := by
  have hrange : ¬ (decide (i.toNat ≥ logSize) || decide (n.toNat = 0) || decide (n.toNat > 120)) = true := by
    have : logSize = 262144 := rfl
    simp
    omega
  have herase : ¬ (s.cmd.pend.any fun p => isUploadJob p.job && isErase p.job) = true := by simp [hpend]
  unfold State.fxLogRd
  rw [if_neg (by simp)]
  exact (if_neg hrange).trans (if_neg herase)

theorem State.logDone_of_waiting {s : State} {p : PendCmd} {i n : Nat}
    (hp : (s.cmd.pend.find? fun p => (logJob p.job).isSome) = some p) (hj : p.job = .logRead i n) :
    s.logDone = s.finish p.req 0x0902 stOk 0 (s.logWords i n) := by
  have hjob : logJob p.job = some (i, n) := by rw [hj]; rfl
  simp only [State.logDone, hp, hjob]

/-! ### PM_RD (R227), DCC_WR and DCC_RD (R135) -/

theorem State.fxPmRd_eq {w : Word} (hb : onlyBits w 0xFF0000FF = true) (hc : fld w 31 24 < 192)
    (hn : fld w 7 0 ≤ 32 ∨ fld w 7 0 = 64 ∨ fld w 7 0 = 65) (s : State) (q : Req) :
    s.fxPmRd q [w] = s.finish q 0x0906 stOk 0 (pmReply (s.mgmt.readBin (fld w 31 24) (fld w 7 0))) := by
  have hrange : ¬ (!onlyBits w 0xFF0000FF || decide (fld w 31 24 ≥ 192)
      || (decide (fld w 7 0 > 32) && fld w 7 0 != 64 && fld w 7 0 != 65)) = true := by
    rw [hb]
    simp
    omega
  unfold State.fxPmRd
  rw [if_neg (by simp)]
  exact if_neg hrange

/-- DCC_WR of a length that its words carry, to a stream that is enabled: the frame joins the queue where it fits. -/
theorem State.fxDccWr_eq {w v : Word} {vs : List Word} {n : Nat} (hb : onlyBits w 0xFF00FFFF = true)
    (hn : n = fld w 15 0) (h1 : 1 ≤ n) (h2 : n ≤ 4000) (hl : vs.length + 1 = cdiv n 4) (s : State) (q : Req)
    (hon : s.streamOn (fld w 31 24) = true) :
    s.fxDccWr q (w :: v :: vs) = (if n > streamBuf - (s.stream (fld w 31 24)).txLen
      then s.finish q 0x0907 eLength 0 [BitVec.ofNat 32 (streamBuf - (s.stream (fld w 31 24)).txLen)]
      else (s.modStream (fld w 31 24) fun d => { d with
        tx := d.tx ++ [((unpackWords (v :: vs)).take n, none)] }).finish q 0x0907 stOk 0 []) := by
  subst hn
  have hcdiv : cdiv (fld w 15 0) 4 ≤ 1000 := by rw [cdiv, if_neg (by decide)]; omega
  have hlen : ¬ (decide ((w :: v :: vs).length < 2) || decide ((w :: v :: vs).length > 1001)) = true := by
    simp
    omega
  have hfit : ¬ (decide (1 ≤ fld w 15 0) && decide (fld w 15 0 ≤ 4000)
      && (w :: v :: vs).length != 1 + cdiv (fld w 15 0) 4) = true := by
    simp
    omega
  have hrange : ¬ (decide (fld w 15 0 = 0) || decide (fld w 15 0 > 4000) || !onlyBits w 0xFF00FFFF
      || !s.streamOn (fld w 31 24)) = true := by
    rw [hb, hon]
    simp
    omega
  unfold State.fxDccWr
  rw [if_neg hlen]
  exact (if_neg hfit).trans (if_neg hrange)

theorem State.fxDccRd_eq {w : Word} {slot : Nat} (hb : onlyBits w 0xFF00FFFF = true) (hs : slot = fld w 31 24)
    (hslot : slot < 64 ∨ slot = 0xFF) (s : State) (q : Req) {top : Nat}
    (ht : top = if fld w 15 0 = 0 ∨ fld w 15 0 > 4080 then 4080 else max 8 (fld w 15 0)) {r : List Word × State}
    (hr : r = s.dccTake (if slot = 0xFF then List.range 64 else [slot]) (min (4 * maxCount q) top) 512
      (min (4 * maxCount q) top) true) :
    s.fxDccRd q [w] = r.2.finish q 0x0908 stOk 0 r.1 := by
  subst hs ht hr
  have hrange : ¬ (!onlyBits w 0xFF00FFFF || (decide (fld w 31 24 ≥ 64) && fld w 31 24 != 0xFF)) = true := by
    rw [hb]
    simp
    omega
  unfold State.fxDccRd
  rw [if_neg (by simp)]
  exact if_neg hrange

/-- Settles O54: each event of the Badger and each of its commands by the lemma of its operation. -/
theorem badgerUnits : Obligations.BadgerUnits := by
  refine ⟨?_, ?_, ?_, ?_, ?_, ?_, ?_, ?_, ?_, ?_, ?_, ?_, ?_⟩
  · intro s ha hup hdue
    exact congrArg Host.Outcome.next
      ((whileOn_of_alive _ ha).trans (congrArg State.startHeld (State.badgerReady_of_due hup hdue)))
  · intro s ha hup haw hin hpend hfold hlog
    exact congrArg Host.Outcome.next
      ((whileOn_of_alive _ ha).trans (State.badgerSleep_of_idle hup haw hin hpend hfold hlog))
  · intro s a ha haw hdue
    obtain ⟨hnone, hsome⟩ := State.watchdog_of_due haw hdue
    exact ⟨congrArg Host.Outcome.next ((whileOn_of_alive _ ha).trans hnone),
      congrArg Host.Outcome.next ((whileOn_of_alive _ ha).trans (hsome a))⟩
  · intro s t reload ok ha hdown ht
    subst ht
    exact congrArg Host.Outcome.next ((whileOn_of_alive _ ha).trans (State.restartDone_of_down hdown reload ok))
  · intro s ts vs ha hclk
    exact congrArg Host.Outcome.next ((whileOn_of_alive _ ha).trans (State.convert_of_clocked hclk ts vs))
  · intro s code ch ha hcode hch hdue
    refine congrArg Host.Outcome.next (congrArg (owlOn s) ?_)
    exact (if_pos ⟨hcode, hch⟩).trans (State.mgmtExpiry_of_due hdue)
  · intro s ha hup hdue
    exact ⟨fun haw => congrArg Host.Outcome.next (congrArg (owlOn s) (State.logFlush_of_asleep hup hdue haw)),
      fun haw hbusy hp =>
        congrArg Host.Outcome.next (congrArg (owlOn s) (State.logFlush_of_awake hup hdue haw hbusy hp))⟩
  · intro s q w hr hb
    have run : ∀ u, s.fxSensorRd q [w] = u → exec (.sensorRd q [w]) s = .next u.startHeld :=
      fun u hu => congrArg Host.Outcome.next (State.ready_next s u q 0x0901 _ _ hr hu)
    refine ⟨_, rfl, fun hkeep => run _ ?_, fun hclear hmax => run _ ?_⟩
    · rw [State.fxSensorRd_eq hb, if_neg (by rcases hkeep with h | h <;> simp [h])]
      rfl
    · rw [State.fxSensorRd_eq hb, if_pos (by simp [hclear, hmax])]
      rfl
  · intro s q i n hr hi h1 h2
    exact congrArg Host.Outcome.next
      (State.ready_next s _ q 0x0902 _ _ hr (State.fxLogRd_eq (s.ready_pend _ hr) hi h1 h2 q))
  · intro s p i n ha hp hj
    exact congrArg Host.Outcome.next ((whileOn_of_alive _ ha).trans (State.logDone_of_waiting hp hj))
  · intro s q w hr hb hc hn
    exact congrArg Host.Outcome.next (State.ready_next s _ q 0x0906 _ _ hr (State.fxPmRd_eq hb hc hn s q))
  · intro s q w v vs n slot free hr hb hn hs h1 h2 hl hon hfree
    subst hs hfree
    have run : ∀ u, s.fxDccWr q (w :: v :: vs) = u → exec (.dccWr q (w :: v :: vs)) s = .next u.startHeld :=
      fun u hu => congrArg Host.Outcome.next (State.ready_next s u q 0x0907 _ _ hr hu)
    have hfx := State.fxDccWr_eq (v := v) hb hn h1 h2 hl s q hon
    exact ⟨fun hfit => run _ (hfx.trans (if_neg (by omega))), fun hover => run _ (hfx.trans (if_pos hover))⟩
  · intro s q w slot top r hr hb hs hslot ht hres
    exact congrArg Host.Outcome.next (State.ready_next s _ q 0x0908 _ _ hr (State.fxDccRd_eq hb hs hslot s q ht hres))

end Sys2Proof.Machine
end

section
/-!
What happens on a serial lane (02_serial_lanes.md): termination calibration, PLL lock and initial adaptation, lane
alignment, PCS lock and link faults, and the test functions PRBS, LOOPBACK and EYE_SCAN, each command alone.
-/
namespace Sys2Proof.Machine

/-! ### Rows whose gate is open -/

/-- A row about a channel of a device that is alive does what its operation does. -/
theorem next_onCh {s t u : State} {c : Nat} (ha : s.alive = true) (hc : c < 192) (h : t = u) :
    (.next (onCh c s t) : Out) = .next u :=
  congrArg Host.Outcome.next ((onCh_of_alive t ha hc).trans h)

/-- A row about a channel whose operation does nothing does nothing. -/
theorem next_onCh_self {s t : State} (c : Nat) (h : t = s) : (.next (onCh c s t) : Out) = .next s :=
  congrArg Host.Outcome.next ((congrArg (onCh c s) h).trans (onCh_self c s))

/-- The row of a command that is ready: its effect, then the commands that waited for it. -/
theorem next_ready {s u : State} {op : Nat} (hr : s.ready op = true) (q : Req) (ws : List Word) {fx : State → State}
    (h : fx s = u) : (.next (s.command q op ws fx) : Out) = .next u.startHeld :=
  congrArg Host.Outcome.next (s.ready_next u q op ws fx hr h)

/-! ### Termination calibration (R81, R598) -/

theorem State.alive_of_boot {s : State} (hp : s.phase = .boot) (ho : s.osc = true) : s.alive = true := by
  simp [State.alive, hp, ho]

/-- Settles O7: at boot the device is alive, and the calibration visits the lanes that fail. -/
theorem terminationCalibration : Obligations.TerminationCalibration := by
  intro s ok failed hp ho
  refine congrArg Host.Outcome.next ((whileOn_of_alive _ (State.alive_of_boot hp ho)).trans ?_)
  exact if_pos (by simp [hp])

/-! ### PLL lock and initial adaptation (R50, R57 to R59, R63, R88) -/

theorem State.pllLock_of_powered {s : State} {c : Nat} (he : s.enabled c = true) (hp : s.provisioned c = true)
    (hf : (s.lane c).calFail = false) (hg : (s.grp (c / 16)).clk = true)
    (hr : (s.lane c).rxOn = true ∨ s.txKeeps (s.owner c) = true) (ppm : Int) :
    s.pllLock c ppm = s.modLane c fun l => { l with txOn := true, pll := l.rxOn && l.sd && ppm.natAbs ≤ 200 } := by
  have hpower : ((s.lane c).rxOn || s.txKeeps (s.owner c)) = true := by simpa using hr
  exact if_pos (by simp [he, hp, hf, hg, hpower])

/-- Settles O12: each row is its operation with the lane's guards met. -/
theorem laneUp : Obligations.LaneUp := by
  constructor
  · intro s l ha hc he hp hf hg hr
    exact next_onCh ha hc (State.pllLock_of_powered he hp hf hg hr l.ppm)
  · intro s c ha hc he hr hp hsd had
    exact ⟨_, rfl, next_onCh ha hc (if_pos (by simp [he, hr, hp, hsd, had]))⟩

/-! ### Lane alignment of an OTN bond (R70, R106) -/

theorem State.alignerLock_of_deskewed {s : State} {c k : Nat} (hk : isOtn (s.client c) = true)
    (hl : lanesOf (s.client c) > 1) (he : s.enabled c = true) (hd : k ≤ deskewNs)
    (had : (s.bond c).all (fun d => (s.lane d).adapted) = true) (o : List Nat) :
    s.alignerLock ⟨c, k, o⟩ = ((s.modFrm c fun f => { f with order := o }).setCrb c 4 23 true).request c :=
  if_pos (by simpa [hk, hl, he, hd] using had)

theorem State.alignerLock_of_skewed {k : Nat} (hd : deskewNs < k) (s : State) (c : Nat) (o : List Nat) :
    s.alignerLock ⟨c, k, o⟩ = s :=
  if_neg (by simp [Nat.not_le.mpr hd])

/-! ### PCS lock and link faults (R107, R108, R132, R205) -/

theorem State.pcsLock_of_locked {s : State} {c k : Nat} (hk : isEth (s.client c) = true) (he : s.enabled c = true)
    (hm : s.isMember c = false) (hch : s.checking c = false) (hd : k ≤ deskewNs ∨ lanesOf (s.client c) = 1)
    (had : (s.bond c).all (fun d => (s.lane d).adapted) = true) (hst : s.chState c ≠ stFaulted) (o : List Nat) :
    s.pcsLock ⟨c, k, o⟩ = ((((s.setDef c dLOBL false).setDef c dAMLOSS false).modCh c fun h => { h with
      coded := { h.coded with
        dispIn := false, scrIn := [], posIn := 0, bipIn := [], waitIn := [], rowIn := [], order := o } }).setCrb
          c 4 23 true).toState c stInFrame := by
  have hskew : (lanesOf (s.client c) == 1 || decide (k ≤ deskewNs)) = true := by simpa [or_comm] using hd
  exact if_pos (by simpa [hk, he, hm, hch, hst, hskew] using had)

theorem State.pcsLock_of_skewed {s : State} {c k : Nat} (hd : deskewNs < k) (hl : lanesOf (s.client c) > 1)
    (o : List Nat) : s.pcsLock ⟨c, k, o⟩ = s :=
  if_neg (by simp [Nat.not_le.mpr hd, show lanesOf (s.client c) ≠ 1 by omega])

theorem State.pcsLock_of_checking {s : State} {c : Nat} (hch : s.checking c = true) (k : Nat) (o : List Nat) :
    s.pcsLock ⟨c, k, o⟩ = s :=
  if_neg (by simp [hch])

theorem State.hiBer_of_client {s : State} {c : Nat} (hk : isBaseR (s.client c) = true) (hm : s.isMember c = false)
    (on : Bool) : s.hiBer c on
      = if on then (s.setDef c dHIBER true).setFault c .localFault else s.setDef c dHIBER false := by
  cases on <;> simp [State.hiBer, hk, hm]

theorem State.linkFault_of_own_pcs_well {s : State} {c : Nat} (hk : isBaseR (s.client c) = true)
    (hm : s.isMember c = false) (hp : s.pcsFault c = false) (st : LinkFault) :
    s.linkFault c st = (s.setDef c dLF (st == .localFault)).setDef c dRF (st == .remoteFault) := by
  simp [State.linkFault, State.setFault, hk, hm, hp]

/-- Settles O14: each row is its operation with the guards of its client met, or with one of them not. -/
theorem lanesAligned : Obligations.LanesAligned := by
  refine ⟨?_, ?_, ?_, ?_, ?_, ?_, ?_, ?_, ?_⟩
  · intro s c k o ha hc hk hl he hd had
    exact next_onCh ha hc (State.alignerLock_of_deskewed hk hl he hd had o)
  · intro s c k o hd
    exact next_onCh_self c (State.alignerLock_of_skewed hd s c o)
  · intro s c k o hd hl
    exact next_onCh_self c (State.pcsLock_of_skewed hd hl o)
  · intro s c ha hc hk hl he
    exact ⟨_, rfl, next_onCh ha hc (if_pos (by simp [hk, hl, he]))⟩
  · intro s c k o ha hc hk he hm hch hd had hst
    exact next_onCh ha hc (State.pcsLock_of_locked hk he hm hch hd had hst o)
  · intro s c k o hch
    exact next_onCh_self c (State.pcsLock_of_checking hch k o)
  · intro s c ha hc hk he hm
    refine ⟨_, _, rfl, rfl, next_onCh ha hc ?_⟩
    simp only [State.pcsLost, hk, he, hm, Bool.not_false, Bool.and_self, if_true, Bool.false_and, Bool.true_or,
      Bool.true_and, Bool.false_eq_true, if_false, decide_eq_true_eq]
  · intro s c on ha hc hk hm
    exact next_onCh ha hc (State.hiBer_of_client hk hm on)
  · intro s c st ha hc hk hm hp
    exact next_onCh ha hc (State.linkFault_of_own_pcs_well hk hm hp st)

/-! ### The checker's steps (R74) -/

section
variable {p : Prbs} {b x want : Bool} {n : Nat} (hn : n = (prbsExps p.pattern).headD 1) (hx : x = (b != p.inv))
include hn hx

/-- The checker seeds itself with the first bits it receives. -/
theorem Prbs.bit_of_seeding (h : p.hist.length < n) : p.bit b = { p with hist := x :: p.hist } := by
  subst hn hx
  exact if_pos h

variable (hwant : want = prbsNext (prbsExps p.pattern) p.hist) (h : n ≤ p.hist.length)
include hwant h

/-- Out of lock a right prediction counts, up to the lock, and a wrong one starts the count again. -/
theorem Prbs.bit_of_unlocked (hl : p.lock = false) :
    p.bit b = { p with
      hist := (x :: p.hist).take n, good := (if want = x then p.good + 1 else 0) % 256
      lock := (if want = x then p.good + 1 else 0) == 256, winBits := 0, winErrs := 0 } := by
  subst hn hx hwant
  exact (if_neg (Nat.not_lt.mpr h)).trans (if_neg (by simp [hl]))

/-- In lock, inside a window with at most 256 errors, the bit and its error count. -/
theorem Prbs.bit_of_locked (hl : p.lock = true) (he : p.winErrs + b2n (want != x) ≤ 256) (hb : p.winBits < 1023) :
    p.bit b = { p with
      hist := (want :: p.hist).take n, bits := (p.bits + 1) % 2 ^ 64
      errs := satAdd 0xFFFFFFFF p.errs (b2n (want != x)), winErrs := p.winErrs + b2n (want != x)
      winBits := p.winBits + 1 } := by
  subst hn hx hwant
  refine (if_neg (Nat.not_lt.mpr h)).trans ((if_pos hl).trans ((if_neg (Nat.not_lt.mpr he)).trans (if_neg ?_)))
  exact Nat.ne_of_lt (Nat.succ_lt_succ hb)

/-- The 257th error of a window ends the lock. -/
theorem Prbs.bit_of_lost (hl : p.lock = true) (he : 256 < p.winErrs + b2n (want != x)) :
    p.bit b = { p with
      lock := false, losses := satAdd 0xFFFF p.losses 1, hist := [], good := 0, bits := (p.bits + 1) % 2 ^ 64
      errs := satAdd 0xFFFFFFFF p.errs (b2n (want != x)), winBits := 0, winErrs := 0 } := by
  subst hn hx hwant
  exact (if_neg (Nat.not_lt.mpr h)).trans ((if_pos hl).trans (if_pos he))

end

theorem b2n_bne_of_eq {a b : Bool} (h : a = b) : b2n (a != b) = 0 := by subst h; cases a <;> rfl

theorem b2n_bne_of_ne {a b : Bool} (h : a ≠ b) : b2n (a != b) = 1 := by simp [h, b2n]

theorem State.prbsTake_of_lit {s : State} {c : Nat} (hch : (s.lane c).prbs.chk = true) (hsd : (s.lane c).sd = true)
    (syms : List Nat) : s.prbsTake c syms = s.modLane c fun l =>
      { l with prbs := (s.laneBits c 1 syms).1.foldl Prbs.bit l.prbs, preRx := (s.laneBits c 1 syms).2 } :=
  if_pos (by simp [hch, hsd])

/-! ### PRBS (R72, R73, R75) -/

/-- PRBS of the right length with its reserved bits 0, a lane that exists and a pattern of the table. -/
theorem State.fxPrbs_eq {w : Word} {c act : Nat} (hb : onlyBits w 0x00FFF303 = true) (hf : c = fld w 23 16)
    (hc : c < 192) (hp : fld w 14 12 ≤ 5) (hact : fld w 1 0 = act) (s : State) (q : Req) :
    s.fxPrbs act q [w] = (
      if act = 0 then
        if fld w 9 8 = 0 || (fld w 14 12 = 5 && !s.pam4 c) then s.finish q 0x0802 eParam 0 []
        else if s.claimed (isLane c) then s.finish q 0x0802 eBusy 0 []
        else (s.prbsStart c (fld w 14 12) (fld w 9 8) (bit w 15)).prbsReply
          (s.prbsStart c (fld w 14 12) (fld w 9 8) (bit w 15)) q c
      else if act = 1 then
        if fld w 9 8 = 0 then s.finish q 0x0802 eParam 0 []
        else (s.prbsStop c (fld w 9 8)).prbsReply (s.prbsStop c (fld w 9 8)) q c
      else if act = 2 then s.prbsReply s q c
      else s.prbsReply (s.modPrbs c fun p => { p with losses := 0, bits := 0, errs := 0 }) q c) := by
  subst hf
  have hrange : (!onlyBits w 0x00FFF303 || decide (fld w 23 16 ≥ 192) || fld w 1 0 != act
      || decide (fld w 14 12 > 5)) = false := by
    rw [hb, hact, bne_self_eq_false, decide_eq_false (Nat.not_le.mpr hc), decide_eq_false (Nat.not_lt.mpr hp)]
    rfl
  unfold State.fxPrbs
  rw [if_neg (by simp)]
  exact if_neg (Bool.eq_false_iff.mp hrange)

/-! ### LOOPBACK (R460) -/

/-- LOOPBACK of the right length with its reserved bits 0, a lane that exists and one of the three modes. -/
theorem State.fxLoopback_eq {w : Word} {c mode : Nat} (hb : onlyBits w 0x00FF0003 = true) (hf : c = fld w 23 16)
    (hc : c < 192) (hm : mode ≤ 2) (hmode : fld w 1 0 = mode) (s : State) (q : Req) :
    s.fxLoopback mode q [w] = (
      if mode = 0 then
        if (s.lane c).loop = 0 then s.finish q 0x0803 stOk 0 []
        else (((s.modLane c fun l => { l with loop := 0 }).release fun k => k == .lane c false).rehunt c).finish q
          0x0803 stOk 0 []
      else if s.claimed (isLane c) then s.finish q 0x0803 eBusy 0 []
      else ((s.claim (.lane c false)).modLane c fun l => { l with loop := mode }).finish q 0x0803 stOk 0 []) := by
  subst hf
  have hrange : (!onlyBits w 0x00FF0003 || decide (fld w 23 16 ≥ 192) || decide (mode > 2)
      || fld w 1 0 != mode) = false := by
    rw [hb, hmode, bne_self_eq_false, decide_eq_false (Nat.not_le.mpr hc), decide_eq_false (Nat.not_lt.mpr hm)]
    rfl
  unfold State.fxLoopback
  rw [if_neg (by simp)]
  exact if_neg (Bool.eq_false_iff.mp hrange)

/-! ### EYE_SCAN (R76 to R80, R461) -/

/-- EYE_SCAN of the right length with its reserved bits 0, a lane that exists and an action and an eye of the table. -/
theorem State.fxEye_eq {w : Word} {c act : Nat} (hb : onlyBits w 0x00FF7733 = true) (hf : c = fld w 23 16)
    (hc : c < 192) (ha : act ≤ 2) (hact : fld w 1 0 = act) (heye : act = 0 → fld w 5 4 ≠ 3) (s : State) (q : Req) :
    s.fxEye act q [w] = (
      if act = 0 then
        if (s.lane c).eye.running then s.finish q 0x0801 eBusy 0 []
        else if s.chState c == stAsleep || s.chState c == stWaking then s.finish q 0x0801 eParam 0 []
        else (s.eyeStart c (fld w 5 4) (fld w 10 8) q).pendOn q 0x0801 (.eye c) none
      else if act = 1 then (s.endScan c 1).finish q 0x0801 stOk 0 []
      else s.finish q 0x0801 stOk 0
        (packWords ((List.range 1024).map fun i => s.eyeByte c (1024 * fld w 14 12 + i)))) := by
  subst hf
  have hrange : (!onlyBits w 0x00FF7733 || decide (fld w 23 16 ≥ 192) || decide (act > 2) || fld w 1 0 != act
      || (decide (act = 0) && decide (fld w 5 4 = 3))) = false := by
    rw [hb, hact, bne_self_eq_false, decide_eq_false (Nat.not_le.mpr hc), decide_eq_false (Nat.not_lt.mpr ha),
      ← Bool.decide_and, decide_eq_false fun h => heye h.1 h.2]
    rfl
  unfold State.fxEye
  rw [if_neg (by simp)]
  exact if_neg (Bool.eq_false_iff.mp hrange)

/-! ### The byte of an eye point (R78, R79) -/

/-- Of a predicate that holds up to some number and fails beyond it, the count below n tells where it holds. -/
theorem lt_countP_range_iff {P : Nat → Bool} (hP : ∀ i j, i ≤ j → P j = true → P i = true) (n k : Nat) :
    k < (List.range n).countP P ↔ k < n ∧ P k = true := by
  induction n with
  | zero => simp
  | succ n ih =>
    rw [List.range_succ, List.countP_append, List.countP_singleton]
    cases hn : P n
    · have hne : P k = true → k ≠ n := fun hk he => by simp [he, hn] at hk
      rw [if_neg Bool.false_ne_true, Nat.add_zero, ih]
      exact and_congr_left fun hk => by have := hne hk; omega
    · have hall : (List.range n).countP P = n :=
        (List.countP_eq_length.mpr fun j hj => hP j n (Nat.le_of_lt (List.mem_range.mp hj)) hn).trans List.length_range
      rw [hall, if_pos rfl]
      exact ⟨fun hk => ⟨hk, hP k n (Nat.lt_succ_iff.mp hk) hn⟩, And.left⟩

/-- The byte of a point with errors: the count stays below a byte's range. -/
theorem eyeCode_toNat (bits : Nat) {errs : Nat} (he : 0 < errs) :
    (eyeCode bits errs).toNat
      = max 1 ((List.range 254).countP fun k => errs ^ 20 * 10 ^ (2 * k + 1) ≤ bits ^ 20) := by
  have hle : (List.range 254).countP (fun k => errs ^ 20 * 10 ^ (2 * k + 1) ≤ bits ^ 20) ≤ 254 :=
    Nat.le_trans List.countP_le_length (Nat.le_of_eq List.length_range)
  rw [eyeCode, if_neg (Nat.ne_of_gt he), BitVec.toNat_ofNat]
  exact Nat.mod_eq_of_lt (by omega)

/-- The byte of a point reaches k where its error ratio is at most 10^(−(2k − 1)/20). -/
theorem le_eyeCode_iff (bits : Nat) {errs k : Nat} (he : 0 < errs) (hk : 1 ≤ k) :
    k ≤ (eyeCode bits errs).toNat ↔ k = 1 ∨ (k ≤ 254 ∧ errs ^ 20 * 10 ^ (2 * k - 1) ≤ bits ^ 20) := by
  have hmono : ∀ i j, i ≤ j → decide (errs ^ 20 * 10 ^ (2 * j + 1) ≤ bits ^ 20) = true →
      decide (errs ^ 20 * 10 ^ (2 * i + 1) ≤ bits ^ 20) = true := by
    intro i j hij hj
    have hpow : 10 ^ (2 * i + 1) ≤ 10 ^ (2 * j + 1) := Nat.pow_le_pow_right (by decide) (by omega)
    exact decide_eq_true (Nat.le_trans (Nat.mul_le_mul_left _ hpow) (of_decide_eq_true hj))
  obtain ⟨m, rfl⟩ := Nat.exists_eq_add_of_le' hk
  have hcount := lt_countP_range_iff hmono 254 m
  rw [decide_eq_true_eq] at hcount
  have hmax : ∀ x, m + 1 ≤ max 1 x ↔ m + 1 = 1 ∨ m < x := by omega
  rw [eyeCode_toNat bits he, hmax, show 2 * (m + 1) - 1 = 2 * m + 1 by omega]
  exact or_congr Iff.rfl hcount

/-- Settles O52: each command starts alone and its effect is the branch its conditions choose; the checker and the byte
of an eye point by their own lemmas. -/
theorem laneTests : Obligations.LaneTests := by
  refine ⟨?_, ?_, ?_, ?_, ?_, ?_, ?_, fun _ => rfl, fun bits errs k he hk _ => le_eyeCode_iff bits he hk⟩
  · intro s t q w c dir pat hr hb hf hc hdir hpat hact hdir0 hsup
    subst hdir hpat
    have hfx := State.fxPrbs_eq hb hf hc (by omega) hact s q
    have hok : ¬ (decide (fld w 9 8 = 0) || (decide (fld w 14 12 = 5) && !s.pam4 c)) = true := by
      rcases hsup with hlt | ⟨_, hpam⟩
      · simp [hdir0, Nat.ne_of_lt hlt]
      · simp [hdir0, hpam]
    rw [if_pos rfl, if_neg hok] at hfx
    refine ⟨fun hcl => next_ready hr q [w] (hfx.trans (if_pos hcl)), fun hcl ht => next_ready hr q [w] ?_⟩
    subst ht
    exact hfx.trans (if_neg (by simp [hcl]))
  · intro s t q w c hr hb hf hc hp
    refine ⟨fun hact hdir ht => ?_, fun hact => ?_, fun hact => ?_⟩
    all_goals have hfx := State.fxPrbs_eq hb hf hc hp hact s q
    · subst ht
      exact next_ready hr q [w] (hfx.trans (if_neg hdir))
    · exact next_ready hr q [w] hfx
    · exact next_ready hr q [w] hfx
  · intro s c a b ha hc hch hsd
    exact ⟨next_onCh ha hc (State.prbsTake_of_lit hch hsd a), next_onCh ha hc (State.prbsTake_of_lit hch hsd (a ++ b))⟩
  · intro p b x want n hn hx hwant
    refine ⟨Prbs.bit_of_seeding hn hx, fun h hl hne => ?_, fun h hl heq hg => ?_, fun h hl heq hg => ?_,
      fun h hl heq he hw => ?_, fun h hl hne he hw => ?_, fun h hl hne he => ?_⟩
    · rw [Prbs.bit_of_unlocked hn hx hwant h hl, if_neg hne, hl]
      rfl
    · rw [Prbs.bit_of_unlocked hn hx hwant h hl, if_pos heq, Nat.mod_eq_of_lt (by omega)]
      simp [hl, Nat.ne_of_lt hg]
    · rw [Prbs.bit_of_unlocked hn hx hwant h hl, if_pos heq, hg]
      rfl
    · have hb := b2n_bne_of_eq heq
      rw [Prbs.bit_of_locked hn hx hwant h hl (by omega) hw, hb]
      rfl
    · have hb := b2n_bne_of_ne hne
      rw [Prbs.bit_of_locked hn hx hwant h hl (by omega) hw, hb]
    · have hb := b2n_bne_of_ne hne
      rw [Prbs.bit_of_lost hn hx hwant h hl (by omega), hb]
  · intro s q w c hr hb hf hc
    refine ⟨fun hm hl => ?_, fun hm hl => ?_, fun hm hcl => ?_, fun hm hcl => ?_, fun hm hcl => ?_⟩
    all_goals have hfx := State.fxLoopback_eq hb hf hc (by omega) hm s q
    · exact next_ready hr q [w] (hfx.trans (if_pos hl))
    · exact next_ready hr q [w] (hfx.trans (if_neg hl))
    · exact next_ready hr q [w] (hfx.trans (if_neg (Bool.eq_false_iff.mp hcl)))
    · exact next_ready hr q [w] (hfx.trans (if_neg (Bool.eq_false_iff.mp hcl)))
    · exact next_ready hr q [w] (hfx.trans (if_pos hcl))
  · intro s q w c hr hb hf hc
    refine ⟨fun hact heye hrun => ?_, fun hact heye hrun ha hw => ?_, fun hact => ?_, fun hact => ?_⟩
    all_goals have hfx := State.fxEye_eq hb hf hc (by omega) hact (by omega) s q
    · exact next_ready hr q [w] (hfx.trans (if_pos hrun))
    · refine next_ready hr q [w] (hfx.trans ((if_neg (Bool.eq_false_iff.mp hrun)).trans (if_neg ?_)))
      simp [ha, hw]
    · exact next_ready hr q [w] hfx
    · exact next_ready hr q [w] hfx
  · intro s c errs ha hc hrun hdue
    exact next_onCh ha hc (if_pos (by simp [hrun, hdue]))

end Sys2Proof.Machine
end

section
/-!
The fox engines (03_frame_hunting.md): which channel a grant takes (R90, R91), the sequence of an attempt and its two
ends (R94, R95), and how an engine is free again or leaves service (R94, R99, R103).
-/
namespace Sys2Proof.Machine

/-- A row that acts while the device is alive does what its operation does. -/
theorem next_whileOn {s t u : State} (ha : s.alive = true) (h : t = u) : (.next (whileOn s t) : Out) = .next u :=
  congrArg Host.Outcome.next ((whileOn_of_alive t ha).trans h)

/-- A row whose operation does nothing does nothing. -/
theorem next_whileOn_self {s t : State} (h : t = s) : (.next (whileOn s t) : Out) = .next s := by
  subst h
  exact congrArg Host.Outcome.next (ite_self ..)

/-! ### The order of the waiting channels (R90) -/

/-- Channel c comes first among the channels of a list: by its age, then by its number. -/
def State.FirstOf (s : State) (l : List Nat) (c : Nat) : Prop :=
  ∀ d ∈ l, d = c ∨ (s.ch c).frm.reqAge.getD 0 < (s.ch d).frm.reqAge.getD 0
    ∨ (s.ch c).frm.reqAge.getD 0 = (s.ch d).frm.reqAge.getD 0 ∧ c < d

theorem State.mem_of_oldest {s : State} {l : List Nat} {c : Nat} (h : s.oldest l = some c) : c ∈ l := by
  induction l with
  | nil => cases h
  | cons a r ih =>
    rw [State.oldest] at h
    split at h
    · exact List.mem_cons_of_mem _ (ih h)
    · cases h; exact List.mem_cons_self ..
    · rename_i x d _ hd
      split at h <;> cases h
      · exact List.mem_cons_self ..
      · exact List.mem_cons_of_mem _ (ih hd)

/-- In an ascending list of channels that wait, the first of them is the one chosen. -/
theorem State.oldest_of_firstOf {s : State} {l : List Nat} {c : Nat} (hl : l.Pairwise (· < ·))
    (hw : ∀ d ∈ l, (s.ch d).frm.reqAge.isSome = true) (hc : c ∈ l) (h : s.FirstOf l c) : s.oldest l = some c := by
  induction l with
  | nil => cases hc
  | cons a r ih =>
    obtain ⟨hlt, hr⟩ := List.pairwise_cons.mp hl
    obtain ⟨n, hn⟩ := Option.isSome_iff_exists.mp (hw a (List.mem_cons_self ..))
    rw [State.oldest, hn]
    rcases List.mem_cons.mp hc with rfl | hcr
    · cases hd : s.oldest r with
      | none => rfl
      | some d =>
        have hle : n ≤ (s.ch d).frm.reqAge.getD 0 := by
          have hcd := h d (List.mem_cons_of_mem _ (State.mem_of_oldest hd))
          rw [hn] at hcd
          rcases hcd with rfl | hage | ⟨hage, _⟩
          · exact Nat.le_of_eq (by rw [hn]; rfl)
          · exact Nat.le_of_lt hage
          · exact Nat.le_of_eq hage
        exact if_pos hle
    · have hrest : s.oldest r = some c := ih hr (fun d hd => hw d (List.mem_cons_of_mem _ hd)) hcr
        fun d hd => h d (List.mem_cons_of_mem _ hd)
      have hac := hlt c hcr
      have hnle : ¬ n ≤ (s.ch c).frm.reqAge.getD 0 := by
        rcases h a (List.mem_cons_self ..) with rfl | hage | ⟨_, hca⟩
        · omega
        · rw [hn] at hage; exact Nat.not_le.mpr hage
        · omega
      rw [hrest]
      exact if_neg hnle

theorem State.waiting_ascending (s : State) (g : Nat) (roam : Bool) : (s.waiting g roam).Pairwise (· < ·) :=
  (List.pairwise_map.mpr (List.pairwise_lt_range.imp fun h => Nat.add_lt_add_left h _)).filter _

theorem State.reqAge_of_waiting {s : State} {g c : Nat} {roam : Bool} (h : c ∈ s.waiting g roam) :
    (s.ch c).frm.reqAge.isSome = true := by
  have := (List.mem_filter.mp h).2
  simp only [Bool.and_eq_true] at this
  exact this.1

/-- Of a group's waiting channels the one that has waited longest is chosen, the lowest number first of equals. -/
theorem State.oldest_waiting {s : State} {g c : Nat} {roam : Bool} (hc : c ∈ s.waiting g roam)
    (h : s.FirstOf (s.waiting g roam) c) : s.oldest (s.waiting g roam) = some c :=
  State.oldest_of_firstOf (s.waiting_ascending g roam) (fun _ => State.reqAge_of_waiting) hc h

theorem State.foxGrant_of_free {s : State} {e c : Nat} (he : e < 24) (hidle : (s.fox e).st = .idle)
    (hclk : (s.grp (e / 2)).clk = true) (hrun : s.running = true) (hc : s.oldest (s.waiting (e / 2) false) = some c) :
    s.foxGrant e = s.grant e c := by
  simp [State.foxGrant, he, hidle, hclk, hrun, hc]

theorem State.foxGrant_of_no_request {s : State} {e : Nat} (h : s.waiting (e / 2) false = []) : s.foxGrant e = s := by
  simp [State.foxGrant, h, State.oldest]

/-! ### The roaming engines (R91) -/

theorem State.roamGrant_of_free {s : State} {e g c : Nat} (hidle : (s.fox e).st = .idle) (hg : s.nextGroup = some g)
    (hc : s.oldest (s.waiting g true) = some c) : s.roamGrant e = { s.grant e c with lastRoam := g } := by
  simp [State.roamGrant, hidle, hg, hc]

theorem State.roamGrant_of_busy {s : State} {e : Nat} (h : (s.fox e).st ≠ .idle) : s.roamGrant e = s := by
  simp [State.roamGrant, h]

theorem State.roamGrant_of_no_group {s : State} {e : Nat} (h : s.nextGroup = none) : s.roamGrant e = s := by
  simp [State.roamGrant, h]

theorem State.roamingEpoch_of_edge {s : State} (ho : s.owl % 8 = 0) (hrun : s.running = true) :
    s.roamingEpoch = s.each [24, 25, 26, 27] State.roamGrant :=
  if_pos (by simp [ho, hrun])

/-! ### What a grant does to the other engines -/

theorem State.each_foxes {s : State} (l : List Nat) {f : State → Nat → State} (h : ∀ t n, (f t n).foxes = t.foxes) :
    (s.each l f).foxes = s.foxes := by
  induction l generalizing s with
  | nil => rfl
  | cons a r ih => exact ih.trans (h s a)

theorem State.push_foxes (s : State) (e : Event) : (s.push e).foxes = s.foxes := by
  unfold State.push
  split <;> rfl

theorem State.linkSendFor_foxes (s : State) (typ : Nat) (ws : List Word) (q : Option Req) :
    (s.linkSendFor typ ws q).foxes = s.foxes := by
  unfold State.linkSendFor
  (repeat' split) <;> rfl

theorem State.putReply_foxes (s : State) (r : Reply) : (s.putReply r).foxes = s.foxes := by
  unfold State.putReply
  split
  · rfl
  · rfl
  · rw [apply_ite State.foxes]
    exact (ite_self _).trans (State.linkSendFor_foxes ..)

theorem State.endScan_foxes (s : State) (c det : Nat) : (s.endScan c det).foxes = s.foxes := by
  unfold State.endScan
  split
  · extract_lets req got t u v
    have hv : v.foxes = s.foxes := State.push_foxes ..
    clear_value req
    cases req with
    | none => exact hv
    | some q => exact (State.putReply_foxes ..).trans hv
  · rfl

/-- A channel's change of state touches no fox engine. -/
theorem State.toState_foxes (s : State) (c v : Nat) : (s.toState c v).foxes = s.foxes := by
  unfold State.toState
  extract_lets was t u w
  have ht : t.foxes = s.foxes := State.each_foxes _ fun _ _ => rfl
  have hu : u.foxes = s.foxes := by
    simp only [u]
    split <;> exact ht
  have hw : w.foxes = s.foxes := by
    simp only [w]
    split
    · refine (State.each_foxes _ ?_).trans hu
      exact fun _ _ => rfl
    · exact hu
  split
  · exact (State.each_foxes _ fun _ _ => State.endScan_foxes ..).trans hw
  · exact hw

/-- A grant touches no engine but the one that takes the channel. -/
theorem State.fox_grant_other (s : State) {e k : Nat} (c : Nat) (h : k ≠ e) : (s.grant e c).fox k = s.fox k := by
  unfold State.grant
  extract_lets f t u v w x
  have hu : u.fox k = s.fox k := State.fox_modFox_other _ _ _ _ h
  have hw : w.foxes = u.foxes := State.toState_foxes ..
  calc Store.get {} w.foxes k = u.fox k := by rw [hw]; rfl
    _ = s.fox k := hu

theorem State.each_of_fixed_on {s : State} {f : State → Nat → State} {l : List Nat} (h : ∀ k ∈ l, f s k = s) :
    s.each l f = s := by
  induction l with
  | nil => rfl
  | cons a r ih =>
    exact (congrArg (fun t => State.each t r f) (h a (List.mem_cons_self ..))).trans
      (ih fun k hk => h k (List.mem_cons_of_mem _ hk))

/-- Where only one number of a list has an effect, going through the list is that effect. -/
theorem State.each_of_one {s : State} {f : State → Nat → State} {e : Nat} {l : List Nat} (hl : l.Nodup) (he : e ∈ l)
    (hbefore : ∀ k ∈ l, k ≠ e → f s k = s) (hafter : ∀ k ∈ l, k ≠ e → f (f s e) k = f s e) : s.each l f = f s e := by
  induction l with
  | nil => cases he
  | cons a r ih =>
    obtain ⟨har, hr⟩ := List.nodup_cons.mp hl
    by_cases hae : a = e
    · subst hae
      exact State.each_of_fixed_on fun k hk => hafter k (List.mem_cons_of_mem _ hk) fun hka => har (hka ▸ hk)
    · have her : e ∈ r := (List.mem_cons.mp he).resolve_left (Ne.symm hae)
      exact (congrArg (fun t => State.each t r f) (hbefore a (List.mem_cons_self ..) hae)).trans
        (ih hr her (fun k hk => hbefore k (List.mem_cons_of_mem _ hk)) fun k hk => hafter k (List.mem_cons_of_mem _ hk))

/-- At an epoch with one free roaming engine that engine alone serves. -/
theorem State.each_roamGrant_of_one_free {s : State} {e g c : Nat} (h24 : 24 ≤ e) (h28 : e < 28)
    (hbusy : ∀ k ∈ [24, 25, 26, 27], k ≠ e → (s.fox k).st ≠ .idle) (hidle : (s.fox e).st = .idle)
    (hg : s.nextGroup = some g) (hc : s.oldest (s.waiting g true) = some c) :
    s.each [24, 25, 26, 27] State.roamGrant = { s.grant e c with lastRoam := g } := by
  have hgrant := State.roamGrant_of_free hidle hg hc
  have he : e ∈ [24, 25, 26, 27] := by simp; omega
  refine (State.each_of_one (by decide) he (fun k hk hke => State.roamGrant_of_busy (hbusy k hk hke))
    fun k hk hke => State.roamGrant_of_busy ?_).trans hgrant
  rw [hgrant]
  show ((s.grant e c).fox k).st ≠ .idle
  rw [State.fox_grant_other s c hke]
  exact hbusy k hk hke

/-- Settles O15: the channel that comes first is the one chosen, for its group's engine and at an epoch. -/
theorem foxGrants : Obligations.FoxGrants := by
  refine ⟨?_, ?_, ?_, ?_, ?_, ?_⟩
  · intro s e c ha he hidle hclk hrun hc hfirst
    exact next_whileOn ha (State.foxGrant_of_free he hidle hclk hrun (State.oldest_waiting hc hfirst))
  · intro s e _ hnone
    exact next_whileOn_self (State.foxGrant_of_no_request hnone)
  · intro s ha ho hrun
    refine next_whileOn ha ((State.roamingEpoch_of_edge ho hrun).trans ?_)
    simp only [State.each, List.foldl_cons, List.foldl_nil]
  · intro s e g c hidle hg hc hfirst
    exact State.roamGrant_of_free hidle hg (State.oldest_waiting hc hfirst)
  · intro s e h
    exact h.elim State.roamGrant_of_busy State.roamGrant_of_no_group
  · intro s e g c ha ho hrun h24 h28 hbusy hidle hg hc _ _ hfirst
    exact next_whileOn ha ((State.roamingEpoch_of_edge ho hrun).trans
      (State.each_roamGrant_of_one_free h24 h28 hbusy hidle hg (State.oldest_waiting hc hfirst)))

/-! ### The sequence of an attempt (R83, R94) -/

theorem State.foxMatch_of_seen {s : State} {e w : Nat} (hst : (s.fox e).st = .search) (hw : s.foxSees e w = true)
    (off : Nat) : s.foxMatch e off w = s.modFox e fun f => { f with st := .candidate, offset := off, lookAt := s.owl } :=
  if_pos (by simp [hst, hw])

theorem State.foxMatch_of_not_seen {s : State} {e w : Nat} (hw : s.foxSees e w = false) (off : Nat) :
    s.foxMatch e off w = s :=
  if_neg (by simp [hw])

theorem State.foxNoMatch_of_frame {s : State} {e : Nat} (hst : (s.fox e).st = .search)
    (hp : s.framePassed ((s.fox e).ch.getD 0) (s.fox e).lookAt = true) : s.foxNoMatch e = s.foxFail e :=
  if_pos (by simp [hst, hp])

/-- The alignment word one frame after the match: a right one begins the confirmation, or ends it where one word is
enough; a wrong one begins the search again once. -/
theorem State.foxCandidate_of_frame {s : State} {e : Nat} (hst : (s.fox e).st = .candidate)
    (hp : s.framePassed ((s.fox e).ch.getD 0) (s.fox e).lookAt = true) (w : Nat) :
    s.foxCandidate e w = (if s.foxSees e w then
        if s.confirmN ((s.fox e).ch.getD 0) - 1 = 0
        then (s.modFox e fun f => { f with
          st := .confirm, left := s.confirmN ((s.fox e).ch.getD 0) - 1, lookAt := s.owl }).foxHandback e
        else s.modFox e fun f => { f with
          st := .confirm, left := s.confirmN ((s.fox e).ch.getD 0) - 1, lookAt := s.owl }
      else if (s.fox e).second then s.foxFail e
      else s.modFox e fun f => { f with st := .search, second := true, lookAt := s.owl }) :=
  if_pos (by simp [hst, hp])

/-- A further alignment word: a wrong one fails the attempt, the last right one hands the channel back. -/
theorem State.foxConfirm_of_frame {s : State} {e : Nat} (hst : (s.fox e).st = .confirm)
    (hp : s.framePassed ((s.fox e).ch.getD 0) (s.fox e).lookAt = true) (w : Nat) :
    s.foxConfirm e w = (if s.foxSees e w then
        if (s.fox e).left ≤ 1
        then (s.modFox e fun f => { f with left := f.left - 1, lookAt := s.owl }).foxHandback e
        else s.modFox e fun f => { f with left := f.left - 1, lookAt := s.owl }
      else s.foxFail e) :=
  if_pos (by simp [hst, hp])

/-- Settles O16: each word is one branch of the engine's state. -/
theorem foxAttempt : Obligations.FoxAttempt := by
  refine ⟨?_, ?_, ?_, ?_, ?_, ?_, ?_, ?_, ?_, ?_⟩
  · intro s x ha hst hw
    exact next_whileOn ha (State.foxMatch_of_seen hst hw x.offset)
  · intro s x hw
    exact next_whileOn_self (State.foxMatch_of_not_seen hw x.offset)
  · intro s e ha hst hp
    exact next_whileOn ha (State.foxNoMatch_of_frame hst hp)
  · intro s e w ha hst hp hw hn
    refine next_whileOn ha ((State.foxCandidate_of_frame hst hp w).trans ?_)
    rw [if_pos hw, if_neg (by omega)]
  · intro s e w ha hst hp hw hn
    refine next_whileOn ha ((State.foxCandidate_of_frame hst hp w).trans ?_)
    rw [if_pos hw, hn, if_pos rfl]
  · intro s e w ha hst hp hw hfirst
    refine next_whileOn ha ((State.foxCandidate_of_frame hst hp w).trans ?_)
    rw [if_neg (by simp [hw]), if_neg (by simp [hfirst])]
  · intro s e w ha hst hp hw hsecond
    refine next_whileOn ha ((State.foxCandidate_of_frame hst hp w).trans ?_)
    rw [if_neg (by simp [hw]), if_pos hsecond]
  · intro s e w ha hst hp hw hleft
    refine next_whileOn ha ((State.foxConfirm_of_frame hst hp w).trans ?_)
    rw [if_pos hw, if_neg (by omega)]
  · intro s e w ha hst hp hw hleft
    refine next_whileOn ha ((State.foxConfirm_of_frame hst hp w).trans ?_)
    rw [if_pos hw, if_pos hleft]
  · intro s e w ha hst hp hw
    exact next_whileOn ha ((State.foxConfirm_of_frame hst hp w).trans (if_neg (by simp [hw])))

/-! ### The two ends of an attempt (R94, R95) -/

theorem State.modFox_modFox {s : State} (hw : Store.wf {} s.foxes = true) (e : Nat) (f g : Fox → Fox) :
    (s.modFox e f).modFox e g = s.modFox e fun x => g (f x) := by
  have hget : Store.get {} (Store.mod {} s.foxes e f) e = f (Store.get {} s.foxes e) := by
    rw [Store.get_mod _ _ _ _ _ hw, if_pos rfl]
  unfold State.modFox
  simp only [Store.mod] at hget ⊢
  rw [hget, Store.set_set _ _ none _ _ _ hw]

/-- A channel's change of state takes no time. -/
theorem State.toState_owl (s : State) (c v : Nat) : (s.toState c v).owl = s.owl :=
  congrArg (fun k => k.2.2.1) (s.toState_core c v)

/-- The attempt fails on the channel that the engine serves. -/
theorem State.foxFail_of_serving {s u : State} {e c : Nat} (hc : (s.fox e).ch = some c) (hu : u = s.attemptFailed c) :
    s.foxFail e = (((u.modFox e fun f => { f with st := .release, endAt := some (s.owl + 2) }).toState c
      stWaitFox).setCrf c 4 28 24 31).modFrm c fun f => { f with waitFrom := some s.owl } := by
  subst hu
  simp only [State.foxFail, hc]
  exact congrArg (fun n => State.modFrm _ c fun f => { f with waitFrom := some n }) (State.toState_owl _ c stWaitFox)

/-- The frame is found on the channel that the engine serves. -/
theorem State.foxHandback_of_serving {s u : State} {e c : Nat} (hc : (s.fox e).ch = some c)
    (hu : u = ((((s.modFox e fun f => { f with st := .handback, endAt := some (s.owl + 2) }).toState c
      stInFrame).setCrb c 4 22 false).setCrb c 4 21 false).setCrf c 4 19 16 0) :
    s.foxHandback e = (u.modFrm c fun f => { f with
      errs := 0, mfas := none, mfBad := 0, mfGood := 0, offset := (u.fox e).offset, phase := u.owl, par := [] }).oofOff
        c := by
  subst hu
  simp only [State.foxHandback, hc]
  rfl

/-- Settles O17: an attempt without a match fails, and its last right word hands the channel back. -/
theorem foxEnds : Obligations.FoxEnds := by
  constructor
  · intro s e c ha hst hc hp
    have hp' : s.framePassed ((s.fox e).ch.getD 0) (s.fox e).lookAt = true := by rw [hc]; exact hp
    exact ⟨_, rfl, next_whileOn ha ((State.foxNoMatch_of_frame hst hp').trans (State.foxFail_of_serving hc rfl))⟩
  · intro s e c w ha hst hc hp hw hleft hwf
    have hp' : s.framePassed ((s.fox e).ch.getD 0) (s.fox e).lookAt = true := by rw [hc]; exact hp
    refine ⟨_, rfl, next_whileOn ha ((State.foxConfirm_of_frame hst hp' w).trans ?_)⟩
    rw [if_pos hw, if_pos hleft]
    refine State.foxHandback_of_serving ?_ ?_
    · rw [State.fox_modFox_same _ _ _ (s.wf_foxes hwf)]
      exact hc
    · rw [State.modFox_modFox (s.wf_foxes hwf)]
      rfl

/-! ### The engine is free again, or leaves service (R94, R99, R103) -/

theorem State.foxHandbackEnd_of_due {s : State} {e c : Nat} (hst : (s.fox e).st = .handback)
    (hdue : s.due (s.fox e).endAt = true) (hc : (s.fox e).ch = some c) (he : s.crf c 4 28 24 = e) :
    s.foxHandbackEnd e = (s.modFox e fun _ => {}).setCrf c 4 28 24 31 := by
  have hserves : (s.modFox e fun _ => {}).crf c 4 28 24 = e := he
  simp [State.foxHandbackEnd, hst, hdue, hc, hserves]

theorem State.foxReleaseEnd_of_due {s : State} {e c : Nat} (hst : (s.fox e).st = .release)
    (hdue : s.due (s.fox e).endAt = true) (hc : (s.fox e).ch = some c) :
    s.foxReleaseEnd e = (s.modFox e fun _ => {}).rerequest c := by
  simp [State.foxReleaseEnd, hst, hdue, hc]

/-- The engine is out of service, and the collector has its fault. -/
def State.foxOut (s : State) (e : Nat) : State :=
  (s.modFox e fun _ => { st := .outOfService }).report { src := 12, group := if e < 24 then some (e / 2) else none }

theorem State.foxParityFail_of_free {s : State} {e : Nat} (he : e < 28) (hst : (s.fox e).st = .idle)
    (hc : (s.fox e).ch = none) : s.foxParityFail e = s.foxOut e := by
  simp [State.foxParityFail, State.foxOut, he, hst, hc]

/-- An engine that searches gives its channel back with the age of its request. -/
theorem State.foxParityFail_of_search {s u : State} {e c : Nat} (he : e < 28) (hst : (s.fox e).st = .search)
    (hc : (s.fox e).ch = some c) (hu : u = s.foxOut e) :
    s.foxParityFail e = (if u.crf c 4 28 24 = e && u.chState c == stHunting then
        ((u.setCrf c 4 28 24 31).toState c stWaitFox).modFrm c fun r =>
          { r with reqAge := some (s.fox e).age, waitFrom := some u.owl }
      else u) := by
  subst hu
  simp only [State.foxParityFail, he, hst, hc, decide_true, Bool.true_and]
  rfl

/-- Settles O18: each end of an engine's service, and the end of the hold. -/
theorem foxRelease : Obligations.FoxRelease := by
  refine ⟨?_, ?_, ?_, ?_, ?_, ?_⟩
  · intro s e c ha hst hdue hc he
    exact next_whileOn ha (State.foxHandbackEnd_of_due hst hdue hc he)
  · intro s e c ha hst hdue hc
    exact next_whileOn ha (State.foxReleaseEnd_of_due hst hdue hc)
  · intro s c ha hdue
    exact next_whileOn ha (if_pos hdue)
  · intro s e ha he hst hc
    refine next_whileOn ha ((State.foxParityFail_of_free (by omega) hst hc).trans ?_)
    rw [State.foxOut, if_pos he]
  · intro s e ha h24 he hst hc
    refine next_whileOn ha ((State.foxParityFail_of_free he hst hc).trans ?_)
    rw [State.foxOut, if_neg (by omega)]
  · intro s e c ha he hst hc
    exact ⟨_, rfl, next_whileOn ha (State.foxParityFail_of_search he hst hc rfl)⟩

end Sys2Proof.Machine
end

section
/-!
A received frame (R51, R64, R70, R85, R86, R104), and the acceptance of overhead and multiframe (R87, R120, R122).
-/
namespace Sys2Proof.Machine

/-! ### The frame at the receive side (R51, R64, R70, R104) -/

section
variable {s : State} {c : Nat} (he : s.enabled c = true) (hm : s.isMember c = false) (hst : s.chState c ≠ stFaulted)
  (ha : (s.lane c).rxAsleep = false) (hch : s.checking c = false)
include he hm hst ha hch

/-- An awake channel that owns its bond takes a frame as its lanes give it. -/
theorem State.rxFrame_of_awake (f : RxFrame) : s.rxFrame c f = (s.rxLanes c f).2.rxTaken c (s.rxLanes c f).1 :=
  if_neg (by simp [he, hm, hst, ha, hch])

/-- Without symbols the frame stands as the row gives it. -/
theorem State.rxFrame_of_no_symbols {f : RxFrame} (hl : f.lanes = []) : s.rxFrame c f = s.rxTaken c f := by
  rw [State.rxFrame_of_awake he hm hst ha hch, State.rxLanes, hl]
  rfl

/-- A framed line reads the frame from the symbols of its lanes, in the order that the aligner found. -/
theorem State.rxFrame_of_symbols {f : RxFrame} {bits : List Bool} (hl : f.lanes ≠ []) (hf : s.framed c = true)
    (hb : bits = (byOrder (s.ch c).frm.order (s.lanesIn c f.lanes).1).flatten) :
    s.rxFrame c f = (s.lanesIn c f.lanes).2.rxTaken c { f with raw := (pieces 8 bits.length bits).map byteOf } := by
  subst hb
  have hlanes : ¬ f.lanes.isEmpty = true := by simpa using hl
  rw [State.rxFrame_of_awake he hm hst ha hch, State.rxLanes, if_neg hlanes]
  simp only [hf, if_true]

end

/-! ### What the receive side does with it (R85, R86) -/

theorem State.rxTaken_of_aligned {s u : State} {c : Nat} {f : RxFrame} (hf : s.framed c = true)
    (hal : s.aligned c = true) (hu : u = s.verify c (fasOk (s.verifyLen c) f.fas)) :
    s.rxTaken c f = if u.aligned c then u.rxInFrame c f else u.rxOutOfFrame c f := by
  subst hu
  simp only [State.rxTaken, hf, hal, if_true]

theorem State.rxTaken_of_unaligned {s : State} {c : Nat} (hf : s.framed c = true) (hal : s.aligned c = false)
    (f : RxFrame) : s.rxTaken c f = s.rxOutOfFrame c f := by
  simp only [State.rxTaken, hf, hal, if_true, Bool.false_eq_true, if_false]

/-- A frame of an Ethernet client: the payload type of its container, the words of its line, and its ordered set. -/
theorem State.rxTaken_of_ethernet {s u v : State} {c : Nat} {f : RxFrame} (hf : s.framed c = false)
    (hk : isEth (s.client c) = true) (hst : s.chState c = stInFrame)
    (hu : u = (match f.ptype with | some p => s.rxPtype c p | none => s).rxCodes c f.codes)
    (hv : v = if f.oh.isEmpty then u else u.capture c f) :
    s.rxTaken c f = (if !f.oh.isEmpty && v.client c == 0x20 && v.role c == 5 then
      v.modCh c fun h => { h with an := anTake h.an v.owl f.oh } else v) := by
  subst hv hu
  simp only [State.rxTaken, hf, hk, hst, beq_self_eq_true, Bool.and_self, if_true, Bool.false_eq_true, if_false]
  cases f.oh.isEmpty <;> rfl

/-! ### The verifier (R83, R85) -/

theorem State.chState_modFrm (s : State) (c d : Nat) (f : Framer → Framer) : (s.modFrm c f).chState d = s.chState d := rfl

/-- IN_FRAME, the first wrong alignment word takes the channel to OOF_HOLD, and a right one leaves it. -/
theorem State.verify_in_frame {s : State} {c : Nat} (hst : s.chState c = stInFrame) :
    s.verify c false = (s.modFrm c fun f => { f with errs := 1 }).toState c stOofHold
      ∧ s.verify c true = s.modFrm c fun f => { f with errs := 0 } := by
  constructor
  · simp [State.verify, hst]
  · simp [State.verify, State.chState_modFrm, hst, stInFrame, stOofHold]

/-- In OOF_HOLD a right alignment word returns the channel to IN_FRAME, and the wrong ones count up to OOF_N. -/
theorem State.verify_oof_hold {s : State} {c : Nat} (hst : s.chState c = stOofHold) :
    s.verify c true = (s.modFrm c fun f => { f with errs := 0 }).toState c stInFrame
      ∧ s.verify c false = (if (s.ch c).frm.errs + 1 ≥ s.oofN c then s.outOfFrame c false
        else s.modFrm c fun f => { f with errs := (s.ch c).frm.errs + 1 }) := by
  constructor
  · simp [State.verify, State.chState_modFrm, hst]
  · simp [State.verify, hst, stInFrame, stOofHold]

/-- Settles O21: the guards of the receive side are met, and the alignment, the client and the symbols choose what the
frame does. -/
theorem receivedFrames : Obligations.ReceivedFrames := by
  refine ⟨?_, ?_, ?_, ?_, ?_, ?_⟩
  · intro s c f ha hc he hm hst has hch hl hf hal
    exact ⟨_, rfl, next_onCh ha hc
      ((State.rxFrame_of_no_symbols he hm hst has hch hl).trans (State.rxTaken_of_aligned hf hal rfl))⟩
  · intro s c f ha hc he hm hst has hch hl hf hal
    exact next_onCh ha hc
      ((State.rxFrame_of_no_symbols he hm hst has hch hl).trans (State.rxTaken_of_unaligned hf hal f))
  · intro s c f ha hc he hm hst has hch hl hf hk
    have hnf : s.chState c ≠ stFaulted := by rw [hst]; decide
    exact ⟨_, _, rfl, rfl, next_onCh ha hc
      ((State.rxFrame_of_no_symbols he hm hnf has hch hl).trans (State.rxTaken_of_ethernet hf hk hst rfl rfl))⟩
  · intro s c f ha hc he hm hst has hch hf hl
    exact ⟨_, rfl, _, rfl, next_onCh ha hc (State.rxFrame_of_symbols he hm hst has hch hl hf rfl)⟩
  · intro s c hst
    exact State.verify_in_frame hst
  · intro s c hst
    obtain ⟨hright, hwrong⟩ := State.verify_oof_hold hst
    exact ⟨hright, fun hn => hwrong.trans (if_neg (by omega)), fun hn => hwrong.trans (if_pos hn)⟩

/-! ### Acceptance by identical repetition (R120, R122) -/

section
variable {α : Type} [DecidableEq α] (a : Accept α) (n : Nat) (v : α)

theorem Accept.step_cand : (a.step n v).1.cand = some v := by
  unfold Accept.step
  extract_lets run
  split <;> rfl

/-- A repetition goes on with the run, up to its length. -/
theorem Accept.step_run_of_same (h : a.cand = some v) : (a.step n v).1.run = min n (a.run + 1) := by
  unfold Accept.step
  simp only [if_pos h]
  split <;> rfl

/-- A different value starts a new run. -/
theorem Accept.step_run_of_other (h : a.cand ≠ some v) : (a.step n v).1.run = 1 := by
  unfold Accept.step
  simp only [if_neg h]
  split <;> rfl

/-- The value is accepted where its run is complete; until then the accepted value stays. -/
theorem Accept.step_acc : (a.step n v).1.acc = if (a.step n v).1.run ≥ n then some v else a.acc := by
  unfold Accept.step
  extract_lets run
  by_cases h : run ≥ n <;> simp [h]

/-- A reception counts in a run of at least one. -/
theorem Accept.one_le_step_run (h : 1 ≤ n) : 1 ≤ (a.step n v).1.run := by
  by_cases hc : a.cand = some v
  · rw [Accept.step_run_of_same a n v hc]; omega
  · exact Nat.le_of_eq (Accept.step_run_of_other a n v hc).symm

end

/-- Three identical receptions are enough, whatever came before. -/
theorem Accept.acc_of_three {α : Type} [DecidableEq α] (a : Accept α) (v : α) :
    (((a.step 3 v).1.step 3 v).1.step 3 v).1.acc = some v := by
  have h1 := a.one_le_step_run 3 v (by decide)
  have h2 := (a.step 3 v).1.step_run_of_same 3 v (a.step_cand 3 v)
  have h3 := ((a.step 3 v).1.step 3 v).1.step_run_of_same 3 v (Accept.step_cand ..)
  rw [Accept.step_acc, if_pos (by omega)]

/-- The first and the second reception of a different value keep the accepted one. -/
theorem Accept.acc_of_other {α : Type} [DecidableEq α] {a : Accept α} {v : α} (h : a.cand ≠ some v) :
    (a.step 3 v).1.acc = a.acc ∧ ((a.step 3 v).1.step 3 v).1.acc = a.acc := by
  have h1 := a.step_run_of_other 3 v h
  have h2 := (a.step 3 v).1.step_run_of_same 3 v (a.step_cand 3 v)
  have hacc : (a.step 3 v).1.acc = a.acc := by rw [Accept.step_acc, if_neg (by omega)]
  refine ⟨hacc, ?_⟩
  rw [Accept.step_acc, if_neg (by omega), hacc]

/-! ### Multiframe alignment (R87) -/

section
variable {f : Framer} {p v : Nat} (hp : f.mfas = some p)
include hp

/-- In multiframe the fifth MFAS out of sequence in a row is a loss. -/
theorem Framer.mfasStep_of_out_of_sequence (hv : (p + 1) % 256 ≠ v % 256) (hin : f.mfOut = false) :
    f.mfasStep v = (if f.mfBad + 1 ≥ 5 then { f with mfas := some (v % 256), mfOut := true, mfBad := 0, mfGood := 0 }
      else { f with mfas := some (v % 256), mfBad := f.mfBad + 1 }) := by
  simp [Framer.mfasStep, hp, hin, hv]

/-- Out of multiframe the second MFAS in sequence in a row finds it again. -/
theorem Framer.mfasStep_of_in_sequence (hv : (p + 1) % 256 = v % 256) (hout : f.mfOut = true) :
    f.mfasStep v = (if f.mfGood + 1 ≥ 2 then { f with mfas := some (v % 256), mfOut := false, mfGood := 0, mfBad := 0 }
      else { f with mfas := some (v % 256), mfGood := f.mfGood + 1 }) := by
  simp [Framer.mfasStep, hp, hout, hv]

end

/-- Settles O22: the run of a value and the runs of MFAS, at their last reception and before it. -/
theorem acceptance : Obligations.Acceptance := by
  refine ⟨fun a l => a.acc_of_three l, fun a l m hlm hm => ?_, fun f p v hp hv hin => ?_, fun f p v hp hv hout => ?_⟩
  · exact Accept.acc_of_other (by rw [hm]; exact fun h => hlm (Option.some.inj h).symm)
  · rw [Framer.mfasStep_of_out_of_sequence hp hv hin]
    split
    · exact ⟨(decide_eq_true (by omega)).symm, rfl⟩
    · exact ⟨hin.trans (decide_eq_false (by omega)).symm, rfl⟩
  · rw [Framer.mfasStep_of_in_sequence hp hv hout]
    split
    · exact ⟨(decide_eq_false (by omega)).symm, rfl⟩
    · exact ⟨hout.trans (decide_eq_true (by omega)).symm, rfl⟩

end Sys2Proof.Machine
end

section
/-!
The timers of a received frame (R126 to R128, R150, R153, R205): captures that are full, dLOM, the client signal fail of
GFP-F, and delineation at a core header.
-/
namespace Sys2Proof.Machine

/-! ### Gates that are open -/

/-- A row about a channel of a group whose clock runs does what its operation does (R13). -/
theorem next_onGrpClk {s t u : State} {c : Nat} (ha : s.alive = true) (hc : c < 192)
    (hclk : (s.grp (c / 16)).clk = true) (h : t = u) : (.next (onGrpClk c s t) : Out) = .next u :=
  congrArg Host.Outcome.next ((if_pos (by simp [hc, ha, hclk])).trans h)

/-! ### Frame capture and byte trace (R127, R128) -/

theorem State.captureDone_of_full {s : State} {c : Nat} (hr : (s.ch c).cap.running = true)
    (hf : (s.ch c).cap.frames ≥ s.captLen c) :
    s.captureDone c
      = (s.setCrb c 11 29 true).modCap c fun k => { k with running := false, trigSeen := false, frames := 0 } :=
  if_pos (by simp [hr, hf])

theorem State.traceDone_of_full {s : State} {c : Nat} (hr : (s.ch c).cap.traceRun = true)
    (hf : (s.ch c).cap.samples ≥ 512) :
    s.traceDone c = (s.setCrb c 11 28 true).modCap c fun k => { k with traceRun := false, samples := 0, skip := 0 } :=
  if_pos (by simp [hr, hf])

/-! ### dLOM (R205 bit 3) -/

theorem State.dlomExpiry_of_otn {s : State} {c : Nat} (hk : isOtn (s.client c) = true)
    (hdue : s.due (s.ch c).mon.lomAt = true) (hoof : s.def_ c dOOF = false) (hheld : s.defHeld c dLOM = false) :
    s.dlomExpiry c = ((s.modMon c fun m => { m with lomAt := none }).setDef c dLOM (s.ch c).frm.mfOut).syncSsf c := by
  simp only [State.dlomExpiry, hoof, hk, hdue, hheld, Bool.not_false, Bool.and_self, Bool.false_eq_true, if_false,
    if_true]

/-! ### Client signal fail (R153, R205 bit 18) -/

section
variable {s : State} {c : Nat} (hg : s.gfpRole c = true) (he : s.enabled c = true) (hm : s.isMember c = false)
include hg he hm

/-- The client of a GFP-F mapper has failed and no CSF frame has been sent since: one is sent, and the next is due
100 ms later. -/
theorem State.csfTimer_of_failed {u : State} {upi : Nat} {z : List Byte × List Bool} (hen : s.crb c 1 5 = true)
    (hf : s.clientFailed c = true) (hsend : (s.ch c).mon.csfSend = none) (hupi : upi = if s.def_ c dLOS then 1 else 2)
    (hz : z = gfpFrame (s.pkt c).scrOut 4 upi false [])
    (hu : u = s.modCh c fun h => { h with
      mon := { h.mon with csfSend := some (s.owl + 100000) }
      tx := { h.tx with csfUpi := some upi }
      pkt := { h.pkt with scrOut := z.2 } }) :
    s.csfTimer c = { u with mapped := u.mapped ++ [{ ch := c, len := 0, gfp := z.1 }] } := by
  subst hu hz hupi
  have hfails : (s.gfpRole c && s.enabled c && !s.isMember c && s.crb c 1 5 && s.clientFailed c) = true := by
    simp [hg, he, hm, hen, hf]
  have hfirst : ((s.ch c).mon.csfSend.isNone || s.due (s.ch c).mon.csfSend) = true := by simp [hsend]
  exact (if_pos hfails).trans (if_pos hfirst)

theorem State.delineation_of_role (core : Nat) : s.delineation c core = s.delineate c core :=
  if_pos (by simp [hg, he, hm])

end

theorem State.dcsfExpiry_of_due {s : State} {c : Nat} (hdue : s.due (s.ch c).mon.csfAt = true)
    (hheld : s.defHeld c dCSF = false) :
    s.dcsfExpiry c = (s.setDef c dCSF false).modMon c fun m => { m with csfAt := none } :=
  if_pos (by simp [hdue, hheld])

/-! ### Delineation (R150) -/

/-- A right core header moves delineation one state on. -/
theorem gfpNext_of_right {g : GfpState} {core : Nat} {x : Nat × Bool} (h : coreRead (g == .sync) core = some x) :
    gfpNext g core = if g = .hunt then .presync else .sync := by
  cases g <;> simp only [gfpNext, h] <;> rfl

/-- A wrong one ends it. -/
theorem gfpNext_of_wrong {g : GfpState} {core : Nat} (h : coreRead (g == .sync) core = none) :
    gfpNext g core = .hunt := by
  cases g <;> simp only [gfpNext, h]

/-- The first right core header does not reach SYNC; every later one does. -/
theorem gfpState_not_sync (g : GfpState) :
    ((if g = .hunt then .presync else .sync : GfpState) != .sync) = (g == .hunt) := by
  cases g <;> rfl

theorem State.delineate_of_right {s : State} {c core n : Nat}
    (h : coreRead ((s.ch c).mon.gfp == .sync) core = some (n, false)) :
    s.delineate c core
      = (s.modMon c fun m => { m with gfp := if (s.ch c).mon.gfp = .hunt then .presync else .sync }).setDef c dLFD
          ((s.ch c).mon.gfp == .hunt) := by
  simp only [State.delineate, h, gfpNext_of_right h, gfpState_not_sync, Bool.false_eq_true, if_false]

/-- In SYNC a single bit error is corrected and counted. -/
theorem State.delineate_of_corrected {s : State} {c core n : Nat} (hs : (s.ch c).mon.gfp = .sync)
    (h : coreRead true core = some (n, true)) :
    s.delineate c core = ((s.fixedErr c 3 1).modMon c fun m => { m with gfp := .sync }).setDef c dLFD false := by
  have hr : coreRead ((s.ch c).mon.gfp == .sync) core = some (n, true) := by rw [hs]; exact h
  simp only [State.delineate, hr, gfpNext_of_right hr, gfpState_not_sync, if_true]
  rw [hs]
  rfl

theorem State.delineate_of_wrong {s : State} {c core : Nat} (h : coreRead ((s.ch c).mon.gfp == .sync) core = none) :
    s.delineate c core
      = ((if (s.ch c).mon.gfp = .hunt then s else s.fixedErr c 3 1).modMon c fun m => { m with gfp := .hunt }).setDef c
          dLFD true := by
  simp only [State.delineate, h, gfpNext_of_wrong h]
  cases (s.ch c).mon.gfp <;> rfl

/-- Settles O23: each row finds its gate open and its operation in the one case that its conditions choose. -/
theorem receiveTimers : Obligations.ReceiveTimers := by
  refine ⟨?_, ?_, ?_, ?_, ?_, ?_, ?_, ?_⟩
  · intro s c ha hc hr hf
    exact next_onCh ha hc (State.captureDone_of_full hr hf)
  · intro s c ha hc hr hf
    exact next_onCh ha hc (State.traceDone_of_full hr hf)
  · intro s c ha hc hk hdue hoof hheld
    exact next_onCh ha hc (State.dlomExpiry_of_otn hk hdue hoof hheld)
  · intro s c ha hc hclk hg he hm hen hf hsend
    exact ⟨_, _, _, rfl, rfl, rfl,
      next_onGrpClk ha hc hclk (State.csfTimer_of_failed hg he hm hen hf hsend rfl rfl rfl)⟩
  · intro s c ha hc hclk hdue hheld
    exact next_onGrpClk ha hc hclk (State.dcsfExpiry_of_due hdue hheld)
  · intro s c core n ha hc hclk hg he hm h
    exact next_onGrpClk ha hc hclk ((State.delineation_of_role hg he hm core).trans (State.delineate_of_right h))
  · intro s c core n ha hc hclk hg he hm hs h
    exact next_onGrpClk ha hc hclk ((State.delineation_of_role hg he hm core).trans (State.delineate_of_corrected hs h))
  · intro s c core ha hc hclk hg he hm h
    exact next_onGrpClk ha hc hclk ((State.delineation_of_role hg he hm core).trans (State.delineate_of_wrong h))

end Sys2Proof.Machine
end

section
/-!
Overhead streams and mapper stores (R134, R135, R146, R171): a received frame joins its stream's buffer or is counted,
the slip of a mapper store by the kind of its channel, and the return of a BMP line to its client's clock.
-/
namespace Sys2Proof.Machine

/-! ### Reception on a stream (R134, R135) -/

section
variable {s : State} {n : Nat} {l : List Byte} (hon : s.streamOn n = true) (hcmd : bit (s.streamWord n) 30 = false)
  (he : s.enabled (fld (s.streamWord n) 23 16) = true) (hal : s.aligned (fld (s.streamWord n) 23 16) = true)
  (hl : l ≠ []) (hmode : s.streamMode n ≠ 2)
include hon hcmd he hal hl hmode

/-- A stream of frames that is no command source, on a line that holds its frame, judges the FCS and then the length. -/
theorem State.dccRx_eq (fcsOk : Bool) :
    s.dccRx n l fcsOk = (if fcsOk = false then s.countTbl 0x12 n 1 15 0 1
      else if 4000 < l.length ∨ 4096 < (s.stream n).rxLen + l.length then s.countTbl 0x12 n 1 31 16 1
      else s.streamTake n l) := by
  have hgate : (s.streamOn n && !bit (s.streamWord n) 30 && s.enabled (fld (s.streamWord n) 23 16)
      && s.aligned (fld (s.streamWord n) 23 16) && !l.isEmpty) = true := by
    simp [hon, hcmd, he, hal, hl]
  have hframes : (s.streamMode n != 2) = true := by simpa using hmode
  refine (if_pos hgate).trans ?_
  cases fcsOk <;> simp [hframes, streamBuf]

end

/-- A frame joins the buffer of its stream behind those that wait; the first one raises the overhead event. -/
theorem State.streamTake_of_frames {s : State} {n : Nat} (hmode : s.streamMode n ≠ 2) (l : List Byte) :
    s.streamTake n l = (if (s.stream n).rx = [] then
        (s.modStream n fun d => { d with rx := [(s.owl, l)] }).event 0x08 (fld (s.streamWord n) 23 16 / 16)
          (fld (s.streamWord n) 23 16) n
      else s.modStream n fun d => { d with rx := (s.stream n).rx ++ [(s.owl, l)] }) := by
  cases h : (s.stream n).rx <;> simp [State.streamTake, hmode, h]

theorem DccStream.rxLen_of_empty {d : DccStream} (h : d.rx = []) : d.rxLen = 0 := by
  rw [DccStream.rxLen, h]
  rfl

/-! ### Mapper stores (R171) -/

section
variable {s : State} {c : Nat} (he : s.enabled c = true) (hm : s.isMember c = false) (hb : s.isBmp c = false)
include he hm hb

/-- The slip of a channel that owns its bond and whose mapping can slip, by the kind of the channel. -/
theorem State.mapperSlip_eq :
    s.mapperSlip c = (if s.sdhLine c then s.remapSlip c
      else if !s.clientCh c then s
      else if s.gfpRole c then
        if (s.pkt c).fifo.isEmpty then s else (s.modPkt c fun p => { p with fifo := p.fifo.dropLast }).dropped c
      else (s.modCh c fun h => { h with mapFill := 4 }).slipped c) :=
  if_neg (by simp [he, hm, hb])

/-- A line re-centres the stores of its E1 and DS1 mappers. -/
theorem State.mapperSlip_of_line (hline : s.sdhLine c = true) : s.mapperSlip c = s.remapSlip c :=
  (State.mapperSlip_eq he hm hb).trans (if_pos hline)

variable (hline : s.sdhLine c = false) (hcl : s.clientCh c = true)
include hline hcl

/-- A GFP-F mapper discards the frame that does not fit. -/
theorem State.mapperSlip_of_gfp (hg : s.gfpRole c = true) (hf : (s.pkt c).fifo ≠ []) :
    s.mapperSlip c = (s.modPkt c fun p => { p with fifo := p.fifo.dropLast }).dropped c := by
  simp [State.mapperSlip_eq he hm hb, hline, hcl, hg, hf]

/-- The store of any other mapped client is half full again. -/
theorem State.mapperSlip_of_client (hg : s.gfpRole c = false) :
    s.mapperSlip c = (s.modCh c fun h => { h with mapFill := 4 }).slipped c := by
  simp [State.mapperSlip_eq he hm hb, hline, hcl, hg]

end

/-! ### BMP clocks (R146) -/

theorem State.bmpBack_of_client {s : State} {c d : Nat} (hdue : s.due (s.lane c).bmpReturn = true)
    (hd : s.bmpClient c = some d) (hf : s.clientFailed d = false) (he : s.enabled d = true) :
    s.bmpBack c = s.modLane c fun l => { l with bmpReturn := none, followsClient := true } := by
  simp [State.bmpBack, hdue, hd, hf, he]

/-- Settles O25: the frame, the store and the clock each go the way that their channel's state chooses. -/
theorem streamsAndMappers : Obligations.StreamsAndMappers := by
  refine ⟨?_, ?_, ?_, ?_, ?_⟩
  · intro s n l ha hon hcmd he hal hl hmode
    have hrx := State.dccRx_eq hon hcmd he hal hl hmode
    have htake := State.streamTake_of_frames hmode l
    refine ⟨next_whileOn ha (hrx false), fun hlen hfit hne => next_whileOn ha ?_, fun hlen hempty => next_whileOn ha ?_,
      fun hlong => next_whileOn ha ?_⟩
    · rw [hrx, if_neg (by decide), if_neg (by omega), htake, if_neg hne]
    · have hfree := DccStream.rxLen_of_empty hempty
      rw [hrx, if_neg (by decide), if_neg (by omega), htake, if_pos hempty]
    · rw [hrx, if_neg (by decide), if_pos (Or.inl hlong)]
  · intro s c ha hc hcl he hm hb hline hg
    exact next_onCh ha hc (State.mapperSlip_of_client he hm hb hline hcl hg)
  · intro s c ha hc hcl he hm hb hline hg hf
    exact next_onCh ha hc (State.mapperSlip_of_gfp he hm hb hline hcl hg hf)
  · intro s c ha hc he hm hb hline
    exact next_onCh ha hc (State.mapperSlip_of_line he hm hb hline)
  · intro s c d ha hc hdue hd hf he
    exact next_onCh ha hc (State.bmpBack_of_client hdue hd hf he)

end Sys2Proof.Machine
end

section
/-!
The rows that are a write of one register (R456, R469): the address of a register is decoded as its place, a write that
keeps the gated bits is stored whole, and the register's effect follows.
-/
namespace Sys2Proof.Machine

/-! ### Bits of a word -/

theorem fmask_self (i : Nat) : fmask i i = BitVec.twoPow 32 i := by
  rw [fmask, Nat.add_sub_cancel_left]
  exact BitVec.eq_of_toNat_eq (by simp [BitVec.toNat_twoPow, Nat.one_shiftLeft])

theorem setBit_eq (w : Word) (i : Nat) (b : Bool) :
    setBit w i b = (w &&& ~~~(BitVec.twoPow 32 i)) ||| (if b then BitVec.twoPow 32 i else 0) := by
  have hone : BitVec.ofNat 32 (1 <<< i) = BitVec.twoPow 32 i :=
    BitVec.eq_of_toNat_eq (by simp [BitVec.toNat_twoPow, Nat.one_shiftLeft])
  rw [setBit, setFld, fmask_self]
  cases b <;> simp [hone]

theorem bit_setBit {i : Nat} (hi : i < 32) (w : Word) (b : Bool) (j : Nat) :
    bit (setBit w i b) j = if j = i then b else bit w j := by
  by_cases hj : j < 32
  · by_cases h : j = i
    · cases b <;> simp [bit, setBit_eq, h, hi]
    · cases b <;> simp [bit, setBit_eq, h, hj]
  · have hji : j ≠ i := by omega
    have hge : 32 ≤ j := by omega
    simp [bit, hji, BitVec.getLsbD_of_ge _ _ hge]

theorem bit_setBit_self {i : Nat} (hi : i < 32) (w : Word) (b : Bool) : bit (setBit w i b) i = b :=
  (bit_setBit hi w b i).trans (if_pos rfl)

theorem bit_and (v w : Word) (j : Nat) : bit (v &&& w) j = (bit v j && bit w j) := BitVec.getLsbD_and

/-- Setting a bit outside a mask keeps the bits of the mask. -/
theorem bit_setBit_of_mask {m : Word} {i j : Nat} (hi : i < 32) (hm : bit m i = false) (hj : bit m j = true) (w : Word)
    (b : Bool) : bit (setBit w i b) j = bit w j := by
  rw [bit_setBit hi, if_neg]
  rintro rfl
  exact Bool.false_ne_true (hm.symm.trans hj)

/-- So does reducing the word to more than the mask. -/
theorem bit_and_of_mask {k m : Word} {j : Nat} (hk : k &&& m = m) (hj : bit m j = true) (w : Word) :
    bit (w &&& k) j = bit w j := by
  have hkj : bit k j = true := by
    rw [← hk, bit_and, Bool.and_eq_true] at hj
    exact hj.1
  rw [bit_and, hkj, Bool.and_true]

/-! ### Addresses (R10, R478) -/

/-- The address of a register is an address word. -/
theorem addrOk_ofNat {a : Nat} (h4 : a % 4 = 0) (ha : a < 2 ^ 24) : addrOk (BitVec.ofNat 32 a) = true := by
  have hmask : ∀ i < 32, 2 ≤ i → i < 24 → (~~~(0x00FFFFFC : Word)).getLsbD i = false := by decide
  rw [addrOk, onlyBits, beq_iff_eq]
  refine BitVec.eq_of_getLsbD_eq fun i hi => ?_
  rw [BitVec.getLsbD_and, BitVec.getLsbD_ofNat, show (0 : Word).getLsbD i = false from BitVec.getLsbD_zero]
  rcases Nat.lt_or_ge i 2 with hlow | hlow
  · have ha4 : a = 2 ^ 2 * (a / 4) := by omega
    rw [ha4, Nat.testBit_two_pow_mul, decide_eq_false (by omega : ¬ i ≥ 2)]
    simp
  · rcases Nat.lt_or_ge i 24 with hhigh | hhigh
    · rw [hmask i hi hlow hhigh, Bool.and_false]
    · rw [Nat.testBit_lt_two_pow (Nat.lt_of_lt_of_le ha (Nat.pow_le_pow_right (by decide) hhigh))]
      simp

theorem decodeAddr_of_page {a : Nat} (h : a / 0x100000 % 4 = 0) : decodeAddr a
    = (.page (if a / 0x1000 % 16 < 9 then a / 0x1000 % 16 else a / 0x1000 % 16 - 8) (a / 4 % 64), false) :=
  if_pos h

theorem decodeAddr_of_chan {a g : Nat} (hg : (a / 0x100000 % 4 = 1 ∧ g = a / 0x20000 % 8)
      ∨ (a / 0x100000 % 4 = 2 ∧ g = 8 + a / 0x20000 % 4)) (hw : a / 0x10000 % 2 = 1) (hn : a / 4 % 32 < 28) :
    decodeAddr a = (.chan (16 * g + a / 0x1000 % 16) (a / 4 % 32), false) := by
  obtain ⟨hr, rfl⟩ | ⟨hr, rfl⟩ := hg <;> simp [decodeAddr, hr, hw, hn]

/-- A place that a register write reaches: its address is an address word and decodes to it. -/
def Place.Reached (p : Place) : Prop := p.addr % 4 = 0 ∧ p.addr < 2 ^ 24 ∧ decodeAddr p.addr = (p, false)

theorem Place.reached_page {g i : Nat} (hg : g < 9) (hi : i < 64) : (Place.page g i).Reached := by
  have ha : (Place.page g i).addr = g * 0x1000 + 4 * i := rfl
  have hpage : (g * 0x1000 + 4 * i) / 0x1000 % 16 = g := by omega
  have hreg : (g * 0x1000 + 4 * i) / 4 % 64 = i := by omega
  refine ⟨by omega, by omega, ?_⟩
  rw [ha, decodeAddr_of_page (by omega), hpage, hreg, if_pos hg]

theorem Place.reached_chan {c n : Nat} (hc : c < 192) (hn : n < 28) : (Place.chan c n).Reached := by
  generalize hp : Place.chan c n = p
  have ha : p.addr = 0x100000 + (c / 16) * 0x20000 + 0x10000 + (c % 16) * 0x1000 + 4 * n := by rw [← hp]; rfl
  have hgroup : (p.addr / 0x100000 % 4 = 1 ∧ c / 16 = p.addr / 0x20000 % 8)
      ∨ (p.addr / 0x100000 % 4 = 2 ∧ c / 16 = 8 + p.addr / 0x20000 % 4) := by omega
  have hwindow : 16 * (c / 16) + p.addr / 0x1000 % 16 = c := by omega
  have hslot : p.addr / 4 % 32 = n := by omega
  refine ⟨by omega, by omega, ?_⟩
  rw [decodeAddr_of_chan hgroup (by omega) (by omega), hslot, hwindow, hp]

/-! ### The write of a register (R12, R456, R469) -/

/-- A bit of the masks that a condition picks out of a list is a bit of one of them. -/
theorem bit_foldl_or {on : Word × Nat × Nat → Bool} {j : Nat} (l : List (Word × Nat × Nat)) (m : Word)
    (h : bit (l.foldl (fun m g => if on g then m ||| g.1 else m) m) j = true) :
    bit m j = true ∨ ∃ g ∈ l, bit g.1 j = true := by
  induction l generalizing m with
  | nil => exact .inl h
  | cons g l ih =>
    rw [List.foldl_cons] at h
    rcases ih _ h with hacc | ⟨x, hx, hxj⟩
    · split at hacc
      · rw [bit, BitVec.getLsbD_or, Bool.or_eq_true] at hacc
        exact hacc.imp id fun hg => ⟨g, List.mem_cons_self, hg⟩
      · exact .inl hacc
    · exact .inr ⟨x, List.mem_cons_of_mem g hx, hxj⟩

/-- The bits that the gates of a register guard are the only ones that they lock. -/
theorem State.bit_locked {s : State} {p : Place} {r : RegInfo} {j : Nat} (h : bit (s.locked p r) j = true) :
    ∃ g ∈ r.gates, bit g.1 j = true :=
  (bit_foldl_or (on := fun g => s.rb (s.gateAt p g.2.1) g.2.2) r.gates 0 h).resolve_left (by simp [bit])

/-- A write that leaves every gated bit as it is differs in no gated field. -/
theorem State.gatedOff_of_kept {s : State} {p : Place} {r : RegInfo} {w : Word}
    (h : ∀ g ∈ r.gates, ∀ j, bit g.1 j = true → bit w j = bit (s.reg p.addr) j) : s.gatedOff p r w = false := by
  rw [State.gatedOff, bne_eq_false_iff_eq]
  refine BitVec.eq_of_getLsbD_eq fun j _ => ?_
  rw [BitVec.getLsbD_and, BitVec.getLsbD_and, BitVec.getLsbD_xor,
    show (0 : Word).getLsbD j = false from BitVec.getLsbD_zero]
  cases hl : (s.locked p r).getLsbD j
  · rw [Bool.and_false]
  · obtain ⟨g, hg, hj⟩ := State.bit_locked hl
    rw [show w.getLsbD j = (s.reg p.addr).getLsbD j from h g hg j hj, Bool.xor_self, Bool.false_and, Bool.false_and]

/-- A register with no gate has no gated field. -/
theorem State.gatedOff_of_ungated {s : State} {p : Place} {r : RegInfo} {w : Word} (h : r.gates = []) :
    s.gatedOff p r w = false :=
  State.gatedOff_of_kept (by simp [h])

/-- What takes every write that keeps its gated bits: a register at its own address that is neither held back nor the
half of a key, and that no rule of the pair or of R474 refuses whole. -/
structure Place.Takes (p : Place) (r : RegInfo) : Prop where
  reached : p.Reached
  info : regInfo p = some r
  hold : r.hold = false
  key : r.key = false
  leased : p ≠ .page 4 1
  whole : ∀ (s : State) (w : Word), s.wholeRefused p w = none

/-- REG_WR of two words answers the status of its write. -/
theorem State.fxRegWr_of_addrOk {a : Word} (ha : addrOk a = true) (s : State) (q : Req) (w : Word) :
    s.fxRegWr q [a, w] = (s.writeReg q.src a.toNat w).2.status q 0x0102 (s.writeReg q.src a.toNat w).1 :=
  (if_neg (by simp)).trans (if_neg (by simp [wd, ha]))

theorem Place.takes_page {g i : Nat} {r : RegInfo} (hg : g < 9) (hi : i < 64) (h2 : g ≠ 2) (h4 : g ≠ 4 ∨ i ≠ 1)
    (hinfo : regInfo (.page g i) = some r) (hhold : r.hold = false) (hkey : r.key = false) :
    (Place.page g i).Takes r where
  reached := Place.reached_page hg hi
  info := hinfo
  hold := hhold
  key := hkey
  leased h := by
    injection h with hp hr
    exact h4.elim (· hp) (· hr)
  whole s w := by simp [State.wholeRefused, h2]

theorem Place.takes_chan {c n : Nat} (hc : c < 192) (hn : n < 28) (h1 : n ≠ 1) (h10 : n ≠ 10)
    (hhold : (chInfo c n).hold = false) (hkey : (chInfo c n).key = false) : (Place.chan c n).Takes (chInfo c n) where
  reached := Place.reached_chan hc hn
  info := rfl
  hold := hhold
  key := hkey
  leased := nofun
  whole s w := by simp [State.wholeRefused, h1, h10]

section
variable {s u : State} {p : Place} {r : RegInfo} {w : Word} (hp : p.Takes r) (hoff : s.gatedOff p r w = false)
include hp hoff

/-- Such a write is stored, and its register's effect follows. -/
theorem State.writeReg_of_taken (src : Src) :
    s.writeReg src p.addr w = (s.store p r w).placeWritten p (s.reg p.addr) w := by
  obtain ⟨-, -, hdec⟩ := hp.reached
  simp only [State.writeReg, hdec, hp.info, hp.hold, hp.key, hp.leased, hp.whole, hoff, State.flagIf, Bool.or_self,
    Bool.and_false, Bool.false_eq_true, false_and, if_false]

/-- The row of such a write, whose effect is not refused, answers OK. -/
theorem State.rowWrite_of_taken (hr : s.ready 0x0102 = true)
    (he : (s.store p r w).placeWritten p (s.reg p.addr) w = (stOk, u)) (q : Req) :
    s.rowWrite q p.addr w = (u.ok q 0x0102).startHeld := by
  obtain ⟨h4, hlt, -⟩ := hp.reached
  have haddr : (BitVec.ofNat 32 p.addr).toNat = p.addr := Nat.mod_eq_of_lt (by omega)
  have hfx : s.fxRegWr q [BitVec.ofNat 32 p.addr, w] = u.ok q 0x0102 := by
    rw [State.fxRegWr_of_addrOk (addrOk_ofNat h4 hlt), haddr, State.writeReg_of_taken hp hoff, he]
    rfl
  exact s.ready_next _ q 0x0102 _ _ hr hfx

end

/-! ### CAPT_ARM and TRACE_ARM (R126 to R128) -/

section
variable (s : State) (c : Nat) {i : Nat} (hi : i < 32)
include hi

theorem State.bit_armWord_self : bit (s.armWord c i) i = true := bit_setBit_self hi _ true

theorem State.bit_armWord_other {j : Nat} (hj : j ≠ i) (hm : bit 0x0FFFFF00 j = false) :
    bit (s.armWord c i) j = false := by
  rw [State.armWord, bit_setBit hi, if_neg hj, bit_and, hm, Bool.and_false]

/-- An arm bit is written with the fields as they are. -/
theorem State.gatedOff_armWord (hm : bit 0x07FFFF00 i = false) :
    s.gatedOff (.chan c 11) (chInfo c 11) (s.armWord c i) = false := by
  refine State.gatedOff_of_kept fun g hg j hj => ?_
  obtain rfl : g = (0x07FFFF00, chReg c 11, 27) := by simpa [chInfo] using hg
  exact (bit_setBit_of_mask (m := 0x07FFFF00) hi hm hj _ true).trans
    (bit_and_of_mask (k := 0x0FFFFF00) (m := 0x07FFFF00) (by decide) hj _)

end

theorem State.captArm_of_enabled {s : State} {c : Nat} (hen : s.crb c 11 27 = true) :
    s.captArm c = s.modCap c fun k =>
      { k with running := true, frames := 0, trigSeen := s.crf c 11 26 25 = 0 || s.crf c 11 26 25 = 3 } := if_pos hen

theorem State.traceArm_of_enabled {s : State} {c : Nat} (hen : s.crb c 11 27 = true) :
    s.traceArm c = s.modCap c fun k => { k with traceRun := true, samples := 0, skip := 0 } := if_pos hen

section
variable {s t : State} {c : Nat} (hsel : s.crf c 11 24 21 = t.crf c 11 24 21) (hen : t.crb c 11 27 = true)
include hsel hen

/-- A write that changes no selection and finds CAPT_EN 1 only arms. -/
theorem State.captWritten_of_enabled (w : Word) :
    t.captWritten c (s.cr c 11) w = (if bit w 30 then (if bit w 31 then t.captArm c else t).traceArm c
      else if bit w 31 then t.captArm c else t) := by
  have hfld : fld (s.cr c 11) 24 21 = t.crf c 11 24 21 := hsel
  simp only [State.captWritten, hfld, hen, if_true]

theorem State.captWritten_of_captArm : t.captWritten c (s.cr c 11) (s.armWord c 31) = t.captArm c := by
  rw [State.captWritten_of_enabled hsel hen, s.bit_armWord_other c (by decide) (by decide) (by decide),
    s.bit_armWord_self c (by decide)]
  rfl

theorem State.captWritten_of_traceArm : t.captWritten c (s.cr c 11) (s.armWord c 30) = t.traceArm c := by
  rw [State.captWritten_of_enabled hsel hen, s.bit_armWord_self c (by decide),
    s.bit_armWord_other c (by decide) (by decide) (by decide)]
  rfl

end

/-! ### TWIN_CTRL (R312, R332) -/

section
variable {s : State} {old : Word} (hprefer : bit (s.reg 0x4000) 29 = bit old 29)
include hprefer

theorem State.twinWritten_of_enable (hold : bit old 31 = false) (hnow : bit (s.reg 0x4000) 31 = true) :
    s.twinWritten old = s.linkEnable := by
  simp [State.twinWritten, hprefer, hold, hnow]

theorem State.twinWritten_of_disable (hold : bit old 31 = true) (hnow : bit (s.reg 0x4000) 31 = false) :
    s.twinWritten old = s.linkDisable := by
  simp [State.twinWritten, hprefer, hold, hnow]

end

/-! ### PKT_EN (R344, R347) -/

/-- PKT_EN gates the other fields and is itself not gated. -/
theorem State.gatedOff_pktEn (s : State) (c : Nat) (b : Bool) :
    s.gatedOff (.chan c 14) (chInfo c 14) (setBit (s.cr c 14) 31 b) = false := by
  refine State.gatedOff_of_kept fun g hg j hj => ?_
  obtain rfl : g = (0x7F7FFFFF, chReg c 14, 31) := by simpa [chInfo] using hg
  exact bit_setBit_of_mask (m := 0x7F7FFFFF) (by decide) (by decide) hj _ b

section
variable {s t : State} {c : Nat} {old : Word}

theorem State.pktWritten_of_set (hold : bit old 31 = false) (hnow : s.crb c 14 31 = true)
    (ht : t = s.setCrb c 14 31 false) : s.pktWritten c old = t.pktEnable c := by
  simp [State.pktWritten, hold, hnow, ht]

theorem State.pktWritten_of_cleared (hold : bit old 31 = true) (hnow : s.crb c 14 31 = false)
    (ht : t = s.setCrb c 14 31 true) : s.pktWritten c old = (stOk, t.pktDisable c) := by
  simp [State.pktWritten, hold, hnow, ht]

/-- PKT_EN of a GFP-F channel that needs no guard-band engine, where its guaranteed cells still fit the buffer. -/
theorem State.pktEnable_of_fits (hg : s.gfpRole c = true) (hm : s.isMember c = false) (hgb : s.crb c 14 29 = false)
    (hfit : s.rf 0x7010 17 0 + s.crf c 14 15 0 ≤ 196608) :
    s.pktEnable c
      = (stOk, ((((s.setCrb c 14 31 true).setReg 0x7010 (BitVec.ofNat 32 (s.rf 0x7010 17 0 + s.crf c 14 15 0))).modPkt c
          fun p => { p with gbEngine := none }).bufSync).gateApply c) := by
  have hroom : ¬ s.rf 0x7010 17 0 + s.crf c 14 15 0 > 196608 := by omega
  simp [State.pktEnable, hg, hm, hgb, hroom]

end

/-! ### Triggers (R436) -/

/-- The device has four triggers. -/
theorem trigger_cases {n : Nat} (hn : n < 4) : n = 0 ∨ n = 1 ∨ n = 2 ∨ n = 3 := by omega

theorem regInfo_trigCtl {n : Nat} (hn : n < 4) : regInfo (.page 3 (20 + 3 * n)) = some
    { cmd := 0x80000000, w1c := 0x40000000, cfg := 0x30000000, gates := [(0x30000000, trigCtl n, 31)] } := by
  obtain rfl | rfl | rfl | rfl := trigger_cases hn <;> rfl

theorem Place.takes_trigCtl {n : Nat} {r : RegInfo} (hn : n < 4) (hi : regInfo (.page 3 (20 + 3 * n)) = some r) :
    (Place.page 3 (20 + 3 * n)).Takes r := by
  obtain rfl := Option.some.inj ((regInfo_trigCtl hn).symm.trans hi)
  exact Place.takes_page (by decide) (by omega) (by decide) (.inl (by decide)) hi rfl rfl

theorem trigCtl_eq_addr (n : Nat) : 0x3050 + 12 * n = (Place.page 3 (20 + 3 * n)).addr := by
  show 0x3050 + 12 * n = 3 * 0x1000 + 4 * (20 + 3 * n)
  omega

/-- ARM is written with the action as it is. -/
theorem State.gatedOff_trigArm {s : State} {n : Nat} {r : RegInfo} (hn : n < 4)
    (hi : regInfo (.page 3 (20 + 3 * n)) = some r) :
    s.gatedOff (.page 3 (20 + 3 * n)) r (setBit (s.reg (0x3050 + 12 * n) &&& 0x30000000) 31 true) = false := by
  obtain rfl := Option.some.inj ((regInfo_trigCtl hn).symm.trans hi)
  refine State.gatedOff_of_kept fun g hg j hj => ?_
  obtain rfl : g = (0x30000000, trigCtl n, 31) := by simpa using hg
  rw [bit_setBit_of_mask (m := 0x30000000) (by decide) (by decide) hj,
    bit_and_of_mask (m := 0x30000000) (by decide) hj, trigCtl_eq_addr]

theorem State.pageWritten_trigCtl {n : Nat} {w : Word} (hn : n < 4) (hw : bit w 31 = true) (s : State) (old : Word) :
    s.pageWritten 3 (20 + 3 * n) old w = s.trigArm n := by
  obtain rfl | rfl | rfl | rfl := trigger_cases hn <;> simp [State.pageWritten, hw]

theorem State.trigArm_of_ahead {s : State} {n : Nat}
    (h : s.time.sec * secUnits + s.time.sub + 10000 * 2 ^ 48 ≤ s.trigNs n (s.time.sec / 2 ^ 32) * 2 ^ 48) :
    s.trigArm n = (stOk, { s.setRb (trigCtl n) 31 true with
      time := { s.time with trigHi := Store.set 0 s.time.trigHi n (s.time.sec / 2 ^ 32) } }) :=
  if_neg (Nat.not_lt.mpr h)

/-! ### TIME_LATCH, DEV_LOCK and FAULT_ACK (R419, R483, R519) -/

theorem State.pageWritten_timeLatch {w : Word} (hw : bit w 31 = true) (s : State) (old : Word) :
    s.pageWritten 3 1 old w = (stOk, s.timeLatch) := by
  simp [State.pageWritten, hw]

/-- Lock bits stay set; a change of BOOT_LOCK or TEST_LOCK drops what is pending at a KEY_A. -/
theorem State.lockWritten_eq {s u : State} {old : Word} (hu : u = s.setReg 0x0010 (old ||| s.reg 0x0010)) :
    s.lockWritten old = if fld (u.reg 0x0010) 31 30 = fld old 31 30 then u
      else u.modCmd fun k => { k with keys := [] } := by
  subst hu
  rfl

theorem State.ackWrite_of_every (s : State) : s.ackWrite 0xE0000000 = ((s.ackSev 1).ackSev 2).ackSev 3 := rfl

/-! ### CH_CTRL (R15, R68, R69) -/

section
variable {s : State} {c : Nat} {old : Word} (hpol : fld (s.cr c 0) 29 28 ≠ 3)
include hpol

/-- CH_EN is set where the bond and the mode allow it: the bond is reserved and the channel enabled. -/
theorem State.ctrlWritten_of_enable (hold : bit old 31 = false) (hnow : bit (s.cr c 0) 31 = true)
    (hok : s.enableOk c = true) : s.ctrlWritten c old = (stOk, (s.reserve c (s.client c)).enableCh c) := by
  simp [State.ctrlWritten, State.flagIf, hpol, hold, hnow, hok]

theorem State.ctrlWritten_of_disable (hold : bit old 31 = true) (hnow : bit (s.cr c 0) 31 = false) :
    s.ctrlWritten c old = (stOk, s.disableCh c) := by
  simp [State.ctrlWritten, State.flagIf, hpol, hold, hnow]

end

/-- Settles O30: each row's write keeps what is gated, so it is stored, and its register's effect is the one case that
its conditions choose. -/
theorem registerRows : Obligations.RegisterRows := by
  refine ⟨?_, ?_, ?_, ?_, ?_, ?_, ?_, ?_, ?_, ?_⟩
  · intro s t q c r hr ha hc hi ht hsel hen
    obtain rfl : chInfo c 11 = r := Option.some.inj hi
    have hp := Place.takes_chan (n := 11) hc (by decide) (by decide) (by decide) rfl rfl
    subst ht
    refine next_onCh ha hc (State.rowWrite_of_taken hp
      (s.gatedOff_armWord c (by decide) (by decide)) hr (congrArg (Prod.mk stOk) ?_) q)
    exact (State.captWritten_of_captArm hsel hen).trans (State.captArm_of_enabled hen)
  · intro s t q c r hr ha hc hi ht hsel hen
    obtain rfl : chInfo c 11 = r := Option.some.inj hi
    have hp := Place.takes_chan (n := 11) hc (by decide) (by decide) (by decide) rfl rfl
    subst ht
    refine next_onCh ha hc (State.rowWrite_of_taken hp
      (s.gatedOff_armWord c (by decide) (by decide)) hr (congrArg (Prod.mk stOk) ?_) q)
    exact (State.captWritten_of_traceArm hsel hen).trans (State.traceArm_of_enabled hen)
  · intro s t q w r hr hi hoff ht hprefer
    subst ht
    have hp : (Place.page 4 0).Takes r := by
      obtain rfl := Option.some.inj hi
      exact Place.takes_page (by decide) (by decide) (by decide) (.inr (by decide)) rfl rfl rfl
    refine ⟨fun hold hnow => congrArg Host.Outcome.next (State.rowWrite_of_taken hp hoff hr ?_ q),
      fun hold hnow => congrArg Host.Outcome.next (State.rowWrite_of_taken hp hoff hr ?_ q)⟩
    · exact congrArg (Prod.mk stOk) (State.twinWritten_of_enable hprefer hold hnow)
    · exact congrArg (Prod.mk stOk) (State.twinWritten_of_disable hprefer hold hnow)
  · intro s t q c r hr ha hc hi ht hold hnow hg hm hgb hfit
    obtain rfl : chInfo c 14 = r := Option.some.inj hi
    have hp := Place.takes_chan (n := 14) hc (by decide) (by decide) (by decide) rfl rfl
    exact next_onCh ha hc (State.rowWrite_of_taken hp (s.gatedOff_pktEn c true) hr
      ((State.pktWritten_of_set hold hnow ht).trans (State.pktEnable_of_fits hg hm hgb hfit)) q)
  · intro s t q c r hr ha hc hi ht hold hnow
    obtain rfl : chInfo c 14 = r := Option.some.inj hi
    have hp := Place.takes_chan (n := 14) hc (by decide) (by decide) (by decide) rfl rfl
    exact next_onCh ha hc (State.rowWrite_of_taken hp (s.gatedOff_pktEn c false) hr
      (State.pktWritten_of_cleared hold hnow ht) q)
  · intro s q r hr hi
    obtain rfl := Option.some.inj hi
    have hp : (Place.page 3 1).Takes { cmd := 0x80000000 } :=
      Place.takes_page (by decide) (by decide) (by decide) (.inl (by decide)) rfl rfl rfl
    refine congrArg Host.Outcome.next (State.rowWrite_of_taken hp (State.gatedOff_of_ungated rfl) hr ?_ q)
    exact State.pageWritten_timeLatch (by decide) _ _
  · intro s t q n r hr hn hi ht hahead
    subst ht
    refine congrArg Host.Outcome.next ((if_pos hn).trans ?_)
    refine (congrArg (fun a => s.rowWrite q a _) (trigCtl_eq_addr n)).trans ?_
    refine State.rowWrite_of_taken (Place.takes_trigCtl hn hi) (State.gatedOff_trigArm hn hi) hr ?_ q
    exact (State.pageWritten_trigCtl hn (bit_setBit_self (by decide) _ true) _ _).trans (State.trigArm_of_ahead hahead)
  · intro s t q w r hr hi ht
    subst ht
    obtain rfl := Option.some.inj hi
    have hp : (Place.page 0 4).Takes { cfg := 0xE0000000 } :=
      Place.takes_page (by decide) (by decide) (by decide) (.inl (by decide)) rfl rfl rfl
    refine ⟨_, rfl,
      congrArg Host.Outcome.next (State.rowWrite_of_taken hp (State.gatedOff_of_ungated rfl) hr ?_ q)⟩
    exact congrArg (Prod.mk stOk) (State.lockWritten_eq rfl)
  · intro s t q r hr hi ht
    subst ht
    obtain rfl := Option.some.inj hi
    have hp : (Place.page 1 11).Takes { cmd := 0xE0000000 } :=
      Place.takes_page (by decide) (by decide) (by decide) (.inl (by decide)) rfl rfl rfl
    refine congrArg Host.Outcome.next (State.rowWrite_of_taken hp (State.gatedOff_of_ungated rfl) hr ?_ q)
    exact congrArg (Prod.mk stOk) (State.ackWrite_of_every _)
  · intro s t q c w r hr ha hc hi hoff ht hpol
    obtain rfl : chInfo c 0 = r := Option.some.inj hi
    have hp := Place.takes_chan (n := 0) hc (by decide) (by decide) (by decide) rfl rfl
    subst ht
    exact ⟨fun hold hnow hok => next_onCh ha hc (State.rowWrite_of_taken hp hoff hr
        (State.ctrlWritten_of_enable hpol hold hnow hok) q),
      fun hold hnow => next_onCh ha hc (State.rowWrite_of_taken hp hoff hr
        (State.ctrlWritten_of_disable hpol hold hnow) q)⟩

end Sys2Proof.Machine
end

section
/-!
Command packets from a stream and from the twin (R136, R338, R440, R443, R450): a packet over the limit of its source,
a packet that passes the checks, and the two ways by which they come in.
-/
namespace Sys2Proof.Machine

/-! ### One packet from a source (R440, R450) -/

section
variable {s : State} {src : Src} {l : List Byte}

/-- A source with all its commands outstanding is refused without a reply (R450). -/
theorem State.packet_of_overrun (h : outLimit src ≤ s.outstanding src) :
    s.packet src l = (s.count 0x6018 31 16 1).cmdOccur 0x01 (s.cmdChan src) := if_pos h

/-- A whole packet with a good CRC that passes the checks waits, and its tag is taken by the session. -/
theorem State.packet_of_passed {n op tag : Nat} {ws : List Word} (hout : s.outstanding src < outLimit src)
    (hn : n = beNum l 6 2) (hmax : n ≤ maxLen src) (hlen : l.length = packetSize src n) (hcrc : crcGood l = true)
    (hop : op = beNum l 2 2) (htag : tag = beNum l 4 2) (hws : ws = toWords ((l.drop 8).take (4 * n)))
    (hj : s.judge src l n op tag ws = stOk) :
    s.packet src l = (s.tagTaken src op tag).modCmd fun c => { c with
      inbox := c.inbox ++
        [{ req := { src := src, tag := tag, ordered := beNum l 0 1 % 2 == 1 }, opcode := op, words := ws }]
      awaiting := c.awaiting ++ [{ src := src, tag := tag, ordered := beNum l 0 1 % 2 == 1 }] } := by
  subst hn hop htag hws
  have hsize : 12 ≤ packetSize src (beNum l 6 2) := by unfold packetSize; omega
  have hshort : ¬ (decide (l.length < 8)
      || (decide (beNum l 6 2 ≤ maxLen src) && decide (l.length < packetSize src (beNum l 6 2)))) = true := by
    simp
    omega
  have hlong : ¬ (decide (beNum l 6 2 > maxLen src) || decide (l.length > packetSize src (beNum l 6 2))) = true := by
    simp
    omega
  unfold State.packet
  extract_lets n op tag ws q st got
  have hst : ¬ (st != stOk) = true := by simpa using hj
  rw [if_neg (Nat.not_le.mpr hout), if_neg hshort, if_neg hlong, if_neg (by simp [hcrc]), if_neg hst]

end

/-! ### In-band frames (R136) -/

/-- A frame of a command source on an aligned channel: its FCS decides. -/
theorem State.inbandFrame_of_aligned {s : State} {slot c : Nat} (hc : c = fld (s.streamWord slot) 23 16)
    (hon : s.streamOn slot = true) (hcmd : bit (s.streamWord slot) 30 = true) (he : s.enabled c = true)
    (hal : s.aligned c = true) (hclk : s.clocked = true) (l : List Byte) (fcsOk : Bool) :
    s.inbandFrame slot l fcsOk = if fcsOk then s.packet (.inband slot) l else s.countTbl 0x12 slot 1 15 0 1 := by
  subst hc
  exact if_pos (by simp [hon, hcmd, he, hal, hclk])

/-! ### Forwarded packets (R318, R338) -/

/-- Within 2 µs a received reliable frame is acknowledged. -/
def State.ackSoon (s : State) : State :=
  s.modTwin fun w => { w with ackAt := if w.ackAt.isSome then w.ackAt else some (s.owl + 2) }

theorem State.fwdCmd_of_out_of_order {s : State} {seq : Nat} (hup : s.twin.up = true)
    (hseq : seq ≠ nextSeq s.twin.rxSeq) (l : List Byte) : s.fwdCmd seq l = s.ackSoon := by
  simp only [State.fwdCmd, State.rxReliable, hup, hseq, Bool.not_true, Bool.false_eq_true, if_false]
  rfl

/-- The packet of a frame that comes next in order is taken. -/
theorem State.fwdCmd_of_in_order {s : State} {seq : Nat} (hup : s.twin.up = true) (hseq : seq = nextSeq s.twin.rxSeq)
    (l : List Byte) : s.fwdCmd seq l = (s.ackSoon.modTwin fun w => { w with rxSeq := seq }).packet .twin l := by
  subst hseq
  simp only [State.fwdCmd, State.rxReliable, hup, Bool.not_true, Bool.false_eq_true, if_false, if_true]
  rfl

/-- The twin block has no part in the judgement of a packet. -/
theorem State.judge_modTwin (s : State) (f : Twin → Twin) (src : Src) (l : List Byte) (n op tag : Nat)
    (ws : List Word) : (s.modTwin f).judge src l n op tag ws = s.judge src l n op tag ws := rfl

/-- A frame whose CRC-32C is the one of its END block passes. -/
theorem State.crcGate_of_right (s t : State) (f : LinkFrame) : s.crcGate f none t = t :=
  if_neg (by simp [crcBad])

theorem next_fwdCmdRx {s u : State} {seq : Nat} {l : List Byte} (ha : s.alive = true) (h : s.fwdCmd seq l = u) :
    exec (.fwdCmdRx seq { val := l }) s = .next u :=
  next_whileOn ha ((State.crcGate_of_right s _ _).trans h)

/-- Settles O47: both ways lead to the same packet checks, which refuse it for its source's limit or let it wait. -/
theorem otherSources : Obligations.OtherSources := by
  refine ⟨?_, ?_⟩
  · intro s slot c l ha hc hon hcmd he hal hclk
    have hfr := State.inbandFrame_of_aligned hc hon hcmd he hal hclk l
    subst hc
    refine ⟨next_whileOn ha (hfr false), fun hover => ?_, ?_⟩
    · exact next_whileOn ha ((hfr true).trans (State.packet_of_overrun hover))
    · intro n op tag ws hout hn hmax hlen hcrc hop htag hws hj
      exact ⟨_, rfl, next_whileOn ha
        ((hfr true).trans (State.packet_of_passed hout hn hmax hlen hcrc hop htag hws hj))⟩
  · intro s seq l ha hup
    refine ⟨s.ackSoon, rfl, fun hseq => next_fwdCmdRx ha (State.fwdCmd_of_out_of_order hup hseq l), fun hseq => ?_⟩
    have hin := State.fwdCmd_of_in_order hup hseq l
    refine ⟨fun hover => next_fwdCmdRx ha (hin.trans (State.packet_of_overrun hover)), ?_⟩
    intro n op tag ws hout hn hmax hlen hcrc hop htag hws hj
    have hj' := (State.judge_modTwin s.ackSoon (fun w => { w with rxSeq := seq }) .twin l n op tag ws).trans
      ((State.judge_modTwin s _ .twin l n op tag ws).trans hj)
    exact ⟨_, rfl, next_fwdCmdRx ha
      (hin.trans (State.packet_of_passed hout hn hmax hlen hcrc hop htag hws hj'))⟩

end Sys2Proof.Machine
end

section
/-!
Client frames (R150 to R152, R221, R348 to R359): the checks of a frame from a client, the colours of a policer, what
becomes of a frame of the delineated container, and the queue that a client frame joins.
-/
namespace Sys2Proof.Machine

/-! ### Frames from a client (R151, R221, R348) -/

section
variable {s u : State} {c : Nat} {f : EthFrame} (hk : isEth (s.client c) = true) (he : s.enabled c = true)
  (hm : s.isMember c = false) (hst : s.chState c = stInFrame)
  (hu : u = (s.countCh c 0 f.badBlocks).countCh c 2 f.corr)
include hk he hm hst hu

/-- A frame counts what the PCS and the FEC saw of it; what follows is decided on the counted state. -/
theorem State.ethIngress_eq :
    s.ethIngress c f = (if u.gfpRole c = true then
        if f.len < 64 ∨ 9600 < f.len ∨ f.fcsOk = false then (if f.fcsOk then u else u.fixedErr c 1 1).dropped c
        else if u.pktEn c then u.classify c f else u.ingressPass c f none false
      else u.countCh c 3 f.uncorr) := by
  subst hu
  refine (if_pos (by simp [hk, he, hm, hst])).trans ?_
  cases hf : f.fcsOk <;> simp

/-- In any other role the uncorrected code words of the FEC are counted. -/
theorem State.ethIngress_of_other_role (hr : u.gfpRole c = false) : s.ethIngress c f = u.countCh c 3 f.uncorr := by
  simp [State.ethIngress_eq hk he hm hst hu, hr]

/-- A frame with a wrong FCS shows to the fixed check unit of the ingress and is dropped. -/
theorem State.ethIngress_of_bad_fcs (hr : u.gfpRole c = true) (hf : f.fcsOk = false) :
    s.ethIngress c f = (u.fixedErr c 1 1).dropped c := by
  simp [State.ethIngress_eq hk he hm hst hu, hr, hf]

/-- A frame with a right FCS and a length within bounds is sound: PKT_EN decides whether it is classified. -/
theorem State.ethIngress_of_sound (hr : u.gfpRole c = true) (hf : f.fcsOk = true) (hmin : 64 ≤ f.len)
    (hmax : f.len ≤ 9600) :
    s.ethIngress c f = if u.pktEn c then u.classify c f else u.ingressPass c f none false := by
  simp [State.ethIngress_eq hk he hm hst hu, hr, hf, Nat.not_lt.mpr hmin, Nat.not_lt.mpr hmax]

end

/-! ### The colours of a policer (R353) -/

section
variable {s : State} {p l : Nat} {k : Policer} (hon : s.entryOn 0x19 p = true) (hk : k = s.refilled p)
include hon hk

/-- Red: the peak bucket does not hold the frame, and neither bucket gives any token. -/
theorem State.police_of_red (dei : Bool) (hp : k.tp < 8000 * l) :
    s.police p l dei = (2, (s.setPolicer p k).countTbl 0x19 p 7 31 0 1) := by
  subst hk
  simp [State.police, hon, hp]

/-- Yellow: only the peak bucket holds the frame and pays for it. -/
theorem State.police_of_yellow (dei : Bool) (hp : 8000 * l ≤ k.tp) (hc : k.tc < 8000 * l) :
    s.police p l dei = (1, (s.setPolicer p { k with tp := k.tp - 8000 * l }).countTbl 0x19 p 6 31 0 1) := by
  subst hk
  simp [State.police, hon, Nat.not_lt.mpr hp, hc]

/-- Green: both buckets hold the frame and pay for it, where the policer does not look at DEI. -/
theorem State.police_of_green (dei : Bool) (hp : 8000 * l ≤ k.tp) (hc : 8000 * l ≤ k.tc)
    (hblind : bit (s.tbl 0x19 p 0) 30 = false) :
    s.police p l dei
      = (0, (s.setPolicer p { k with tp := k.tp - 8000 * l, tc := k.tc - 8000 * l }).countTbl 0x19 p 5 31 0 1) := by
  subst hk
  simp [State.police, hon, Nat.not_lt.mpr hp, Nat.not_lt.mpr hc, hblind]

end

/-! ### Frames of the delineated container (R150, R152, R153) -/

/-- A sound client frame clears dCSF and gives up its check values, and joins its queue where they hold. -/
def State.soundEgress (s : State) (c : Nat) (l : List Byte) : State :=
  let u := s.csfSeen c false
  let z := u.snoopCheck (u.snoops 2 c l).reverse l
  if z.2.1 then z.2.2.enqueue c (l.take (l.length - z.1)) else z.2.2.dropped c

/-- The checks of a client frame, after its header. -/
def State.clientEgress (s : State) (c : Nat) (h : GfpHead) : State :=
  let u := if h.frame.1.fcsOk then s else s.fixedErr c 2 1
  if (u.crb c 1 6 && !h.pfi) || !h.frame.2 || !h.frame.1.fcsOk || h.frame.1.len > 9600 then u.dropped c
  else u.soundEgress c h.frame.1.payload

/-- A frame with a wrong FCS shows to the fixed check unit of the egress and is dropped. -/
theorem State.clientEgress_of_bad_fcs {s : State} {c : Nat} {h : GfpHead} (hf : h.frame.1.fcsOk = false) :
    s.clientEgress c h = (s.fixedErr c 2 1).dropped c := by
  simp [State.clientEgress, hf]

/-- A frame is sound with a right FCS, a right payload FCS where it has one, which it must where PFI is asked for, and a
length within bounds. -/
theorem State.clientEgress_of_sound {s : State} {c : Nat} {h : GfpHead} (hf : h.frame.1.fcsOk = true)
    (hp : h.frame.2 = true) (hpfi : s.crb c 1 6 = true → h.pfi = true) (hmax : h.frame.1.len ≤ 9600) :
    s.clientEgress c h = s.soundEgress c h.frame.1.payload := by
  have hpass : ¬ (s.crb c 1 6 = true ∧ h.pfi = false) := fun ⟨hmust, hnone⟩ => by simp [hpfi hmust] at hnone
  simp [State.clientEgress, hf, hp, hpass, Nat.not_lt.mpr hmax]

section
variable {s u : State} {c : Nat} {f : EthFrame} (hg : s.gfpRole c = true) (he : s.enabled c = true)
  (hm : s.isMember c = false) (hsync : (s.ch c).mon.gfp = .sync) (hclk : (s.grp (c / 16)).clk = true)
  (hu : u = s.delineate c f.core)
include hg he hm hsync hclk hu

/-- A core header that ends delineation ends the frame. -/
theorem State.gfpEgress_of_lost (hlost : (u.ch c).mon.gfp ≠ .sync) : s.gfpEgress c f = u := by
  subst hu
  exact (if_pos (by simp [hg, he, hm, hsync, hclk])).trans (if_pos (by simpa using hlost))

/-- The header of a frame that stays delineated chooses between a CSF, a client frame and any other kind. -/
theorem State.gfpEgress_of_sync {h : GfpHead} {t : State} (hh : h = s.gfpRead c f) (ht : t = u.gfpTake c f)
    (hstay : (u.ch c).mon.gfp = .sync) :
    s.gfpEgress c f
      = (if h.csf then t.csfSeen c true else if h.client = false then t.dropped c else t.clientEgress c h) := by
  subst hu hh ht
  refine (if_pos (by simp [hg, he, hm, hsync, hclk])).trans ((if_neg (by simpa using hstay)).trans ?_)
  exact ite_congr rfl (fun _ => rfl) fun _ => ite_congr (by simp) (fun _ => rfl) fun _ => rfl

end

/-! ### Joining a queue (R357, R359) -/

section
variable {s : State} {c : Nat} (hp : s.pktEn c = false) (l : List Byte)
include hp

/-- Without PKT_EN every frame goes to queue 0; one that the buffer does not admit counts there as dropped. -/
theorem State.enqueue_of_refused (ha : s.admission c 0 ((tafStrip l).1.length + 4) = none) :
    s.enqueue c l = (s.add48 0x1E (qNum c 0) 4 1).dropped c := by
  simp [State.enqueue, hp, ha]

/-- An admitted one joins queue 0 behind those that wait, with no flow and no launch time. -/
theorem State.enqueue_of_admitted {g : Bool} (ha : s.admission c 0 ((tafStrip l).1.length + 4) = some g) :
    s.enqueue c l = (s.modPkt c fun p => p.modQueue 0 fun k => { k with
      frames := k.frames ++ [{ len := (tafStrip l).1.length + 4, cells := cellsOf ((tafStrip l).1.length + 4)
                               guar := g, at_ := s.owl, launch := none, flow := none
                               bytes := (tafStrip l).1 }] }).bufSync := by
  simp [State.enqueue, hp, ha]

end

/-- Settles O35: the checks of each frame, the buckets of its policer and the room of its queue choose what becomes of
it. -/
theorem clientFrames : Obligations.ClientFrames := by
  refine ⟨?_, ?_, ?_, ?_⟩
  · intro s c f ha hc hk he hm hst
    refine ⟨_, rfl, fun hr => ?_, fun hr hf hmin hmax hp => ?_, fun hr hf hmin hmax hp => ?_, fun hr hf => ?_⟩
    · exact next_onCh ha hc (State.ethIngress_of_other_role hk he hm hst rfl hr)
    · exact next_onCh ha hc
        ((State.ethIngress_of_sound hk he hm hst rfl hr hf hmin hmax).trans (if_neg (by simp [hp])))
    · exact next_onCh ha hc ((State.ethIngress_of_sound hk he hm hst rfl hr hf hmin hmax).trans (if_pos hp))
    · exact next_onCh ha hc (State.ethIngress_of_bad_fcs hk he hm hst rfl hr hf)
  · intro s p l dei k hon hk
    exact ⟨State.police_of_red hon hk dei, State.police_of_yellow hon hk dei, State.police_of_green hon hk dei⟩
  · intro s c f ha hc hg he hm hsync hclk
    refine ⟨_, _, _, rfl, rfl, rfl, ?_, ?_, ?_, ?_, ?_⟩
    · exact fun hlost => next_onCh ha hc (State.gfpEgress_of_lost hg he hm hsync hclk rfl hlost)
    all_goals
      intro hstay hcsf
      have hway := State.gfpEgress_of_sync hg he hm hsync hclk rfl rfl rfl hstay
    · exact next_onCh ha hc (hway.trans (if_pos hcsf))
    all_goals
      intro hcl
      rw [hcsf, if_neg Bool.false_ne_true, hcl] at hway
    · exact next_onCh ha hc (hway.trans (if_pos rfl))
    · exact fun hf => next_onCh ha hc (hway.trans (State.clientEgress_of_bad_fcs hf))
    · intro hf hp hpfi hmax
      exact ⟨_, _, _, _, rfl, rfl, next_onCh ha hc (hway.trans (State.clientEgress_of_sound hf hp hpfi hmax))⟩
  · intro s c l hp
    exact ⟨State.enqueue_of_refused hp l, fun _ => State.enqueue_of_admitted hp l⟩

end Sys2Proof.Machine
end

section
/-!
Tables and the inactive bank (R190, R191, R194, R196, R197, R269, R457, R458): TBL_WR entry by entry, XC_CONNECT,
XC_DISCONNECT and TBL_SWAP, each alone.
-/
namespace Sys2Proof.Machine

/-! ### TBL_WR (R457, R458) -/

/-- TBL_WR after its writes: the entries that were written stand, and the first that its table's rule refused gives the
status, the number and the reason. -/
def State.tblWrEnd (q : Req) (r : State × Nat × Nat × List Word) : State :=
  (if r.2.2.1 = eEnabled then r.1.fault 14 else r.1).finish q 0x0202 r.2.2.1 (if r.2.2.1 = stOk then 0 else r.2.1)
    r.2.2.2

section
variable {s : State} {w0 w1 : Word} {ws : List Word} {n : Nat} (hn : tblRange w0 w1 (ws.length + 1) = some n)
include hn

/-- A TBL_WR of a range that a table has: only the twin that decides writes a pair-level table (R339). -/
theorem State.fxTblWr_of_range (q : Req) (v : Word) :
    State.fxTblWr q (w0 :: w1 :: v :: ws) s
      = if (pairTable (fld w0 31 24) && s.notActive) = true then s.finish q 0x0202 eNotActive 0 []
        else State.tblWrEnd q
          (s.writeEntries (fld w0 31 24) (fld w0 23 23) n (fld w1 31 8) (fld w1 7 0) (v :: ws) (ws.length + 3)) := by
  have hlen : ¬ (w0 :: w1 :: v :: ws).length < 3 := by
    simp only [List.length_cons]
    omega
  have hrange : tblRange (wd (w0 :: w1 :: v :: ws) 0) (wd (w0 :: w1 :: v :: ws) 1) ((w0 :: w1 :: v :: ws).length - 2)
      = some n := hn
  unfold State.fxTblWr
  rw [if_neg hlen, hrange]
  rfl

theorem State.fxTblWr_of_not_active (hp : pairTable (fld w0 31 24) = true) (ha : s.notActive = true) (q : Req)
    (v : Word) : State.fxTblWr q (w0 :: w1 :: v :: ws) s = s.finish q 0x0202 eNotActive 0 [] :=
  (State.fxTblWr_of_range hn q v).trans (if_pos (by rw [hp, ha]; rfl))

theorem State.fxTblWr_of_active (h : pairTable (fld w0 31 24) = false ∨ s.notActive = false) (q : Req) (v : Word) :
    State.fxTblWr q (w0 :: w1 :: v :: ws) s = State.tblWrEnd q
      (s.writeEntries (fld w0 31 24) (fld w0 23 23) n (fld w1 31 8) (fld w1 7 0) (v :: ws) (ws.length + 3)) := by
  have hpass : (pairTable (fld w0 31 24) && s.notActive) = false := by
    rcases h with h | h
    · rw [h, Bool.false_and]
    · rw [h, Bool.and_false]
  exact (State.fxTblWr_of_range hn q v).trans (if_neg (Bool.eq_false_iff.mp hpass))

end

/-- Words that stay within one entry are one edit. -/
theorem State.writeEntries_of_one_entry {s : State} {x : Edit} {n : Nat} (hne : x.ws ≠ [])
    (hfit : x.w + x.ws.length ≤ n) (hok : s.editStatus x = stOk) (fuel : Nat) :
    s.writeEntries x.t x.b n x.e x.w x.ws (fuel + 2) = (s.applyEdit x, 1, stOk, []) := by
  have htake : x.ws.take (n - x.w) = x.ws := List.take_of_length_le (by omega)
  have hdrop : x.ws.drop (n - x.w) = [] := List.drop_of_length_le (by omega)
  simp [State.writeEntries, hne, htake, hdrop, hok]

/-! ### REALIGN (R269) -/

/-- The edit of the REALIGN bit of a redundancy stream: its word 1 as it stands, with the bit set. -/
def State.realignEdit (s : State) (st : Nat) : Edit :=
  { t := 5, b := 0, e := st, w := 1, ws := [setBit (s.tbl 5 st 1) 31 true] }

theorem State.newWord_of_not_has {s : State} {x : Edit} {i : Nat} (h : x.has i = false) :
    s.newWord x i = s.oldWord x i := by
  simp [State.newWord, h]

/-- What the rule of the redundancy table asks (R269, R270): the gated words, the role, and the admission. -/
theorem State.editStatus_of_redundancy (s : State) {x : Edit} (ht : x.t = 5) :
    s.editStatus x = firstReason
      [(eEnabled, s.gatedEdit x 1 || (bit (s.oldWord x 0) 31 && bit (s.newWord x 1) 30 != bit (s.oldWord x 1) 30)),
       (eParam, x.has 0 && fld (s.newWord x 0) 30 28 ≥ 6),
       (eParam, s.enabling x && s.redAdmit x.e (s.newWord x 0) (s.newWord x 1) != 0)] := by
  obtain ⟨t, b, e, w, ws⟩ := x
  obtain rfl : t = 5 := ht
  rfl

/-- A REALIGN bit leaves word 0 of its entry, and bit 30 of word 1, as they are, so no rule refuses it. -/
theorem State.editStatus_realignEdit (s : State) (st : Nat) : s.editStatus (s.realignEdit st) = stOk := by
  have hword0 : (s.realignEdit st).has 0 = false := rfl
  have hgate : s.gatedEdit (s.realignEdit st) 1 = false := by simp [State.gatedEdit, State.realignEdit, Edit.hits]
  have hup : s.enabling (s.realignEdit st) = false := by simp [State.enabling, State.newWord_of_not_has hword0]
  have hbit : bit (s.newWord (s.realignEdit st) 1) 30 = bit (s.oldWord (s.realignEdit st) 1) 30 := by
    have hnew : s.newWord (s.realignEdit st) 1
        = (s.tbl 5 st 1 &&& ~~~0x40000000) ||| (setBit (s.tbl 5 st 1) 31 true &&& 0x40000000) := rfl
    have hold : s.oldWord (s.realignEdit st) 1 = s.tbl 5 st 1 := rfl
    have hkeep : bit (setBit (s.tbl 5 st 1) 31 true) 30 = bit (s.tbl 5 st 1) 30 :=
      (bit_setBit (by decide) _ _ _).trans (if_neg (by decide))
    rw [hnew, hold, ← hkeep]
    simp [bit]
  rw [s.editStatus_of_redundancy rfl, hgate, hword0, hup, hbit, bne_self_eq_false]
  simp [firstReason, stOk]

/-- The entry and the word that a REALIGN names. -/
theorem fld_realign {st : Nat} (h : st < 2048) :
    fld (BitVec.ofNat 32 (st * 256 + 1)) 31 8 = st ∧ fld (BitVec.ofNat 32 (st * 256 + 1)) 7 0 = 1 := by
  simp only [fld, BitVec.toNat_ofNat, Nat.shiftRight_eq_div_pow]
  omega

theorem tblRange_realign {st : Nat} (h : st < 2048) :
    tblRange 0x05000000 (BitVec.ofNat 32 (st * 256 + 1)) 1 = some 8 := by
  obtain ⟨hentry, hword⟩ := fld_realign h
  have hfit : st * 8 + 1 + 1 ≤ 2048 * 8 := by omega
  have hshape : tblShape (fld 0x05000000 31 24) = some (2048, 8, false) := by decide
  have hbits : onlyBits 0x05000000 0xFF800000 = true := by decide
  have hbank : bit 0x05000000 23 = false := by decide
  simp only [tblRange, hshape, hentry, hword, hbits, hbank]
  exact if_pos (by simp [hfit])

/-- The TBL_WR of a REALIGN makes its one edit. -/
theorem State.fxTblWr_of_realign {s : State} {st : Nat} (hst : st < 2048) (ha : s.notActive = false) (q : Req) :
    State.fxTblWr q (s.realignWords st) s = (s.applyEdit (s.realignEdit st)).finish q 0x0202 stOk 0 [] := by
  obtain ⟨hentry, hword⟩ := fld_realign hst
  have hone : s.writeEntries 5 0 8 st 1 [setBit (s.tbl 5 st 1) 31 true] 3
      = (s.applyEdit (s.realignEdit st), 1, stOk, []) :=
    State.writeEntries_of_one_entry (x := s.realignEdit st) (List.cons_ne_nil _ _) (by simp [State.realignEdit])
      (s.editStatus_realignEdit st) 1
  have hend := State.fxTblWr_of_active (ws := []) (tblRange_realign hst) (.inr ha) q (setBit (s.tbl 5 st 1) 31 true)
  rw [hentry, hword] at hend
  exact hend.trans (congrArg (State.tblWrEnd q) hone)

/-! ### XC_CONNECT (R194, R196, R197, R200) -/

section
variable {s : State} (ha : s.notActive = false)
include ha

theorem State.fxXcConnect_of_locked (hst : s.swap.st ≠ 0) (q : Req) (a b c d : Word) :
    State.fxXcConnect q [a, b, c, d] s = s.finish q 0x0403 eEnabled 0 [] := by
  simp [State.fxXcConnect, ha, State.bankLocked, hst]

theorem State.fxXcConnect_of_full (hst : s.swap.st = 0) (hfree : firstFree (s.conns s.bankOther) 0 32768 = none)
    (q : Req) (a b c d : Word) :
    State.fxXcConnect q [a, b, c, d] s = s.finish q 0x0403 eParam 0 [reasonWord 18 0] := by
  simp [State.fxXcConnect, ha, State.bankLocked, hst, hfree]

/-- With a free number the lowest reason that holds decides. -/
theorem State.fxXcConnect_of_free {n : Nat} (hst : s.swap.st = 0)
    (hfree : firstFree (s.conns s.bankOther) 0 32768 = some n) (q : Req) (k : Conn) :
    State.fxXcConnect q [k.ctl, k.src, k.dest, k.alt] s
      = if s.connReason s.bankOther (s.bankConns s.bankOther) (s.bankConns s.bankOther) k ≠ 0 then
          s.finish q 0x0403 eParam 0
            [reasonWord (s.connReason s.bankOther (s.bankConns s.bankOther) (s.bankConns s.bankOther) k) n]
        else ((s.setConn s.bankOther n k).mirrorEntry 2 s.bankOther n 4).finish q 0x0403 stOk 0
          [BitVec.ofNat 32 n] := by
  simp [State.fxXcConnect, wd, ha, State.bankLocked, hst, hfree]

end

/-! ### XC_DISCONNECT (R194, R197, R200) -/

/-- The two forms of XC_DISCONNECT: by a number, and by a destination. -/
structure DisconnectForm (ws : List Word) : Prop where
  length : ws.length = if bit (wd ws 0) 31 then 2 else 1
  bits : onlyBits (wd ws 0) (if bit (wd ws 0) 31 then 0x80000000 else 0x00007FFF) = true

theorem bit_of_onlyBits {w used : Word} {i : Nat} (h : onlyBits w used = true) (hi : bit used i = false)
    (hlt : i < 32) : bit w i = false := by
  have hzero : (w &&& ~~~used).getLsbD i = false := by
    rw [show w &&& ~~~used = 0 by simpa [onlyBits] using h]
    exact BitVec.getLsbD_zero
  rw [BitVec.getLsbD_and, BitVec.getLsbD_not, show used.getLsbD i = false from hi] at hzero
  simpa [bit, hlt] using hzero

theorem DisconnectForm.of_number {w : Word} (h : onlyBits w 0x00007FFF = true) : DisconnectForm [w] := by
  have hw : bit (wd [w] 0) 31 = false := bit_of_onlyBits h (by decide) (by decide)
  exact ⟨by rw [hw]; rfl, by rw [hw]; exact h⟩

theorem DisconnectForm.of_dest (d : Word) : DisconnectForm [0x80000000, d] := by
  have hw : bit (wd [0x80000000, d] 0) 31 = true := (by decide : bit 0x80000000 31 = true)
  exact ⟨by rw [hw]; rfl, by rw [hw]; exact (by decide : onlyBits 0x80000000 0x80000000 = true)⟩

/-- XC_DISCONNECT in one of its forms, on the twin that decides. -/
theorem State.fxXcDisconnect_of_form {s : State} {ws : List Word} (hf : DisconnectForm ws) (ha : s.notActive = false)
    (q : Req) :
    State.fxXcDisconnect q ws s
      = if s.swap.st ≠ 0 then s.finish q 0x0404 eEnabled 0 []
        else (s.discTarget ws).elim
          (s.finish q 0x0404 eParam 0 [reasonWord 14 (if bit (wd ws 0) 31 then 0 else fld (wd ws 0) 14 0)])
          fun n => ((s.setConn s.bankOther n { dest := 0, src := 0, ctl := 0, alt := 0 }).mirrorEntry 2 s.bankOther n
            4).finish q 0x0404 stOk 0 [] := by
  unfold State.fxXcDisconnect
  rw [if_neg (by simp [hf.length]), if_neg (by simp [ha]), if_neg (by rw [hf.bits]; decide)]
  refine ite_congr (by simp [State.bankLocked]) (fun _ => rfl) fun _ => ?_
  cases s.discTarget ws <;> rfl

/-! ### TBL_SWAP at its receipt (R190, R191, R193) -/

/-- No command waits, so none has replied PENDING. -/
theorem State.wasPending_of_ready {s : State} {op : Nat} (h : s.ready op = true) (q : Req) :
    s.wasPending q = false := by
  simp [State.wasPending, State.pendOf, s.ready_pend op h]

section
variable {s : State} {w b : Word} (ha : s.notActive = false) (a : Word)
include ha

/-- A swap of bank 1 at a proper time: rows 2 and 3 of R191, and then its validation. -/
theorem State.fxTblSwap_of_swap (hcancel : bit w 31 = false) (hbits : onlyBits w 0xC00000FF = true)
    (hbank : fld w 7 0 = 1) (hzero : fld b 31 30 = 0) (hns : fld b 29 0 < 1000000000) (q : Req) :
    State.fxTblSwap q [w, a, b] s
      = if s.swap.st ≠ 0 ∨ s.swap.validating.isSome = true
            ∨ s.swapNs a.toNat (fld b 29 0) > s.nowNs + 1000000000000 then s.finish q 0x0203 eParam 0 []
        else ({ s with swap := { s.swap with
          copy := bit w 30, sec := a.toNat, ns := fld b 29 0, validating := some q } }).setPend
            { req := q, opcode := 0x0203, job := .swap, pending := s.wasPending q, dueAt := s.after 2000 } := by
  have hfields : (!onlyBits w 0xC00000FF || fld w 7 0 != 1 || fld b 31 30 != 0 || fld b 29 0 ≥ 1000000000)
      = false := by
    rw [hbits, hbank, hzero, decide_eq_false (Nat.not_le.mpr hns)]
    rfl
  unfold State.fxTblSwap
  rw [if_neg (by simp), if_neg (by simp [ha]), if_neg (by simp [wd, hcancel])]
  refine (if_neg (Bool.eq_false_iff.mp hfields)).trans ?_
  by_cases hbusy : s.swap.st ≠ 0 ∨ s.swap.validating.isSome = true
  · exact (if_pos (by simpa using hbusy)).trans (if_pos (or_assoc.mp (.inl hbusy))).symm
  · refine (if_neg (by simpa using hbusy)).trans (ite_congr ?_ (fun _ => rfl) fun _ => rfl)
    rw [← or_assoc, eq_false hbusy, false_or]
    rfl

/-- A CANCEL by the state of the swap. -/
theorem State.fxTblSwap_of_cancel (hcancel : bit w 31 = true) (q : Req) :
    State.fxTblSwap q [w, a, b] s
      = if s.swap.st = 2 ∨ s.swap.st = 3 then s.finish q 0x0203 eParam 0 []
        else (if s.swap.st = 1 then s.disarm.mirror 1 mirrorCancel [] else s).finish q 0x0203 stOk 0 [] := by
  simp [State.fxTblSwap, wd, ha, hcancel]

end

theorem State.alive_of_ready {s : State} {op : Nat} (h : s.ready op = true) : s.alive = true := by
  cases ha : s.alive
  · have hclk := State.clocked_of_not_alive ha
    simp [State.ready, hclk] at h
  · rfl

theorem onRed_of_alive {s : State} {n : Nat} (t : State) (h : s.alive = true) (hn : n < 2048) : onRed n s t = t := by
  simp [onRed, h, hn]

/-- Settles O49: each command starts alone, and its answer is the branch that its conditions choose. -/
theorem tableCommands : Obligations.TableCommands := by
  refine ⟨?_, ?_, ?_, ?_, ?_, ?_, ?_⟩
  · intro s q w0 w1 v ws n hr hn
    exact ⟨fun hp ha => next_ready hr q _ (State.fxTblWr_of_not_active hn hp ha q v),
      fun h => ⟨_, rfl, next_ready hr q _ (State.fxTblWr_of_active hn h q v)⟩⟩
  · intro s q st hr hst ha
    refine ⟨_, rfl, (congrArg Host.Outcome.next (onRed_of_alive _ (State.alive_of_ready hr) hst)).trans ?_⟩
    exact next_ready hr q _ (State.fxTblWr_of_realign hst ha q)
  · intro s q a b c d hr ha
    refine ⟨fun hst => next_ready hr q _ (State.fxXcConnect_of_locked ha hst q a b c d),
      fun hst hfree => next_ready hr q _ (State.fxXcConnect_of_full ha hst hfree q a b c d), ?_⟩
    intro n why k hst hfree hk hwhy
    subst hk hwhy
    have hfx := State.fxXcConnect_of_free ha hst hfree q { ctl := a, src := b, dest := c, alt := d }
    exact ⟨fun h => next_ready hr q _ (hfx.trans (if_pos h)),
      fun h => next_ready hr q _ (hfx.trans (if_neg (not_not_intro h)))⟩
  · intro s q w hr ha hbits
    have hform := DisconnectForm.of_number hbits
    have hfx := State.fxXcDisconnect_of_form hform ha q
    have hw : bit (wd [w] 0) 31 = false := bit_of_onlyBits hbits (by decide) (by decide)
    refine ⟨fun hst => next_ready hr q _ (hfx.trans (if_pos hst)), fun hst hd => next_ready hr q _ ?_,
      fun n hst hd => next_ready hr q _ ?_⟩
    · rw [hfx, if_neg (not_not_intro hst), hd, hw]
      rfl
    · rw [hfx, if_neg (not_not_intro hst), hd]
      rfl
  · intro s q d n hr ha hst hd
    refine next_ready hr q _ ?_
    rw [State.fxXcDisconnect_of_form (DisconnectForm.of_dest d) ha q, if_neg (not_not_intro hst), hd]
    rfl
  · intro s q w a b hr ha hcancel hbits hbank hzero hns
    have hfx := State.fxTblSwap_of_swap ha a hcancel hbits hbank hzero hns q
    refine ⟨fun hst => next_ready hr q _ (hfx.trans (if_pos (.inl hst))),
      fun hfar => next_ready hr q _ (hfx.trans (if_pos (.inr (.inr hfar)))),
      fun hst hval hnear => next_ready hr q _ (hfx.trans ?_)⟩
    rw [if_neg (by simp [hst, hval, hnear]), State.wasPending_of_ready hr]
  · intro s q w a b hr ha hcancel
    have hfx := State.fxTblSwap_of_cancel (b := b) ha a hcancel q
    exact ⟨fun hst => next_ready hr q _ (hfx.trans (if_pos hst)),
      fun hst => next_ready hr q _ (hfx.trans (by simp [hst, State.disarm])),
      fun hst => next_ready hr q _ (hfx.trans (by simp [hst]))⟩

end Sys2Proof.Machine
end

section
/-!
The course of a bank swap (R190 to R195, R199, R200, R464): the end of its validation, the boundaries of its
destinations and of its lines, its end, and the copy of the bank.
-/
namespace Sys2Proof.Machine

/-! ### The end of the validation (R190, R191, R200) -/

theorem State.mirror_of_not_paired {s : State} (h : s.paired = false) (cls obj : Nat) (ws : List Word) :
    s.mirror cls obj ws = s := by
  simp [State.mirror, State.holder, h]

@[simp] theorem State.change_swap (s : State) (k i v us : Nat) : (s.change k i v us).swap = s.swap := by
  unfold State.change
  dsimp only
  split <;> rfl

@[simp] theorem State.setUnsync_swap (s : State) (v : Bool) : (s.setUnsync v).swap = s.swap := by
  unfold State.setUnsync
  split
  · rfl
  · exact State.change_swap ..

section
variable {s t : State} {q : Req} (hv : s.swap.validating = some q)
  (ht : t = { s with swap := { s.swap with validating := none } })
include hv ht

theorem State.swapValidated_of_fail {w : Word} (hf : t.bankFail t.bankOther = some w) :
    s.swapValidated = t.finish q 0x0203 eParam 0 [w] := by
  subst ht
  simp only [State.swapValidated, hv, hf]

variable (hf : t.bankFail t.bankOther = none)
include hf

theorem State.swapValidated_of_past (h : s.swapNs s.swap.sec s.swap.ns < s.nowNs + 250000) :
    s.swapValidated = t.finish q 0x0203 eTimePast 0 [] := by
  subst ht
  simp only [State.swapValidated, hv, hf]
  exact if_pos h

/-- A bank that is whole, in time: the swap arms, and its words go to the twin. -/
theorem State.swapValidated_of_ahead (h : s.nowNs + 250000 ≤ s.swapNs s.swap.sec s.swap.ns) :
    s.swapValidated
      = ((if t.armSwap.paired && !t.armSwap.twin.up then t.armSwap.setUnsync true else t.armSwap).mirror 1 mirrorSwap
          t.armSwap.swapWords).finish q 0x0203 stOk 0 [] := by
  have hwords : (if t.armSwap.paired && !t.armSwap.twin.up then t.armSwap.setUnsync true else t.armSwap).swapWords
      = t.armSwap.swapWords := by
    split <;> simp [State.swapWords]
  rw [← hwords]
  subst ht
  simp only [State.swapValidated, hv, hf]
  exact if_neg (Nat.not_lt.mpr h)

theorem State.swapValidated_of_unpaired (h : s.nowNs + 250000 ≤ s.swapNs s.swap.sec s.swap.ns)
    (hp : s.paired = false) : s.swapValidated = t.armSwap.finish q 0x0203 stOk 0 [] := by
  have hpair : t.armSwap.paired = false := by subst ht; exact hp
  rw [State.swapValidated_of_ahead hv ht hf h, hpair, Bool.false_and, if_neg Bool.false_ne_true,
    State.mirror_of_not_paired hpair]

theorem State.swapValidated_of_paired {u : State} (h : s.nowNs + 250000 ≤ s.swapNs s.swap.sec s.swap.ns)
    (hp : s.paired = true) (hu : u = t.armSwap) :
    s.swapValidated = ((if s.twin.up then u else u.setUnsync true).mirror 1 mirrorSwap
      [BitVec.ofNat 32 u.swap.sec, BitVec.ofNat 32 (b2n s.swap.copy * 2 ^ 30 + s.swap.ns)]).finish q 0x0203 stOk 0
        [] := by
  have hpair : u.paired = true := by subst ht hu; exact hp
  have hup : u.twin.up = s.twin.up := by subst ht hu; rfl
  have hwords : [BitVec.ofNat 32 u.swap.sec, BitVec.ofNat 32 (b2n s.swap.copy * 2 ^ 30 + s.swap.ns)] = u.swapWords := by
    subst ht hu; rfl
  rw [State.swapValidated_of_ahead hv ht hf h, ← hu, hpair, hup, hwords]
  cases s.twin.up <;> rfl

end

/-! ### A destination (R187, R192, R201, R304) -/

theorem State.each_swap {f : State → Nat → State} (h : ∀ t n, (f t n).swap = t.swap) (l : List Nat) (s : State) :
    (s.each l f).swap = s.swap := by
  induction l generalizing s with
  | nil => rfl
  | cons n l ih => exact (ih (f s n)).trans (h s n)

@[simp] theorem State.restartTrib_swap (s : State) (n : Nat) : (s.restartTrib n).swap = s.swap := rfl

@[simp] theorem State.takeSel_swap (s : State) (k : Conn) : (s.takeSel k).swap = s.swap := by
  unfold State.takeSel
  split <;> rfl

@[simp] theorem State.restartE1_swap (s : State) (d : Word) : (s.restartE1 d).swap = s.swap := by
  unfold State.restartE1
  split <;> rfl

@[simp] theorem State.unmarkDup_swap (s : State) (n m : Nat) : (s.unmarkDup n m).swap = s.swap :=
  State.each_swap (fun t c => by split <;> rfl) allCh s

@[simp] theorem State.memberNone_swap (s : State) (d : Word) : (s.memberNone d).swap = s.swap := by
  unfold State.memberNone
  split
  · exact (State.modRed_swap ..).trans (State.unmarkDup_swap ..)
  · rfl

@[simp] theorem State.restartPtr_swap (s : State) (d : Word) : (s.restartPtr d).swap = s.swap := by
  unfold State.restartPtr
  split <;> rfl

/-- Destination d has taken its boundary. -/
def State.markSwitched (s : State) (d : Word) : State :=
  { s with swap := { s.swap with switched := d.toNat :: s.swap.switched } }

/-- What starts anew at the entries of destination d, before and after its boundary (R187, R201). -/
def State.restartEnds (s : State) (d : Word) (old new : Option (Nat × Conn)) : State :=
  let s := old.elim s fun e => s.restartTrib e.1
  let s := new.elim s fun e => (s.restartTrib e.1).takeSel e.2
  s.restartE1 d

@[simp] theorem State.restartEnds_swap (s : State) (d : Word) (old new : Option (Nat × Conn)) :
    (s.restartEnds d old new).swap = s.swap := by
  cases old <;> cases new <;> simp [State.restartEnds]

theorem State.switchDest_of_switched {s : State} {d : Word} (h : s.hasSwitched d = true) : s.switchDest d = s :=
  if_pos h

section
variable {s : State} {d : Word} (h : s.hasSwitched d = false)
include h

/-- A destination at its boundary: what changes is restarted, and its member and its pointer where it has other
sources. -/
theorem State.switchDest_of_boundary :
    s.switchDest d = if s.entryOf s.bankUsed d = s.entryOf s.bankOther d then s.markSwitched d
      else if (s.entryOf s.bankUsed d).map (fun e => (e.2.src, e.2.alt))
          = (s.entryOf s.bankOther d).map fun e => (e.2.src, e.2.alt)
        then (s.markSwitched d).restartEnds d (s.entryOf s.bankUsed d) (s.entryOf s.bankOther d)
      else ((((s.markSwitched d).restartEnds d (s.entryOf s.bankUsed d) (s.entryOf s.bankOther d)).memberNone
        d).restartPtr d) := by
  refine (if_neg (Bool.eq_false_iff.mp h)).trans (ite_congr (propext beq_iff_eq) (fun _ => rfl) fun _ => ?_)
  refine (ite_congr (propext beq_iff_eq) (fun _ => ?_) fun _ => ?_)
  all_goals cases s.entryOf s.bankUsed d <;> cases s.entryOf s.bankOther d <;> rfl

end

/-- A destination has one boundary: after it, it stays as it is. -/
theorem State.hasSwitched_switchDest (s : State) (d : Word) : (s.switchDest d).hasSwitched d = true := by
  cases h : s.hasSwitched d
  · rw [State.switchDest_of_boundary h]
    (repeat' split) <;> simp [State.hasSwitched, State.markSwitched]
  · rw [State.switchDest_of_switched h, h]

section
variable {s : State} {d : Word} (h : s.hasSwitched d = false)
include h

theorem State.switchDest_of_same (he : s.entryOf s.bankUsed d = s.entryOf s.bankOther d) :
    s.switchDest d = s.markSwitched d := by
  rw [State.switchDest_of_boundary h, if_pos he]

theorem State.switchDest_of_new {m : Nat} {k : Conn} (hold : s.entryOf s.bankUsed d = none)
    (hnew : s.entryOf s.bankOther d = some (m, k)) :
    s.switchDest d = (((((s.markSwitched d).restartTrib m).takeSel k).restartE1 d).memberNone d).restartPtr d := by
  rw [State.switchDest_of_boundary h, hold, hnew, if_neg (by simp), if_neg (by simp)]
  rfl

theorem State.switchDest_of_gone {o : Nat} {p : Conn} (hold : s.entryOf s.bankUsed d = some (o, p))
    (hnew : s.entryOf s.bankOther d = none) :
    s.switchDest d = ((((s.markSwitched d).restartTrib o).restartE1 d).memberNone d).restartPtr d := by
  rw [State.switchDest_of_boundary h, hold, hnew, if_neg (by simp), if_neg (by simp)]
  rfl

variable {m o : Nat} {k p : Conn} (hold : s.entryOf s.bankUsed d = some (o, p))
  (hnew : s.entryOf s.bankOther d = some (m, k))
include hold hnew

theorem State.switchDest_of_other_sources (hk : p.src ≠ k.src ∨ p.alt ≠ k.alt) :
    s.switchDest d
      = ((((((s.markSwitched d).restartTrib o).restartTrib m).takeSel k).restartE1 d).memberNone d).restartPtr d := by
  have hsrc : ¬ (p.src = k.src ∧ p.alt = k.alt) := fun ⟨hs, ha⟩ => hk.elim (· hs) (· ha)
  have hpk : p ≠ k := fun he => hsrc ⟨congrArg Conn.src he, congrArg Conn.alt he⟩
  rw [State.switchDest_of_boundary h, hold, hnew, if_neg (by simp [hpk]), if_neg (by simpa using hsrc)]
  rfl

theorem State.switchDest_of_same_sources (hsrc : p.src = k.src) (halt : p.alt = k.alt) (hne : o ≠ m ∨ p ≠ k) :
    s.switchDest d = ((((s.markSwitched d).restartTrib o).restartTrib m).takeSel k).restartE1 d := by
  have hpair : ¬ (o = m ∧ p = k) := fun ⟨ho, hp⟩ => hne.elim (· ho) (· hp)
  rw [State.switchDest_of_boundary h, hold, hnew, if_neg (by simpa using hpair), if_pos (by simp [hsrc, halt])]
  rfl

end

/-! ### A line (R157, R170, R192) -/

theorem State.switchLine_of_switched {s : State} {c : Nat} (h : s.swap.lines.contains c = true) :
    s.switchLine c = s := by
  simp only [State.switchLine, h, Bool.not_true, Bool.and_false, Bool.false_eq_true, if_false]

/-- The tributaries of a multiplexed line with another type or other slots in the new bank. -/
def State.movedSlots (s : State) (c : Nat) : List Nat :=
  (List.range (s.slotsOf c)).filter fun i =>
    s.line s.bankUsed c i 0 != s.line s.bankOther c i 0 || s.slotMask s.bankUsed c i != s.slotMask s.bankOther c i

theorem State.mem_movedSlots (s : State) (c i : Nat) :
    i ∈ s.movedSlots c ↔ i < s.slotsOf c ∧ (s.line s.bankUsed c i 0 ≠ s.line s.bankOther c i 0
      ∨ s.slotMask s.bankUsed c i ≠ s.slotMask s.bankOther c i) := by
  simp [State.movedSlots]

theorem State.switchLine_of_mux {s u : State} {c : Nat} (hst : s.swap.st = 2) (hmux : s.muxLine c = true)
    (h : s.swap.lines.contains c = false) (hu : u = { s with swap := { s.swap with lines := c :: s.swap.lines } }) :
    s.switchLine c = (u.modCh c fun x => { x with tx := { x.tx with
      just := (s.movedSlots c).foldl (fun m i => Store.set {} m (oduEp c (i + 1)).toNat {}) x.tx.just } }).msiJudge
        c := by
  subst hu
  exact (if_pos (by rw [hst, h]; rfl)).trans (if_pos hmux)

/-! ### The boundary of a destination (R192) -/

section
variable {s : State} {n : Nat} {d e : Word} (hst : s.swap.st = 2) (hd : d = (s.conn s.bankOther n).dest)
  (he : e = (s.conn s.bankUsed n).dest)
include hst hd he

/-- The new destination of a connection changes with its line; the old one where the other bank leaves it. -/
theorem State.swapSwitch_of_switching {r u : State}
    (hr : r = if epKind d = 2 ∧ s.muxLine (epCh d) = true then s.switchLine (epCh d) else s)
    (hu : u = if epKind d = 0 then r else r.switchDest d) :
    s.swapSwitch n = if epKind e ≠ 0 ∧ u.entryOf u.bankOther e = none then u.switchDest e else u := by
  have hline : (if epKind d = 2 && s.muxLine (epCh d) then s.switchLine (epCh d) else s) = r := by
    rw [hr]
    exact ite_congr (by simp) (fun _ => rfl) fun _ => rfl
  have hdest : (if epKind d != 0 then r.switchDest d else r) = u := by
    rw [hu]
    by_cases hk : epKind d = 0 <;> simp [hk]
  subst hd he
  refine (if_pos hst).trans ?_
  simp only [hline, hdest]
  exact ite_congr (by simp) (fun _ => rfl) fun _ => rfl

/-- A connection that keeps its destination, or that has none yet, changes that destination alone, once. -/
theorem State.swapSwitch_of_kept (hdk : epKind d ≠ 0) (hkeep : epKind e = 0 ∨ e = d)
    (hline : epKind d ≠ 2 ∨ s.muxLine (epCh d) = false ∨ s.swap.lines.contains (epCh d) = true) :
    s.swapSwitch n = s.switchDest d := by
  have hr : (if epKind d = 2 ∧ s.muxLine (epCh d) = true then s.switchLine (epCh d) else s) = s := by
    split
    next hmux =>
      obtain ⟨hk, hm⟩ := hmux
      exact State.switchLine_of_switched ((hline.resolve_left (not_not_intro hk)).resolve_left (by simp [hm]))
    next => rfl
  rw [State.swapSwitch_of_switching hst hd he rfl rfl, hr, if_neg hdk]
  split
  next hgone =>
    obtain ⟨hek, -⟩ := hgone
    rw [hkeep.resolve_left hek]
    exact State.switchDest_of_switched (s.hasSwitched_switchDest d)
  next => rfl

/-- A connection that the other bank leaves empty changes its old destination. -/
theorem State.swapSwitch_of_emptied (hdk : epKind d = 0) (hek : epKind e ≠ 0)
    (hgone : s.entryOf s.bankOther e = none) : s.swapSwitch n = s.switchDest e := by
  have hline : ¬ (epKind d = 2 ∧ s.muxLine (epCh d) = true) := by simp [hdk]
  rw [State.swapSwitch_of_switching hst hd he rfl rfl, if_pos hdk, if_neg hline, if_pos ⟨hek, hgone⟩]

end

/-- Settles O50: the validation's verdict, the boundaries and the two ends of a swap, each by the lemma of its case. -/
theorem bankSwap : Obligations.BankSwap := by
  refine ⟨?_, ?_, ?_, ?_, ?_, ?_, ?_, ?_⟩
  · intro s t q ha hv ht
    subst ht
    exact ⟨fun w hf => next_whileOn ha (State.swapValidated_of_fail hv rfl hf),
      fun hf hpast => next_whileOn ha (State.swapValidated_of_past hv rfl hf hpast),
      fun hf hahead hp => next_whileOn ha (State.swapValidated_of_unpaired hv rfl hf hahead hp),
      fun hf hahead hp => ⟨_, rfl, next_whileOn ha (State.swapValidated_of_paired hv rfl hf hahead hp rfl)⟩⟩
  · intro s ha hst
    exact ⟨fun hnow => next_whileOn ha (if_pos (by simp [hst, State.swapAt, hnow])),
      fun hnow => next_whileOn ha (if_neg (by simp [State.swapAt, Nat.not_le.mpr hnow]))⟩
  · intro s n d ha hst hd hdk hkeep hline
    have hone := State.swapSwitch_of_kept hst hd rfl hdk hkeep hline
    refine ⟨fun h => next_whileOn ha (hone.trans (State.switchDest_of_switched h)), fun h => ⟨s.markSwitched d, rfl,
      fun hsame => next_whileOn ha (hone.trans (State.switchDest_of_same h hsame)),
      fun m k hold hnew => next_whileOn ha (hone.trans (State.switchDest_of_new h hold hnew)),
      fun m o k p hold hnew => ⟨
        fun hk => next_whileOn ha (hone.trans (State.switchDest_of_other_sources h hold hnew hk)),
        fun hsrc halt hne =>
          next_whileOn ha (hone.trans (State.switchDest_of_same_sources h hold hnew hsrc halt hne))⟩⟩⟩
  · intro s n o d p ha hst hd hdk hempty h hold hnew
    exact ⟨s.markSwitched d, rfl, next_whileOn ha
      ((State.swapSwitch_of_emptied hst rfl hd hempty hdk hnew).trans (State.switchDest_of_gone h hold hnew))⟩
  · intro s c hst hmux
    exact ⟨State.switchLine_of_switched,
      fun h => ⟨_, s.movedSlots c, rfl, s.mem_movedSlots c, State.switchLine_of_mux hst hmux h rfl⟩⟩
  · intro s r u n d e ha hst hd he hr hu
    exact next_whileOn ha (State.swapSwitch_of_switching hst hd he hr hu)
  · intro s r t ha hst hdue hr ht
    subst hr ht
    exact ⟨_, rfl, next_whileOn ha (if_pos (by rw [hst, hdue]; rfl))⟩
  · intro s t ha hst ht
    subst ht
    exact next_whileOn ha (if_pos hst)

end Sys2Proof.Machine
end

section
/-!
Monitoring on its own timers (07_defects_monitoring.md): the 3 ms of dLOF, the windows of dDEG and dEXC, the fold of a
second, the hold-off of defects and tributaries, and a watermark that is crossed upwards.
-/
namespace Sys2Proof.Machine

/-- A row of a timer that Owl runs has its operation's effect, and ends DEEP (R29, R40). -/
theorem next_owlOn (s : State) {t u : State} (h : t = u) : (.next (owlOn s t) : Out) = .next (owlOn s u) :=
  congrArg (fun x => Host.Outcome.next (owlOn s x)) h

/-! ### The 3 ms of dLOF (R99, R205, R207) -/

section
variable {s : State} {c : Nat} (hdue : s.due (s.ch c).mon.lofAt = true) (hheld : s.defHeld c dLOF = false)
include hdue hheld

/-- The 3 ms of a dLOF that is not held are over. -/
theorem State.dlofExpiry_of_due {t u : State} (ht : t = s.modMon c fun m => { m with lofAt := none })
    (hu : u = (t.setDef c dLOF true).clearOverhead c) :
    s.dlofExpiry c = if s.def_ c dOOF = true
      then (if u.backoffNow c then u.setCrb c 4 21 true else u).syncSsf c else (t.setDef c dLOF false).syncSsf c := by
  subst ht hu
  exact if_pos (by rw [hdue, hheld]; rfl)

/-- They were 3 ms of dOOF. -/
theorem State.dlofExpiry_of_oof (hoof : s.def_ c dOOF = true) {u : State}
    (hu : u = ((s.modMon c fun m => { m with lofAt := none }).setDef c dLOF true).clearOverhead c) :
    s.dlofExpiry c = (if u.backoffNow c then u.setCrb c 4 21 true else u).syncSsf c :=
  (State.dlofExpiry_of_due hdue hheld rfl hu).trans (if_pos hoof)

/-- They were 3 ms without it. -/
theorem State.dlofExpiry_of_no_oof (hoof : s.def_ c dOOF = false) :
    s.dlofExpiry c = ((s.modMon c fun m => { m with lofAt := none }).setDef c dLOF false).syncSsf c :=
  (State.dlofExpiry_of_due hdue hheld rfl rfl).trans (if_neg (by simp [hoof]))

end

/-- Settles O19: what the 3 ms set or clear is the branch that dOOF chooses. -/
theorem dlofTimer : Obligations.DlofTimer := by
  constructor
  · intro s c ha hdue hheld hoof
    exact ⟨_, rfl, next_whileOn ha (State.dlofExpiry_of_oof hdue hheld hoof rfl)⟩
  · intro s c ha hdue hheld hoof
    exact next_whileOn ha (State.dlofExpiry_of_no_oof hdue hheld hoof)

/-! ### Degrade windows (R217, R218, R220) -/

section
variable {s : State} {c : Nat} (hf : s.framed c = true) (hen : s.crb c 9 31 = true)
include hf hen

/-- The window of dDEG is complete. -/
theorem State.windowEnd_of_deg (hfull : (s.ch c).mon.deg.frames ≥ poissonW (s.degExp c) (s.frameBits c)) :
    s.windowEnd c false = (s.modMon c fun m => { m with deg := m.deg.endWindow }).syncDeg c :=
  if_pos (by simp [hf, hen, hfull])

/-- The window of dEXC is complete. -/
theorem State.windowEnd_of_exc (hfull : (s.ch c).mon.exc.frames ≥ poissonW (3 + s.crf c 9 23 22) (s.frameBits c)) :
    s.windowEnd c true = (s.modMon c fun m => { m with exc := m.exc.endWindow }).syncDeg c :=
  if_pos (by simp [hf, hen, hfull])

end

/-! ### The fold of a second (R226) -/

/-- A single second that waits has lost its record to no other. -/
theorem State.foldAll_single (s : State) (sec : Nat) : s.foldAll [sec] = s.each allCh (State.foldRec sec) := rfl

section
variable {s : State} (hup : s.fwUp = true) (hdue : s.due s.mgmt.foldAt = true)
include hup hdue

theorem State.pmFold_of_asleep (haw : s.mgmt.awake = false) : s.pmFold = s.wakeBadger :=
  if_pos (by rw [hup, hdue, haw]; rfl)

theorem State.pmFold_of_awake (haw : s.mgmt.awake = true) {sec : Nat} (hsec : s.mgmt.unfolded = [sec]) {u : State}
    (hu : u = s.each allCh (State.foldRec sec)) :
    s.pmFold = (u.modMgmt fun m => { m with
        unfolded := [], foldAt := some (u.owl + 8000000)
        deepSecs := m.deepSecs.filter fun d => sec / 86400 ≤ d / 86400 }).setReg 0x800C (BitVec.ofNat 32 sec) := by
  subst hu
  unfold State.pmFold
  rw [if_neg (by rw [hup, hdue, haw]; decide), if_pos (by rw [hup, hdue]; rfl), hsec]
  rfl

end

/-! ### Hold-off (R233, R234) -/

theorem State.defExpiry_of_due {s : State} {c d : Nat} (h : s.due (s.hold (holdDefect c d)).at_ = true) :
    s.defExpiry c d = ((s.hold (holdDefect c d)).reports.foldl (fun t e => t.push (defEvent c d e.2)) s).modHold
      (holdDefect c d) fun _ => (s.hold (holdDefect c d)).settled := if_pos h

/-- One event stands for all the tributaries of a channel. -/
theorem State.tribExpiry_of_due {s : State} {c : Nat} (hc : c < 192) (h : s.due (s.hold (holdTrib c)).at_ = true)
    (hany : (s.hold (holdTrib c)).reports ≠ [] ∨ (s.hold (holdTrib c)).more = true) :
    s.tribExpiry c = (s.push (mkEvent (s.hold (holdTrib c)).more 0x02 (c / 16) c 0 (s.hold (holdTrib c)).last)).modHold
      (holdTrib c) fun _ => (s.hold (holdTrib c)).settled := by
  have hreport : ¬ ((s.hold (holdTrib c)).reports.isEmpty && !(s.hold (holdTrib c)).more) = true := by
    rcases hany with h | h <;> simp [h]
  refine (if_pos h).trans ?_
  simp only [if_neg hreport, if_pos hc]

/-! ### Watermarks (R235, R236) -/

/-- Two slots of a channel are different registers. -/
theorem chReg_ne {c n m : Nat} (h : n ≠ m) : chReg c n ≠ chReg c m := by
  simp only [chReg]
  omega

/-- The fill rises over WM_LEVEL, and the channel's events are enabled. -/
theorem State.watermark_of_crossing {s u : State} {c v : Nat} (hv : v < 256) (hlvl : s.crf c 16 23 16 ≠ 0)
    (hwas : s.crf c 16 7 0 < s.crf c 16 23 16) (hnow : s.crf c 16 23 16 ≤ v) (hen : s.crb c 17 31 = true)
    (hu : u = s.setReg (chReg c 16)
      (setBit (setFld (setFld (s.cr c 16) 7 0 v) 15 8 (max v (s.crf c 16 15 8))) 31 true)) :
    s.watermark c v = u.event 0x03 (c / 16) c 0x10 := by
  subst hu
  have hmin : min v 255 = v := by omega
  have hcross : (fld (s.cr c 16) 23 16 != 0 && decide (fld (s.cr c 16) 7 0 < fld (s.cr c 16) 23 16)
      && decide (v ≥ fld (s.cr c 16) 23 16)) = true := by
    simp only [Bool.and_eq_true, bne_iff_ne, decide_eq_true_eq]
    exact ⟨⟨hlvl, hwas⟩, hnow⟩
  have hkept : ∀ w, (s.setReg (chReg c 16) w).crb c 17 31 = true := fun w =>
    (congrArg (bit · 31) (s.reg_setReg_other (chReg c 16) (chReg c 17) w (chReg_ne (by decide)))).trans hen
  simp only [State.watermark, hmin, hcross, hkept, Bool.and_self, if_true]
  rfl

/-- Settles O20: each timer is its operation with its time over, and the crossing the one case of the watermark. -/
theorem monitoring : Obligations.Monitoring := by
  refine ⟨?_, ?_, ?_, ?_, ?_, ?_, ?_⟩
  · intro s c ha hc hf hen hfull
    exact next_onCh ha hc (State.windowEnd_of_deg hf hen hfull)
  · intro s c ha hc hf hen hfull
    exact next_onCh ha hc (State.windowEnd_of_exc hf hen hfull)
  · intro s sec ha hup hdue hsec haw
    exact ⟨_, rfl, next_owlOn s (State.pmFold_of_awake hup hdue haw hsec rfl)⟩
  · intro s ha hup hdue haw
    exact next_owlOn s (State.pmFold_of_asleep hup hdue haw)
  · intro s c d ha hc hd hdue
    exact next_owlOn s ((if_pos ⟨hc, hd⟩).trans (State.defExpiry_of_due hdue))
  · intro s c ha hc hdue hany
    exact next_owlOn s ((if_pos (by omega)).trans (State.tribExpiry_of_due hc hdue hany))
  · intro s c v ha hc hv hlvl hwas hnow hen
    exact ⟨_, rfl, next_onCh ha hc (State.watermark_of_crossing hv hlvl hwas hnow hen rfl)⟩

end Sys2Proof.Machine
end

section
/-!
Device time (13_time_and_stamps.md): what it does on its own at a PPS edge, at a whole second, at the time of a trigger
and at the end of an arming, a correction or a second, how its counter carries, and its commands, each alone.
-/
namespace Sys2Proof.Machine

/-! ### PPS inputs and outputs (R406, R407, R435) -/

section
variable {s : State} {n : Nat} {rising : Bool} (hn : n < 2) (hen : s.rb 0x3030 (31 - 2 * n) = true)
  (hpol : rising ≠ s.rb 0x3030 (30 - 2 * n)) (hclk : s.clocked = true)
include hn hen hpol hclk

theorem State.marks_of_edge :
    (n < 2 && s.rb 0x3030 (31 - 2 * n) && rising != s.rb 0x3030 (30 - 2 * n) && s.clocked) = true := by
  simp [hn, hen, hpol, hclk]

/-- A marking edge of an enabled input, the first one: it is accepted. -/
theorem State.ppsIn_of_first (hlast : Store.get none s.time.ppsLast n = none) :
    s.ppsIn n rising
      = ((({ s with time := { s.time with ppsLast := Store.set none s.time.ppsLast n (some s.time.tclk) } }.setReg
          (0x3034 + 8 * n) (BitVec.ofNat 32 s.time.sec)).setReg
          (0x3038 + 8 * n) (BitVec.ofNat 32 (2 ^ 31 + s.ns))).count
          0x3044 (31 - 16 * n) (24 - 16 * n) 1).timeEvent (0x10 + n) := by
  refine (if_pos (State.marks_of_edge hn hen hpol hclk)).trans ?_
  simp only [hlast, if_true]
  rfl

/-- A marking edge of an enabled input within 0.9 s of the last: it is rejected. -/
theorem State.ppsIn_of_early {t : Nat} (hlast : Store.get none s.time.ppsLast n = some t)
    (hgap : s.time.tclk < t + ppsGap) :
    s.ppsIn n rising = (s.count 0x3044 (23 - 16 * n) (16 - 16 * n) 1).setRb 0x3028 (29 - n) true := by
  refine (if_pos (State.marks_of_edge hn hen hpol hclk)).trans ?_
  simp only [hlast, decide_eq_true_eq, if_neg (Nat.not_le.mpr hgap)]

end

/-- A whole second that an enabled output has not marked yet. -/
theorem State.ppsOutEdge_of_second {s : State} {n : Nat} (hon : s.ppsOutOn n = true) (hclk : s.clocked = true)
    (hpos : s.ppsPos n % 1000000000 < 1002)
    (hmark : Store.get none s.time.ppsMark n ≠ some (s.ppsPos n / 1000000000)) :
    s.ppsOutEdge n = { s with
      ppsOut := s.ppsOut ++ [n]
      time := { s.time with
        ppsMark := Store.set none s.time.ppsMark n (some (s.ppsPos n / 1000000000))
        ppsEnd := Store.set none s.time.ppsEnd n
          (some (s.owl + 1000 * max 1 (min 500 (s.rf (0x20A0 + 4 * n) 28 20)))) } } :=
  if_pos (by simp [hon, hclk, hpos, hmark])

/-! ### Triggers (R436) -/

theorem State.trigFire_of_reached {s t : State} {n : Nat} (hn : n < 4) (harm : s.rb (trigCtl n) 31 = true)
    (hnow : s.trigNs n (Store.get 0 s.time.trigHi n) ≤ s.nowNs)
    (ht : t = ((s.trigOff n).setRb (trigCtl n) 30 true).timeEvent (0x30 + n)) :
    s.trigFire n = if t.rf (trigCtl n) 29 28 = 1 then t.snapshot false
      else if t.rf (trigCtl n) 29 28 = 2 then t.snapshot true else t := by
  subst ht
  exact if_pos (by simp [hn, harm, hnow])

/-! ### The ends of an arming, of a correction and of a second (R223, R423, R425) -/

theorem State.stepArmExpiry_of_due {s : State} (h : s.due s.time.armTill = true) :
    s.stepArmExpiry = { s.setRb 0x3000 30 false with time := { s.time with armTill := none } } := if_pos h

/-- With no correction left SLEW_NS reads 0 and SLEWING is clear. -/
theorem State.showSlew_of_applied {s : State} (h : s.time.slew = 0) :
    s.showSlew = (s.setReg 0x302C 0).setRb 0x3000 29 false := by
  rw [State.showSlew, h]
  rfl

theorem State.slewDone_of_applied {s : State} (h : s.time.slew = 0) :
    s.slewDone = (s.setReg 0x302C 0).setRb 0x3000 29 false :=
  (if_pos h).trans (State.showSlew_of_applied h)

theorem State.pmSecond_of_over {s : State} (h : s.time.sec ≠ s.time.open_) :
    s.pmSecond = (s.refHistory s.time.open_).closeSecond false := if_neg h

/-! ### The counter (R413, R414) -/

theorem Clock.add_sub_lt (t : Clock) (n : Nat) : (t.add n).sub < secUnits := Nat.mod_lt _ (by decide)

theorem Clock.add_sec_lt (t : Clock) (n : Nat) : (t.add n).sec < 2 ^ 48 := Nat.mod_lt _ (by decide)

/-- Within its second the counter moves its nanoseconds field alone. -/
theorem Clock.add_within {t : Clock} {n : Nat} (h : n + t.sub < secUnits) (hs : t.sec < 2 ^ 48) :
    (t.add n).sec = t.sec ∧ (t.add n).sub = t.sub + n := by
  have hlt : t.sub + n < secUnits := by rwa [Nat.add_comm]
  constructor
  · show (t.sec + (t.sub + n) / secUnits) % 2 ^ 48 = t.sec
    rw [Nat.div_eq_of_lt hlt, Nat.add_zero, Nat.mod_eq_of_lt hs]
  · exact Nat.mod_eq_of_lt hlt

/-- Settles O40: each event is its operation with its condition met, and the carry is that of the counter's addition. -/
theorem timeEvents : Obligations.TimeEvents := by
  refine ⟨?_, ?_, ?_, ?_, ?_, ?_, ?_⟩
  · intro s n rising ha hn hen hpol hclk
    exact ⟨fun hlast => next_whileOn ha (State.ppsIn_of_first hn hen hpol hclk hlast),
      fun t hlast hgap => next_whileOn ha (State.ppsIn_of_early hn hen hpol hclk hlast hgap)⟩
  · intro s n ha hon hclk hpos hmark
    exact next_whileOn ha (State.ppsOutEdge_of_second hon hclk hpos hmark)
  · intro s n ha hn harm hnow
    exact ⟨_, rfl, next_whileOn ha (State.trigFire_of_reached hn harm hnow rfl)⟩
  · intro s ha hdue
    exact next_whileOn ha (State.stepArmExpiry_of_due hdue)
  · intro s ha hslew
    exact next_whileOn ha (State.slewDone_of_applied hslew)
  · intro s ha hover
    exact next_whileOn ha (State.pmSecond_of_over hover)
  · intro t n
    exact fun _ => ⟨t.add_sub_lt n, fun _ => t.add_sec_lt n, fun h hs => Clock.add_within h hs⟩

/-! ### TIME_STEP (R420 to R423) -/

/-- The time that a TIME_STEP asks for, in ns, and its bits of 2^-48 ns: the form with a time, and the one with a
difference. -/
structure StepForm (s : State) (w a b : Word) (n : Int) (sub : Nat) : Prop where
  bits : onlyBits w (if bit w 31 then 0x80000000 else 0x0000FFFF) = true
  range : bit w 31 = true ∨ b.toNat ≤ 999999999
  time : n = if bit w 31 then (s.nowNs : Int) + signed 64 (a.toNat * 2 ^ 32 + b.toNat)
    else ((fld w 15 0 * 2 ^ 32 + a.toNat) * 1000000000 + b.toNat : Nat)
  fraction : sub = if bit w 31 then s.time.sub % 2 ^ 48 else 0

theorem StepForm.of_time {s : State} {w a b : Word} {n : Nat} (hw : bit w 31 = false)
    (hbits : onlyBits w 0x0000FFFF = true) (hb : b.toNat ≤ 999999999)
    (hn : n = (fld w 15 0 * 2 ^ 32 + a.toNat) * 1000000000 + b.toNat) : StepForm s w a b n 0 :=
  ⟨by rw [hw]; exact hbits, .inr hb, by rw [hw, hn]; exact (if_neg Bool.false_ne_true).symm, by rw [hw]; rfl⟩

theorem StepForm.of_difference {s : State} {w a b : Word} {n : Int} (hw : bit w 31 = true)
    (hbits : onlyBits w 0x80000000 = true) (hn : n = (s.nowNs : Int) + signed 64 (a.toNat * 2 ^ 32 + b.toNat)) :
    StepForm s w a b n (s.time.sub % 2 ^ 48) :=
  ⟨by rw [hw]; exact hbits, .inl hw, by rw [hw, hn]; exact (if_pos rfl).symm, by rw [hw]; rfl⟩

section
variable {s : State} {w a b : Word} {n : Int} {sub : Nat} (hf : StepForm s w a b n sub) (h0 : 0 ≤ n)
  (hend : n < timeEndNs)
include hf h0 hend

/-- A TIME_STEP of a time that the counter holds: refused with its flag and event, or done. -/
theorem State.fxTimeStep_of_form (q : Req) :
    s.fxTimeStep q [w, a, b] = if (s.timeValid && (!s.rb 0x3000 30 || s.due s.time.armTill)) = true
      then ((s.setRb 0x3028 30 true).timeEvent 0x21).finish q 0x0603 eJump 0 []
      else (s.timeTo n.toNat sub).finish q 0x0603 stOk 0 (words64 (n - s.nowNs)) := by
  obtain ⟨hbits, hrange, htime, hfrac⟩ := hf
  have hinside :
      ¬ ((!bit w 31 && decide (b.toNat > 999999999)) || decide (n < 0) || decide (n ≥ timeEndNs)) = true := by
    simp only [Bool.or_eq_true, Bool.and_eq_true, Bool.not_eq_true', decide_eq_true_eq]
    rintro ((⟨hw, hb⟩ | h) | h)
    · rcases hrange with hr | hr
      · exact Bool.false_ne_true (hw.symm.trans hr)
      · omega
    · omega
    · omega
  subst htime hfrac
  unfold State.fxTimeStep
  rw [if_neg (by simp)]
  exact (if_neg (by rw [show wd [w, a, b] 0 = w from rfl, hbits]; decide)).trans (if_neg hinside)

theorem State.fxTimeStep_of_allowed (q : Req)
    (h : s.timeValid = false ∨ (s.rb 0x3000 30 = true ∧ s.due s.time.armTill = false)) :
    s.fxTimeStep q [w, a, b] = (s.timeTo n.toNat sub).finish q 0x0603 stOk 0 (words64 (n - s.nowNs)) :=
  (State.fxTimeStep_of_form hf h0 hend q).trans (if_neg (by
    rcases h with h | ⟨harm, hdue⟩
    · simp [h]
    · simp [harm, hdue]))

theorem State.fxTimeStep_of_refused (q : Req) (hv : s.timeValid = true)
    (h : s.rb 0x3000 30 = false ∨ s.due s.time.armTill = true) :
    s.fxTimeStep q [w, a, b] = ((s.setRb 0x3028 30 true).timeEvent 0x21).finish q 0x0603 eJump 0 [] :=
  (State.fxTimeStep_of_form hf h0 hend q).trans (if_pos (by rcases h with h | h <;> simp [hv, h]))

end

/-! ### TIME_ADJ_RATE and TIME_OFFSET_ADJ (R424, R425) -/

theorem State.fxTimeAdjRate_of_range {w : Word} (hlo : -100000000 ≤ sword w) (hhi : sword w ≤ 100000000) (s : State)
    (q : Req) : s.fxTimeAdjRate q [w] = (s.setReg 0x3018 w).finish q 0x0604 stOk 0 [w] := by
  have hrange : ¬ (decide (sword w < -100000000) || decide (sword w > 100000000)) = true := by
    simp only [Bool.or_eq_true, decide_eq_true_eq]
    omega
  unfold State.fxTimeAdjRate
  rw [if_neg (by simp)]
  exact if_neg hrange

section
variable {s : State} (hv : s.timeValid = true) (q : Req) (w : Word)
include hv

/-- With device time valid the size of the correction, alone and with what is left of the last, decides. -/
theorem State.fxTimeOffsetAdj_of_valid {t : State}
    (ht : t = { s with time := { s.time with slew := s.time.slew + sword w * 1000000 } }.showSlew) :
    s.fxTimeOffsetAdj q [w]
      = if -(s.jumpLimit : Int) < sword w ∧ sword w < s.jumpLimit
          ∧ -(s.jumpLimit : Int) < slewNs s.time.slew + sword w ∧ slewNs s.time.slew + sword w < s.jumpLimit
        then t.finish q 0x0605 stOk 0 [t.reg 0x302C]
        else ((s.setRb 0x3028 31 true).timeEvent 0x20).finish q 0x0605 eJump 0 [] := by
  subst ht
  unfold State.fxTimeOffsetAdj
  rw [if_neg (by simp)]
  refine (if_neg (by rw [hv]; decide)).trans (ite_congr ?_ (fun _ => rfl) fun _ => rfl)
  simp only [Bool.and_eq_true, decide_eq_true_eq, and_assoc]
  rfl

end

/-! ### TS_POP (R433, R434) -/

/-- Stamps of one queue that is not empty leave in the order in which they came. -/
theorem State.popStamps_single {s : State} {g n : Nat} {l : List Stamp} (hl : l = (s.grp g).stamps) (hne : l ≠ [])
    (hn : 1 ≤ n) : s.popStamps [g] n = (l.take n, s.setStamps g (l.drop n)) := by
  subst hl
  have hsome : ¬ ((s.grp g).stamps.isEmpty || decide (n = 0)) = true := by
    simp only [Bool.or_eq_true, List.isEmpty_iff, decide_eq_true_eq, not_or]
    exact ⟨hne, by omega⟩
  simp only [State.popStamps, if_neg hsome, List.append_nil]

theorem State.fxTsPop_of_stamps {s : State} {w : Word} {l : List Stamp} (hbits : onlyBits w 0xFF0000FF = true)
    (hg : fld w 31 24 < 12) (h1 : 1 ≤ fld w 7 0) (h64 : fld w 7 0 ≤ 64) (hl : l = (s.grp (fld w 31 24)).stamps)
    (hne : l ≠ []) (q : Req) :
    s.fxTsPop q [w] = (s.setStamps (fld w 31 24) (l.drop (fld w 7 0))).finish q 0x0702 stOk 0
      (BitVec.ofNat 32 (l.take (fld w 7 0)).length :: (l.take (fld w 7 0)).foldl (fun m e => m ++ e.words) []) := by
  have hfields : ¬ (!onlyBits w 0xFF0000FF || (decide (fld w 31 24 ≥ 12) && fld w 31 24 != 0xFF)) = true := by
    rw [hbits, decide_eq_false (Nat.not_le.mpr hg)]
    exact Bool.false_ne_true
  have hgroups : (if fld w 31 24 = 0xFF then List.range 12 else [fld w 31 24]) = [fld w 31 24] := if_neg (by omega)
  have hmax : (if fld w 7 0 = 0 ∨ fld w 7 0 > 64 then 64 else fld w 7 0) = fld w 7 0 := if_neg (by omega)
  have htaken : ¬ (l.take (fld w 7 0)).isEmpty = true := by
    rw [List.isEmpty_iff, List.take_eq_nil_iff, not_or]
    exact ⟨by omega, hne⟩
  unfold State.fxTsPop
  rw [if_neg (by simp)]
  refine (if_neg hfields).trans ?_
  simp only [show wd [w] 0 = w from rfl, hgroups, hmax, State.popStamps_single hl hne h1, if_neg htaken]

/-! ### SNAPSHOT and CNT_CLEAR (R229 to R231) -/

theorem State.fxSnapshot_of_bits {w : Word} (hbits : onlyBits w 1 = true) (s : State) (q : Req) {t : State}
    (ht : t = s.snapshot (bit w 0)) :
    s.fxSnapshot q [w] = t.finish q 0x0301 stOk 0 [t.reg 0x8000, t.reg 0x8004, t.reg 0x8008] := by
  subst ht
  unfold State.fxSnapshot
  rw [if_neg (by simp)]
  exact if_neg (by rw [show wd [w] 0 = w from rfl, hbits]; decide)

theorem State.fxCntClear_of_every (s : State) (q : Req) :
    s.fxCntClear q [0x80000000] = s.clearEvery.finish q 0x0302 stOk 0 [] := by
  have hevery : bit (wd [(0x80000000 : Word)] 0) 31 = true := by decide
  have hbits : onlyBits (wd [(0x80000000 : Word)] 0) 0x800000FF = true := by decide
  unfold State.fxCntClear
  rw [if_neg (by simp)]
  exact (if_pos hevery).trans (if_neg (by rw [hbits]; decide))

/-- Settles O41: each command starts alone, and its answer is the branch that its conditions choose. -/
theorem timeCommands : Obligations.TimeCommands := by
  refine ⟨?_, ?_, ?_, ?_, ?_, ?_, ?_, ?_, ?_⟩
  · intro s q w a b n hr hw hbits hb hn hend
    have hf := StepForm.of_time (s := s) hw hbits hb hn
    have h0 : (0 : Int) ≤ n := Int.natCast_nonneg n
    have hlt : (n : Int) < timeEndNs := Int.ofNat_lt.mpr hend
    exact ⟨fun h => next_ready hr q _ (State.fxTimeStep_of_allowed hf h0 hlt q h),
      fun hv h => next_ready hr q _ (State.fxTimeStep_of_refused hf h0 hlt q hv h)⟩
  · intro s q w a b n hr hw hbits hn h0 hend
    have hf := StepForm.of_difference hw hbits hn
    exact ⟨fun h => next_ready hr q _ (State.fxTimeStep_of_allowed hf h0 hend q h),
      fun hv h => next_ready hr q _ (State.fxTimeStep_of_refused hf h0 hend q hv h)⟩
  · intro s q w hr hlo hhi
    exact next_ready hr q _ (State.fxTimeAdjRate_of_range hlo hhi s q)
  · intro s q w lim hr hv hlim hlo hhi hslo hshi
    subst hlim
    exact ⟨_, rfl, next_ready hr q _
      ((State.fxTimeOffsetAdj_of_valid hv q w rfl).trans (if_pos ⟨hlo, hhi, hslo, hshi⟩))⟩
  · intro s q w hr hv hover
    exact next_ready hr q _ ((State.fxTimeOffsetAdj_of_valid hv q w rfl).trans (if_neg (by omega)))
  · intro s q w hr hbits hg h1 h64 hne
    exact ⟨_, rfl, next_ready hr q _ (State.fxTsPop_of_stamps hbits hg h1 h64 rfl hne q)⟩
  · intro s q w hr hbits
    exact ⟨_, rfl, next_ready hr q _ (State.fxSnapshot_of_bits hbits s q rfl)⟩
  · intro s q hr
    exact next_ready hr q _ (s.fxCntClear_of_every q)
  · intro s
    exact ⟨_, _, rfl, rfl, rfl⟩

end Sys2Proof.Machine
end

section
/-!
Protection switching (08_protection_switching.md): the evaluation of a group and the laws of its decision, the timers
of a group, and the commands to it, each alone.
-/
namespace Sys2Proof.Machine

/-- A row about a protection group of a device whose core clock runs does what its operation does. -/
theorem next_onPg {s t u : State} {p : Nat} (hclk : s.clocked = true) (hp : p < 96) (h : t = u) :
    (.next (onPg p s t) : Out) = .next u :=
  congrArg Host.Outcome.next ((if_pos (by simp [hp, hclk])).trans h)

/-- A row about a protection group whose operation does nothing does nothing. -/
theorem next_onPg_self {s t : State} (p : Nat) (h : t = s) : (.next (onPg p s t) : Out) = .next s :=
  congrArg Host.Outcome.next (by rw [h, onPg, ite_self])

/-! ### The evaluation (R243, R246 to R252, R260, R263) -/

theorem State.pgEvaluate_of_enabled {s u t : State} {p : Nat} (hen : s.pgEnabled p = true) (hrun : s.running = true)
    (hu : u = s.pgAgree p)
    (ht : t = (((((u.pgSample p).pgFlags p).pgRestore p).pgSupersede p).pgDecide p).pgNoResp p) :
    s.pgEvaluate p = if ((u.pg p).frozen || !u.pairActive) = true then u else u.pgTell t p := by
  subst hu ht
  exact if_pos (by rw [hen, hrun]; rfl)

theorem State.pgEvaluate_of_disabled {s : State} {p : Nat} (hen : s.pgEnabled p = false) : s.pgEvaluate p = s :=
  if_neg (by simp [hen])

/-! ### The decision (R248) -/

@[simp] theorem State.change_pgs (s : State) (k i v us : Nat) : (s.change k i v us).pgs = s.pgs := by
  unfold State.change
  dsimp only
  split <;> rfl

@[simp] theorem State.countTbl_pgs (s : State) (t e w hi lo n : Nat) : (s.countTbl t e w hi lo n).pgs = s.pgs := rfl

@[simp] theorem State.pgItem_pgs (s : State) (p i v : Nat) : (s.pgItem p i v).pgs = s.pgs := by
  unfold State.pgItem
  dsimp only
  split <;> simp

/-- What a decision reports leaves every group as it is. -/
@[simp] theorem State.pgReport_pgs (s : State) (p : Nat) (g : Pg) : (s.pgReport p g).pgs = s.pgs := by
  unfold State.pgReport
  dsimp only
  split <;> simp

theorem State.pg_pgDecide {s : State} (hwf : s.wf = true) (p : Nat) :
    (s.pgDecide p).pg p = (s.pg p).decide (s.pgArch p) (s.farReq p) s.time.sec := by
  have hreport : ∀ (t : State) (g : Pg), (t.pgReport p g).pg p = t.pg p := fun t g => by
    simp only [State.pg, State.pgReport_pgs]
  rw [State.pgDecide, hreport, State.pg_modPg_same _ _ _ (s.wf_pgs hwf)]

/-- Below MS-P and MS-W, which are equal, a code is its own rank (R247). -/
theorem rank_of_lt {code : Nat} (h : code < 5) : rank code = code := if_neg (by omega)

section
variable (g : Pg) (arch : Bool) (far sec : Nat)

/-- The far end's request is in force where it ranks above the local one, and only there. -/
theorem Pg.decide_topRemote : (g.decide arch far sec).topRemote = Decidable.decide (rank g.localReq < rank far) := rfl

theorem Pg.decide_top : (g.decide arch far sec).top = if rank g.localReq < rank far then far else g.localReq := by
  simp [Pg.decide]

/-- Without a mismatch of the architectures the request in force selects, or keeps the selection. -/
theorem Pg.decide_sel_of_matched (hmis : (arch && g.archMis) = false) :
    (g.decide arch far sec).sel = (selOf (g.decide arch far sec).top).getD g.sel :=
  if_neg (by simp [hmis])

theorem Pg.decide_of_mismatch (hmis : g.archMis = true) :
    (g.decide true far sec).sel = false ∧ (g.decide true far sec).bridged = false := by
  simp [Pg.decide, hmis]

/-- Where an exercise is the highest request of either end it is in force. -/
theorem Pg.decide_top_of_exercise (h : max g.localReq far = 3) : (g.decide arch far sec).top = 3 := by
  rw [Pg.decide_top, rank_of_lt (by omega), rank_of_lt (by omega)]
  split <;> omega

end

/-- Settles O26: the branches of the evaluation, and the decision case by case. -/
theorem protectionEvaluation : Obligations.ProtectionEvaluation := by
  refine ⟨?_, ?_, ?_, ?_, ?_, ?_, ?_, ?_⟩
  · intro s p ha hp hen hrun hclk hfrozen hactive
    refine ⟨_, _, rfl, rfl, next_onPg hclk hp ((State.pgEvaluate_of_enabled hen hrun rfl rfl).trans (if_neg ?_))⟩
    simp [hfrozen, hactive]
  · intro s p ha hp hen hrun hclk hheld
    refine next_onPg hclk hp ((State.pgEvaluate_of_enabled hen hrun rfl rfl).trans (if_pos ?_))
    simpa using hheld
  · intro s p hen
    exact next_onPg_self p (State.pgEvaluate_of_disabled hen)
  · intro s p hwf
    exact State.pg_pgDecide hwf p
  · intro g far sec hrank hsel
    have htop : (g.decide false far sec).top = g.localReq := (g.decide_top ..).trans (if_neg (by omega))
    refine ⟨?_, htop, (g.decide_topRemote ..).trans (decide_eq_false (by omega))⟩
    rw [g.decide_sel_of_matched _ _ _ rfl, htop, hsel]
    rfl
  · intro g far sec hrank
    exact ⟨(g.decide_top ..).trans (if_pos hrank), (g.decide_topRemote ..).trans (decide_eq_true hrank)⟩
  · intro g far sec hmax
    rw [g.decide_sel_of_matched _ _ _ rfl, g.decide_top_of_exercise _ _ _ hmax]
    rfl
  · intro g far sec hmis
    exact g.decide_of_mismatch far sec hmis

/-! ### The timers (R249, R250, R252, R257, R264, R266) -/

section
variable {s : State} {p : Nat} (hen : s.pgEnabled p = true) (hfrozen : (s.pg p).frozen = false)
  (hactive : s.pairActive = true)
include hen hfrozen hactive

theorem State.pgHoldExpiry_of_due {k : PgCond} (hdue : s.due ((s.pg p).cond k).hold = true) :
    s.pgHoldExpiry p k = s.pgTell (s.modPg p fun g =>
      g.setCond k { (s.pg p).cond k with hold := none, req := ((s.pg p).cond k).here }) p :=
  if_pos (by rw [hen, hfrozen, hactive, hdue]; rfl)

theorem State.pgWtrExpiry_of_due (hon : (s.pg p).wtrOn = true) (hdue : s.due (s.pg p).wtrAt = true) :
    s.pgWtrExpiry p = s.pgTell ((s.modPg p fun g => { g with wtrOn := false, wtrAt := none }).pgOccur p 0x50 0) p :=
  if_pos (by rw [hen, hfrozen, hactive, hon, hdue]; rfl)

theorem State.pgNoRespExpiry_of_due (hdue : s.due (s.pg p).noRespAt = true) (hsf : (s.pg p).sfP.here = false) :
    s.pgNoRespExpiry p = (s.modPg p fun g => { g with noRespAt := none }).pgFlag p 2 true :=
  if_pos (by rw [hen, hfrozen, hactive, hdue, hsf]; rfl)

theorem State.pgExerExpiry_of_due (hdue : s.due (s.pg p).exer = true) :
    s.pgExerExpiry p = s.pgTell (s.endExer p 1) p :=
  if_pos (by rw [hen, hfrozen, hactive, hdue]; rfl)

end

/-! ### The selection at a row boundary, and the event timer (R258, R266) -/

/-- A selection that is not applied yet takes effect on every destination whose source it changes. -/
theorem State.pgBoundary_of_pending {s t : State} {p : Nat} (h : (s.pg p).applied ≠ (s.pg p).sel)
    (ht : t = s.modPg p fun g => { g with applied := g.sel, early := [] }) :
    s.pgBoundary p = t.live.foldl (fun u e =>
      if e.2.2.pgroup = p && (s.pg p).altFor e.2.2.dest != (s.pg p).sel then
        (u.moveDup e.2.2.dest (if (s.pg p).sel then e.2.2.alt else e.2.2.src)).restartPtr e.2.2.dest else u) t := by
  subst ht
  exact if_pos (by simp [h])

/-- The event timer of a group that is due is settled. -/
theorem State.hold_pgEvents_of_due {s : State} {p : Nat} (hwf : s.wf = true)
    (hdue : s.due (s.hold (holdProt p)).at_ = true) :
    (s.pgEvents p).hold (holdProt p) = (s.hold (holdProt p)).settled := by
  rw [State.pgEvents, if_pos hdue]
  refine State.hold_modHold_same _ _ _ (State.wf_holds _ (State.foldl_wf _ _ _ hwf fun t e ht => ?_))
  exact State.push_wf t _ ht

/-- Settles O27: each timer is its operation with its time over. -/
theorem protectionTimers : Obligations.ProtectionTimers := by
  refine ⟨?_, ?_, ?_, ?_, ?_, ?_⟩
  · intro s p k hclk hp hen hfrozen hactive hdue
    exact next_onPg hclk hp (State.pgHoldExpiry_of_due hen hfrozen hactive hdue)
  · intro s p hclk hp hen hfrozen hactive hon hdue
    exact next_onPg hclk hp (State.pgWtrExpiry_of_due hen hfrozen hactive hon hdue)
  · intro s p hclk hp hen hfrozen hactive hdue hsf
    exact next_onPg hclk hp (State.pgNoRespExpiry_of_due hen hfrozen hactive hdue hsf)
  · intro s p hclk hp hen hfrozen hactive hdue
    exact next_onPg hclk hp (State.pgExerExpiry_of_due hen hfrozen hactive hdue)
  · intro s p hclk hp hpending
    exact ⟨_, rfl, next_onPg hclk hp (State.pgBoundary_of_pending hpending rfl)⟩
  · intro s p ha hp hdue hwf
    exact ⟨next_owlOn s (if_pos hp), State.hold_pgEvents_of_due hwf hdue⟩

/-! ### APS_CMD (R253, R254, R256, R257) -/

/-- APS_CMD answers OK with a result, and the twin hears what it changed (R253, R260). -/
def State.apsDone (s : State) (q : Req) (p : Nat) (t : State) (r : Nat) : State :=
  (s.pgTell t p).finish q 0x0501 stOk 0 [BitVec.ofNat 32 r]

/-- A command that changes nothing tells the twin nothing. -/
theorem State.pgTell_self (s : State) (p : Nat) : s.pgTell s p = s := if_pos (beq_self_eq_true _)

section
variable {s : State} {w : Word} {p : Nat} (hp : p = fld w 6 0) (ha : s.notActive = false)
  (hbits : onlyBits w 0xF000007F#32 = true) (hen : s.pgEnabled p = true) (hfrozen : (s.pg p).frozen = false)
include hp ha hbits hen hfrozen

/-- CLEAR without an exercise ends a manual switch and WTR. -/
theorem State.fxApsCmd_of_clear (hcmd : fld w 31 28 = 0) (hexer : (s.pg p).exer = none)
    (hany : (s.pg p).manual ≠ 0 ∨ (s.pg p).wtrOn = true) (q : Req) :
    State.fxApsCmd q [w] s
      = s.apsDone q p (s.modPg p fun g => { g with manual := 0, wtrOn := false, wtrAt := none }) 0 := by
  subst hp
  have hwork : ¬ ((s.pg (fld w 6 0)).manual = 0 ∧ (s.pg (fld w 6 0)).wtrOn = false) := by
    rcases hany with h | h <;> simp [h]
  simp [State.fxApsCmd, State.apsDone, wd, ha, hbits, hen, hfrozen, hcmd, hexer, hwork]

/-- MS-P is stored where no request above it stands. -/
theorem State.fxApsCmd_of_manual (hcmd : fld w 31 28 = 1) (hothers : s.pgOthers p ≤ 6) (q : Req) :
    State.fxApsCmd q [w] s = s.apsDone q p (s.modPg p fun g => { g with manual := 6 }) 0 := by
  subst hp
  simp [State.fxApsCmd, State.apsDone, wd, ha, hbits, hen, hfrozen, hcmd, Nat.not_lt.mpr hothers]

/-- MS-W where no request above it stands: stored where protection is selected, an MS-P is stored or WTR runs. -/
theorem State.fxApsCmd_of_manual_working (hcmd : fld w 31 28 = 2) (hothers : s.pgOthers p ≤ 6) (q : Req) :
    State.fxApsCmd q [w] s = if (s.pg p).sel = false ∧ (s.pg p).manual ≠ 6 ∧ (s.pg p).wtrOn = false
      then s.apsDone q p s 2
      else s.apsDone q p
        (s.modPg p fun g => { g with manual := 5, wtrOn := false, wtrAt := none, dnr := false }) 0 := by
  subst hp
  simp [State.fxApsCmd, State.apsDone, wd, ha, hbits, hen, hfrozen, hcmd, Nat.not_lt.mpr hothers, and_assoc]

/-- EXER where no request stands above it claims the group and runs 100 ms. -/
theorem State.fxApsCmd_of_exercise (hcmd : fld w 31 28 = 3) (hbidir : s.pgBidir p = true)
    (hclaim : s.pgClaimed p = false) (hothers : s.pgOthers p ≤ 3) (hmanual : (s.pg p).manual = 0)
    (hwtr : (s.pg p).wtrOn = false) (q : Req) :
    State.fxApsCmd q [w] s = s.apsDone q p ((s.claim (.group p)).modPg p fun g => { g with
      exer := some (s.owl + 100000)
      exerBase := if g.topRemote then b2n g.farWork else b2n (selOf g.top == some true) }) 0 := by
  subst hp
  have hrank : ¬ 3 < rank (s.pgOthers (fld w 6 0)) := by
    rw [rank_of_lt (by omega)]
    omega
  have hzero : rank 0 = 0 := rfl
  simp [State.fxApsCmd, State.apsDone, State.after, wd, ha, hbits, hen, hfrozen, hcmd, hbidir, hclaim, hmanual, hwtr,
    hrank, hzero]

end

/-! ### PROT_OVR (R255, R256) -/

section
variable {n ovr p : Nat} (hn : n = 2 ^ 28 * ovr + p) (hp : p < 128)
include hn hp

/-- A word of PROT_OVR names its code and its group. -/
theorem fld_protOvr (hovr : ovr < 16) : fld (BitVec.ofNat 32 n) 31 28 = ovr ∧ fld (BitVec.ofNat 32 n) 6 0 = p := by
  simp only [fld, BitVec.toNat_ofNat, Nat.shiftRight_eq_div_pow]
  omega

/-- Its reserved bits are 0: the group takes the low 7 bits, the code those from bit 28 on. -/
theorem protOvr_and_keyMask : BitVec.ofNat 32 n &&& keyMask 0x1C = BitVec.ofNat 32 n := by
  have hmask : ∀ i < 32, (keyMask 0x1C).getLsbD i = (decide (i < 7) || decide (28 ≤ i)) := by decide
  refine BitVec.eq_of_getLsbD_eq fun i hi => ?_
  rw [BitVec.getLsbD_and, hmask i hi, BitVec.getLsbD_ofNat, hn,
    Nat.testBit_two_pow_mul_add ovr (show p < 2 ^ 28 by omega)]
  by_cases hmid : 7 ≤ i ∧ i < 28
  · have hzero : p.testBit i = false :=
      Nat.testBit_lt_two_pow (Nat.lt_of_lt_of_le hp (Nat.pow_le_pow_right Nat.two_pos hmid.1))
    simp [hmid.2, hzero]
  · have hkept : i < 7 ∨ 28 ≤ i := by omega
    simp [hkept]

/-- The row of a key write of PROT_OVR that is not locked and whose effect is not refused. -/
theorem next_protOvr {s u : State} {m : Nat} (hm : m = n) (hovr : ovr < 16) (hr : s.ready 0x0105 = true)
    (hlock : s.keyLocked = false)
    (h : ∀ w, fld w 31 28 = ovr → fld w 6 0 = p → (s.dropKey 0x1C).ovrWrite w = (stOk, u)) (q : Req) :
    (.next (s.rowKey q 0x1C (BitVec.ofNat 32 m)) : Out)
      = .next ((u.keyStored 0x1C (BitVec.ofNat 32 n)).ok q 0x0105).startHeld := by
  have hmask := protOvr_and_keyMask hn hp
  obtain ⟨hcode, hgroup⟩ := fld_protOvr hn hp hovr
  have heffect : (s.dropKey 0x1C).keyEffect 0x1C (BitVec.ofNat 32 n &&& keyMask 0x1C) = (stOk, u) := by
    rw [hmask]
    exact h _ hcode hgroup
  have hrow := s.rowKey_ok u q 0x1C _ hr hlock (by decide) (by decide) (by decide) heffect
  rw [hmask] at hrow
  subst hm
  exact congrArg Host.Outcome.next hrow

end

section
variable {s : State} {w : Word} {p : Nat} (hp : fld w 6 0 = p) (ha : s.notActive = false)
  (hen : s.pgEnabled p = true) (hfrozen : (s.pg p).frozen = false)
include hp ha hen hfrozen

/-- The first code of an override claims the group. -/
theorem State.ovrWrite_of_first {ovr req : Nat} (hcode : fld w 31 28 = ovr)
    (hreq : ovr = 1 ∧ req = 12 ∨ ovr = 2 ∧ req = 10) (hnone : (s.pg p).override = 0)
    (hclaim : s.pgClaimed p = false) :
    s.ovrWrite w = (stOk, s.pgTell ((s.claim (.group p)).modPg p fun g => { g with override := req }) p) := by
  subst hp
  rcases hreq with ⟨rfl, rfl⟩ | ⟨rfl, rfl⟩ <;> simp [State.ovrWrite, ha, hen, hfrozen, hcode, hnone, hclaim]

/-- Code 0 of a stored override releases the group. -/
theorem State.ovrWrite_of_clear (hcode : fld w 31 28 = 0) (hsome : (s.pg p).override ≠ 0) :
    s.ovrWrite w
      = (stOk, s.pgTell ((s.release fun k => k == .group p).modPg p fun g => { g with override := 0 }) p) := by
  subst hp
  simp [State.ovrWrite, ha, hen, hfrozen, hcode, hsome]

end

/-- Settles O28: each command starts alone, and its answer is the branch that its conditions choose. -/
theorem protectionCommands : Obligations.ProtectionCommands := by
  constructor
  · intro s q w p hp hr ha hbits hen hfrozen
    refine ⟨fun hcmd hexer hany => ?_, fun hcmd hothers => ?_, fun hcmd hothers hwork => ?_,
      fun hcmd hothers hsel hmanual hwtr => ?_, fun hcmd hbidir hclaim hothers hmanual hwtr => ?_⟩
    · exact next_ready hr q _ (State.fxApsCmd_of_clear hp ha hbits hen hfrozen hcmd hexer hany q)
    · exact next_ready hr q _ (State.fxApsCmd_of_manual hp ha hbits hen hfrozen hcmd hothers q)
    · refine next_ready hr q _
        ((State.fxApsCmd_of_manual_working hp ha hbits hen hfrozen hcmd hothers q).trans (if_neg ?_))
      rcases hwork with h | h | h <;> simp [h]
    · refine next_ready hr q _ ((State.fxApsCmd_of_manual_working hp ha hbits hen hfrozen hcmd hothers q).trans ?_)
      rw [if_pos ⟨hsel, hmanual, hwtr⟩, State.apsDone, State.pgTell_self]
      rfl
    · exact next_ready hr q _
        (State.fxApsCmd_of_exercise hp ha hbits hen hfrozen hcmd hbidir hclaim hothers hmanual hwtr q)
  · intro s q p hp hr hlock ha hen hfrozen
    refine ⟨_, rfl, fun hnone hclaim => ⟨?_, ?_⟩, fun hsome => ?_⟩
    · exact next_protOvr (ovr := 1) (by omega) (by omega) (by omega) (by omega) hr hlock (fun w hcode hgroup =>
        State.ovrWrite_of_first (s := s.dropKey 0x1C) hgroup ha hen hfrozen hcode (.inl ⟨rfl, rfl⟩) hnone hclaim) q
    · exact next_protOvr (ovr := 2) (by omega) (by omega) (by omega) (by omega) hr hlock (fun w hcode hgroup =>
        State.ovrWrite_of_first (s := s.dropKey 0x1C) hgroup ha hen hfrozen hcode (.inr ⟨rfl, rfl⟩) hnone hclaim) q
    · exact next_protOvr (ovr := 0) (by omega) (by omega) (by omega) (by omega) hr hlock (fun w hcode hgroup =>
        State.ovrWrite_of_clear hgroup ha hen hfrozen hcode hsome) q

end Sys2Proof.Machine
end

section
/-!
Hitless and voting streams (09_hitless_and_voting.md): what a member's frame or slot does by the member's state, the
schedule and its end, what is played out, the table of the vote, a transmitter's slots, and the times of dDUP_LOSS and
dVOTE_DIS.
-/
namespace Sys2Proof.Machine

/-! ### Rows about a stream -/

/-- A row about a stream of a device that is alive does what its operation does. -/
theorem next_onRed {s t u : State} {n : Nat} (ha : s.alive = true) (hn : n < 2048) (h : t = u) :
    (.next (onRed n s t) : Out) = .next u :=
  congrArg Host.Outcome.next ((onRed_of_alive t ha hn).trans h)

/-- A row about a stream whose operation does nothing does nothing. -/
theorem next_onRed_self {s t : State} (n : Nat) (h : t = s) : (.next (onRed n s t) : Out) = .next s :=
  congrArg Host.Outcome.next (by rw [h, onRed, ite_self])

/-! ### What follows a play-out (R166, R289, R299) -/

/-- A stream that has not moved on gives no bytes to anything. -/
theorem State.snoopResult_self (s : State) (n : Nat) : State.snoopResult s s n = s := if_neg (by simp)

/-- The result of an enabled stream goes on where its number has moved and no frame is incomplete. -/
theorem State.snoopResult_of_on {s t u : State} {n : Nat} (hon : s.redOn n = true)
    (hu : u = t.snoopOn true n (t.red n).out) :
    State.snoopResult s t n = if (t.red n).next = (s.red n).next ∨ (t.red n).frame ≠ [] then t
      else if (s.redSig n).1 = 13 ∨ (s.redSig n).1 = 14 then
        u.remapFeed (redEp n 3) ((s.redSig n).1 == 14) ((u.red n).out.flatMap bitsMsb)
      else u := by
  subst hu
  by_cases hstays : (t.red n).next = (s.red n).next ∨ (t.red n).frame ≠ []
  · rw [if_pos hstays]
    refine if_neg ?_
    rcases hstays with h | h <;> simp [h]
  · rw [if_neg hstays]
    obtain ⟨hnext, hframe⟩ := not_or.mp hstays
    exact if_pos (by simp [hon, hnext, Decidable.not_not.mp hframe])

/-! ### Members of a hitless stream (R276, R282) -/

section
variable {s : State} {n m : Nat} (hon : s.redOn n = true) (hrole : s.redRole n = 0) (hm : m < 2)
include hon hrole hm

theorem State.hlMember_of_failed (hup : s.memberUp n m = false) (f : MemberFrame) :
    s.hlMember n m f = s.memberTo n m 0 := by
  simp [State.hlMember, hon, hrole, hm, hup]

theorem State.hlMember_of_hunt (hup : s.memberUp n m = true) (hmem : s.memActive = true)
    (hst : ((s.red n).member m).st = 1) (f : MemberFrame) :
    s.hlMember n m f = s.hlHunt n m (f.pseq % s.redMod n) := by
  simp [State.hlMember, hon, hrole, hm, hup, hmem, hst]

theorem State.hlMember_of_aligned (hup : s.memberUp n m = true) (hmem : s.memActive = true)
    (hnone : ((s.red n).member m).st ≠ 0) (hhunt : ((s.red n).member m).st ≠ 1) (f : MemberFrame) :
    s.hlMember n m f = s.hlFrame n m f := by
  simp [State.hlMember, hon, hrole, hm, hup, hmem, hnone, hhunt]

end

/-! ### The schedule (R278, R279) -/

theorem State.schedSet_of_aligned {s : State} {n m : Nat} (hon : s.redOn n = true)
    (huses : usesMem (s.redRole n) = true) (hsched : (s.red n).sched = false) (hfirst : s.earliest n = some m)
    (hall : ((s.upMembers n).all fun k => ((s.red n).member k).st == 2) = true) :
    s.schedSet n = s.modRed n fun r => { r with
      sched := true, next := (s.firstPlay n m).1, playAt := (s.firstPlay n m).2, period := s.redPeriod n
      frame := [], frameBad := true
      a := r.a.from_ (s.redMod n) (s.firstPlay n m).1, b := r.b.from_ (s.redMod n) (s.firstPlay n m).1
      c := r.c.from_ (s.redMod n) (s.firstPlay n m).1 } := by
  have hopen : (s.redOn n && usesMem (s.redRole n) && !(s.red n).sched) = true := by simp [hon, huses, hsched]
  refine (if_pos hopen).trans ?_
  simp only [hfirst]
  exact if_pos (Bool.or_eq_true _ _ |>.mpr (.inr hall))

theorem State.schedDiscard_of_due {s : State} {n : Nat} (hon : s.redOn n = true) (hsched : (s.red n).sched = true)
    (hdue : s.due (s.red n).noneSince = true) : s.schedDiscard n = s.schedDrop n :=
  if_pos (by rw [hon, hsched, hdue]; rfl)

/-! ### Play-out (R278, R280, R281) -/

theorem State.hlPlay_of_early {s : State} {n : Nat} (h : s.playDue n = false) : s.hlPlay n = s :=
  if_neg (by simp [h])

/-- 2 is the rank of a clean copy, and no copy has a higher one. -/
theorem Member.rankOf_le_two (x : Member) (q : Nat) : x.rankOf q ≤ 2 := by
  unfold Member.rankOf
  split
  · split
    · omega
    · split <;> omega
  · omega

theorem Member.rankOf_of_clean {x : Member} {q : Nat} {h : Held} (hcopy : x.copy q = some h)
    (husable : h.usable = true) (hclean : h.clean = true) : x.rankOf q = 2 := by
  simp [Member.rankOf, hcopy, husable, hclean]

section
variable {s : State} {n : Nat} (hon : s.redOn n = true) (hrole : s.redRole n = 0) (hdue : s.playDue n = true)
include hon hrole hdue

/-- A clean copy of the member in use is played out. -/
theorem State.hlPlay_of_clean {h : Held} (hmem : s.memActive = true)
    (hcopy : (s.red n).a.copy (s.red n).next = some h) (husable : h.usable = true) (hclean : h.clean = true)
    (hcur : (s.red n).current = some 0) :
    s.hlPlay n = (s.modRed n fun r => r.played (s.redMod n) (s.red n).next).modRed n fun x =>
      { x with outMaint := false, out := h.data, current := some 0 } := by
  have hrank := Member.rankOf_of_clean hcopy husable hclean
  have hother := (s.red n).b.rankOf_le_two (s.red n).next
  have hcopy' : ((s.red n).member 0).copy (s.red n).next = some h := hcopy
  simp [State.hlPlay, hon, hrole, hdue, hmem, hrank, hother, hcur, hcopy']

/-- Where no member has a usable copy a maintenance frame is played out, and counted. -/
theorem State.hlPlay_of_none
    (hnone : s.memActive = true → (s.red n).a.rankOf (s.red n).next = 0 ∧ (s.red n).b.rankOf (s.red n).next = 0) :
    s.hlPlay n = ((s.modRed n fun r => r.played (s.redMod n) (s.red n).next).countTbl 5 n 6 31 0 1).modRed n fun r =>
      { r with outMaint := true, out := maintFrame (s.redSig n).1 } := by
  have hrank (x : Nat) (h : s.memActive = true → x = 0) : (if s.memActive = true then x else 0) = 0 := by
    split
    · exact h ‹_›
    · rfl
  have ha := hrank _ fun h => (hnone h).1
  have hb := hrank _ fun h => (hnone h).2
  simp only [State.hlPlay, hon, hrole, hdue, ha, hb, ite_self, decide_true, Bool.and_self, if_true]
  rfl

end

/-! ### dDUP_LOSS (R283) -/

/-- The member's time is over: its mark joins those of its channel. -/
theorem State.dupExpiry_of_loss {s t : State} {c n m : Nat} (hon : s.redOn n = true) (hrole : s.redRole n = 0)
    (hch : s.memberCh n m = some c) (hdue : s.due ((s.red n).member m).lossAt = true)
    (hheld : s.defHeld c dDUP = false)
    (ht : t = (s.modCh c fun h => { h with dupMarks := if h.dupMarks.contains (n, m) then h.dupMarks
      else h.dupMarks ++ [(n, m)] }).modRed n fun r => r.setMember m { r.member m with lossAt := none }) :
    s.dupExpiry c n m = t.setDef c dDUP (!(t.ch c).dupMarks.isEmpty) := by
  subst ht
  have hopen : (s.redOn n && s.redRole n = 0 && s.memberCh n m = some c && !s.defHeld c dDUP) = true := by
    simp [hon, hrole, hch, hheld]
  refine (if_pos hopen).trans ?_
  simp only [hdue, if_true]

/-- Settles O31: the member's state, the schedule and the ranks of the two copies choose what a stream does. -/
theorem hitlessStreams : Obligations.HitlessStreams := by
  refine ⟨?_, ?_, ?_, ?_, ?_, ?_, ?_, ?_⟩
  · intro s n m f ha hn hon hrole hm
    exact ⟨fun hup => next_onRed ha hn (State.hlMember_of_failed hon hrole hm hup f),
      fun hup hmem hst => next_onRed ha hn (State.hlMember_of_hunt hon hrole hm hup hmem hst f),
      fun hup hmem hnone hhunt => next_onRed ha hn (State.hlMember_of_aligned hon hrole hm hup hmem hnone hhunt f)⟩
  · intro s n m ha hn hon huses hsched hfirst hall
    exact next_onRed ha hn (State.schedSet_of_aligned hon huses hsched hfirst hall)
  · intro s n ha hn hon hsched hdue
    exact next_onRed ha hn (State.schedDiscard_of_due hon hsched hdue)
  · intro s n hdue
    exact next_onRed_self n (by rw [State.hlPlay_of_early hdue, State.snoopResult_self])
  · intro s n ha hn hon hrole hdue
    exact ⟨_, _, rfl, rfl, next_onRed ha hn (State.snoopResult_of_on hon rfl)⟩
  · intro s n h hon hrole hdue hmem hcopy husable hclean hcur _
    exact State.hlPlay_of_clean hon hrole hdue hmem hcopy husable hclean hcur
  · intro s n hon hrole hdue hnone
    exact State.hlPlay_of_none hon hrole hdue hnone
  · intro s c n m ha hc hon hrole hch hdue _ hheld
    exact ⟨_, rfl, next_onCh ha hc (State.dupExpiry_of_loss hon hrole hch hdue hheld rfl)⟩

/-! ### Members of a voting stream (R291) -/

section
variable {s : State} {n m : Nat} {b : VoteBlock} (hon : s.redOn n = true) (hrole : s.redRole n = 2) (hm : m < 3)
include hon hrole hm

theorem State.voteMember_of_failed (hup : s.memberUp n m = false) : s.voteMember n m b = s.memberTo n m 0 := by
  simp [State.voteMember, hon, hrole, hm, hup]

theorem State.voteMember_of_hunt (hseq : b.bseq < 65536) (hup : s.memberUp n m = true) (hmem : s.memActive = true)
    (hst : ((s.red n).member m).st = 1) : s.voteMember n m b = s.voteHunt n m b := by
  simp [State.voteMember, hon, hrole, hm, hup, hmem, hst, Nat.mod_eq_of_lt hseq]

theorem State.voteMember_of_aligned (hseq : b.bseq < 65536) (hup : s.memberUp n m = true)
    (hmem : s.memActive = true) (hnone : ((s.red n).member m).st ≠ 0) (hhunt : ((s.red n).member m).st ≠ 1) :
    s.voteMember n m b = s.voteSlot n m b := by
  simp [State.voteMember, hon, hrole, hm, hup, hmem, hnone, hhunt, Nat.mod_eq_of_lt hseq]

end

/-! ### The voter (R292, R293, R295) -/

theorem State.voteEmit_of_early {s : State} {n : Nat} (h : s.playDue n = false) : s.voteEmit n = s :=
  if_neg (by simp [h])

theorem State.voteClear_of_due {s : State} {c : Nat} (hdue : s.due (s.ch c).voteMark = true)
    (hheld : s.defHeld c dVDIS = false) :
    s.voteClear c = (s.modCh c fun h => { h with voteMark := none }).setDef c dVDIS false :=
  if_pos (by rw [hdue, hheld]; rfl)

/-- Two valid copies of three agree, and the third differs. -/
theorem verdict_of_two_agreeing (strict : Bool) {x y z : Held} (hx : x.valid = true) (hy : y.valid = true)
    (hz : z.valid = true) (hagree : x.data = y.data) (hoff : z.data ≠ x.data) :
    verdict strict [(0, x), (1, y), (2, z)] = { data := some x.data, disagree := true, marked := [2] } := by
  have hagreed : Ballot.agreed [(0, x), (1, y), (2, z)] = some x.data := by
    simp [Ballot.agreed, Ballot.with_, ← hagree, List.find?]
  simp [verdict, hx, hy, hz, hagreed, ← hagree, hoff]

/-- One valid copy of three. -/
theorem verdict_of_one_valid (strict : Bool) {x y z : Held} (hx : x.valid = true) (hy : y.valid = false)
    (hz : z.valid = false) : verdict strict [(0, x), (1, y), (2, z)]
      = { data := if strict then none else some x.data, disagree := true, marked := [1, 2] } := by
  simp [verdict, hx, hy, hz]

/-- Two members, and their valid copies differ. -/
theorem verdict_of_two_differing (strict : Bool) {x y : Held} (hx : x.valid = true) (hy : y.valid = true)
    (hoff : x.data ≠ y.data) :
    verdict strict [(0, x), (1, y)] = { data := none, disagree := true, marked := [0, 1] } := by
  have hagreed : Ballot.agreed [(0, x), (1, y)] = none := by
    simp [Ballot.agreed, Ballot.with_, hoff, hoff.symm]
  simp [verdict, hx, hy, hagreed]

/-- A member that is present alone does not suffice. -/
theorem verdict_of_single (strict : Bool) (x : Held) :
    verdict strict [(0, x)] = { data := none, disagree := false, marked := [] } := rfl

/-! ### A transmitter's slots (R288 to R290) -/

section
variable {s : State} {n : Nat} (hon : s.redOn n = true) (hrole : s.redRole n = 3)
include hon hrole

/-- The first block of a frame takes the next number that the frame's blocks divide. -/
theorem State.voteTx_of_first {l o : List Byte} {q : Nat} (hl : l.length = 64)
    (hq : q = frameStartAt (s.redSig n).1 (s.red n).outSeq)
    (ho : o = l ++ [BitVec.ofNat 8 (q / 256), BitVec.ofNat 8 q] ++ wordBytes (BitVec.ofNat 32 (s.voteCheck n l q))) :
    s.voteTx n (some ⟨l, true⟩) = s.modRed n fun r => { r.intoCarrier (s.redSig n).1 o with
      out := o, outMaint := s.txMaint n, outSeq := (q + 1) % s.redMod n, startAt := some (q, s.nowNs) } := by
  subst hq ho
  have hdata (r : List Byte) : (l ++ r).take 64 = l := List.take_left' hl
  simp [State.voteTx, hon, hrole, hdata, Option.filter_some, State.redSig]

/-- An idle block spends no number. -/
theorem State.voteTx_of_idle {o : List Byte} {q : Nat} (hq : q = (s.red n).outSeq)
    (ho : o = block64 0 ++ [BitVec.ofNat 8 (q / 256), BitVec.ofNat 8 q]
      ++ wordBytes (BitVec.ofNat 32 (s.voteCheck n (block64 0) q ^^^ (2 ^ (s.redAlg n).width - 1)))) :
    s.voteTx n none = s.modRed n fun r => { r.intoCarrier (s.redSig n).1 o with
      out := o, outMaint := s.txMaint n, outSeq := q, startAt := r.startAt } := by
  subst hq ho
  simp [State.voteTx, hon, hrole, State.redSig]

end

/-- Settles O32: the member's state chooses what a slot does, the valid copies of a block what is emitted, and the
slot's kind its number. -/
theorem votingStreams : Obligations.VotingStreams := by
  refine ⟨?_, ?_, ?_, ?_, ?_, ?_, ?_, ?_, ?_, ?_⟩
  · intro s n m b ha hn hon hrole hm hseq
    exact ⟨fun hup => next_onRed ha hn (State.voteMember_of_failed hon hrole hm hup),
      fun hup hmem hst => next_onRed ha hn (State.voteMember_of_hunt hon hrole hm hseq hup hmem hst),
      fun hup hmem hnone hhunt =>
        next_onRed ha hn (State.voteMember_of_aligned hon hrole hm hseq hup hmem hnone hhunt)⟩
  · intro s n hdue
    exact next_onRed_self n (by rw [State.voteEmit_of_early hdue, State.snoopResult_self])
  · intro s n ha hn hon hrole hdue
    exact ⟨_, _, rfl, rfl, next_onRed ha hn (State.snoopResult_of_on hon rfl)⟩
  · intro s c ha hc hdue hheld
    exact next_onCh ha hc (State.voteClear_of_due hdue hheld)
  · intro s n l ha hn hon hrole hl
    exact ⟨_, _, rfl, rfl, next_onRed ha hn (State.voteTx_of_first hon hrole hl rfl rfl)⟩
  · intro s n ha hn hon hrole
    exact ⟨_, _, rfl, rfl, next_onRed ha hn (State.voteTx_of_idle hon hrole rfl rfl)⟩
  · exact fun strict _ _ _ => verdict_of_two_agreeing strict
  · exact fun strict _ _ _ => verdict_of_one_valid strict
  · exact fun strict _ _ => verdict_of_two_differing strict
  · exact verdict_of_single

end Sys2Proof.Machine
end

section
/-!
FRER and the delay memory (09_hitless_and_voting.md): what becomes of a frame on its way through recovery and
generation, the numbers that a twin waits for (R331), and the memory's wake, rest and scrub.
-/
namespace Sys2Proof.Machine

/-! ### Recovery (R284 to R287) -/

/-- A frame that does not come in GFP is taken as it is. -/
theorem State.frerDemap_of_plain {f : FrerFrame} (h : f.gfp = none) (s : State) (n m : Nat) :
    s.frerDemap n m f = (s, some f) := by
  simp only [State.frerDemap, h]

section
variable {s t : State} {n m : Nat} {f g : FrerFrame}

/-- A member in signal fail delivers no frame. -/
theorem State.frerRx_of_failed (hup : s.memberUp n m = false) : s.frerRx n m f = s := if_neg (by simp [hup])

/-- A copy whose FCS fails is no good copy. -/
theorem State.frerRx_of_bad_fcs (hgfp : f.gfp = none) (hfcs : f.fcs ≠ fcsOf f.bytes) : s.frerRx n m f = s := by
  simp [State.frerRx, State.frerDemap_of_plain hgfp, hfcs]

section
variable (hon : s.redOn n = true) (hrole : s.redRole n = 4) (hm : m < 2) (hup : s.memberUp n m = true)
include hon hrole hm hup

/-- What the delineation does not give goes no further. -/
theorem State.frerRx_of_not_delineated (hd : s.frerDemap n m f = (t, none)) : s.frerRx n m f = t := by
  simp [State.frerRx, hon, hrole, hm, hup, hd]

/-- A frame without an entry passes from member 0 alone. -/
theorem State.frerRx_of_no_entry (hd : s.frerDemap n m f = (t, some g)) (hfcs : g.fcs = fcsOf g.bytes)
    (hentry : t.frerEntry n g.vid false = none) : s.frerRx n m f = if m = 0 then t.frerOut n g else t := by
  simp [State.frerRx, hon, hrole, hm, hup, hd, hfcs, hentry]

/-- A tagged frame of an entry is recovered by its number. -/
theorem State.frerRx_of_entry {e q : Nat} (hd : s.frerDemap n m f = (t, some g)) (hfcs : g.fcs = fcsOf g.bytes)
    (hentry : t.frerEntry n g.vid false = some e) (htag : g.rtag = some q) (hq : q < 65536) :
    s.frerRx n m f = t.frerRecover n e g q := by
  simp [State.frerRx, hon, hrole, hm, hup, hd, hfcs, hentry, htag, Nat.mod_eq_of_lt hq]

end

/-- After a reset the recovery takes any number. -/
theorem State.frerRecover_of_takeAny {e : Nat} (h : (s.frer e).takeAny = true) (q : Nat) :
    s.frerRecover n e f q
      = (s.modFrer e fun x => { x with takeAny := false, recovSeq := q, history := [true] }).frerPass n e f :=
  if_pos h

/-- The newest number, seen before, is discarded. -/
theorem State.frerRecover_of_newest {e q : Nat} (hany : (s.frer e).takeAny = false) (hseq : (s.frer e).recovSeq = q)
    (hseen : (s.frer e).history[0]? = some true) : s.frerRecover n e f q = s.countTbl 6 e 3 31 0 1 := by
  have hdist : (q + 65536 - (s.frer e).recovSeq) % 65536 = 0 := by omega
  simp [State.frerRecover, hany, hdist, hseen]

end

/-- RESET_MS has run out with no frame passed. -/
theorem State.frerResetExpiry_of_due {s : State} {e : Nat} (h : s.due (s.frer e).resetAt = true) :
    s.frerResetExpiry e = s.modFrer e fun x => { x with takeAny := true, history := [], resetAt := none } := if_pos h

/-! ### Generation (R285, R287, R331, R333) -/

/-- The R-TAG of a number goes into a frame that does not grow too long. -/
theorem State.frerTag_of_short {f : FrerFrame} (h : f.len + 6 ≤ 9600) (s : State) (n e q : Nat) :
    s.frerTag n e f q
      = ((s.countTbl 6 e 2 31 0 1).setTbl 6 e 5 (setFld (s.tbl 6 e 5) 15 0 ((q + 1) % 65536))).frerOut n
          (frerInsert f q) := if_neg (Nat.not_lt.mpr h)

/-- A tagged frame changes no register. -/
theorem State.frerTag_paired (s : State) (n e : Nat) (f : FrerFrame) (q : Nat) :
    (s.frerTag n e f q).paired = s.paired := by
  unfold State.frerTag
  split <;> rfl

/-- A twin that is not paired holds no lease. -/
theorem State.holder_of_not_paired {s : State} (h : s.paired = false) : s.holder = false := by
  rw [State.holder, h, Bool.false_and]

section
variable {s : State} {n : Nat} {f : FrerFrame}

theorem State.frerTx_of_plain (hon : s.redOn n = true) (hrole : s.redRole n = 5) (hgfp : f.gfp = none) :
    s.frerTx n f = s.frerSend n f := by
  simp [State.frerTx, hon, hrole, State.frerDemap_of_plain hgfp]

/-- Outside a pair a frame without an entry leaves as it came. -/
theorem State.frerSend_of_no_entry (hp : s.paired = false) (hentry : s.frerEntry n f.vid true = none) :
    s.frerSend n f = s.frerOut n f := by
  simp [State.frerSend, hp, hentry]

/-- Outside a pair a frame of an entry takes the next number, and no twin is told. -/
theorem State.frerSend_of_entry {e : Nat} (hp : s.paired = false) (hentry : s.frerEntry n f.vid true = some e)
    (hlen : f.len + 6 ≤ 9600) :
    s.frerSend n f = (s.modFrer e fun x => { x with nextSeq := ((s.frer e).nextSeq + 1) % 65536 }).frerTag n e f
      (s.frer e).nextSeq := by
  have hholder (u : State) (q : Nat) (hu : u.paired = s.paired) : (u.frerTag n e f q).holder = false :=
    State.holder_of_not_paired ((u.frerTag_paired n e f q).trans (hu.trans hp))
  simp [State.frerSend, hp, hentry, Nat.not_lt.mpr hlen, hholder (s.modFrer e _) _ rfl]

/-- A STANDBY whose link is up holds a frame of an entry for the holder's number. -/
theorem State.frerSend_of_standby {e : Nat} (hp : s.paired = true) (hrole : s.twinRole = 3) (hlink : s.twin.up = true)
    (hentry : s.frerEntry n f.vid true = some e) :
    s.frerSend n f = s.modFrer e fun x => { x with waiting := x.waiting ++ [(f, s.owl + 60)] } := by
  simp [State.frerSend, hp, hrole, hlink, hentry]

end

section
variable {s : State} {n vid e t : Nat} {fcs : Word} {f : FrerFrame} {rest : List (FrerFrame × Nat)}
  (hentry : s.frerEntry n vid true = some e) (htake : takeFcs fcs (s.frer e).waiting = some ((f, t), rest))
include hentry htake

/-- The holder's number goes into the frame that waits for it. -/
theorem State.frerSeqRx_of_waiting {q : Nat} (hp : s.paired = true) (hlink : s.twin.up = true)
    (hholder : s.holder = false) (hq : q < 65536) :
    s.frerSeqRx n vid q fcs
      = (s.modFrer e fun x => { x with waiting := rest, nextSeq := (q + 1) % 65536 }).frerTag n e f q := by
  simp [State.frerSeqRx, State.frerSeq, hp, hlink, hholder, hentry, htake, Nat.mod_eq_of_lt hq]

/-- Its 60 µs are over without the holder's number: it is dropped. -/
theorem State.frerTimeout_of_over (h : t ≤ s.owl) :
    s.frerTimeout n vid fcs = (s.modFrer e fun x => { x with waiting := rest }).countTbl 6 e 3 31 0 1 := by
  simp [State.frerTimeout, hentry, htake, h]

end

/-- Settles O33: the entry of a frame, its number and the twin's part in the pair choose what becomes of it. -/
theorem frerFrames : Obligations.FrerFrames := by
  refine ⟨?_, ?_, ?_, ?_, ?_, ?_, ?_, ?_, ?_, ?_, ?_, ?_⟩
  · intro s n f ha hn hon hrole hentry hup0 hup1 hgfp hfcs
    exact ⟨next_onRed ha hn (State.frerRx_of_no_entry hon hrole (by omega) hup0
        (State.frerDemap_of_plain hgfp s n 0) hfcs hentry),
      next_onRed ha hn (State.frerRx_of_no_entry hon hrole (by omega) hup1
        (State.frerDemap_of_plain hgfp s n 1) hfcs hentry)⟩
  · intro s t n f g ha hn hon hrole hup hd hentry hfcs
    exact next_onRed ha hn (State.frerRx_of_no_entry hon hrole (by omega) hup hd hfcs hentry)
  · intro s t n m f ha hn hon hrole hm hup hd
    exact next_onRed ha hn (State.frerRx_of_not_delineated hon hrole hm hup hd)
  · intro s n m f hnothing
    rcases hnothing with hup | ⟨hgfp, hfcs⟩
    · exact next_onRed_self n (State.frerRx_of_failed hup)
    · exact next_onRed_self n (State.frerRx_of_bad_fcs hgfp hfcs)
  · intro s n m e q f ha hn hon hrole hm hup hgfp hfcs hentry htag hq
    exact ⟨next_onRed ha hn (State.frerRx_of_entry hon hrole hm hup (State.frerDemap_of_plain hgfp s n m) hfcs hentry
        htag hq),
      fun hany => State.frerRecover_of_takeAny hany q,
      fun hany hseq hseen => State.frerRecover_of_newest hany hseq hseen⟩
  · intro s n f ha hn hon hrole hp hgfp hentry
    exact next_onRed ha hn ((State.frerTx_of_plain hon hrole hgfp).trans (State.frerSend_of_no_entry hp hentry))
  · intro s n e f ha hn hon hrole hp hgfp hentry hlen
    exact next_onRed ha hn ((State.frerTx_of_plain hon hrole hgfp).trans (State.frerSend_of_entry hp hentry hlen))
  · intro s n e f ha hn hon hrole hp htwin hlink hgfp hentry
    exact next_onRed ha hn
      ((State.frerTx_of_plain hon hrole hgfp).trans (State.frerSend_of_standby hp htwin hlink hentry))
  · intro s n e q f hlen
    exact State.frerTag_of_short hlen s n e q
  · intro s e ha he hdue
    exact next_onRed ha he (State.frerResetExpiry_of_due hdue)
  · intro s n vid q e fcs f t rest ha hp hlink hholder hentry htake hq
    exact next_whileOn ha ((State.crcGate_of_right s _ _).trans
      (State.frerSeqRx_of_waiting hentry htake hp hlink hholder hq))
  · intro s n vid e fcs f t rest ha hentry htake hover
    exact next_whileOn ha (State.frerTimeout_of_over hentry htake hover)

/-! ### The delay memory (R274, R303) -/

section
variable {s : State} (hst : s.rf 0x7080 31 30 = 1)
include hst

/-- The memory has left self-refresh; where it had failed to before, source 17 ends. -/
theorem State.memReady_of_left : s.memReady true
    = { (if s.memWake.isNone then s.levelOff 17 else s).setRf 0x7080 31 30 2 with memWake := none } := if_pos hst

/-- The memory has not left self-refresh: source 17 is raised where it was on its way. -/
theorem State.memReady_of_failed : s.memReady false
    = if s.memWake.isSome then { s.levelOn { src := 17 } with memWake := none } else s := if_pos hst

end

theorem State.memRest_of_due {s : State} (hdue : s.due s.memSleep = true) (hnone : s.memStreams = 0) :
    s.memRest = { s.setRf 0x7080 31 30 0 with memSleep := none, memWake := none } :=
  if_pos (by simp [hdue, hnone])

/-- The scrub of an active memory counts, spoils, and reports where it has not done so in the last 1 ms. -/
theorem State.memScrub_of_active {s t : State} {n : Nat} {bad : List MemErr} (hst : s.rf 0x7080 31 30 = 2)
    (ht : t = bad.foldl State.memSpoil ((s.count 0x70A0 31 0 n).count 0x70A4 31 0 bad.length)) :
    s.memScrub n bad
      = if bad.isEmpty || t.owl < t.memNoteTill then t else { t.fault 16 with memNoteTill := t.owl + 1000 } := by
  subst ht
  exact if_pos hst

theorem State.memScrub_of_inactive {s : State} (hst : s.rf 0x7080 31 30 ≠ 2) (n : Nat) (bad : List MemErr) :
    s.memScrub n bad = s := if_neg hst

/-- Settles O34: whether the memory was on its way chooses what READY does, and its state whether the scrub acts. -/
theorem delayMemory : Obligations.DelayMemory := by
  refine ⟨?_, ?_, ?_, ?_, ?_⟩
  · intro s ha hst hwake
    refine ⟨next_whileOn ha ((State.memReady_of_left hst).trans ?_),
      next_whileOn ha ((State.memReady_of_failed hst).trans (if_pos hwake))⟩
    simp [Option.isSome_iff_ne_none.mp hwake]
  · intro s ha hst hwake
    refine ⟨next_whileOn ha ((State.memReady_of_left hst).trans ?_),
      next_whileOn_self ((State.memReady_of_failed hst).trans ?_)⟩ <;> simp [hwake]
  · intro s ha hdue hnone
    exact next_whileOn ha (State.memRest_of_due hdue hnone)
  · intro s n bad ha hst
    exact ⟨_, rfl, next_whileOn ha (State.memScrub_of_active hst rfl)⟩
  · intro s n bad hst
    exact next_whileOn_self (State.memScrub_of_inactive hst n bad)

end Sys2Proof.Machine
end

section
/-!
The twin link (10_twin_pairing.md): what a frame with a wrong check, a HELLO, a lost lane, an overdue acknowledgement
and an acknowledgement do.
-/
namespace Sys2Proof.Machine

/-! ### The check of a received frame (R317) -/

theorem any_ne_some (w : Word) : (some w).any (· != w) = false := by simp

/-- A frame that came with its own CRC-32C, or with none to compare, passes. -/
theorem State.crcGate_of_good {f : LinkFrame} {got : Option Word} (h : got = none ∨ got = some f.check) (s t : State) :
    s.crcGate f got t = t := by
  rcases h with rfl | rfl
  · exact State.crcGate_of_right s t f
  · exact if_neg (Bool.eq_false_iff.mp (any_ne_some f.check))

/-- One with another CRC-32C is only counted. -/
theorem State.crcGate_of_bad {s : State} {f : LinkFrame} {got : Option Word} {x : Word} (hen : s.rb 0x4000 31 = true)
    (hgot : got = some x) (hx : x ≠ f.check) (t : State) : s.crcGate f got t = s.count 0x4024 15 0 1 := by
  subst hgot
  exact (if_pos (by simp [crcBad, hx])).trans (if_pos hen)

/-! ### HELLO (R318, R319, R332, R342) -/

theorem State.lanesUp_of_enabled {s : State} (hen : s.rb 0x4000 31 = true) (hrun : s.running = true) :
    s.lanesUp = s.setRf 0x401C 31 27 0x1F := if_pos (by simp [hen, hrun])

theorem State.rf_setRf_other {a b : Nat} (h : b ≠ a) (s : State) (hi lo v m n : Nat) :
    (s.setRf a hi lo v).rf b m n = s.rf b m n := congrArg (fld · m n) (State.reg_setReg_other s a b _ h)

theorem State.rb_setRf_other {a b : Nat} (h : b ≠ a) (s : State) (hi lo v i : Nat) :
    (s.setRf a hi lo v).rb b i = s.rb b i := congrArg (bit · i) (State.reg_setReg_other s a b _ h)

section
variable {s : State} {h : Hello} (hp : s.paired = true) (hen : s.rb 0x4000 31 = true) (hrun : s.running = true)
  (hclash : s.twin.clash = false)
include hp hen hrun hclash

theorem State.helloTake_of_own_id (hid : b2n h.twinId = s.rf 0x4018 20 20) :
    s.helloTake h = ((s.levelOn { src := 24 }).modTwin fun t => { t with clash := true }).linkDown 4 := by
  simp [State.helloTake, hp, hen, hrun, hid, hclash]

theorem State.helloTake_of_other_version (hid : b2n h.twinId ≠ s.rf 0x4018 20 20) (hver : h.version ≠ 1) :
    s.helloTake h = s.linkDown 5 := by
  simp [State.helloTake, hp, hen, hrun, hid, hclash, hver]

/-- The link comes up with numbers that start afresh, and the roles meet. -/
theorem State.helloTake_of_down (hid : b2n h.twinId ≠ s.rf 0x4018 20 20) (hver : h.version = 1)
    (hdown : s.twin.up = false) (hrole : h.role ≠ 2) :
    s.helloTake h = (((((s.setRb 0x401C 26 true).seeFar h.role h.epoch).modTwin fun t => { t with
      up := true, unacked := [], nextSeq := 1, rxSeq := 0, timeouts := 0, refInfoSend := some (s.owl + 1000)
      helloAt := some (s.owl + 100000) }).setRb 0x4018 27 true).twinOccur 0x01 0xFF).meet h := by
  simp only [State.helloTake, hp, hen, hrun, hid, hclash, hver, hdown, hrole, Bool.and_true, Bool.false_and,
    Bool.false_eq_true, bne_self_eq_false, if_false, if_true]
  rfl

end

/-! ### A lost lane, and reliable frames (R318, R319) -/

theorem State.laneLoss_of_enabled {s : State} {lane : Nat} (hlane : lane < 4) (hen : s.rb 0x4000 31 = true)
    (deskew : Bool) : s.laneLoss lane deskew
      = (if deskew then s.setRb 0x401C 27 false else (s.setRb 0x401C (28 + lane) false).setRb 0x401C 27 false).linkDown
        (if deskew then 2 else 1) := if_pos (by simp [hlane, hen])

/-- A frame that waits for its acknowledgement beyond 10 µs is sent again, and the third time in a row ends the link. -/
theorem State.retransmit_of_due {s : State} (hup : s.twin.up = true) (hdue : s.due s.twin.resendAt = true)
    (hwait : s.twin.unacked ≠ []) :
    s.retransmit = if s.twin.timeouts ≥ 2 then s.linkDown 3 else (s.modTwin fun t => { t with
      timeouts := t.timeouts + 1, resendAt := some (s.owl + 10), sent := t.sent ++ s.twin.unacked.take 256
      unacked := (s.twin.unacked.take 256).map (LinkFrame.resent s.owl) ++ t.unacked.drop 256 }).count 0x4024 31 16
        (s.twin.unacked.take 256).length := if_pos (by simp [hup, hdue, hwait])

theorem ackCount_le (seq : Nat) (l : List LinkFrame) (k : Nat) : ackCount seq l k ≤ k + l.length := by
  induction l generalizing k with
  | nil => exact Nat.zero_le _
  | cons f r ih =>
    have hrest := ih (k + 1)
    simp only [ackCount, List.length_cons]
    split <;> omega

/-- Nothing waits beyond the window: what is left after an acknowledgement keeps its place. -/
theorem linkWindow_of_drop {l : List LinkFrame} {n : Nat} (hn : n ≤ l.length) (hlen : l.length ≤ linkWindow) :
    ((l.drop n).take linkWindow).drop (linkWindow - n) = [] ∧ (l.drop n).take (linkWindow - n) = l.drop n
      ∧ (l.drop n).drop linkWindow = [] := by
  have hrest : (l.drop n).length ≤ linkWindow - n := by rw [List.length_drop]; omega
  refine ⟨List.drop_eq_nil_of_le ?_, List.take_of_length_le hrest, List.drop_eq_nil_of_le (by omega)⟩
  exact Nat.le_trans (List.length_take_le' ..) hrest

theorem State.linkAck_of_none {s : State} {seq : Nat} (h : ackCount seq s.twin.unacked 0 = 0) : s.linkAck seq = s := by
  simp [State.linkAck, h]

theorem State.linkAck_of_covered {s : State} {seq n lat : Nat} {l : List LinkFrame} (hup : s.twin.up = true)
    (hn : n = ackCount seq s.twin.unacked 0) (hpos : n ≠ 0) (hlen : s.twin.unacked.length ≤ 256)
    (hl : l = s.twin.unacked.drop n)
    (hlat : lat = ((s.twin.unacked.take n).filter fun f => f.typ == 0x10 || f.typ == 0x11).foldl
      (fun m f => max m (s.owl - f.at_)) 0) :
    s.linkAck seq = (s.modTwin fun t => { t with
      unacked := l, timeouts := 0, resendAt := l.head?.map fun f => f.sentAt + 10 }).setRf 0x402C 31 16
        (max (s.rf 0x402C 31 16) (min 0xFFFF lat)) := by
  have hle : n ≤ s.twin.unacked.length := by
    have := ackCount_le seq s.twin.unacked 0
    omega
  obtain ⟨hnext, hkept, hbeyond⟩ := linkWindow_of_drop hle hlen
  subst hl hlat
  simp only [State.linkAck, hup, if_true, ← hn, hpos, if_false, hnext, hkept, hbeyond, List.map_nil, List.append_nil]
  rfl

theorem State.linkAckTimer_of_due {s : State} (hup : s.twin.up = true) (hdue : s.due s.twin.ackAt = true) :
    s.linkAckTimer = (s.modTwin fun t => { t with ackAt := none }).linkSend 0x30 [BitVec.ofNat 32 s.twin.rxSeq] :=
  if_pos (by simp [hup, hdue])

theorem State.helloTimer_of_due {s : State} (hp : s.paired = true) (hen : s.rb 0x4000 31 = true)
    (hdue : s.due s.twin.helloAt = true) :
    s.helloTimer = (s.linkSend 0x01 s.helloWords).modTwin fun t => { t with
      helloAt := some (s.owl + if t.up then 100000 else 1000) } := if_pos (by simp [hp, hen, hdue])

/-! ### Held-off events (R341) -/

@[simp] theorem State.push_twin (s : State) (e : Event) : (s.push e).twin = s.twin := by
  unfold State.push
  split <;> rfl

theorem State.foldl_push_twin {α : Type} (l : List α) (s : State) (f : α → Event) :
    (l.foldl (fun t e => t.push (f e)) s).twin = s.twin := by
  induction l generalizing s with
  | nil => rfl
  | cons a r ih => exact (ih _).trans (State.push_twin ..)

theorem State.twinHoldExpiry_of_due {s : State} {code : Nat} (h : s.due (s.hold (holdTwin code)).at_ = true) :
    s.twinHoldExpiry code = ((s.hold (holdTwin code)).reports.foldl (fun t e =>
      t.push (mkEvent e.2.suppressed 0x0B 0xFA (e.2.value % 256) code e.2.time)) s).modHold (holdTwin code)
        fun _ => (s.hold (holdTwin code)).settled := if_pos h

/-- The timer of a held-off event is settled, and the twin block stays. -/
theorem State.twinHoldExpiry_settled {s : State} {code : Nat} (hwf : s.wf = true)
    (h : s.due (s.hold (holdTwin code)).at_ = true) :
    (s.twinHoldExpiry code).hold (holdTwin code) = (s.hold (holdTwin code)).settled
      ∧ (s.twinHoldExpiry code).twin = s.twin := by
  rw [State.twinHoldExpiry_of_due h]
  refine ⟨State.hold_modHold_same _ _ _ (State.wf_holds _ (State.foldl_wf _ _ _ hwf fun t e ht => ?_)),
    State.foldl_push_twin ..⟩
  exact State.push_wf t _ ht

/-- Settles O42: each row is its gate, open, before the branch that its hypotheses choose. -/
theorem twinLink : Obligations.TwinLink := by
  refine ⟨?_, ?_, ?_, ?_, ?_, ?_, ?_, ?_, ?_, ?_⟩
  · intro s h ha hp hen hrun hclash hcrc
    have hp' : (s.setRf 0x401C 31 27 0x1F).paired = true :=
      (congrArg (· == 1) (State.rf_setRf_other (b := 0x4008) (by decide) s ..)).trans hp
    have hen' : (s.setRf 0x401C 31 27 0x1F).rb 0x4000 31 = true := (State.rb_setRf_other (by decide) s ..).trans hen
    have hid : (s.setRf 0x401C 31 27 0x1F).rf 0x4018 20 20 = s.rf 0x4018 20 20 := State.rf_setRf_other (by decide) s ..
    have hello {u : State} (hu : (s.setRf 0x401C 31 27 0x1F).helloTake h = u) : exec (.twinHelloRx h) s = .next u := by
      refine next_whileOn ha ((State.crcGate_of_good hcrc _ _).trans ?_)
      rw [State.lanesUp_of_enabled hen hrun, hu]
    refine ⟨_, rfl, fun hown => ?_, fun hne hver => ?_, fun hne hver hdown hrole => ?_⟩
    · exact hello (State.helloTake_of_own_id hp' hen' hrun hclash (hown.trans hid.symm))
    · exact hello (State.helloTake_of_other_version hp' hen' hrun hclash (by rwa [hid]) hver)
    · exact hello (State.helloTake_of_down hp' hen' hrun hclash (by rwa [hid]) hver hdown hrole)
  · intro s h x ha hen hrun hgot hx
    have hen' : (s.setRf 0x401C 31 27 0x1F).rb 0x4000 31 = true := (State.rb_setRf_other (by decide) s ..).trans hen
    refine next_whileOn ha ?_
    rw [State.hello, State.lanesUp_of_enabled hen hrun]
    exact State.crcGate_of_bad hen' hgot hx _
  · intro s lane ha hlane hen
    exact ⟨next_whileOn ha (State.laneLoss_of_enabled hlane hen true),
      next_whileOn ha (State.laneLoss_of_enabled hlane hen false)⟩
  · intro s ha hup hdue hwait
    have hsend := State.retransmit_of_due hup hdue hwait
    exact ⟨fun h => next_whileOn ha (hsend.trans (if_pos h)),
      fun h => next_whileOn ha (hsend.trans (if_neg (Nat.not_le.mpr h)))⟩
  · intro s seq ha hup hpos hlen
    exact ⟨_, _, _, rfl, rfl, rfl, next_whileOn ha ((State.crcGate_of_right ..).trans
      (State.linkAck_of_covered hup rfl hpos hlen rfl rfl))⟩
  · intro s seq ha h
    exact next_whileOn ha ((State.crcGate_of_right ..).trans (State.linkAck_of_none h))
  · intro s seq x ha hen hx
    exact next_whileOn ha (State.crcGate_of_bad hen rfl hx _)
  · intro s ha hup hdue
    exact next_whileOn ha (State.linkAckTimer_of_due hup hdue)
  · intro s ha hp hen hdue
    exact next_whileOn ha (State.helloTimer_of_due hp hen hdue)
  · intro s code ha hcode hwf hdue
    obtain ⟨hsettled, htwin⟩ := State.twinHoldExpiry_settled hwf hdue
    exact ⟨_, rfl, next_owlOn s (if_pos hcode), hsettled, htwin⟩

end Sys2Proof.Machine
end

section
/-!
The lease (R320 to R326, R334, R343, R530): the beats of the holder and what acknowledges them, the end of the lease,
the claims, and the pins.
-/
namespace Sys2Proof.Machine

/-! ### The holder's beat and the lease end (R322, R323, R326) -/

theorem State.linkSend_regs (s : State) (typ : Nat) (ws : List Word) : (s.linkSend typ ws).regs = s.regs := by
  unfold State.linkSend State.linkSendFor
  split <;> split <;> rfl

theorem State.linkSend_claimRepeat (s : State) (typ : Nat) (ws : List Word) :
    (s.linkSend typ ws).twin.claimRepeat = s.twin.claimRepeat := by
  unfold State.linkSend State.linkSendFor
  split <;> split <;> rfl

theorem State.rb_linkSend (s : State) (typ : Nat) (ws : List Word) (a i : Nat) :
    (s.linkSend typ ws).rb a i = s.rb a i := by
  simp only [State.rb, State.reg, State.linkSend_regs]

theorem State.toggle_of_enabled {s : State} (hen : s.rb 0x4000 31 = true) :
    s.toggle = s.modTwin fun t => { t with outP := !t.outP, outN := t.outP } := if_pos hen

/-- A beat sends a renewal and toggles the pins; a claim that was repeated often enough is not sent again. -/
theorem State.leaseBeat_of_due {s : State} (hh : s.holder = true) (hdue : s.due s.twin.beatAt = true)
    (hrep : s.twin.claimRepeat = 0) (hen : s.rb 0x4000 31 = true) :
    s.leaseBeat = ((s.modTwin fun t => { t with
      beat := (t.beat + 1) % 2 ^ 32, beatTime := s.owl, beatAt := some (s.owl + 1000) }).linkSend 0x02
        [BitVec.ofNat 32 s.twin.epoch, BitVec.ofNat 32 ((s.twin.beat + 1) % 2 ^ 32)]).modTwin fun t =>
          { t with outP := !t.outP, outN := t.outP } := by
  refine (if_pos (by simp [hh, hdue])).trans ?_
  extract_lets u v
  have hv : v = (u.linkSend 0x02 _).modTwin fun t => { t with outP := !t.outP, outN := t.outP } :=
    State.toggle_of_enabled ((State.rb_linkSend ..).trans hen)
  have hnone : ¬ v.twin.claimRepeat > 0 := by
    rw [hv]
    exact Nat.not_lt.mpr (Nat.le_of_eq ((State.linkSend_claimRepeat ..).trans hrep))
  exact (if_neg hnone).trans hv

/-- The beats since an acknowledged one. -/
theorem ahead_of_beat {k d b : Nat} (hk : k < 2 ^ 32) (hd : d < 64) (hb : b = (k + d) % 2 ^ 32) :
    ahead (2 ^ 32) (k % 2 ^ 32) b = d := by
  simp only [ahead]
  omega

/-- The acknowledgement of a beat moves the lease end to what that beat's time gives. -/
theorem State.ackRx_of_beat {s : State} {k d : Nat} (hh : s.holder = true) (hup : s.twin.up = true) (hk : k < 2 ^ 32)
    (hd : d < 64) (hbeat : s.twin.beat = (k + d) % 2 ^ 32) (htime : 1000 * d ≤ s.twin.beatTime) :
    s.ackRx s.twin.epoch k = (s.seeFar s.twin.farRole s.twin.epoch).acked (s.twin.beatTime - 1000 * d) := by
  have hp : s.paired = true := (Bool.and_eq_true_iff.mp hh).1
  have hahead := ahead_of_beat hk hd hbeat
  refine (if_pos (by simp [hp, hup])).trans ?_
  extract_lets u a
  have ha : a = d := hahead
  have hhold : u.holder = true := hh
  have htime' : 1000 * a ≤ u.twin.beatTime := ha ▸ htime
  refine (if_pos ?_).trans (by rw [ha]; rfl)
  simp only [Bool.and_eq_true, decide_eq_true_eq]
  exact ⟨⟨⟨hhold, rfl⟩, ha ▸ hd⟩, htime'⟩

theorem State.leaseOver_of_passed {s : State} {d : Nat} (hh : s.holder = true) (hsole : s.rb 0x4018 28 = false)
    (hend : s.twin.leaseEnd = some d) (hd : d < s.owl) :
    s.leaseOver = (((s.restLease.setRole 5 0xFF).count 0x4028 23 16 1).fault 20).checkSole :=
  if_pos (by simp [hh, hsole, hend, State.passed, hd])

/-! ### Claims, yields and renewals (R321, R325, R326, R334) -/

/-- A standby claims at its claim point, and its claim counts as a beat of that time. -/
theorem State.claimDue_of_passed {s : State} {d : Nat} (hp : s.paired = true) (hrole : s.twinRole = 3)
    (hpoint : s.twin.claimPoint = some d) (hd : d < s.owl) : s.claimDue = (s.claimLease 0).claimedAt d := by
  refine (if_pos (by simp [hp, hrole, hpoint, State.passed, hd])).trans ?_
  rw [hpoint]
  rfl

section
variable {s : State} {e : Nat} (hp : s.paired = true) (hup : s.twin.up = true) (hrole : s.twinRole = 3)
include hp hup hrole

theorem State.yieldRx_of_standby (he : s.twin.epoch ≤ e) (k : Nat) :
    s.yieldRx e k = ((if e > s.twin.epoch then (s.seeFar 3 e).twinEvent 0x44 0xFF else s.seeFar 3 e).setEpoch e).claimLease
      1 := by
  have hrole' : (s.seeFar 3 e).twinRole = 3 := hrole
  exact (if_pos (by simp [hp, hup])).trans (if_pos (Bool.and_eq_true_iff.mpr ⟨decide_eq_true hrole', decide_eq_true he⟩))

/-- A renewal of the epoch that the standby knows moves its claim point and is acknowledged. -/
theorem State.renewRx_of_standby (k : Nat) :
    s.renewRx s.twin.epoch k = ((s.seeFar 4 s.twin.epoch).modTwin fun t => { t with
      claimPoint := some (s.owl + s.leaseLen + 500) }).linkSend 0x03
        [BitVec.ofNat 32 s.twin.epoch, BitVec.ofNat 32 k] := by
  have hrole' : (s.seeFar 4 s.twin.epoch).twinRole = 3 := hrole
  have hepoch : (s.seeFar 4 s.twin.epoch).twin.epoch = s.twin.epoch := rfl
  have hsame : (s.seeFar 4 s.twin.epoch).higherEpoch s.twin.epoch true = s.seeFar 4 s.twin.epoch :=
    if_neg (Nat.lt_irrefl _)
  have hrenewed : (s.seeFar 4 s.twin.epoch).renewed = (s.seeFar 4 s.twin.epoch).modTwin fun t => { t with
      claimPoint := some (s.owl + s.leaseLen + 500) } := if_pos hrole'
  simp [State.renewRx, hp, hup, hrole', hepoch, hsame, hrenewed]

/-- A claim of a higher epoch is followed; a standby has no beat of its own to take back. -/
theorem State.claimRx_of_standby {t : State} (he : s.twin.epoch < e) (ht : t = (s.seeFar 4 e).higherEpoch e false)
    (why : Nat) :
    s.claimRx e why = if t.twin.yieldAt.isSome then (t.yieldDone true).renewed else t.renewed := by
  have hrole' : (s.seeFar 4 e).twinRole = 3 := hrole
  have hepoch : (s.seeFar 4 e).twin.epoch = s.twin.epoch := rfl
  have hbeat : (s.seeFar 4 e).unbeat = s.seeFar 4 e := if_neg (by simp [State.holder, hrole'])
  subst ht
  simp only [State.claimRx, hp, hup, hrole', hepoch, hbeat, Nat.not_le.mpr he, Bool.not_true, Bool.or_self,
    Bool.false_eq_true, decide_false, if_false, Nat.reduceEqDiff]
  split <;> rfl

end

theorem State.yieldTimeout_of_due {s : State} (h : s.due s.twin.yieldAt = true) : s.yieldTimeout = s.yieldDone false :=
  if_pos h

/-! ### The pins (R320, R324, R530) -/

theorem State.leaseIn_of_equal (s : State) (b : Bool) :
    s.leaseIn b b
      = ((s.modTwin fun t => { t with pinLevel := none, stillAt := none }).setPins (if b then 2 else 1)).checkSole :=
  if_pos (beq_self_eq_true b)

theorem State.leaseStill_of_due {s : State} (hdue : s.due s.twin.stillAt = true)
    (hlevel : s.twin.pinLevel.isSome = true) :
    s.leaseStill = (s.modTwin fun t => { t with stillAt := none }).setPins 3 := if_pos (by simp [hdue, hlevel])

/-- A twin that showed health shows its safe state. -/
theorem State.twfIn_of_safe {s : State} (h : s.rf 0x4018 24 23 = 0) :
    s.twfIn false true = (((s.setRf 0x4018 24 23 1).twinOccur 0x31 1).levelOn { src := 23 }).checkSole := by
  simp [State.twfIn, h]

/-- Settles O43: each row is its gate, open, before the branch that its hypotheses choose. -/
theorem twinLease : Obligations.TwinLease := by
  refine ⟨?_, ?_, ?_, ?_, ?_, ?_, ?_, ?_, ?_, ?_, ?_⟩
  · intro s ha hh hdue hrep hen
    exact next_owlOn s (State.leaseBeat_of_due hh hdue hrep hen)
  · intro s k d ha hh hup hk hd hbeat htime
    exact next_whileOn ha ((State.crcGate_of_right ..).trans (State.ackRx_of_beat hh hup hk hd hbeat htime))
  · rintro s ha hh hsole ⟨d, hend, hd⟩
    exact next_owlOn s (State.leaseOver_of_passed hh hsole hend hd)
  · intro s d ha hp hrole hpoint hd
    exact ⟨_, rfl, next_owlOn s (State.claimDue_of_passed hp hrole hpoint hd)⟩
  · intro s e k ha hp hup hrole he
    exact next_whileOn ha ((State.crcGate_of_right ..).trans (State.yieldRx_of_standby hp hup hrole he k))
  · intro s k ha hp hup hrole
    exact next_whileOn ha ((State.crcGate_of_right ..).trans (State.renewRx_of_standby hp hup hrole k))
  · intro s e why ha hp hup hrole he _
    exact ⟨_, rfl, next_whileOn ha
      ((State.crcGate_of_right ..).trans (State.claimRx_of_standby hp hup hrole he rfl why))⟩
  · intro s ha hdue
    exact next_owlOn s (State.yieldTimeout_of_due hdue)
  · intro s b ha hdeep
    refine next_whileOn ha ?_
    rw [State.deepWake_of_not_deep hdeep, State.leaseIn_of_equal]
  · intro s ha hdue hlevel
    exact next_owlOn s (State.leaseStill_of_due hdue hlevel)
  · intro s ha hdeep hhealthy
    refine next_whileOn ha ?_
    rw [State.deepWake_of_not_deep hdeep, State.twfIn_of_safe hhealthy]

end Sys2Proof.Machine
end

section
/-!
What the twins tell each other (R315, R318, R326, R330, R331, R333), and the commands of the pair (R334, R338, R340).
-/
namespace Sys2Proof.Machine

/-! ### Reliable frames (R318) -/

theorem State.rxReliable_of_in_order {s : State} {seq : Nat} (hup : s.twin.up = true)
    (hseq : seq = nextSeq s.twin.rxSeq) :
    s.rxReliable seq = (true, s.ackSoon.modTwin fun w => { w with rxSeq := seq }) := by
  simp only [State.rxReliable, hup, ← hseq, Bool.not_true, Bool.false_eq_true, if_false, if_true]
  rfl

theorem State.rxReliable_of_out_of_order {s : State} {seq : Nat} (hup : s.twin.up = true)
    (hseq : seq ≠ nextSeq s.twin.rxSeq) : s.rxReliable seq = (false, s.ackSoon) := by
  simp only [State.rxReliable, hup, hseq, Bool.not_true, Bool.false_eq_true, if_false]
  rfl

/-! ### Mirrored objects and the resynchronisation (R330, R333) -/

section
variable {s : State} {seq : Nat} {d : MirrorData} {f : LinkFrame} (hup : s.twin.up = true)
  (hcrc : d.crc = none ∨ d.crc = some f.check)
include hup hcrc

/-- A mirrored object that comes next in order is applied on a twin that follows. -/
theorem State.mirrorRx_of_in_order (hseq : seq = nextSeq s.twin.rxSeq)
    (hf : f = { typ := 0x10, seq := seq, words := mirrorHead d.cls d.obj d.off d.words.length ++ d.words }) {t : State}
    (ht : t = s.ackSoon.modTwin fun w => { w with rxSeq := seq }) :
    s.mirrorRx seq d = if t.follows then t.applyMirror d else t := by
  subst hf ht
  refine (State.crcGate_of_good hcrc _ _).trans ?_
  rw [State.rxReliable_of_in_order hup hseq]
  rfl

theorem State.mirrorRx_of_out_of_order (hseq : seq ≠ nextSeq s.twin.rxSeq)
    (hf : f = { typ := 0x10, seq := seq, words := mirrorHead d.cls d.obj d.off d.words.length ++ d.words }) :
    s.mirrorRx seq d = s.ackSoon := by
  subst hf
  refine (State.crcGate_of_good hcrc _ _).trans ?_
  rw [State.rxReliable_of_out_of_order hup hseq]
  rfl

theorem State.bulkRx_of_in_order {n : Nat} (hseq : seq = nextSeq s.twin.rxSeq)
    (hf : f = { typ := 0x11, seq := seq
                words := BitVec.ofNat 32 n :: (mirrorHead d.cls d.obj d.off d.words.length ++ d.words) }) :
    s.bulkRx seq n d = (s.ackSoon.modTwin fun w => { w with rxSeq := seq }).bulkTake n d := by
  subst hf
  refine (State.crcGate_of_good hcrc _ _).trans ?_
  rw [State.rxReliable_of_in_order hup hseq]
  rfl

end

section
variable {s : State} {n : Nat} {d : MirrorData} (hp : s.paired = true) (hrole : s.twinRole = 2)
include hp hrole

/-- A frame of the class that is coming in is held. -/
theorem State.bulkTake_of_same_class (hn : n = s.twin.resync) (hbulk : s.twin.bulk = true)
    (hall : s.twin.bulkHeld.all (fun e => e.cls == d.cls) = true) :
    s.bulkTake n d = s.modTwin fun w => { w with bulkHeld := w.bulkHeld ++ [d] } := by
  have hany : s.twin.bulkHeld.any (fun e => e.cls != d.cls) = false := by
    rw [List.all_eq_not_any_not, Bool.not_eq_true'] at hall
    exact hall
  simp [State.bulkTake, hp, hrole, hn, hbulk, hany]

/-- A frame of the next class: the class before it has come in full, and is applied. -/
theorem State.bulkTake_of_next_class (hn : n = s.twin.resync) (hbulk : s.twin.bulk = true)
    (hany : s.twin.bulkHeld.any (fun e => e.cls != d.cls) = true) :
    s.bulkTake n d = s.bulkApply.modTwin fun w => { w with bulkHeld := w.bulkHeld ++ [d] } := by
  simp [State.bulkTake, hp, hrole, hn, hbulk, hany]

/-- The first frame of a resynchronisation discards what it replaces. -/
theorem State.bulkTake_of_first (h : n ≠ s.twin.resync ∨ s.twin.bulk = false) :
    s.bulkTake n d = (s.discardPair.modTwin fun w => { w with resync := n, bulk := true, bulkHeld := [] }).modTwin
      fun w => { w with bulkHeld := w.bulkHeld ++ [d] } := by
  have hfirst : ¬ (decide (n = s.twin.resync) && s.twin.bulk) = true := by
    rcases h with h | h <;> simp [h]
  refine (if_pos (by simp [hp, hrole])).trans ?_
  rw [if_neg hfirst]
  rfl

end

theorem State.bulkDone_of_bulk {s t : State} (hp : s.paired = true) (hup : s.twin.up = true)
    (hbulk : s.twin.bulk = true)
    (ht : t = (s.bulkApply.modTwin fun w => { w with bulk := false }).setUnsync false) :
    s.bulkDone = if t.twinRole = 2 then (t.setRole 3 0xFF).renewed.checkSole else t := by
  subst ht
  exact if_pos (by simp [hp, hup, hbulk])

theorem State.timerMirror_of_due {s t : State} (hh : s.holder = true) (hdue : s.due s.twin.mirrorAt = true)
    (ht : t = s.modTwin fun w => { w with mirrorAt := some (s.owl + 10000) }) :
    s.timerMirror = t.pgsOn.foldl (fun u p => u.mirror 2 p (u.pgMirror p)) t := by
  subst ht
  exact if_pos (by simp [hh, hdue])

/-! ### Sequence numbers (R331) -/

/-- The words that SEQ_SYNC carries for one stream: its number, and its own counter with the time it belongs to. -/
def State.seqWords (s : State) (n : Nat) : List Word :=
  SeqSync.words {
    stream := n, value := ((s.red n).startAt.getD ((s.red n).outSeq, s.nowNs)).1
    at_ := ((s.red n).startAt.getD ((s.red n).outSeq, s.nowNs)).2 }

theorem State.seqSyncSend_of_due {s t : State} (hh : s.holder = true) (hup : s.twin.up = true)
    (hsafe : s.faults.safe = false) (hdue : s.due s.twin.seqSyncAt = true)
    (ht : t = s.modTwin fun w => { w with seqSyncAt := some (s.owl + 10000) }) :
    s.seqSyncSend = (chunk32 64 (t.txStreams.flatMap t.seqWords)).foldl (fun u l => u.linkSend 0x12 l) t := by
  subst ht
  exact if_pos (by simp [hh, hup, hsafe, hdue])

theorem State.seqSyncRx_of_follower {s : State} (hp : s.paired = true) (hup : s.twin.up = true)
    (hh : s.holder = false) (es : List SeqSync) : s.seqSyncRx es = (es.foldl State.seqEntry s).skewFollow :=
  if_pos (by simp [hp, hup, hh])

section
variable {s : State} {e : SeqSync} (hon : s.redOn e.stream = true)
  (hrole : s.redRole e.stream = 1 ∨ s.redRole e.stream = 3)
include hon hrole

/-- An own start near the twin's: the counter steps to the twin's number where the two differ. -/
theorem State.seqEntry_of_near {own : Nat} (hnear : s.nearStart e.stream e.at_ = some (own, true)) :
    s.seqEntry e = if own = e.value % s.txMod e.stream then s.modRed e.stream fun r => { r with skewed := false }
      else ((s.modRed e.stream fun r => { r with skewed := false }).modRed e.stream (Red.stepSeq (s.txMod e.stream)
        (ahead (s.txMod e.stream) own (e.value % s.txMod e.stream)))).count 0x4028 15 0 1 := by
  refine (if_pos (by simpa [hon] using hrole)).trans ?_
  simp only [hnear]

/-- No own start within a quarter of the period: the stream is skewed. -/
theorem State.seqEntry_of_far {own : Nat}
    (hfar : s.nearStart e.stream e.at_ = some (own, false) ∨ s.nearStart e.stream e.at_ = none) :
    s.seqEntry e = s.modRed e.stream fun r => { r with skewed := true } := by
  refine (if_pos (by simpa [hon] using hrole)).trans ?_
  rcases hfar with h | h <;> simp only [h]

end

/-! ### REF_INFO (R315, R318) -/

theorem State.refInfoRx_of_up {s : State} (hp : s.paired = true) (hup : s.twin.up = true) (ppt : Int)
    (sel sec ns : Nat) :
    s.refInfoRx ppt sel sec ns = (s.modTwin fun t => { t with
      refInfoPpt := ppt, refInfoSel := sel, refInfoAt := some s.owl }).setReg 0x4020
        (satSigned ((s.nowNs : Int) - ((sec * 1000000000 + ns : Nat) : Int))) := if_pos (by simp [hp, hup])

theorem State.refInfoSend_of_due {s : State} (hp : s.paired = true) (hup : s.twin.up = true)
    (hdue : s.due s.twin.refInfoSend = true) :
    s.refInfoSend = (s.modTwin fun t => { t with refInfoSend := some (s.owl + 1000) }).linkSend 0x14
      [ofSigned (s.refs.steer + s.nominal), BitVec.ofNat 32 s.refs.selected, BitVec.ofNat 32 s.time.sec,
        BitVec.ofNat 32 s.ns] := if_pos (by simp [hp, hup, hdue])

/-- Settles O44: each row is its gate, open, before the branch that its hypotheses choose. -/
theorem twinMirror : Obligations.TwinMirror := by
  refine ⟨?_, ?_, ?_, ?_, ?_, ?_, ?_, ?_, ?_, ?_, ?_⟩
  · intro s seq d f ha hup hseq hf hcrc
    exact ⟨_, rfl, next_whileOn ha (State.mirrorRx_of_in_order hup hcrc hseq hf rfl)⟩
  · intro s seq d f ha hup hseq hf hcrc
    exact next_whileOn ha (State.mirrorRx_of_out_of_order hup hcrc hseq hf)
  · intro s seq n d f x ha hen hgot
    exact ⟨fun hf hx => next_whileOn ha (State.crcGate_of_bad hen hgot (hf ▸ hx) _),
      fun hf hx => next_whileOn ha (State.crcGate_of_bad hen hgot (hf ▸ hx) _)⟩
  · intro s seq n d f ha hup hseq hp hrole hf hcrc
    have htake := State.bulkRx_of_in_order hup hcrc hseq hf
    have hp' : (s.ackSoon.modTwin fun w => { w with rxSeq := seq }).paired = true := hp
    have hrole' : (s.ackSoon.modTwin fun w => { w with rxSeq := seq }).twinRole = 2 := hrole
    exact ⟨_, rfl,
      fun hn hbulk hall => next_whileOn ha (htake.trans (State.bulkTake_of_same_class hp' hrole' hn hbulk hall)),
      fun hn hbulk hany => next_whileOn ha (htake.trans (State.bulkTake_of_next_class hp' hrole' hn hbulk hany)),
      fun hfirst => next_whileOn ha (htake.trans (State.bulkTake_of_first hp' hrole' hfirst))⟩
  · intro s ha hp hup hbulk
    exact ⟨_, rfl, next_whileOn ha (State.bulkDone_of_bulk hp hup hbulk rfl)⟩
  · intro s ha hh hdue
    exact ⟨_, rfl, next_whileOn ha (State.timerMirror_of_due hh hdue rfl)⟩
  · intro s ha hh hup hsafe hdue
    exact ⟨_, rfl, next_whileOn ha (State.seqSyncSend_of_due hh hup hsafe hdue rfl)⟩
  · intro s es ha hp hup hh
    exact next_whileOn ha ((State.crcGate_of_right ..).trans (State.seqSyncRx_of_follower hp hup hh es))
  · intro s e own hon hrole
    refine ⟨fun hnear hsame => ?_, fun hnear hdiff => ⟨_, rfl, ?_⟩, State.seqEntry_of_far hon hrole⟩
    · exact (State.seqEntry_of_near hon hrole hnear).trans (if_pos hsame)
    · exact (State.seqEntry_of_near hon hrole hnear).trans (if_neg hdiff)
  · intro s ppt sel sec ns ha hp hup
    exact next_whileOn ha ((State.crcGate_of_right ..).trans (State.refInfoRx_of_up hp hup ppt sel sec ns))
  · intro s ha hp hup hdue
    exact next_whileOn ha (State.refInfoSend_of_due hp hup hdue)

/-! ### The commands of the pair (R334, R338, R340) -/

/-- A packet of three words or more goes over a link that is up, and its command waits for the twin's reply. -/
theorem State.fxTwinForward_of_packet {q : Req} {ws : List Word} (hsrc : q.src ≠ .twin) (hlen : 3 ≤ ws.length)
    (s : State) :
    s.fxTwinForward q ws = if !s.twin.up then s.finish q 0x0A02 eParam 0 []
      else (s.linkSend 0x20 ws).pendOn q 0x0A02 (.forward (fld (wd ws 1) 31 16)) none :=
  (if_neg hsrc).trans (if_neg (Nat.not_lt.mpr hlen))

/-- LEASE_YIELD is refused while another has the claim, or where the pair cannot take a yield. -/
theorem State.fxLeaseYield_eq (s : State) (q : Req) :
    s.fxLeaseYield q [] = if s.claimed (fun c => c == .twinRole) then s.finish q 0x0A03 eBusy 0 []
      else if s.yieldStatus != stOk then s.finish q 0x0A03 s.yieldStatus 0 []
      else ((s.setPend { req := q, opcode := 0x0A03, job := .leaseYield, pending := s.wasPending q }).claim
        .twinRole).doYield (some q) := rfl

/-- The twin's final reply completes the command that it answers. -/
theorem State.fwdReply_of_in_order {s : State} {seq : Nat} {l : List Byte} {p : PendCmd} (hup : s.twin.up = true)
    (hseq : seq = nextSeq s.twin.rxSeq) (hfinal : beNum l 8 2 ≠ stPending) (hcmd : s.forwardOf (beNum l 4 2) = some p)
    (hfits : (toWords l).length ≤ maxCount p.req) :
    s.fwdReply seq l
      = (s.ackSoon.modTwin fun w => { w with rxSeq := seq }).finish p.req p.opcode stOk 0 (toWords l) := by
  have hcmd' : (s.ackSoon.modTwin fun w => { w with rxSeq := seq }).forwardOf (beNum l 4 2) = some p := hcmd
  simp [State.fwdReply, State.rxReliable_of_in_order hup hseq, hfinal, hcmd', hfits]

/-- Settles O45: each command starts alone, and its answer is the branch that its conditions choose. -/
theorem twinCommands : Obligations.TwinCommands := by
  refine ⟨?_, ?_, ?_, ?_, ?_, ?_⟩
  · intro s q hr
    exact next_ready hr q [] rfl
  · intro s q ws hr hsrc hlen
    have hfx := State.fxTwinForward_of_packet hsrc hlen s
    exact ⟨fun hup => next_ready hr q ws (hfx.trans (if_neg (by simp [hup]))),
      fun hdown => next_ready hr q ws (hfx.trans (if_pos (by simp [hdown])))⟩
  · intro s q hr hok hfree
    exact next_ready hr q []
      ((State.fxLeaseYield_eq s q).trans ((if_neg (by simp [hfree])).trans (if_neg (by simp [hok]))))
  · intro s q hr hbusy
    exact next_ready hr q [] ((State.fxLeaseYield_eq s q).trans (if_pos hbusy))
  · intro s q hr hfree hrefused
    exact next_ready hr q []
      ((State.fxLeaseYield_eq s q).trans ((if_neg (by simp [hfree])).trans (if_pos (by simpa using hrefused))))
  · intro s seq l p ha hup hseq hfinal hcmd hfits
    exact next_whileOn ha ((State.crcGate_of_right ..).trans (State.fwdReply_of_in_order hup hseq hfinal hcmd hfits))

end Sys2Proof.Machine
end

section
/-!
The dangerous registers behind the key procedure (R481 to R483), where a pair has a wire fault (R514).
-/
namespace Sys2Proof.Machine

/-- A block's report of a source whose pair has a wire fault is not seen (R514). -/
theorem State.report_of_wire {s : State} {r : Report} (h : s.faults.wires.contains r.src = true) : s.report r = s :=
  if_pos h

/-- The events that wait in the device that an outcome leaves. -/
def eventsLeft : Out → Nat
  | .next s => s.events.length
  | _ => 0

/-- A running device whose pair of source 29 has a wire fault. -/
def wiredAt29 : State := { State.reset with phase := .run }.modFaults fun f => { f with wires := [29] }

/-- Refutes O29: FAULT_INJ raises its injected fault at assertion (R532) whatever the state of the source's pair, since
a wire fault hides real reports only (R514); the statement's clause for it says `report`, which raises nothing while
the pair has a wire fault. The event of the injection tells the two apart. -/
theorem not_keyRows : ¬ Obligations.KeyRows := by
  rintro ⟨_, _, _, _, _, _, _, hassert, _⟩
  have hrow := hassert wiredAt29 { src := .host, tag := 7 } 29 (by decide +kernel) (by decide +kernel) (by decide)
    rfl rfl
  rw [State.report_of_wire (by decide +kernel)] at hrow
  have hrun : eventsLeft (exec (.faultInjAssert { src := .host, tag := 7 } 29) wiredAt29) = 1 := by decide +kernel
  rw [hrow] at hrun
  exact absurd hrun (by decide +kernel)

end Sys2Proof.Machine
end

section
/-!
The egress side of the packet units (R357 to R381): when a port starts a frame and which queue gives it, the end of a
frame, the gate lists and the sampling of the queues.
-/
namespace Sys2Proof.Machine

/-! ### The scheduler (R360 to R363) -/

/-- The highest eligible queue of a port starts its head. -/
def State.startNext (t : State) (c : Nat) : State :=
  match [7, 6, 5, 4, 3, 2, 1, 0].find? (t.eligible c) with
  | some q => t.startFrame c q
  | none => t

theorem State.startNext_of_some {t : State} {c q : Nat}
    (hq : [7, 6, 5, 4, 3, 2, 1, 0].find? (t.eligible c) = some q) : t.startNext c = t.startFrame c q := by
  simp only [State.startNext, hq]

section
variable {s t : State} {c : Nat} (hg : s.gfpRole c = true) (he : s.enabled c = true) (hb : (s.pkt c).busy = none)
  (hclk : (s.grp (c / 16)).clk = true)
include hg he hb hclk

/-- The port is idle: what PKT_EN discards goes first; then the port's shaper and the queues decide. -/
theorem State.schedule_of_idle (ht : t = if s.pktEn c then s.each (List.range 8) (State.purgeQueue c) else s) :
    s.schedule c = if t.pktEn c && !mayStart (t.portTokens c) then t else t.startNext c := by
  unfold State.schedule
  rw [if_pos (by simp [hg, he, hb, hclk]), ← ht]
  rfl

/-- Without PKT_EN there is no discard and no shaper. -/
theorem State.schedule_of_plain (hp : s.pktEn c = false) : s.schedule c = s.startNext c := by
  rw [State.schedule_of_idle hg he hb hclk (if_neg (by simp [hp])).symm]
  exact if_neg (by simp [hp])

/-- With PKT_EN the heads that cannot stay are discarded. -/
theorem State.schedule_of_packet (hp : s.pktEn c = true) (ht : t = s.each (List.range 8) (State.purgeQueue c)) :
    s.schedule c = if t.pktEn c && !mayStart (t.portTokens c) then t else t.startNext c :=
  State.schedule_of_idle hg he hb hclk (ht.trans (if_pos hp).symm)

end

section
variable {s : State} {c q : Nat} {f : QFrame} {r : List QFrame} (hf : ((s.pkt c).queue q).frames = f :: r)
include hf

/-- The head of a queue is taken and counted, is listed as started, and is stamped. -/
theorem State.startFrame_of_head {t : State} (ht : t = (s.takeHead c q f r).countStart c q f) :
    s.startFrame c q = State.stampStart { t with
      started := t.started ++ [{ ch := c, queue := q, len := f.len, corr := t.corrOf c f, bytes := t.leaving c f }] }
      c f := by
  subst ht
  simp only [State.startFrame, hf]

/-- With PKT_EN a queue is eligible where its gate, the guard band, its shaper and its head's launch time all allow. -/
theorem State.eligible_iff (hp : s.pktEn c = true) :
    s.eligible c q = true ↔ (s.gatesNow c).testBit q = true
      ∧ ((s.pkt c).gbEngine = none ∨ s.gated c = false ∨ s.fits c f.len (s.openTime c q) = true)
      ∧ mayStart (s.queueTokens c q) = true ∧ (∀ t, f.launch = some t → t ≤ s.nowNs) := by
  cases hl : f.launch <;> simp [State.eligible, hf, hp, hl, or_assoc, and_assoc]

end

theorem State.frameEnd_of_busy {s : State} {c : Nat} (hb : (s.pkt c).busy.isSome = true) :
    s.frameEnd c = ((s.modPkt c fun p => { p with busy := none }).bufSync).checkStop (c / 16) := if_pos hb

theorem State.tafLate_of_packet {s : State} {c q : Nat} (hq : q < 8) (hp : s.pktEn c = true) :
    s.tafLate c q = State.purgeQueue c s q := if_pos (by simp [hq, hp])

/-! ### Gates (R369, R371, R374) -/

/-- Between frames no closing gate cuts one short. -/
theorem State.gateApply_of_idle {s : State} {c : Nat} (hb : (s.pkt c).busy = none) :
    s.gateApply c = s.modPkt c fun p => { p with entry := (s.gateEntry c).1, gates := s.gatesNow c } := by
  simp [State.gateApply, hb]

/-- An armed list whose time is there runs, from the other bank. -/
theorem State.gateActivate_of_due {s u : State} {c : Nat} {a : GateList} (ha : (s.pkt c).armed = some a)
    (hdue : a.at_ ≤ s.nowNs)
    (hu : u = s.modPkt c fun p => { p with running := some a, armed := none, bank := 1 - p.bank }) :
    s.gateActivate c = if u.crb c 17 31 then u.event 0x03 (c / 16) c 0x30 else u := by
  subst hu
  unfold State.gateActivate
  rw [ha]
  exact if_pos hdue

/-! ### Sampling (R380) -/

theorem State.queueSample_of_new {s : State} {k : Nat} (hclk : s.clocked = true)
    (hk : k = s.nowNs / 1000 / s.samplePeriod * s.samplePeriod) (hnew : k ≠ s.sampledAt) :
    s.queueSample = { s with sampledAt := k }.each s.sampled State.sampleQueue := by
  subst hk
  exact if_pos (by simp [hclk, hnew])

/-- Settles O36: each row finds its gate open and its operation in the one case that its conditions choose. -/
theorem egressScheduling : Obligations.EgressScheduling := by
  refine ⟨?_, ?_, ?_, ?_, ?_, ?_, ?_, ?_, ?_, ?_⟩
  · intro s c q ha hc hg he hb hclk hp hq
    exact next_onCh ha hc ((State.schedule_of_plain hg he hb hclk hp).trans (State.startNext_of_some hq))
  · intro s c q f r hf
    exact ⟨_, rfl, State.startFrame_of_head hf rfl⟩
  · intro s c ha hc hg he hb hclk hp
    obtain ⟨t, ht⟩ : ∃ t : State, t = s.each (List.range 8) (State.purgeQueue c) := ⟨_, rfl⟩
    refine ⟨t, ht, next_onCh ha hc ((State.schedule_of_packet hg he hb hclk hp ht).trans ?_)⟩
    exact ite_congr rfl (fun _ => rfl) fun _ => rfl
  · intro s c q f r hf hp
    exact State.eligible_iff hf hp
  · intro s c ha hc hb
    exact next_onCh ha hc (State.frameEnd_of_busy hb)
  · intro s c q ha hc hq hp
    exact next_onCh ha hc (State.tafLate_of_packet hq hp)
  · intro s c ha hc hclk
    exact next_onGrpClk ha hc hclk rfl
  · intro s c hb
    exact State.gateApply_of_idle hb
  · intro s c a ha hc hclk harmed hdue
    exact ⟨_, rfl, next_onGrpClk ha hc hclk (congrArg (·.gateApply c) (State.gateActivate_of_due harmed hdue rfl))⟩
  · intro s k ha hclk hk hnew
    exact next_whileOn ha (State.queueSample_of_new hclk hk hnew)

end Sys2Proof.Machine
end

section
/-!
The commands of the packet units (R356, R366, R368, R371): POLICER_SET, SHAPER_SET and GATE_ARM, each alone.
-/
namespace Sys2Proof.Machine

/-! ### POLICER_SET (R356) -/

/-- Rates and bursts of an enabled policer that are within bounds are stored, and its buckets start full. -/
theorem State.fxPolicerSet_of_valid {s : State} {p a b d e : Word} (hp : p.toNat < 4096)
    (hon : bit (s.tbl 0x19 p.toNat 0) 31 = true) (hab : a.toNat ≤ b.toNat) (hb : b.toNat ≤ 100000000)
    (hdmin : 9600 ≤ d.toNat) (hdmax : d.toNat ≤ 16777215) (hemin : 9600 ≤ e.toNat) (hemax : e.toNat ≤ 16777215)
    (q : Req) :
    State.fxPolicerSet q [p, a, b, d, e] s
      = ((s.setTblWords 0x19 0 p.toNat 1 [a, b, d, e]).fillPolicer p.toNat).finish q 0x0405 stOk 0 [] := by
  simp [State.fxPolicerSet, wd, hon, Nat.not_le.mpr hp, Nat.not_lt.mpr hab, Nat.not_lt.mpr hb, Nat.not_lt.mpr hdmin,
    Nat.not_lt.mpr hdmax, Nat.not_lt.mpr hemin, Nat.not_lt.mpr hemax]

/-! ### SHAPER_SET (R366) -/

section
variable {s : State} {w r b : Word} (hc : fld w 23 16 < 192) (hbits : onlyBits w 0xC0FF0007#32 = true)
  (hr : 0 < r.toNat) (hrmax : r.toNat ≤ 100000000) (hb : 0 < b.toNat) (hbmax : b.toNat ≤ 16777215) (q : Req)
include hc hbits hr hrmax hb hbmax

/-- A queue's shaper takes its mode, rate and burst, and starts with the bucket of the mode. -/
theorem State.fxShaperSet_of_queue {n : Nat} (hn : n = qNum (fld w 23 16) (fld w 2 0)) (hqueue : bit w 31 = false)
    (hon : bit (s.tbl 0x1B n 0) 31 = true) :
    State.fxShaperSet q [w, r, b] s
      = (((s.setTbl 0x1B n 0 (setBit (s.tbl 0x1B n 0) 30 (bit w 30))).setTblWords 0x1B 0 n 1 [r, b]).resetQueue
          (fld w 23 16) (fld w 2 0)).finish q 0x0406 stOk 0 [] := by
  subst hn
  simp [State.fxShaperSet, wd, hqueue, hon, hbits, Nat.not_le.mpr hc, Nat.ne_of_gt hr, Nat.not_lt.mpr hrmax,
    Nat.ne_of_gt hb, Nat.not_lt.mpr hbmax]

/-- So does a port's. -/
theorem State.fxShaperSet_of_port (hport : bit w 31 = true) (hon : bit (s.tbl 0x1C (fld w 23 16) 0) 31 = true) :
    State.fxShaperSet q [w, r, b] s
      = (((s.setTbl 0x1C (fld w 23 16) 0 (setBit (s.tbl 0x1C (fld w 23 16) 0) 30 (bit w 30))).setTblWords 0x1C 0
          (fld w 23 16) 1 [r, b]).resetPort (fld w 23 16)).finish q 0x0406 stOk 0 [] := by
  simp [State.fxShaperSet, wd, hport, hon, hbits, Nat.not_le.mpr hc, Nat.ne_of_gt hr, Nat.not_lt.mpr hrmax,
    Nat.ne_of_gt hb, Nat.not_lt.mpr hbmax]

end

/-! ### GATE_ARM (R368, R371) -/

section
variable {s : State} {w : Word} {c : Nat} (hw : c = fld w 23 16) (hc : c < 192)
  (hbits : onlyBits w 0x80FF003F#32 = true) (hg : s.gfpRole c = true) (a b d : Word) (q : Req)
include hw hc hbits hg

/-- Bit 31 cancels the armed list, whatever the other words say. -/
theorem State.fxGateArm_of_cancel (hcancel : bit w 31 = true) :
    State.fxGateArm q [w, a, b, d] s = (s.modPkt c fun p => { p with armed := none }).finish q 0x0407 stOk 0 [] := by
  subst hw
  simp [State.fxGateArm, wd, hcancel, hbits, hg, Nat.not_le.mpr hc]

variable {a b d}

/-- A list of good intervals and cycle time is armed for a time between 100 µs and 1000 s from now. -/
theorem State.fxGateArm_of_valid {len at_ : Nat} (hlen : len = fld w 5 0 + 1)
    (hat : at_ = (s.time.sec / 2 ^ 32 * 2 ^ 32 + a.toNat) * 1000000000 + b.toNat) (harm : bit w 31 = false)
    (hns : b.toNat ≤ 999999999) (hmin : s.nowNs + 100000 ≤ at_) (hmax : at_ ≤ s.nowNs + 1000000000000)
    (hnone : (s.pkt c).armed = none) (hgood : (List.range len).any (s.badInterval c) = false)
    (hdmin : 1000 ≤ d.toNat) (hdmax : d.toNat ≤ 1000000000) :
    State.fxGateArm q [w, a, b, d] s
      = (s.modPkt c fun p => { p with armed := some { at_ := at_, cycle := d.toNat, len := len } }).finish q 0x0407
          stOk 0 [] := by
  subst hw hlen
  simp [-Nat.reducePow, State.fxGateArm, wd, harm, hbits, hg, Nat.not_le.mpr hc, Nat.not_lt.mpr hns, ← hat,
    Nat.not_lt.mpr hmin, Nat.not_lt.mpr hmax, hnone, hgood, Nat.not_lt.mpr hdmin, Nat.not_lt.mpr hdmax]

end

/-- Settles O37: each command starts alone, and with its words within bounds it is stored. -/
theorem packetCommands : Obligations.PacketCommands := by
  refine ⟨?_, ?_, ?_⟩
  · intro s q p a b d e hr hp hon hab hb hdmin hdmax hemin hemax
    exact next_ready hr q _ (State.fxPolicerSet_of_valid hp hon hab hb hdmin hdmax hemin hemax q)
  · intro s q w r b hr hc hbits hr0 hrmax hb hbmax
    exact ⟨fun hqueue hon =>
        ⟨_, rfl, next_ready hr q _ (State.fxShaperSet_of_queue hc hbits hr0 hrmax hb hbmax q rfl hqueue hon)⟩,
      fun hport hon =>
        ⟨_, rfl, next_ready hr q _ (State.fxShaperSet_of_port hc hbits hr0 hrmax hb hbmax q hport hon)⟩⟩
  · intro s q w a b d c len at_ hr hw hlen hat hc hbits
    exact ⟨fun harm hns hmin hmax hnone hgood hdmin hdmax hg => next_ready hr q _
        (State.fxGateArm_of_valid hw hc hbits hg q hlen hat harm hns hmin hmax hnone hgood hdmin hdmax),
      fun hcancel hg => next_ready hr q _ (State.fxGateArm_of_cancel hw hc hbits hg a b d q hcancel)⟩

end Sys2Proof.Machine
end

section
/-!
Reset, boot and the boundary-scan port (19_power_reset_boot.md, 20_pins_electrical_package.md), and the step of the
block: what a reset leaves, what the start of the boot code writes, and what BOOT_DONE starts.
-/
namespace Sys2Proof.Machine

/-! ### The machine after reset (R504, R573) -/

theorem State.reg_of_no_regs {s : State} (h : s.regs = []) (a : Nat) : s.reg a = resetWord a := by
  simp [State.reg, h, Store.get]

theorem State.tblB_of_no_tables {s : State} (h : s.tables = []) (n b e w : Nat) : s.tblB n b e w = tblReset n w := by
  simp [State.tblB, h, Store.get]

/-- Settles O59: the stores of the reset state list nothing, so every word reads its reset value. -/
theorem resetInvariant : Obligations.ResetInvariant :=
  ⟨by decide, rfl, rfl, rfl, rfl, State.reg_of_no_regs rfl, State.tblB_of_no_tables rfl, fun _ => rfl⟩

/-! ### RST_N_ASSERT (R573, R574, R576) -/

/-- A two-copy record whose write is cut loses a sector of the flash; the fuses stay. -/
theorem State.spoilCopy_otpFuses (s : State) (hdr : Bool) : (s.spoilCopy hdr).mgmt.otpFuses = s.mgmt.otpFuses := rfl

theorem State.assertReset_otpFuses (s : State) : s.assertReset.mgmt.otpFuses = s.mgmt.otpFuses := by
  unfold State.assertReset
  extract_lets u v
  show v.mgmt.otpFuses = _
  have hu : u.mgmt.otpFuses = s.mgmt.otpFuses := by
    simp only [u]
    split <;> rfl
  rw [← hu]
  simp only [v]
  split <;> rfl

/-- Where no write of a two-copy record is under way the flash stays (R576). -/
theorem State.assertReset_flash {s : State} (hhdr : s.mgmt.headerNext = none) (hpend : s.cmd.pend = []) :
    s.assertReset.mgmt.flash = s.mgmt.flash := by
  simp [State.assertReset, hhdr, hpend]

/-- Outside the reset lie the queue of waiting commands, the oscillator and the boundary-scan instruction. -/
theorem State.assertReset_outside (s : State) :
    s.assertReset.pending = s.pending ∧ s.assertReset.osc = s.osc ∧ s.assertReset.jtag = s.jtag := by
  have h := s.assertReset_core
  simp only [State.core, Prod.mk.injEq] at h
  obtain ⟨hpending, hosc, _, _, hjtag, _⟩ := h
  exact ⟨hpending, hosc, hjtag⟩

/-- Settles O1: what a reset does not bring to its reset value lies outside it. -/
theorem resetAssert : Obligations.ResetAssert := by
  refine ⟨fun s => rfl, fun s => ⟨s.assertReset, rfl, ?_⟩, fun s hhdr hpend => State.assertReset_flash hhdr hpend⟩
  obtain ⟨hpending, hosc, hjtag⟩ := s.assertReset_outside
  exact ⟨rfl, State.reg_of_no_regs rfl, State.tblB_of_no_tables rfl, fun _ => rfl, fun _ => rfl, fun _ => rfl,
    fun _ => rfl, fun _ => rfl, rfl, rfl, rfl, rfl, rfl, rfl, hpending, hosc, hjtag, s.assertReset_otpFuses⟩

/-! ### The start of the boot code (R504, R557, R575, R577) -/

/-- The start of the boot code changes the phase, the straps and registers, and nothing else. -/
theorem State.startBoot_eq (s : State) (st : Straps) (pin : Bool) :
    s.startBoot st pin = { s with phase := .boot, straps := st, regs := (s.startBoot st pin).regs } := by
  cases h : st.testEn <;> simp only [State.startBoot, h] <;> rfl

/-- The six registers that the start of the boot code writes. -/
theorem State.startBoot_written {s : State} (hw : Store.wf 0#32 s.regs = true) (st : Straps) (pin : Bool) :
    (s.startBoot st pin).reg 0x0014
        = BitVec.ofNat 32 (b2n st.testEn * 8 + st.bootSrc % 4 * 2 + b2n st.twinId)
      ∧ (s.startBoot st pin).reg 0x002C = (if pin then 0x80000000 else 0x40000000)
      ∧ (s.startBoot st pin).reg 0x4018 = setBit (s.reg 0x4018) 20 st.twinId
      ∧ (s.startBoot st pin).reg 0x50DC = BitVec.ofNat 32 s.mgmt.otpFuses
      ∧ (s.startBoot st pin).reg 0x0010
        = (if st.testEn then setBit (s.reg 0x0010) 30 true else s.reg 0x0010) := by
  unfold State.startBoot
  extract_lets boot straps cause lock
  have hstraps : Store.wf 0#32 straps.regs = true := State.regs_wf_setReg boot _ _ hw
  have hstepping : Store.wf 0#32 (straps.setReg 0x0004 (Config.stepping.setWidth 32)).regs = true :=
    State.regs_wf_setReg _ _ _ hstraps
  have hcause : Store.wf 0#32 cause.regs = true := State.regs_wf_setReg _ _ _ hstepping
  have hkeep : ∀ a, a ≠ 0x0014 → a ≠ 0x0004 → a ≠ 0x002C → cause.reg a = s.reg a := fun a h14 h04 h2C =>
    (State.reg_setReg_other _ _ _ _ h2C).trans
      ((State.reg_setReg_other _ _ _ _ h04).trans (State.reg_setReg_other boot _ _ _ h14))
  have hlock : Store.wf 0#32 lock.regs = true ∧ lock.mgmt = s.mgmt ∧ (∀ a, a ≠ 0x0010 → lock.reg a = cause.reg a)
      ∧ lock.reg 0x0010 = (if st.testEn then setBit (s.reg 0x0010) 30 true else s.reg 0x0010) := by
    simp only [lock, ← hkeep 0x0010 (by decide) (by decide) (by decide)]
    split
    · exact ⟨State.regs_wf_setReg _ _ _ hcause, rfl, fun a ha => State.reg_setReg_other _ _ _ _ ha,
        State.reg_setReg_same _ _ _ hcause⟩
    · exact ⟨hcause, rfl, fun _ _ => rfl, rfl⟩
  obtain ⟨hlock, hmgmt, hother, htest⟩ := hlock
  have h14 : cause.reg 0x0014 = BitVec.ofNat 32 (b2n st.testEn * 8 + st.bootSrc % 4 * 2 + b2n st.twinId) := by
    simp [cause, straps, show Store.wf 0#32 boot.regs = true from hw]
  have h2C : cause.reg 0x002C = (if pin then 0x80000000 else 0x40000000) := State.reg_setReg_same _ _ _ hstepping
  simp [State.setRb_eq, hlock, hmgmt, hother, htest, hkeep, h14, h2C]

/-- Every other register stays. -/
theorem State.startBoot_reg_other (s : State) (st : Straps) (pin : Bool) {a : Nat} (h14 : a ≠ 0x0014)
    (h04 : a ≠ 0x0004) (h2C : a ≠ 0x002C) (h10 : a ≠ 0x0010) (h4018 : a ≠ 0x4018) (h50DC : a ≠ 0x50DC) :
    (s.startBoot st pin).reg a = s.reg a := by
  cases h : st.testEn <;> simp [State.startBoot, State.setRb_eq, h, h14, h04, h2C, h10, h4018, h50DC] <;> rfl

/-- Settles O2: in reset the rise of RST_N starts the boot code with the straps it samples. -/
theorem resetRelease : Obligations.ResetRelease := by
  intro s st hwf hp
  obtain ⟨h14, h2C, h4018, h50DC, h10⟩ := State.startBoot_written (s.wf_regs hwf) st true
  have he : exec (.rstNRelease st) s = .next (s.startBoot st true) :=
    congrArg Host.Outcome.next (if_pos (by simp [hp]))
  refine ⟨_, he, ?_, ?_, h14, h2C, h4018, h50DC, h10, fun a => State.startBoot_reg_other s st true, ?_⟩
  all_goals rw [State.startBoot_eq]
  exact ⟨rfl, rfl, rfl, rfl, rfl, rfl, rfl, rfl, rfl, rfl, rfl⟩

/-- Settles O3: a REBOOT's reset starts the boot code on the reset registers, with the straps sampled before. -/
theorem rebootReset : Obligations.RebootReset := by
  intro s ha hdue
  obtain ⟨hpending, hosc, hjtag⟩ := s.assertReset_outside
  obtain ⟨h14, h2C, _⟩ := State.startBoot_written (s := s.assertReset) rfl s.straps false
  have he : exec .rebootReset s = .next (s.assertReset.startBoot s.straps false) :=
    congrArg Host.Outcome.next (if_pos (by simp [ha, hdue]))
  have hother : ∀ a, a ≠ 0x0014 → a ≠ 0x0004 → a ≠ 0x002C → a ≠ 0x0010 → a ≠ 0x4018 → a ≠ 0x50DC →
      (s.assertReset.startBoot s.straps false).reg a = resetWord a := fun a g14 g04 g2C g10 g4018 g50DC =>
    (State.startBoot_reg_other _ _ _ g14 g04 g2C g10 g4018 g50DC).trans (State.reg_of_no_regs rfl a)
  refine ⟨_, he, ?_, ?_, h2C, h14, hother, ?_⟩
  all_goals rw [State.startBoot_eq]
  exact ⟨State.tblB_of_no_tables rfl, fun _ => rfl, rfl, rfl, rfl, rfl, hpending, hosc, hjtag, s.assertReset_otpFuses⟩

/-! ### BOOT_DONE (R540, R549, R553, R559, R578, R580) -/

theorem State.change_mgmt_owl (s : State) (k i v us : Nat) :
    (s.change k i v us).mgmt = s.mgmt ∧ (s.change k i v us).owl = s.owl := by
  unfold State.change
  dsimp only
  split <;> exact ⟨rfl, rfl⟩

theorem State.mgmtEvent_mgmt_owl (s : State) (code ch : Nat) :
    (s.mgmtEvent code ch).mgmt = s.mgmt ∧ (s.mgmtEvent code ch).owl = s.owl := s.change_mgmt_owl ..

theorem State.fwStarts_badger (s : State) :
    s.fwStarts.mgmt.awake = true ∧ s.fwStarts.mgmt.wdtAt = some (s.fwStarts.owl + 50000) := ⟨rfl, rfl⟩

/-- What the boot code leaves of the Badger when it starts the firmware: awake, with its watchdog of 50 ms. -/
theorem State.bootLoad_badger (s : State) (ms : Nat) :
    (s.bootLoad ms).mgmt.awake = true ∧ (s.bootLoad ms).mgmt.wdtAt = some ((s.bootLoad ms).owl + 50000) := by
  unfold State.bootLoad
  extract_lets slot slots chosen prot init nominal up shown
  have hup : up.mgmt.awake = true ∧ up.mgmt.wdtAt = some (up.owl + 50000) := State.fwStarts_badger _
  clear_value up
  have hshown : shown.mgmt = up.mgmt ∧ shown.owl = up.owl := by
    simp only [shown]
    split <;> exact ⟨rfl, rfl⟩
  obtain ⟨hmgmt, howl⟩ := hshown
  obtain ⟨hmgmt', howl'⟩ := shown.mgmtEvent_mgmt_owl 0x21 0xFF
  rwa [hmgmt', howl', hmgmt, howl]

/-- The boot code ends in a device that works; then the commands that waited start. -/
theorem State.boot_of_booting {s : State} (hp : s.phase = .boot) (ho : s.osc = true) (ms : Nat) :
    s.boot ms = ((s.bootLoad ms).bootEnd).runHeld ((s.bootLoad ms).bootEnd).cmd.pend.length :=
  if_pos (by simp [hp, ho])

/-- Settles O8: the boot code keeps the core of the state and starts the Badger; then the device works. -/
theorem bootDone : Obligations.BootDone := by
  intro s ms hp ho
  have he : exec (.bootDone ms) s
      = .next (((s.bootLoad ms).bootEnd).runHeld ((s.bootLoad ms).bootEnd).cmd.pend.length) :=
    congrArg Host.Outcome.next (State.boot_of_booting hp ho ms)
  obtain ⟨hawake, hwdt⟩ := s.bootLoad_badger ms
  have hcore := s.bootLoad_core ms
  refine ⟨_, rfl, he, ?_⟩
  clear he
  generalize s.bootLoad ms = b at hawake hwdt hcore ⊢
  simp only [State.core, Prod.mk.injEq] at hcore
  obtain ⟨hpending, hosc, howl, hstraps, hjtag, _⟩ := hcore
  exact ⟨rfl, hosc.trans ho, hawake, howl ▸ hwdt, howl ▸ rfl, hpending, hstraps, howl, hjtag⟩

/-! ### Boundary scan (R592, R601) -/

theorem State.pad_of_highZ {s : State} (h : s.jtag = 0x05) (l : Level) : s.pad l = .highZ := if_pos h

/-- BYPASS, SAMPLE and IDCODE leave the pins to the device's logic. -/
theorem State.pad_of_logic {s : State} (h : s.jtag = 0xFF ∨ s.jtag = 0x01 ∨ s.jtag = 0x02) (l : Level) :
    s.pad l = .logic l := by
  rcases h with h | h | h <;> simp [State.pad, State.pinsTaken, h]

theorem State.loadTap_of_code {code : Nat} (h : jtagCodes.contains code = true) (s : State) :
    s.loadTap (some code) = { s with jtag := code } := by rw [State.loadTap, if_pos h]

theorem State.loadTap_of_no_code {code : Nat} (h : jtagCodes.contains code = false) (s : State) :
    s.loadTap (some code) = { s with jtag := 0xFF } := by rw [State.loadTap, if_neg (by rw [h]; decide)]

/-- Settles O5: the instruction register takes its codes, and anything else is BYPASS. -/
theorem boundaryScan : Obligations.BoundaryScan := by
  exact ⟨fun s _ h => congrArg Host.Outcome.next (State.loadTap_of_code h s),
    fun s _ h => congrArg Host.Outcome.next (State.loadTap_of_no_code h s), fun _ => rfl,
    fun _ l h => State.pad_of_highZ h l, fun _ l h => State.pad_of_logic h l⟩

/-! ### The step of the block -/

/-- No row stops the machine: each answers a next state. -/
theorem exec_answers (c : Instr) (s : State) : ∃ t, exec c s = .next t := by cases c <;> exact ⟨_, rfl⟩

theorem step_of_command {s : State} {c : Instr} {r : List Instr} (h : s.pending = c :: r) :
    step s = exec c { s with pending := r } := by rw [step, h]

theorem step_of_empty {s : State} (h : s.pending = []) : step s = .next s.tick := by rw [step, h]

/-- Settles O56: the front of the queue is executed with the queue's rest, and an empty queue lets one edge pass. -/
theorem stepRunsFront : Obligations.StepRunsFront := by
  refine ⟨fun c s => step_of_command rfl, fun s h => step_of_empty h, fun s h ha => ?_, fun s => ?_⟩
  · rw [step_of_empty h, State.tick_of_not_alive ha]
  · cases h : s.pending with
    | nil => exact ⟨_, step_of_empty h⟩
    | cons c r =>
      rw [step_of_command h]
      exact exec_answers c _

end Sys2Proof.Machine
end

section
/-!
The invariant of the machine's data (Safety.lean): each gate keeps it where the operation behind the gate does, and so
every step keeps it; the machine after reset meets it.
-/
namespace Sys2Proof.Machine

/-! ### Every step keeps the invariant (R464, R466) -/

theorem owlOn_wf (s t : State) (hs : s.wf = true) (h : t.wf = true) : (owlOn s t).wf = true := by
  simp [owlOn, hs, h]

theorem onGrpClk_wf (c : Nat) (s t : State) (hs : s.wf = true) (h : t.wf = true) : (onGrpClk c s t).wf = true := by
  simp [onGrpClk, hs, h]

theorem whileClk_wf (s t : State) (hs : s.wf = true) (h : t.wf = true) : (whileClk s t).wf = true := by
  simp [whileClk, hs, h]

/-- A group's clock runs again: the waking of its channels, the gates and the commands that waited keep the invariant. -/
theorem State.groupRun_gates_wf {s : State} (g : Nat) (hs : s.wf = true) :
    ((s.groupRun g).each ((grpChs g).filter fun c => (s.pkt c).running.isSome) State.gateApply).wf = true := by
  have hrun : (s.groupRun g).wf = true := by simp [hs]
  exact State.each_wf _ _ _ hrun fun t n ht => by simp [ht]

/-- Every row keeps the invariant: a command packet through the start of its execution, and every other row through its
gate. -/
theorem exec_keeps_wf (c : Instr) {s : State} (hs : s.wf = true) : ∃ t, exec c s = .next t ∧ t.wf = true := by
  have hwake : (s.deepWake false).wf = true := by simp [hs]
  cases c
  all_goals refine ⟨_, rfl, ?_⟩
  case groupClockRunning g =>
    exact onGrp_wf _ _ _ hs (State.foldl_wf _ _ _ (State.groupRun_gates_wf g hs) fun t p ht => by simp [ht])
  case realign q st =>
    exact onRed_wf _ _ _ hs (State.command_wf _ _ _ _ _ hs fun t ht => by simp [ht])
  case hitlessPlayout | voteEmit =>
    exact onRed_wf _ _ _ hs (State.snoopResult_wf _ _ _ hs (by simp [hs]))
  case gateListActivation c =>
    exact onGrpClk_wf _ _ _ hs (State.gateApply_wf _ _ (by simp [hs]))
  case leaseInChange => exact whileOn_wf _ _ hs (State.leaseIn_wf _ _ _ hwake)
  case twfInChange => exact whileOn_wf _ _ hs (State.twfIn_wf _ _ _ hwake)
  case fwdCmdRx | fwdReplyRx => exact whileOn_wf _ _ hs (State.crcGate_wf _ _ _ _ hs (by simp [hs]))
  case linkAckRx | renewRx | ackRx | claimRx | yieldRx | seqSyncRx | frerSeqRx | refInfoRx =>
    exact whileOn_wf _ _ hs (State.gotFrame_wf _ _ _ _ _ hs (by simp [hs]))
  case nop | echo | identify | regRd | regWr | regRdBlk | regWrBlk | regWrKey | tblRd | tblWr | tblSwap | tblSwapCancel
      | xcConnect | xcDisconnect | snapshot | cntClear | chProvision | chRelease | policerSet | shaperSet | gateArm
      | gateArmCancel | apsCmdClear | apsCmdMsP | apsCmdMsW | apsCmdExer | refSelect | dcoSet | timeStepAbsolute
      | timeStepRelative | timeAdjRate | timeOffsetAdj | evtPop | tsPop | eyeScanStart | eyeScanStop | eyeScanRead
      | prbsStart | prbsStop | prbsRead | prbsReadClear | loopbackOff | loopbackNear | loopbackFar | faultInjectWithdraw
      | faultInjectAssert | faultInjectPulse | sensorRd | logRd | fwWriteBegin | fwWriteData | fwWriteEnd | fwWriteAbort
      | fwActivateChoose | fwActivateCommit | reboot | pmRd | dccWr | dccRd | cfgStoreSaveNominal | cfgStoreErase
      | cfgStoreProgram | cfgStoreRead | twinStatus | twinForward | leaseYield =>
    exact State.command_wf _ _ _ _ _ hs fun t ht => by simp [ht]
  all_goals simp [owlOn_wf, onGrpClk_wf, whileClk_wf, hs]

/-- What the queue holds is no part of the invariant. -/
theorem State.wf_pending (s : State) (l : List Instr) : ({ s with pending := l } : State).wf = s.wf := rfl

/-- Settles O60: the command at the front of the queue keeps the invariant, and so does the tick of an empty queue. -/
theorem invariantKept : Obligations.InvariantKept := by
  have hexec : ∀ (c : Instr) (s t : State), s.wf = true → exec c s = .next t → t.wf = true := by
    intro c s t hs he
    obtain ⟨u, hu, hwf⟩ := exec_keeps_wf c hs
    rw [hu] at he
    cases he
    exact hwf
  refine ⟨fun s t hs he => ?_, hexec⟩
  cases h : s.pending with
  | nil =>
    rw [step_of_empty h] at he
    cases he
    exact State.tick_wf s hs
  | cons c r => exact hexec c _ t ((s.wf_pending r).trans hs) (step_of_command h ▸ he)

end Sys2Proof.Machine
end

section
/-!
Reference selection and clock clean-up (12_reference_clocks.md): what the measurements, the timers and the loop of the
selector do, its evaluation, and the two commands that it takes.
-/
namespace Sys2Proof.Machine

/-- A row of the fast clocks' domains does what its operation does while they run. -/
theorem next_whileClk {s t u : State} (hclk : s.clocked = true) (h : t = u) : (.next (whileClk s t) : Out) = .next u :=
  congrArg Host.Outcome.next ((if_pos hclk).trans h)

/-! ### Candidates and their measurement (R388 to R391) -/

theorem State.refActivityLoss_of_gone {s : State} {n : Nat} (hn : n < 13) (hact : (s.cand n).active = true)
    (hgone : n < 4 ∨ s.candSeen n = false ∨ s.candEnabled n = false) : s.refActivityLoss n = s.refLost n :=
  if_pos (by rcases hgone with h | h | h <;> simp [hn, hact, h])

theorem State.refFreqMeasure_of_due {s : State} (hrun : s.running = true) (hdue : s.refs.measured + 100000 ≤ s.owl)
    (l : List (Nat × Int)) :
    s.refFreqMeasure l = l.foldl (fun t e => t.refMeasure e.1 e.2) (s.modRefs fun r => { r with
      measured := s.owl, sum := r.sum + (r.steer + s.nominal), samples := r.samples + 1 }) :=
  if_pos (by simp [hrun, hdue])

/-- An offset that is no recovered twin clock's stands as it was measured. -/
theorem State.refMeasure_of_seen {s : State} {n : Nat} (hn : n < 12) (hen : s.candEnabled n = true)
    (hseen : s.candSeen n = true) (ppt : Int) :
    s.refMeasure n ppt = ((s.modCand n fun k => { k with active := true }).setReg (0x2040 + 4 * n)
      (satSigned ((ppt - s.nominal) / 1000))).refRun n ((ppt - s.nominal) / 1000) := by
  have hcorr : s.corrected n ppt = ppt := if_neg (by omega)
  have hn' : n < 13 := by omega
  simp [State.refMeasure, hn', hen, hseen, hcorr]

/-! ### The selector (R393 to R398) -/

theorem State.refSwitchEnd_of_switching {s : State} (h : s.refs.state = 1) :
    s.refSwitchEnd = (s.modRefs fun r => { r with state := 2, lockAt := some (s.owl + 1000000) }).refEvaluate := if_pos h

theorem State.refLock_of_near {s : State} (hst : s.refs.state = 2) (hdue : s.due s.refs.lockAt = true)
    (hoff : s.reg (0x2040 + 4 * s.refs.selected) ≠ noOffset)
    (hnear : (s.refs.steer - sword (s.reg (0x2040 + 4 * s.refs.selected)) * 1000).natAbs ≤ 50000) :
    s.refLock = (s.modRefs fun r => { r with
      state := 3, lockAt := none, phase := 0, integ := r.steer * loopUnit }).refOccur 15 4 s.refs.selected :=
  if_pos (by simp [hst, hdue, State.refNear, hoff, hnear])

theorem State.refWtr_of_restorable {s : State} (hm : s.manual ≤ 11) (hok : s.restoreOk s.manual = true) :
    s.refWtr = s.refEvaluate := if_pos (by simp [hm, hok])

theorem State.softTimeout_of_due {s : State} (hst : s.refs.state = 4) (hto : s.rf 0x2000 15 8 ≠ 0)
    (hdue : s.due s.refs.softAt = true) :
    s.softTimeout = ((s.modRefs fun r => { r with softOut := true, softAt := none }).refOccur 15 7 0).refEvaluate :=
  if_pos (by simp [hst, hto, hdue])

/-- Outside a switch an evaluation moves the selection to a target that is not SOFT. -/
theorem State.refEvaluate_of_target {s : State} (hst : s.refs.state ≠ 1) (hsel : s.refTarget ≠ s.refs.selected)
    (hsoft : s.refTarget ≠ 13) :
    s.refEvaluate = (s.modRefs fun r => { r with
      selected := s.refTarget, state := if s.refTarget = 15 then 0 else 1, pend := false, lockAt := none }).selEvent := by
  simp [State.refEvaluate, hst, hsel, hsoft]

theorem State.refTarget_of_off {s : State} (h : s.refEn = false) : s.refTarget = 15 := if_pos (by simp [h])

/-! ### The loop and the event timers (R396, R399, R412) -/

/-- A locked loop pulls the steer with the bandwidth of the candidate that it follows. -/
theorem State.refSlew_of_locked {s : State} (hst : s.refs.state = 3)
    (hoff : s.reg (0x2040 + 4 * s.refs.selected) ≠ noOffset) :
    s.refSlew = s.refLoop (sword (s.reg (0x2040 + 4 * s.refs.selected)) * 1000) := by
  simp [State.refSlew, hst, hoff]

theorem State.push_refs (s : State) (e : Event) : (s.push e).refs = s.refs := by
  unfold State.push
  split <;> rfl

theorem State.foldl_push_refs {α : Type} (l : List α) (s : State) (f : α → Event) :
    (l.foldl (fun t e => t.push (f e)) s).refs = s.refs := by
  induction l generalizing s with
  | nil => rfl
  | cons a r ih => exact (ih _).trans (State.push_refs ..)

/-- The event timer of a candidate is settled, and the selector stays. -/
theorem State.refExpiry_settled {s : State} {n : Nat} (hwf : s.wf = true)
    (hdue : s.due (s.hold (holdRef n)).at_ = true) :
    (s.refExpiry n).hold (holdRef n) = (s.hold (holdRef n)).settled ∧ (s.refExpiry n).refs = s.refs := by
  rw [State.refExpiry, State.expireHold, if_pos hdue]
  refine ⟨State.hold_modHold_same _ _ _ (State.wf_holds _ (State.foldl_wf _ _ _ hwf fun t e ht => ?_)),
    State.foldl_push_refs ..⟩
  exact State.push_wf t _ ht

/-- Settles O38: each row is its operation with its condition met, and the evaluation one case of the target. -/
theorem referenceSelection : Obligations.ReferenceSelection := by
  refine ⟨?_, ?_, ?_, ?_, ?_, ?_, ?_, ?_, ?_, ?_, ?_⟩
  · intro s n hclk hn hact hgone
    exact next_whileClk hclk (State.refActivityLoss_of_gone hn hact hgone)
  · intro s l ha hrun hdue
    exact next_whileOn ha (State.refFreqMeasure_of_due hrun hdue l)
  · intro s n ppt hn hen hseen
    exact State.refMeasure_of_seen hn hen hseen ppt
  · intro s hclk hst
    exact next_whileClk hclk (State.refSwitchEnd_of_switching hst)
  · intro s hclk hst hdue hoff hnear
    exact next_whileClk hclk (State.refLock_of_near hst hdue hoff hnear)
  · intro s hclk hm hok
    exact next_whileClk hclk (State.refWtr_of_restorable hm hok)
  · intro s hclk hst hto hdue
    exact next_whileClk hclk (State.softTimeout_of_due hst hto hdue)
  · intro s n _ hn hwf hdue
    obtain ⟨hhold, hrefs⟩ := State.refExpiry_settled hwf hdue
    exact ⟨_, rfl, congrArg (fun t => Host.Outcome.next (owlOn s t)) (if_pos hn), hhold, hrefs⟩
  · intro s x hst hoff hx
    subst hx
    exact ⟨_, rfl, State.refSlew_of_locked hst hoff⟩
  · intro s hst hsel hsoft
    exact State.refEvaluate_of_target hst hsel hsoft
  · intro s h
    exact State.refTarget_of_off h

/-! ### REF_SELECT and DCO_SET (R397, R404) -/

section
variable {s : State} (q : Req) (w : Word)

/-- A manual choice that REF_SEL_CFG does not hold yet is stored, and the change is evaluated. -/
theorem State.fxRefSelect_of_change {m : Nat} (hact : s.notActive = false) (hw : m = w.toNat) (hm : m ≤ 15)
    (h12 : m ≠ 12) (h14 : m ≠ 14) (hen : s.refEn = true) (hnew : fld (s.reg 0x2000) 29 26 ≠ m) {t : State}
    (ht : t = ((s.setRf 0x2000 29 26 m).trpAgree 0x2000).refSelChanged (s.reg 0x2000)) :
    s.fxRefSelect q [w] = t.finish q 0x0601 stOk 0 [BitVec.ofNat 32 (if t.refs.frozen then 3
      else if t.refs.selected = m ∨ m = 15 then 0 else if m ≤ 11 ∧ t.restoreOk m = false then 1
      else if s.refs.state = 1 then 2 else 1)] := by
  subst hw ht
  have hvalid : (decide (15 < w.toNat) || decide (w.toNat = 12) || decide (w.toNat = 14) || !s.refEn) = false := by
    simp [hm, h12, h14, hen]
  simp [State.fxRefSelect, wd, hact, hvalid, hnew]

theorem State.fxRefSelect_of_not_active (h : s.notActive = true) :
    s.fxRefSelect q [w] = s.finish q 0x0601 eNotActive 0 [] := by
  simp [State.fxRefSelect, h]

/-- In manual mode 13 with a time-out SOFT takes the steer, and its silence starts anew. -/
theorem State.fxDcoSet_of_soft (hman : s.manual = 13) (hto : s.rf 0x2000 15 8 ≠ 0) {t : State}
    (ht : t = (s.modRefs fun r => { r with softWord := s.clampSteer (sword w), softOut := false
                                           softAt := some (s.owl + 1000000 * s.rf 0x2000 15 8) }).refEvaluate)
    {u : State} (hu : u = if t.refs.state = 4 then t.setSteer (sword w) else t) :
    s.fxDcoSet q [w] = u.finish q 0x0602 stOk 0 [ofSigned u.refs.softWord] := by
  subst ht hu
  simp [State.fxDcoSet, wd, hman, hto, State.after]

theorem State.fxDcoSet_of_other_mode (h : s.manual ≠ 13) : s.fxDcoSet q [w] = s.finish q 0x0602 eParam 0 [] := by
  simp [State.fxDcoSet, h]

end

/-- Settles O39: each command starts alone, and its answer is the branch that its conditions choose. -/
theorem referenceCommands : Obligations.ReferenceCommands := by
  refine ⟨?_, ?_, ?_, ?_⟩
  · intro s q w m hr hact hw hm h12 h14 hen hnew
    exact ⟨_, rfl, next_ready hr q [w] (State.fxRefSelect_of_change q w hact hw hm h12 h14 hen hnew rfl)⟩
  · intro s q w hr hact
    exact next_ready hr q [w] (State.fxRefSelect_of_not_active q w hact)
  · intro s q w hr hman hto
    exact ⟨_, rfl, _, rfl, next_ready hr q [w] (State.fxDcoSet_of_soft q w hman hto rfl rfl)⟩
  · intro s q w hr hman
    exact next_ready hr q [w] (State.fxDcoSet_of_other_mode q w hman)

end Sys2Proof.Machine
end

section
/-!
The host port (R440, R446, R450, R452, R453, R468): a packet that is written, the replies and the status that are read,
and the port while the device wakes; the event timer of the commands, a pending KEY_A, and the fields that reset on a
read.
-/
namespace Sys2Proof.Machine

/-! ### A packet that fails the checks (R440) -/

/-- A whole packet with a good CRC that fails one of steps 4 to 10 is refused with the status of the first, under the
SOURCE it came with. -/
theorem State.packet_of_refused {s : State} {src : Src} {l : List Byte} {n op tag st : Nat} {ws : List Word}
    (hout : s.outstanding src < outLimit src) (hn : n = beNum l 6 2) (hmax : n ≤ maxLen src)
    (hlen : l.length = packetSize src n) (hcrc : crcGood l = true) (hop : op = beNum l 2 2) (htag : tag = beNum l 4 2)
    (hws : ws = toWords ((l.drop 8).take (4 * n))) (hj : s.judge src l n op tag ws = st) (hst : st ≠ stOk) :
    s.packet src l = (s.refusalCounts src l st).refuse
      { src := src, tag := tag, ordered := beNum l 0 1 % 2 == 1
        source := if (BitVec.ofNat 8 (beNum l 1 1)).toNat = srcCode src then none
          else some (BitVec.ofNat 8 (beNum l 1 1)) } (op % 0x8000) st := by
  subst hn hop htag hws hj
  have hsize : 12 ≤ packetSize src (beNum l 6 2) := by unfold packetSize; omega
  have hshort : ¬ (decide (l.length < 8)
      || (decide (beNum l 6 2 ≤ maxLen src) && decide (l.length < packetSize src (beNum l 6 2)))) = true := by
    simp
    omega
  have hlong : ¬ (decide (beNum l 6 2 > maxLen src) || decide (l.length > packetSize src (beNum l 6 2))) = true := by
    simp
    omega
  unfold State.packet
  extract_lets n op tag ws q st got
  have hbad : (st != stOk) = true := by simpa using hst
  rw [if_neg (Nat.not_le.mpr hout), if_neg hshort, if_neg hlong, if_neg (by simp [hcrc]), if_pos hbad]

/-! ### The port (R41, R446, R452, R453) -/

section
variable {s : State}

theorem State.hostWrite_of_packet {l : List Byte} (ha : s.alive = true) (hup : s.portUp = true) (hl : l ≠ []) :
    s.hostWrite l = s.packet .host l := by
  simp [State.hostWrite, ha, hup, hl]

/-- A write without a whole packet is counted. -/
theorem State.hostWrite_nil (ha : s.alive = true) (hup : s.portUp = true) : s.hostWrite [] = s.count 0x6010 31 16 1 := by
  simp [State.hostWrite, ha, hup]

theorem State.readReply_of_none (hup : s.portUp = true) (hq : s.cmd.hostReplies = []) (n : Nat) :
    s.readReply n = s.modCmd fun c => { c with hostRead := readBytes (List.replicate 8 0) n } := by
  simp [State.readReply, hup, hq]

/-- A reply that is not read to its end stays in the queue. -/
theorem State.readReply_of_part {n : Nat} {r : Reply} {t : List Reply} (hup : s.portUp = true)
    (hq : s.cmd.hostReplies = r :: t) (hn : n < (s.replyBytes r).length) :
    s.readReply n = s.modCmd fun c => { c with hostRead := readBytes (s.replyBytes r) n } := by
  simp [State.readReply, hup, hq, hn]

/-- One that is read to its end leaves it, and a final one ends its command. -/
theorem State.readReply_of_whole {n : Nat} {r : Reply} {t : List Reply} (hup : s.portUp = true)
    (hq : s.cmd.hostReplies = r :: t) (hn : (s.replyBytes r).length ≤ n) :
    s.readReply n = s.modCmd fun c => { c with
      hostRead := readBytes (s.replyBytes r) n, hostReplies := t
      awaiting := if r.status = stPending then c.awaiting else c.awaiting.erase r.req } := by
  by_cases hst : r.status = stPending <;>
    simp [State.readReply, hup, hq, Nat.not_lt.mpr hn, hst, State.settle, State.modCmd]

theorem State.readStat_of_up (hup : s.portUp = true) :
    s.readStat = s.modCmd fun c => { c with hostRead := wordBytes s.hostStat } := if_pos hup

/-- While the port is deaf its selection wakes the device, and nothing else but the count of a write happens. -/
theorem State.port_of_deaf (ha : s.alive = true) (hdeaf : s.portUp = false) (l : List Byte) (n : Nat) :
    s.hostWrite l = (s.deepWake true).count 0x6010 31 16 1 ∧ s.readReply n = s.deepWake true
      ∧ s.readStat = s.deepWake true := by
  simp [State.hostWrite, State.readReply, State.readStat, ha, hdeaf, whileOn]

/-! ### Timers and reads (R464, R471, R482) -/

theorem State.cmdHoldExpiry_of_due {code : Nat} (h : s.due (s.hold (holdCmd code)).at_ = true) :
    s.cmdHoldExpiry code = ((s.hold (holdCmd code)).reports.foldl (fun t e =>
      t.push (mkEvent e.2.suppressed 0x0D 0xFB (e.2.value % 256) code e.2.time)) s).modHold (holdCmd code)
        fun _ => (s.hold (holdCmd code)).settled := if_pos h

/-- A pending KEY_A is dropped when its 64 µs are over, and not before. -/
theorem State.keyExpiry_of_pending {a : Nat} {k : KeyA} (hk : s.keyAt a = some k) :
    s.keyExpiry a = if k.till ≤ s.owl then s.dropKey a else s := by
  simp only [State.keyExpiry, hk]

end

/-- Settles O46: the port is up or deaf, the packet passes or fails the checks, and the reply is read in full or not. -/
theorem hostPort : Obligations.HostPort := by
  refine ⟨?_, ?_, ?_, ?_, ?_, ?_, ?_, ?_, ?_, ?_⟩
  · intro s l ha hup hl hover
    exact congrArg Host.Outcome.next ((State.hostWrite_of_packet ha hup hl).trans (State.packet_of_overrun hover))
  · intro s l n op tag q ha hup hout hn hmax hlen hcrc hop htag hq
    subst hq
    have hl : l ≠ [] := by
      rintro rfl
      rw [List.length_nil] at hlen
      omega
    have run : ∀ u, s.packet .host l = u → exec (.hostWrite l) s = .next u :=
      fun u hu => congrArg Host.Outcome.next ((State.hostWrite_of_packet ha hup hl).trans hu)
    exact ⟨_, rfl, fun hj => run _ (State.packet_of_passed hout hn hmax hlen hcrc hop htag rfl hj),
      fun hj => run _ (State.packet_of_refused hout hn hmax hlen hcrc hop htag rfl rfl hj)⟩
  · intro s ha hup
    exact congrArg Host.Outcome.next (State.hostWrite_nil ha hup)
  · intro s n hup hq
    exact congrArg Host.Outcome.next (State.readReply_of_none hup hq n)
  · intro s n r t hup hq
    exact ⟨fun hn => congrArg Host.Outcome.next (State.readReply_of_part hup hq hn),
      fun hn => congrArg Host.Outcome.next (State.readReply_of_whole hup hq hn)⟩
  · intro s hup
    exact congrArg Host.Outcome.next (State.readStat_of_up hup)
  · intro s l n ha hdeaf
    obtain ⟨hwrite, hread, hstat⟩ := State.port_of_deaf ha hdeaf l n
    exact ⟨congrArg Host.Outcome.next hwrite, congrArg Host.Outcome.next hread, congrArg Host.Outcome.next hstat⟩
  · intro s code _ hcode hdue
    exact congrArg (fun t => Host.Outcome.next (owlOn s t)) ((if_pos hcode).trans (State.cmdHoldExpiry_of_due hdue))
  · intro s a k ha hk
    have hkey := State.keyExpiry_of_pending hk
    exact ⟨fun h => next_whileOn ha (hkey.trans (if_pos h)),
      fun h => next_whileOn ha (hkey.trans (if_neg (Nat.not_le.mpr h)))⟩
  · intro s c k ha
    exact ⟨fun hc => next_whileOn ha (if_pos hc), fun hk => next_whileOn ha (if_pos hk),
      fun hk => next_whileOn ha (if_pos hk), next_whileOn ha rfl, next_whileOn ha rfl⟩

end Sys2Proof.Machine
end

section
/-!
The opcodes that the command engine executes itself (R454, R456, R457, R465, R466, R469 to R474, R482).
-/
namespace Sys2Proof.Machine

section
variable (s : State) (q : Req)

theorem State.fxNop_eq (ws : List Word) : s.fxNop q ws = s.status q 0x0001 (if ws = [] then stOk else eLength) := by
  cases ws <;> rfl

theorem State.fxEcho_of_fits {ws : List Word} (h : ws.length ≤ maxCount q) :
    s.fxEcho q ws = s.reply q 0x0002 stOk 0 ws := by
  simp [State.fxEcho, Nat.not_lt.mpr h]

theorem State.fxEcho_of_long {ws : List Word} (h : maxCount q < ws.length) :
    s.fxEcho q ws = s.status q 0x0002 eLength := by
  simp [State.fxEcho, h]

/-- IDENTIFY: in recovery the version of the image is a value that the spec does not state. -/
theorem State.fxIdentify_nil :
    s.fxIdentify q [] = (if s.inRecovery then s.tookFree else s).reply q 0x0003 stOk 0
      ([0x00019256, s.reg 0x0004 &&& 0xFF, s.imageVer,
        BitVec.ofNat 32 (b2n (s.rb 0x0010 29) * 4 + b2n (s.rb 0x50B4 31) * 2 + b2n s.straps.twinId)]
        ++ s.nonceWords q.src) := rfl

/-! ### Registers (R456, R469 to R474, R482) -/

section
variable {a : Word} (ha : addrOk a = true)
include ha

theorem State.fxRegRd_eq : s.fxRegRd q [a] = (s.readEffect a.toNat).reply q 0x0101 stOk 0 [s.readVal a.toNat] := by
  simp [State.fxRegRd, wd, ha]

theorem State.fxRegWr_eq (w : Word) :
    s.fxRegWr q [a, w] = (s.writeReg q.src a.toNat w).2.status q 0x0102 (s.writeReg q.src a.toNat w).1 := by
  simp [State.fxRegWr, wd, ha]

theorem State.fxRegRdBlk_eq {n : Word} (h1 : 1 ≤ n.toNat) (hmax : n.toNat ≤ maxCount q) :
    s.fxRegRdBlk q [a, n]
      = (s.readBlk a.toNat 0 n.toNat).2.reply q 0x0103 stOk 0 (s.readBlk a.toNat 0 n.toNat).1 := by
  simp [State.fxRegRdBlk, wd, ha, Nat.ne_of_gt h1, Nat.not_lt.mpr hmax]

theorem State.fxRegWrBlk_eq (w : Word) (ws : List Word) :
    s.fxRegWrBlk q (a :: w :: ws) = (s.writeBlk q.src a.toNat 0 (w :: ws)).2.2.reply q 0x0104
      (s.writeBlk q.src a.toNat 0 (w :: ws)).1 ((s.writeBlk q.src a.toNat 0 (w :: ws)).2.1.getD 0) [] := by
  simp [State.fxRegWrBlk, wd, ha]

theorem State.fxRegWrKey_eq (hk : keyAddrs.contains (decodeAddr a.toNat).1.addr = true) (v nv : Word) :
    s.fxRegWrKey q [a, v, nv] = (s.keyWrite (decodeAddr a.toNat).1.addr v nv).2.status q 0x0105
      (s.keyWrite (decodeAddr a.toNat).1.addr v nv).1 := by
  have hno : ¬ (!keyAddrs.contains (decodeAddr a.toNat).1.addr) = true := by rw [hk]; decide
  have haddr : ¬ (!addrOk a) = true := by rw [ha]; decide
  unfold State.fxRegWrKey
  rw [if_neg (by simp)]
  exact (if_neg haddr).trans (if_neg hno)

end

/-! ### Tables and events (R457, R465, R466) -/

theorem State.fxTblRd_eq {w0 w1 w2 : Word} {n : Nat} (h1 : 1 ≤ w2.toNat) (hmax : w2.toNat ≤ maxCount q)
    (hr : tblRange w0 w1 w2.toNat = some n) :
    s.fxTblRd q [w0, w1, w2]
      = (s.readWords (fld w0 31 24) (fld w0 23 23) n (fld w1 31 8) (fld w1 7 0) w2.toNat).2.reply q 0x0201 stOk 0
        (s.readWords (fld w0 31 24) (fld w0 23 23) n (fld w1 31 8) (fld w1 7 0) w2.toNat).1 := by
  simp [State.fxTblRd, wd, hr, Nat.ne_of_gt h1, Nat.not_lt.mpr hmax]

variable {s} {w : Word} (hbits : onlyBits w 0xFF#32 = true)
include hbits

/-- An empty FIFO answers one event with VALID 0. -/
theorem State.fxEvtPop_of_empty (h : s.events = []) : s.fxEvtPop q [w] = s.reply q 0x0701 stOk 0 [0, 0, 0] := by
  have hs : { s with events := [] } = s := by rw [← h]
  simp [State.fxEvtPop, wd, hbits, h, hs]

/-- Otherwise the oldest events leave the FIFO, at most as many as were asked for. -/
theorem State.fxEvtPop_of_events {m : Nat} (hm : m = if fld w 7 0 = 0 ∨ fld w 7 0 > 64 then 64 else fld w 7 0)
    (h : s.events ≠ []) :
    s.fxEvtPop q [w] = ({ s with events := s.events.drop m } : State).reply q 0x0701 stOk 0
      (BitVec.ofNat 32 (min m s.events.length) :: (s.events.take m).flatMap eventWords) := by
  have hpos : m ≠ 0 := by
    rw [hm]
    split <;> omega
  have htake : (s.events.take m).isEmpty = false := by
    simp [List.isEmpty_eq_false_iff, hpos, h]
  have hdrop : s.events.drop (min m s.events.length) = s.events.drop m := by
    rcases Nat.le_total m s.events.length with hle | hle
    · rw [Nat.min_eq_left hle]
    · rw [Nat.min_eq_right hle, List.drop_length, List.drop_eq_nil_of_le hle]
  simp [State.fxEvtPop, wd, hbits, ← hm, htake, hdrop]

end

/-- Settles O48: each command starts alone, and its answer is the branch that its conditions choose. -/
theorem hardwareOpcodes : Obligations.HardwareOpcodes := by
  refine ⟨?_, ?_, ?_, ?_, ?_, ?_, ?_, ?_, ?_, ?_, ?_⟩
  · intro s q ws hr
    exact next_ready hr q ws (s.fxNop_eq q ws)
  · intro s q ws hr
    exact ⟨fun h => next_ready hr q ws (s.fxEcho_of_fits q h), fun h => next_ready hr q ws (s.fxEcho_of_long q h)⟩
  · intro s q hr hrec
    refine next_ready hr q [] ((s.fxIdentify_nil q).trans ?_)
    rw [hrec, State.imageVer, hrec]
    rfl
  · intro s q hr hrec
    refine next_ready hr q [] ((s.fxIdentify_nil q).trans ?_)
    rw [hrec, State.imageVer, hrec]
    rfl
  · intro s q a hr ha
    exact next_ready hr q [a] (s.fxRegRd_eq q ha)
  · intro s q a w hr ha
    exact next_ready hr q [a, w] (s.fxRegWr_eq q ha w)
  · intro s q a n hr ha h1 hmax
    exact next_ready hr q [a, n] (s.fxRegRdBlk_eq q ha h1 hmax)
  · intro s q a w ws hr ha
    exact next_ready hr q (a :: w :: ws) (s.fxRegWrBlk_eq q ha w ws)
  · intro s q a v nv hr ha hk
    exact next_ready hr q [a, v, nv] (s.fxRegWrKey_eq q ha hk v nv)
  · intro s q w0 w1 w2 n hr h1 hmax hrange
    exact ⟨_, rfl, next_ready hr q [w0, w1, w2] (s.fxTblRd_eq q h1 hmax hrange)⟩
  · intro s q w m hr hbits hm
    exact ⟨fun h => next_ready hr q [w] (State.fxEvtPop_of_empty q hbits h),
      fun h => next_ready hr q [w] (State.fxEvtPop_of_events q hbits hm h)⟩

end Sys2Proof.Machine
end

section
/-!
FAULT_INJECT (R531 to R534), where the pair of its source has a wire fault (R514).
-/
namespace Sys2Proof.Machine

/-- The same device with its firmware up and the Badger awake. -/
def firmwareWiredAt29 : State := (wiredAt29.setRb 0x0008 28 true).modMgmt fun m => { m with awake := true }

/-- Refutes O53: FAULT_INJECT raises its fault at assertion (R532) even while the pair of its source has a wire fault,
which hides real reports only (R514); the statement's clause for it says `report`, which raises nothing then. The event
of the injection tells the two apart. -/
theorem not_faultCommands : ¬ Obligations.FaultCommands := by
  rintro ⟨_, hinject, _⟩
  obtain ⟨_, _, _, hassert⟩ := hinject firmwareWiredAt29 { src := .host, tag := 7 } 0x4000001D (by decide +kernel)
    (by decide) (by decide) (by decide +kernel)
  obtain ⟨t, ht, hrow, _⟩ := hassert (by decide +kernel) (by decide +kernel)
  rw [State.report_of_wire (by decide +kernel)] at ht
  have hrun : eventsLeft (exec (.faultInjectAssert { src := .host, tag := 7 } [0x4000001D])
      firmwareWiredAt29) = 1 := by
    decide +kernel
  rw [hrow (by decide), ht] at hrun
  exact absurd hrun (by decide +kernel)

end Sys2Proof.Machine
end

section
/-!
Updates of the flash (R508, R554 to R558, R565): FW_WRITE, FW_ACTIVATE, REBOOT and CFG_STORE with their completions,
each alone.
-/
namespace Sys2Proof.Machine

/-! ### FW_WRITE (R555) -/

section
variable {s : State} (q : Req)

/-- BEGIN for a slot that does not run, of a length that R555 allows. -/
theorem State.fxFwBegin_eq {k l : Word} (hk : onlyBits k 1 = true) (hmin : 384 ≤ l.toNat) (hmax : l.toNat ≤ 8388608)
    (hmod : l.toNat % 4 = 0) (hslot : fld k 0 0 ≠ s.bootSlot ∨ s.inRecovery = true) :
    s.fxFwBegin q [k, l] = (if s.claimed isFlash then s.finish q 0x0903 eBusy 0 []
      else (((((s.claim .flashUpload).setSlot (fld k 0 0) false).modMgmt fun m => { m with
        upload := some { slot := fld k 0 0, len := l.toNat }
        unfit := fld k 0 0 :: m.unfit.filter (· != fld k 0 0) }).erase (slotBase (fld k 0 0))
          (sector * cdiv l.toNat sector)).pendOn q 0x0903 (.erase (fld k 0 0) l.toNat) none).flashShow) := by
  have hrange : ¬ (!onlyBits k 1 || decide (l.toNat < 384) || decide (l.toNat > 8388608) || l.toNat % 4 != 0
      || (decide (fld k 0 0 = s.bootSlot) && !s.inRecovery)) = true := by
    rw [hk]
    rcases hslot with h | h <;> simp [h, hmin, hmax, hmod]
  unfold State.fxFwBegin
  rw [if_neg (by simp)]
  exact if_neg hrange

/-- DATA of a length that its words carry, in an upload: its bytes must follow the last and fit. -/
theorem State.fxFwData_eq {w off v : Word} {vs : List Word} {u : Upload} {n : Nat} (hw : onlyBits w 0xC0000FFF = true)
    (hact : fld w 31 30 = 1) (hn : n = fld w 11 0) (h1 : 1 ≤ n) (hmax : n ≤ 4000) (hlen : vs.length + 1 = cdiv n 4)
    (hup : s.uploading = some u) :
    s.fxFwData q (w :: off :: v :: vs) = (if (off.toNat != u.next || decide (off.toNat + n > u.len)) = true
      then s.finish q 0x0903 eParam 0 []
      else (((s.program (slotBase u.slot + off.toNat) ((unpackWords (v :: vs)).take n)).modMgmt fun m => { m with
        upload := some { u with next := off.toNat + n } }).pendOn q 0x0903 .program none).flashShow) := by
  subst hn
  have hshort : ¬ (decide ((w :: off :: v :: vs).length < 3) || (decide (1 ≤ fld w 11 0) && decide (fld w 11 0 ≤ 4000)
      && (w :: off :: v :: vs).length != 2 + cdiv (fld w 11 0) 4)) = true := by
    simp
    omega
  have hrange : ¬ (!onlyBits w 0xC0000FFF || fld w 31 30 != 1 || decide (fld w 11 0 = 0)
      || decide (fld w 11 0 > 4000)) = true := by
    rw [hw, hact]
    simp
    omega
  unfold State.fxFwData
  refine (if_neg hshort).trans ((if_neg hrange).trans ?_)
  simp only [hup]
  rfl

/-- END while an upload stands, with no verification before it. -/
theorem State.fxFwEnd_eq (hpend : s.cmd.pend = []) :
    s.fxFwEnd q [0x80000000] = (if s.uploading.isNone then s.finish q 0x0903 eParam 0 []
      else (s.pendOn q 0x0903 .verify none).flashShow) := by
  cases h : s.uploading <;> simp [State.fxFwEnd, wd, h, hpend]

theorem State.fxFwAbort_eq (s : State) : s.fxFwAbort q [0xC0000000] = s.endUpload.finish q 0x0903 stOk 0 [] := rfl

end

/-- The controller ends the oldest operation of an upload. -/
theorem State.fwDone_eq {s : State} {p : PendCmd} (hp : (s.cmd.pend.find? fun p => isUploadJob p.job) = some p)
    (ok : Bool) {t u : State} (ht : t = if ok then s else s.flashFail)
    (hu : u = if p.job = .verify then t.verified ok p.req
      else t.finish p.req 0x0903 (if ok then stOk else eParam) 0 []) :
    s.fwDone ok = (if isErase p.job && ok
      then u.modMgmt fun m => { m with upload := m.upload.map fun u => { u with erased := true } }
      else u).flashShow.mclkStop := by
  subst ht hu
  simp [State.fwDone, hp]

/-! ### FW_ACTIVATE and its header write, REBOOT (R554, R556 to R558) -/

section
variable {s : State} (q : Req)

theorem State.fxFwChoose_eq {w : Word} (hw : onlyBits w 1 = true) (s : State) :
    s.fxFwChoose q [w] = (s.chooseSlot (fld w 0 0)).2.finish q 0x0904 (s.chooseSlot (fld w 0 0)).1 0 [] := by
  have hbits : ¬ (!onlyBits w 1) = true := by rw [hw]; decide
  unfold State.fxFwChoose
  rw [if_neg (by simp)]
  exact if_neg hbits

theorem State.chooseSlot_of_invalid {k : Nat} (h : s.slotValid k = false) : s.chooseSlot k = (eParam, s) := by
  simp [State.chooseSlot, h]

theorem State.chooseSlot_of_claimed {k : Nat} (hv : s.slotValid k = true) (hc : s.claimed isFlash = true) :
    s.chooseSlot k = (eBusy, s) := by
  simp [State.chooseSlot, hv, hc]

/-- A valid slot is chosen on a flash that is free: the header write begins, and the log keeps the choice. -/
theorem State.chooseSlot_of_free {k : Nat} (hv : s.slotValid k = true) (hc : s.claimed isFlash = false) {t : State}
    (ht : t = (((s.claim .flashHeader).setRb 0x50D8 29 (k == 1)).modMgmt fun m =>
      { m with headerNext := some k }).flashShow) :
    s.chooseSlot k = (stOk, t.logRec 0x08 false k (t.reg (0x50D0 + 4 * k)) 0) := by
  subst ht
  simp [State.chooseSlot, hv, hc]

theorem State.fxFwCommit_of_recovery (h : s.inRecovery = true) :
    s.fxFwCommit q [0x40000000] = s.finish q 0x0904 eParam 0 [] := by
  simp [State.fxFwCommit, h]

theorem State.fxFwCommit_of_blown (hrec : s.inRecovery = false) (h : s.imgByte s.bootSlot 12 ≤ s.mgmt.otpFuses) :
    s.fxFwCommit q [0x40000000] = s.finish q 0x0904 stOk 0 [] := by
  simp [State.fxFwCommit, wd, hrec, h]

/-- A running image that asks for more fuses blows them, and the slots below them lose VALID (R557). -/
theorem State.fxFwCommit_of_newer (hrec : s.inRecovery = false) (h : s.mgmt.otpFuses < s.imgByte s.bootSlot 12)
    {t : State} (ht : t = (((s.modMgmt fun m => { m with otpFuses := s.imgByte s.bootSlot 12 }).setReg 0x50DC
      (BitVec.ofNat 32 (s.imgByte s.bootSlot 12))).each [0, 1] State.rollSlot).setRb 0x50D8 29 (s.bootSlot == 1)) :
    s.fxFwCommit q [0x40000000] = ((t.logRec 0x09 false (s.imgByte s.bootSlot 12)
      (BitVec.ofNat 32 (t.imgWord s.bootSlot 8)) (BitVec.ofNat 32 s.mgmt.otpFuses)).mgmtEvent 0x32 0xFF).finish q
        0x0904 stOk 0 [] := by
  subst ht
  simp [State.fxFwCommit, wd, hrec, Nat.not_le.mpr h]

/-- The header write ends: with its copy written, or with none of it valid. -/
theorem State.headerDone_eq {k : Nat} (h : s.mgmt.headerNext = some k) (ok : Bool) :
    s.headerDone ok = (((if ok then s.writeCopy true (BitVec.ofNat 32 (k * 2 ^ 24))
      else (s.spoilCopy true).flashFail).modMgmt fun m => { m with headerNext := none }).release
        fun c => c == .flashHeader).flashShow.mclkStop := by
  simp only [State.headerDone, h]

theorem State.fxReboot_of_wrong {a b : Word} (h : a ≠ 0xA5 ∨ b ≠ 0xFFFFFF5A) (s : State) :
    s.fxReboot q [a, b] = s.finish q 0x0905 eParam 0 [] := by
  have hwrong : (a != 0xA5 || b != 0xFFFFFF5A) = true := by simpa using h
  unfold State.fxReboot
  rw [if_neg (by simp)]
  exact if_pos hwrong

theorem State.fxReboot_eq (s : State) :
    s.fxReboot q [0xA5, 0xFFFFFF5A] = (if s.claimed (fun c => c == .flashHeader) then s.finish q 0x0905 eBusy 0 []
      else (s.modMgmt fun m => { m with rebootAt := some (s.owl + 10000) }).finish q 0x0905 stOk 0 []) := rfl

/-! ### CFG_STORE (R565) -/

theorem State.fxCfgSave_eq (s : State) :
    s.fxCfgSave q [0] = (if s.claimed isFlash then s.finish q 0x0909 eBusy 0 []
      else ((s.claim .flashCfg).pendOn q 0x0909 (.cfg 0 (s.reg 0x202C).toNat) none).flashShow) := rfl

theorem State.fxCfgErase_of_free {a : Word} (ha : a.toNat % 65536 = 0) (hin : inHostArea a.toNat 65536 = true)
    (hc : s.claimed isFlash = false) :
    s.fxCfgErase q [0x10000000, a]
      = (((s.claim .flashCfg).erase a.toNat 65536).pendOn q 0x0909 (.cfg 1 a.toNat) none).flashShow := by
  simp [State.fxCfgErase, wd, sector, ha, hin, hc]

section
variable {w a : Word} {n : Nat} (hn : n = fld w 11 0) (h1 : 1 ≤ n) (hmax : n ≤ 4000)
  (hw : onlyBits w 0xF0000FFF = true) (hin : inHostArea a.toNat n = true)
include hn h1 hmax hw hin

theorem State.fxCfgRead_eq (hact : fld w 31 28 = 3) (s : State) :
    s.fxCfgRead q [w, a] = s.finish q 0x0909 stOk 0 (packWords (s.flashBytes a.toNat n)) := by
  subst hn
  have hrange : ¬ (!onlyBits w 0xF0000FFF || fld w 31 28 != 3 || decide (fld w 11 0 = 0) || decide (fld w 11 0 > 4000)
      || !inHostArea a.toNat (fld w 11 0)) = true := by
    rw [hw, hact, hin]
    simp
    omega
  unfold State.fxCfgRead
  rw [if_neg (by simp)]
  exact if_neg hrange

theorem State.fxCfgProgram_of_free {v : Word} {vs : List Word} (hact : fld w 31 28 = 2)
    (hlen : vs.length + 1 = cdiv n 4) (hc : s.claimed isFlash = false) :
    s.fxCfgProgram q (w :: a :: v :: vs) = ((((s.claim .flashCfg).program a.toNat
      ((unpackWords (v :: vs)).take n)).pendOn q 0x0909 (.cfg 2 a.toNat) none).flashShow) := by
  subst hn
  have hshort : ¬ (decide ((w :: a :: v :: vs).length < 3) || (decide (1 ≤ fld w 11 0) && decide (fld w 11 0 ≤ 4000)
      && (w :: a :: v :: vs).length != 2 + cdiv (fld w 11 0) 4)) = true := by
    simp
    omega
  have hrange : ¬ (!onlyBits w 0xF0000FFF || fld w 31 28 != 2 || decide (fld w 11 0 = 0) || decide (fld w 11 0 > 4000)
      || !inHostArea a.toNat (fld w 11 0)) = true := by
    rw [hw, hact, hin]
    simp
    omega
  have hbusy : ¬ s.claimed isFlash = true := by simp [hc]
  unfold State.fxCfgProgram
  exact (if_neg hshort).trans ((if_neg hrange).trans (if_neg hbusy))

end

/-- The controller ends an operation of CFG_STORE: a copy of the nominal is written, or spoilt where that failed. -/
theorem State.cfgDone_eq {p : PendCmd} {j v : Nat} (hp : (s.cmd.pend.find? fun p => (cfgJob p.job).isSome) = some p)
    (hj : p.job = .cfg j v) (ok : Bool) {t u : State}
    (ht : t = if j = 0 then (if ok then s.writeCopy false (BitVec.ofNat 32 v) else s.spoilCopy false) else s)
    (hu : u = if ok then t else t.flashFail) :
    s.cfgDone ok = ((u.release fun c => c == .flashCfg).finish p.req 0x0909 (if ok then stOk else eParam) 0
      []).flashShow.mclkStop := by
  subst ht hu
  have hjob : cfgJob p.job = some (j, v) := by rw [hj]; rfl
  cases j <;> simp [State.cfgDone, hp, hjob]

end

/-- Settles O55: each command starts alone, and its answer, or its completion, is the branch that its conditions
choose. -/
theorem flashCommands : Obligations.FlashCommands := by
  refine ⟨?_, ?_, ?_, ?_, ?_, ?_, ?_, ?_, ?_, ?_, ?_⟩
  · intro s q k l hr hk hmin hmax hmod hslot
    have hfx := State.fxFwBegin_eq q hk hmin hmax hmod hslot
    exact ⟨fun hc => next_ready hr q [k, l] (hfx.trans (if_pos hc)),
      fun hc => next_ready hr q [k, l] (hfx.trans (if_neg (by simp [hc])))⟩
  · intro s q w off v vs u n hr hw hact hn h1 hmax hlen hup
    have hfx := State.fxFwData_eq q (off := off) (v := v) hw hact hn h1 hmax hlen hup
    exact ⟨fun hbad => next_ready hr q _ (hfx.trans (if_pos (by simpa using hbad))),
      fun hnext hfit => next_ready hr q _ (hfx.trans (if_neg (by simp [hnext, hnext ▸ hfit])))⟩
  · intro s q hr
    have hfx := State.fxFwEnd_eq q (s.ready_pend _ hr)
    refine ⟨fun hup => next_ready hr q _ (hfx.trans (if_neg (by simp [hup]))),
      fun hup => next_ready hr q _ (hfx.trans (if_pos (by simp [hup]))), next_ready hr q _ (State.fxFwAbort_eq q s)⟩
  · intro s p ha hp
    have hdone := fun ok => State.fwDone_eq hp ok rfl rfl
    refine ⟨fun hj => ⟨next_whileOn ha ((hdone true).trans ?_), next_whileOn ha ((hdone false).trans ?_)⟩,
      fun k n hj => ⟨next_whileOn ha ((hdone true).trans ?_), next_whileOn ha ((hdone false).trans ?_)⟩,
      fun hj => ⟨next_whileOn ha ((hdone true).trans ?_), next_whileOn ha ((hdone false).trans ?_)⟩⟩
    all_goals simp [hj, isErase]
  · intro s q w k hr hw hk
    subst hk
    have hfx := State.fxFwChoose_eq q hw s
    refine ⟨fun hv => next_ready hr q [w] (hfx.trans ?_), fun hv hc => next_ready hr q [w] (hfx.trans ?_),
      fun hv hc => ⟨_, rfl, next_ready hr q [w] (hfx.trans ?_)⟩⟩
    · rw [State.chooseSlot_of_invalid hv]
    · rw [State.chooseSlot_of_claimed hv hc]
    · rw [State.chooseSlot_of_free hv hc rfl]
  · intro s q hr
    exact ⟨fun hrec => next_ready hr q _ (State.fxFwCommit_of_recovery q hrec),
      fun hrec h => next_ready hr q _ (State.fxFwCommit_of_blown q hrec h),
      fun hrec h => ⟨_, rfl, next_ready hr q _ (State.fxFwCommit_of_newer q hrec h rfl)⟩⟩
  · intro s k ha hk
    exact ⟨next_whileOn ha (State.headerDone_eq hk true), next_whileOn ha (State.headerDone_eq hk false)⟩
  · intro s q hr
    have hfx := State.fxReboot_eq q s
    exact ⟨fun hc => next_ready hr q _ (hfx.trans (if_pos hc)),
      fun hc => next_ready hr q _ (hfx.trans (if_neg (by simp [hc]))),
      fun a b h => next_ready hr q _ (State.fxReboot_of_wrong q h s)⟩
  · intro s q w a v vs n hr hn h1 hmax hw hin
    exact ⟨fun hact => next_ready hr q _ (State.fxCfgRead_eq q hn h1 hmax hw hin hact s),
      fun hact hlen hc => next_ready hr q _ (State.fxCfgProgram_of_free q hn h1 hmax hw hin hact hlen hc)⟩
  · intro s q a hr
    have hfx := State.fxCfgSave_eq q s
    exact ⟨fun hc => next_ready hr q _ (hfx.trans (if_pos hc)),
      fun hc => next_ready hr q _ (hfx.trans (if_neg (by simp [hc]))),
      fun hc ha hin => next_ready hr q _ (State.fxCfgErase_of_free q ha hin hc)⟩
  · intro s p v ha hp
    refine ⟨fun hj => ⟨next_whileOn ha (State.cfgDone_eq hp hj true rfl rfl),
      next_whileOn ha (State.cfgDone_eq hp hj false rfl rfl)⟩, ?_⟩
    rintro (hj | hj)
    · exact ⟨next_whileOn ha (State.cfgDone_eq hp hj true rfl rfl),
        next_whileOn ha (State.cfgDone_eq hp hj false rfl rfl)⟩
    · exact ⟨next_whileOn ha (State.cfgDone_eq hp hj true rfl rfl),
        next_whileOn ha (State.cfgDone_eq hp hj false rfl rfl)⟩

end Sys2Proof.Machine
end
